-- ==== Sys2Proof/Word.lean ====
section
/-! DEFINITION. The word types: a byte and the 32-bit word that registers, tags and transaction IDs have. -/

namespace Sys2Proof

/-- A byte. -/
abbrev Byte := BitVec 8

/-- A 32-bit register value. -/
abbrev Word := BitVec 32

end Sys2Proof
end

