-- ==== Sys2Proof/Syntax.lean ====
section
/-! DEFINITION. The commands of the A9: the firmware commands a host submits, the host's other accesses, and the events that reach
the A9 from outside or at an instant.  Every command starts with `dt`, the time in units of 1/3 ns since the command before it. -/

namespace Sys2Proof

/-- What the header of a firmware command carries beside its opcode (R61), and the mailbox it is rung in. -/
structure CmdHdr where
  /-- The mailbox. -/
  mbx : Fin 8 := 0
  /-- FLAGS: bit 0 TUNNEL, bits 15:8 TARGET. -/
  flags : BitVec 16 := 0
  /-- TAG. -/
  tag : Word := 0
  /-- The reserved header bytes 10 and 11. -/
  rsv : BitVec 16 := 0
  /-- TXN_ID. -/
  txn : Word := 0
deriving DecidableEq, Repr

/-- What the engine finds as it places one descriptor's data. -/
structure Placed where
  /-- Data bytes as fetched, SIZE of them; zeros at their end may be left out. -/
  data : List Byte := []
  /-- The subsample table: clear and protected byte counts. -/
  subs : List (Nat × Nat) := []
  /-- Access units that begin in the data. -/
  aus : Nat := 0
  /-- The read of the data failed, and failed again on its retry (cause 8). -/
  failed : Bool := false
  /-- The read of the subsample table did. -/
  subsFailed : Bool := false
deriving DecidableEq, Repr

/-- What a decoder finds in the access unit of one substream (R135, R138, R139, R147, R163), as the codec's specification reads it. -/
structure Picture where
  /-- SUBSTREAM. -/
  sub : Nat := 0
  /-- 1 VVC, 2 HEVC, 3 MV-HEVC. -/
  codec : Nat := 1
  /-- The bitstream's syntax is right. -/
  syntaxOk : Bool := true
  /-- Profile, level and tools are within R135. -/
  supported : Bool := true
  /-- Chroma format: 0 for 4:0:0, 1 for 4:2:0. -/
  chroma : Nat := 1
  /-- Bit depth. -/
  depth : Nat := 10
  /-- Largest reorder count of any temporal layer. -/
  reorder : Nat := 0
  /-- Pictures in the access unit. -/
  pictures : Nat := 1
  /-- Width after the conformance window. -/
  width : Nat := 0
  /-- Height after the conformance window. -/
  height : Nat := 0
  /-- Width and height of each further view. -/
  views : List (Nat × Nat) := []
  /-- It starts with an IDR picture, or with a CRA picture without RASL and RADL pictures. -/
  starts : Bool := false
  /-- It carries every parameter set it refers to. -/
  carries : Bool := true
  /-- Every reference it needs was decoded. -/
  refs : Bool := true
deriving DecidableEq, Repr

/-- Link frames on a skyline port around a packet (R363): the 64 blocks of each frame that carried it, as they were dealt over the two lanes, and how
many frames this A9 built there meanwhile; empty where they are not spelled. -/
structure SkyRx where
  /-- Frames received: header and body of each block. -/
  frames : List (List (Nat × Nat)) := []
  /-- New frames built and sent since the packet before. -/
  sent : Nat := 0
deriving DecidableEq, Repr

/-- What a link attempt or recovery finds on one lane (R304, R308): a data lane as the stand receiver reports it, a return lane as the A9 does. -/
structure LaneReport where
  /-- The lane left electrical idle and reached bit lock. -/
  bitLock : Bool := true
  /-- Consecutive valid block headers, with no 16 invalid ones in any 64 since. -/
  headers : Nat := 64
  /-- UI between its TRAIN block edges and those of the others of its direction, after deskew. -/
  skew : Nat := 0
  /-- Eye height, mV. -/
  eyeMv : Nat := 30
  /-- Eye width, 0.001 UI. -/
  eyeWidth : Nat := 300
deriving DecidableEq, Repr

/-- The commands: one constructor for each row of the table of operations and events, in its order. -/
inductive Instr where
  /-- SYS_IDENTIFY: Command returning the Cruise firmware identity entry; a success sets the revision-read flag. (R65) -/
  | sysIdentify (dt : Nat) (h : CmdHdr) (p : List Byte)
  /-- SYS_STATUS: Command returning mode, lease, queue and fence summary. (R429) -/
  | sysStatus (dt : Nat) (h : CmdHdr) (p : List Byte)
  /-- SYS_EVENT_ROUTE: Command setting, per event class, the event ring it goes to or its discard. (R74) -/
  | sysEventRoute (dt : Nat) (h : CmdHdr) (p : List Byte)
  /-- SYS_ECHO: Command that returns its own payload. (R73) -/
  | sysEcho (dt : Nat) (h : CmdHdr) (p : List Byte)
  /-- SYS_SPARES: Command returning spare consumption against budget and the service conditions. (R442) -/
  | sysSpares (dt : Nat) (h : CmdHdr) (p : List Byte)
  /-- SYS_FAULTS: Command returning the pending error queue, fenced and retired regions and the overflow records. (R430) -/
  | sysFaults (dt : Nat) (h : CmdHdr) (p : List Byte)
  /-- MODE_SET: Stageable command setting the operating mode at a blank. (R96) -/
  | modeSet (dt : Nat) (h : CmdHdr) (p : List Byte)
  /-- MODE_GET: Command returning the mode, the pending mode and the Bring-up progress. (R97) -/
  | modeGet (dt : Nat) (h : CmdHdr) (p : List Byte)
  /-- TXN_BEGIN: Command opening a configuration transaction on the mailbox with a timeout. (R75) -/
  | txnBegin (dt : Nat) (h : CmdHdr) (p : List Byte)
  /-- TXN_COMMIT: Command that validates a transaction and arms it for a blank, or for AT_TICK. (R79) -/
  | txnCommit (dt : Nat) (h : CmdHdr) (p : List Byte)
  /-- TXN_ROLLBACK: Command discarding an open transaction, or an armed one before its cut-off. (R82) -/
  | txnRollback (dt : Nat) (h : CmdHdr) (p : List Byte)
  /-- TXN_STATUS: Command returning the state of one of the last 64 transactions of the mailbox. (R85) -/
  | txnStatus (dt : Nat) (h : CmdHdr) (p : List Byte)
  /-- STREAM_QUEUES: Command configuring submission queue bases, sizes and the polling interval. (R117) -/
  | streamQueues (dt : Nat) (h : CmdHdr) (p : List Byte)
  /-- STREAM_OPEN: Stageable command binding a stream slot to a queue, a format and protection. (R123) -/
  | streamOpen (dt : Nat) (h : CmdHdr) (p : List Byte)
  /-- STREAM_CLOSE: Stageable command closing a stream, at once or after a drain. (R125) -/
  | streamClose (dt : Nat) (h : CmdHdr) (p : List Byte)
  /-- STREAM_KEY: Command unwrapping a hybrid-wrapped content key into a key slot, or clearing the slot. (R131) -/
  | streamKey (dt : Nat) (h : CmdHdr) (p : List Byte)
  /-- STREAM_STATS: Command returning a stream's state and counters, optionally clearing the counters. (R144) -/
  | streamStats (dt : Nat) (h : CmdHdr) (p : List Byte)
  /-- SCENE_BIND: Stageable command binding streams to the primary and inset scene roles. (R172) -/
  | sceneBind (dt : Nat) (h : CmdHdr) (p : List Byte)
  /-- SCENE_PLACE: Stageable command setting the scene-to-wall placement, the clip box and the viewing volume. (R170) -/
  | scenePlace (dt : Nat) (h : CmdHdr) (p : List Byte)
  /-- SCENE_LIFT: Stageable command setting the lift parameters for stereo titles. (R197) -/
  | sceneLift (dt : Nat) (h : CmdHdr) (p : List Byte)
  /-- COMPOSE_LAYER: Stageable command placing or removing a compose layer. (R203) -/
  | composeLayer (dt : Nat) (h : CmdHdr) (p : List Byte)
  /-- COMPOSE_UPDATE: Command submitting an update region of a compose surface, or a new base. (R207) -/
  | composeUpdate (dt : Nat) (h : CmdHdr) (p : List Byte)
  /-- COMPOSE_BLIT: Command queueing a COPY, FILL or BLEND operation on the 2D engine. (R216) -/
  | composeBlit (dt : Nat) (h : CmdHdr) (p : List Byte)
  /-- COMPOSE_WATERMARK: Command arming a synthesis-front watermark on a kerf row. (R213) -/
  | composeWatermark (dt : Nat) (h : CmdHdr) (p : List Byte)
  /-- COMPOSE_DEADTIME: Stageable command setting the 2D engine idle time after each burst. (R221) -/
  | composeDeadtime (dt : Nat) (h : CmdHdr) (p : List Byte)
  /-- CAL_LOAD: Long command loading a calibration block into a stand, from stand memory or the frame store. (R230) -/
  | calLoad (dt : Nat) (h : CmdHdr) (p : List Byte)
  /-- CAL_SETS: Stageable command declaring the temperatures of a stand's four calibration sets. (R225) -/
  | calSets (dt : Nat) (h : CmdHdr) (p : List Byte)
  /-- CAL_MEASURE: Long command running a maintenance measurement in Calibrate. (R241) -/
  | calMeasure (dt : Nat) (h : CmdHdr) (p : List Byte)
  /-- CAL_POLICY: Stageable command setting the trim coefficients and TRIM_OFF. (R235) -/
  | calPolicy (dt : Nat) (h : CmdHdr) (p : List Byte)
  /-- CAL_READ: Long command copying one calibration block of a stand to the frame store. (R231) -/
  | calRead (dt : Nat) (h : CmdHdr) (p : List Byte)
  /-- STAND_MAP: Stageable command replacing the stand map and the hogel geometry. (R332) -/
  | standMap (dt : Nat) (h : CmdHdr) (p : List Byte)
  /-- STAND_LUT: Stageable command selecting a stand's code-to-width table. (R331) -/
  | standLut (dt : Nat) (h : CmdHdr) (p : List Byte)
  /-- STAND_STATUS: Command returning link, lane and stand state and counters. (R333) -/
  | standStatus (dt : Nat) (h : CmdHdr) (p : List Byte)
  /-- STAND_RELEASE: Command darkening a stand and parking its bands so that it can be removed. (R437) -/
  | standRelease (dt : Nat) (h : CmdHdr) (p : List Byte)
  /-- STAND_ADMIT: Long command admitting a stand through identify, calibration load, tables and known-state sequence. (R439) -/
  | standAdmit (dt : Nat) (h : CmdHdr) (p : List Byte)
  /-- STAND_LINK: Stageable command setting a link's lane rate, clocking and preset, or retraining it. (R330) -/
  | standLink (dt : Nat) (h : CmdHdr) (p : List Byte)
  /-- SCAN_TIMING: Stageable command setting the frame rate, spread count and drive class. (R260) -/
  | scanTiming (dt : Nat) (h : CmdHdr) (p : List Byte)
  /-- SCAN_PRECHARGE: Stageable command setting the column pre-charge levels and width. (R258) -/
  | scanPrecharge (dt : Nat) (h : CmdHdr) (p : List Byte)
  /-- SCAN_MEASURE_PLAN: Stageable command setting the measurement-slot and sweep plan. (R267) -/
  | scanMeasurePlan (dt : Nat) (h : CmdHdr) (p : List Byte)
  /-- SCAN_FRAME_BASE: Stageable command moving one die's pair of ray frames within its region. (R262) -/
  | scanFrameBase (dt : Nat) (h : CmdHdr) (p : List Byte)
  /-- STEER_TABLE: Stageable command replacing a stand's steering drive table. (R279) -/
  | steerTable (dt : Nat) (h : CmdHdr) (p : List Byte)
  /-- STEER_STATUS: Command returning band states, DC integrals and steering counters of a stand. (R297) -/
  | steerStatus (dt : Nat) (h : CmdHdr) (p : List Byte)
  /-- STEER_JOURNAL: Command returning stand blocks of the live or flushed steering journal. (R298) -/
  | steerJournal (dt : Nat) (h : CmdHdr) (p : List Byte)
  /-- MEM_SET_POINT: Long command requesting a frame-store frequency change. (R353) -/
  | memSetPoint (dt : Nat) (h : CmdHdr) (p : List Byte)
  /-- MEM_ORDERING: Stageable command selecting native or Linub ordering and the power-down timer. (R344) -/
  | memOrdering (dt : Nat) (h : CmdHdr) (p : List Byte)
  /-- MEM_TRAIN: Long command requesting a live or full training pass. (R352) -/
  | memTrain (dt : Nat) (h : CmdHdr) (p : List Byte)
  /-- MEM_STATUS: Command returning ECC, sparing, retirement, refresh and training counters. (R362) -/
  | memStatus (dt : Nat) (h : CmdHdr) (p : List Byte)
  /-- CHAIN_ROLE: Stageable command setting skyline port roles, chain address, root, ring and ready mask. (R365) -/
  | chainRole (dt : Nat) (h : CmdHdr) (p : List Byte)
  /-- CHAIN_REGION: Stageable command setting this A9's region of the wall grid. (R380) -/
  | chainRegion (dt : Nat) (h : CmdHdr) (p : List Byte)
  /-- CHAIN_GRACE: Stageable command setting the ready grace period. (R376) -/
  | chainGrace (dt : Nat) (h : CmdHdr) (p : List Byte)
  /-- CHAIN_STATUS: Command returning chain ports, hop delays, ready and bypass state. (R386) -/
  | chainStatus (dt : Nat) (h : CmdHdr) (p : List Byte)
  /-- TIME_SOURCE: Stageable command selecting the tick discipline and the jump threshold. (R390) -/
  | timeSource (dt : Nat) (h : CmdHdr) (p : List Byte)
  /-- TIME_PTP: Command configuring one Ethernet port's PTP operation and restarting it. (R398) -/
  | timePtp (dt : Nat) (h : CmdHdr) (p : List Byte)
  /-- TIME_GET: Command returning device time, source state and the current tick. (R389) -/
  | timeGet (dt : Nat) (h : CmdHdr) (p : List Byte)
  /-- TIME_ACCEPT_JUMP: Command accepting a refused time step, applied at a blank as a timing-mode change. (R395) -/
  | timeAcceptJump (dt : Nat) (h : CmdHdr) (p : List Byte)
  /-- TIME_PULSE: Command programming a TPULSE output. (R403) -/
  | timePulse (dt : Nat) (h : CmdHdr) (p : List Byte)
  /-- TIME_FSYNC_ARM: Command setting FSYNC_IN polarity and delay and re-arming it. (R400) -/
  | timeFsyncArm (dt : Nat) (h : CmdHdr) (p : List Byte)
  /-- SEC_CERTS: Command returning a fragment of an identity certificate. (R466) -/
  | secCerts (dt : Nat) (h : CmdHdr) (p : List Byte)
  /-- SEC_ATTEST: Command returning a dual-signed attestation report over a nonce. (R473) -/
  | secAttest (dt : Nat) (h : CmdHdr) (p : List Byte)
  /-- SEC_KEM_KEY: Command returning the public content-key wrapping keys. (R475) -/
  | secKemKey (dt : Nat) (h : CmdHdr) (p : List Byte)
  /-- SEC_FW_UPDATE: Long command starting a live firmware update from a bundle in the frame store. (R431) -/
  | secFwUpdate (dt : Nat) (h : CmdHdr) (p : List Byte)
  /-- SEC_LIFECYCLE: Command making a fused lifecycle transition. (R472) -/
  | secLifecycle (dt : Nat) (h : CmdHdr) (p : List Byte)
  /-- REC_TRIGGERS: Stageable command replacing the snapshot triggers and register sets. (R453) -/
  | recTriggers (dt : Nat) (h : CmdHdr) (p : List Byte)
  /-- REC_FLUSH: Long command flushing the recorder log to flash up to the current head. (R459) -/
  | recFlush (dt : Nat) (h : CmdHdr) (p : List Byte)
  /-- REC_ERASE: Long command erasing the flushed history sectors. (R460) -/
  | recErase (dt : Nat) (h : CmdHdr) (p : List Byte)
  /-- PWR_DOMAIN: Command switching an idle, host-switchable power domain on or off. (R479) -/
  | pwrDomain (dt : Nat) (h : CmdHdr) (p : List Byte)
  /-- PWR_STATUS: Command returning power, rails, domains, temperatures and clocks. (R492) -/
  | pwrStatus (dt : Nat) (h : CmdHdr) (p : List Byte)
  /-- PWR_LIMIT: Stageable command setting the package power cap and NO_BOOST. (R490) -/
  | pwrLimit (dt : Nat) (h : CmdHdr) (p : List Byte)
  /-- RING: Host write of 1 to MBX_DOORBELL.RING submitting the command area. (R55) -/
  | ring (dt : Nat) (m : Fin 8)
  /-- COLD_WEST: GLB_RESET_CTRL write with the key requesting a cold reset of the West die. (R51) -/
  | coldWest (dt : Nat) (v : Word)
  /-- COLD_EAST: GLB_RESET_CTRL write with the key requesting a cold reset of the East die. (R51) -/
  | coldEast (dt : Nat) (v : Word)
  /-- GLB_APERTURE_HI_WRITE: Write of the aperture high bits, held until the next low write. (R53) -/
  | glbApertureHiWrite (dt : Nat) (v : Word)
  /-- GLB_APERTURE_LO_WRITE: Write of the aperture low bits that makes the new BAR2 base take effect. (R53) -/
  | glbApertureLoWrite (dt : Nat) (v : Word)
  /-- RING_ENABLE: EVR_CTRL write setting ENABLE, which clears PIDX, sets PHASE and restarts the sequence, or is refused. (R58) -/
  | ringEnable (dt : Nat) (r : Fin 4) (v : Word)
  /-- RING_DISABLE: EVR_CTRL write clearing ENABLE, which discards the records held for the ring. (R58) -/
  | ringDisable (dt : Nat) (r : Fin 4) (v : Word)
  /-- EVR_CIDX_WRITE: Host write of the consumer index that frees entries and lets held records be written. (R58) -/
  | evrCidxWrite (dt : Nat) (r : Fin 4) (v : Word)
  /-- EVR_STATUS_READ: Read of EVR_STATUS that returns DROPPED and clears it. (R57) -/
  | evrStatusRead (dt : Nat) (r : Fin 4)
  /-- REC_DATA_READ: Read of REC_DATA returning the 32 bits at the cursor and advancing it. (R59) -/
  | recDataRead (dt : Nat)
  /-- CMDSET_REV_READ: BAR0 read covering CMDSET_REV of the Cruise identity entry, which sets the revision-read flag. (R65) -/
  | cmdsetRevRead (dt : Nat) (off : Nat) (len : Nat)
  /-- REGISTER_WRITE: Write to a BAR0 register or area without a row of its own, acting by its access codes. (R8) -/
  | registerWrite (dt : Nat) (off : Nat) (data : List Byte)
  /-- UNMAPPED: BAR0 access to no described block, which reads 0, ignores writes and sets GLB_ERR.UNMAPPED. (R30) -/
  | unmapped (dt : Nat) (off : Nat) (len : Nat) (write : Bool)
  /-- BAD_SIZE: BAR0 access of bad size or alignment, which reads all ones, ignores writes and sets GLB_ERR.BAD_SIZE. (R30) -/
  | badSize (dt : Nat) (off : Nat) (len : Nat) (write : Bool)
  /-- BAR2_READ: Host read through the BAR2 aperture into the frame store. (R361) -/
  | bar2Read (dt : Nat) (off : Nat) (len : Nat)
  /-- BAR2_WRITE: Host write through the BAR2 aperture into the frame store. (R345) -/
  | bar2Write (dt : Nat) (off : Nat) (data : List Byte)
  /-- BOOT_BUFFER_WRITE: Host write into the boot buffer in host boot; leaving BOOT at offset 0 starts verification. (R105) -/
  | bootBufferWrite (dt : Nat) (off : Nat) (data : List Byte)
  /-- FUNCTION_LEVEL_RESET: PCIe function-level reset of the host-facing state, which leaves the wall running. (R28) -/
  | functionLevelReset (dt : Nat)
  /-- PERST_N: Assertion of PERST_N, which resets only the PCIe function and link. (R103) -/
  | perstN (dt : Nat)
  /-- D3HOT_ENTRY: Entry into D3hot, after which the A9 issues no host-memory request. (R29) -/
  | d3hotEntry (dt : Nat)
  /-- D0_RETURN: Return to D0, after which ingest resumes and discards stale descriptors. (R29) -/
  | d0Return (dt : Nat)
  /-- MAILBOX_STALL_TIMEOUT: A command stays PENDING for 50 µs and STALL sets. (R55) -/
  | mailboxStallTimeout (dt : Nat) (m : Fin 8)
  /-- CHAIN_TIMEOUT: No response from a tunnel target within 10 ms of acceptance. (R68) -/
  | chainTimeout (dt : Nat) (m : Fin 8)
  /-- TXN_TIMEOUT: An open transaction's timer reaches TIMEOUT_MS and the transaction is rolled back. (R78) -/
  | txnTimeout (dt : Nat) (id : Nat)
  /-- FRAME_TICK: The frame tick at which a frame's sub-frame 0 begins. (R18) -/
  | frameTick (dt : Nat)
  /-- FRAME_BLANK: Start of the 100 µs frame blank, at which armed transactions apply. (R83) -/
  | frameBlank (dt : Nat)
  /-- SUBFRAME_START: Start of a sub-frame and of its steering window, marked by a sync marker. (R250) -/
  | subframeStart (dt : Nat)
  /-- LEAD_DEADLINE: Lead deadline of a tick: each stream's candidate frame is released, abandoned or missed; `sizes` gives the picture
  sizes the decoder read, as (stream, substream, width, height). (R142, R136) -/
  | leadDeadline (dt : Nat) (sizes : List (Nat × Nat × Nat × Nat))
  /-- SYNTHESIS_START: Start of a synthesis window: generations and updates are latched and dispatch begins. (R183) -/
  | synthesisStart (dt : Nat) (costs : List (Nat × Nat × Nat))
  /-- KERF_DEADLINE: Dispatchers stop, and unwritten kerfs become late. (R187) -/
  | kerfDeadline (dt : Nat)
  /-- SCAN_OUT_START: The scan sequencer latches the select and VALID bits and starts sub-frame 0 codes. (R22) -/
  | scanOutStart (dt : Nat)
  /-- WATERMARK_FIRE: The synthesis front passes an armed watermark row. (R214) -/
  | watermarkFire (dt : Nat)
  /-- LIFT_PHASE_END: Both dies complete the lift of a new stereo frame and kerf dispatch starts. (R201) -/
  | liftPhaseEnd (dt : Nat)
  /-- LIFT_TIMEOUT: The lift phase reaches 2,000 µs, and the lift is abandoned. (R201) -/
  | liftTimeout (dt : Nat)
  /-- QUEUE_POLL: Every POLL_US the ingest engine reads a queue's producer index and fetches and checks descriptors. (R118) -/
  | queuePoll (dt : Nat) (q : Fin 16) (pidx : Option Nat) (descs : List (Option (List Byte)))
  /-- DESCRIPTOR_PLACED: A descriptor's data is read, decrypted and placed, and the consumer index is mirrored. (R118) -/
  | descriptorPlaced (dt : Nat) (q : Fin 16) (found : Placed)
  /-- FETCH_RESUME: A stream stopped at HIGH_FRAMES or a full share resumes fetching once room returns. (R127) -/
  | fetchResume (dt : Nat) (n : Fin 8)
  /-- DECODE_DONE: A released scene frame finishes decoding into layer planes. (R142) -/
  | decodeDone (dt : Nat) (n : Fin 8) (found : List Picture)
  /-- DRAIN_TIMEOUT: A draining stream's queue has been empty for 1 s of fetching time. (R125) -/
  | drainTimeout (dt : Nat) (n : Fin 8)
  /-- BLIT_DONE: A 2D engine operation completes and the next in SEQ order starts. (R220) -/
  | blitDone (dt : Nat)
  /-- BAKE_START: A die starts the next queued live-set bake once it is free. (R227) -/
  | bakeStart (dt : Nat) (die : Fin 2)
  /-- BAKE_END: A bake completes, and the stand's live-set generation advances. (R227) -/
  | bakeEnd (dt : Nat) (stand : Nat)
  /-- CAL_OPERATION_END: A calibration load, read or measurement ends. (R232) -/
  | calOperationEnd (dt : Nat) (stand : Nat) (header : List Byte) (cells : List (Nat × Byte))
  /-- CONCEAL_REBUILD_END: Firmware finishes rebuilding a stand's concealment entries. (R243) -/
  | concealRebuildEnd (dt : Nat) (stand : Nat)
  /-- LINK_FRAME_RECEIVED: A return-lane link frame arrives; it is accepted or discarded, and its ACK_SEQ and NAK act on the replay buffer. (R310) -/
  | linkFrameReceived (dt : Nat) (l : Fin 16) (blocks : List (Nat × Nat)) (spare : List (Nat × Nat)) (sent : Nat)
  /-- REPLAY_TIMEOUT: ACK_SEQ does not advance within 4 µs, or the buffer is full, and a replay starts. (R311) -/
  | replayTimeout (dt : Nat) (l : Fin 16)
  /-- DIAG_RECEIVED: A DIAG packet of measurement samples, sweep faults or memory data arrives. (R319) -/
  | diagReceived (dt : Nat) (l : Fin 16) (pos : Nat) (kind : Nat) (sub : Nat) (row : Nat) (tick : Nat) (first : Nat) (data : List Byte)
  /-- TEMP_RECEIVED: A TEMP packet with the stands' readings arrives. (R320) -/
  | tempReceived (dt : Nat) (l : Fin 16) (readings : List Int)
  /-- ACK_RECEIVED: An ACK of a command or of a steering window arrives; window ACKs update the journal. (R321) -/
  | ackReceived (dt : Nat) (l : Fin 16) (pos : Nat) (kind : Nat) (sub : Nat) (cmdId : Nat) (tick : Nat) (states : Nat) (dark : Nat) (pairs : Nat)
  /-- NAK_RECEIVED: A NAK packet arrives reporting a lost data lane, a refused command or a malformed packet. (R322) -/
  | nakReceived (dt : Nat) (l : Fin 16) (cause : Nat) (lane : Nat) (lane2 : Nat) (cmdId : Nat)
  /-- STATUS_RECEIVED: A stand STATUS packet arrives. (R323) -/
  | statusReceived (dt : Nat) (l : Fin 16) (pos : Nat) (data : List Byte)
  /-- RETURN_LANE_LOST: The return lane loses block lock and the A9 moves it to the return spare. (R327) -/
  | returnLaneLost (dt : Nat) (l : Fin 16)
  /-- SPARE_LANE_FAULT: A spare lane loses lock or exceeds its body error count and is marked unusable. (R306) -/
  | spareLaneFault (dt : Nat) (l : Fin 16) (lane : Nat)
  /-- LINK_RECOVERY: A recovery starts after four stalled replays, or a clock-lane or unsparable loss. (R312) -/
  | linkRecovery (dt : Nat) (l : Fin 16)
  /-- LINK_RECOVERY_END: A link recovery ends by resuming, or takes the link down. (R312) -/
  | linkRecoveryEnd (dt : Nat) (l : Fin 16) (lanes : List LaneReport) (order : List Nat) (ret : List (List Byte))
  /-- LINK_BRINGUP_END: A link bring-up attempt ends, coming up or failing. (R304) -/
  | linkBringupEnd (dt : Nat) (l : Fin 16) (steps : List Nat) (lanes : List LaneReport) (frameErrs : Bool) (order : List Nat) (ret : List (List Byte))
  /-- LINK_BRINGUP_TIMEOUT: A link bring-up attempt reaches its 25 ms limit. (R304) -/
  | linkBringupTimeout (dt : Nat) (l : Fin 16) (cause : Nat)
  /-- LINK_WAKE: A dozing or sleeping transmit direction wakes before a tick or blank. (R329) -/
  | linkWake (dt : Nat) (l : Fin 16)
  /-- TEMP_TIMEOUT: No valid TEMP from a stand for 60 consecutive frames. (R275) -/
  | tempTimeout (dt : Nat) (stand : Nat)
  /-- STAND_REMOVED: No STATUS from a stand for 5 consecutive frames, and the stand is declared removed. (R438) -/
  | standRemoved (dt : Nat) (stand : Nat)
  /-- STAND_RAIL_RECOVERED: A stand's rails have stayed in range for 100 ms, and its known-state sequence starts. (R287) -/
  | standRailRecovered (dt : Nat) (stand : Nat)
  /-- REFRESH_DUE: A pseudo-channel's refresh interval expires; the refresh is issued, postponed or forced. (R346) -/
  | refreshDue (dt : Nat) (pc : Nat) (realTime : Bool)
  /-- LIVE_TRAIN_AUTO: Firmware starts a live training pass 10 s after the last or after a 5 °C stack change. (R351) -/
  | liveTrainAuto (dt : Nat)
  /-- TRAIN_PASS_END: A training pass ends with success or failure. (R352) -/
  | trainPassEnd (dt : Nat) (ok : Bool)
  /-- SET_POINT_CHANGE_START: A pending set-point change starts at once or at the next scan-out gap. (R354) -/
  | setPointChangeStart (dt : Nat)
  /-- SET_POINT_CHANGE_END: A set-point change ends after verification, or returns to the old set point. (R354) -/
  | setPointChangeEnd (dt : Nat) (ok : Bool)
  /-- MEM_CORRECTED_READ: A read corrects an error, and the granule is rewritten. (R357) -/
  | memCorrectedRead (dt : Nat) (addr : Nat)
  /-- MEM_UNCORRECTABLE_READ: A read meets an uncorrectable error; the granule is poisoned and the reader's outcome follows the region. (R358) -/
  | memUncorrectableRead (dt : Nat) (addr : Nat) (port : Nat)
  /-- ROW_SPARE: Firmware applies soft repair to a row in the next scan-out gap. (R359) -/
  | rowSpare (dt : Nat) (pc : Nat) (row : Nat)
  /-- PAGE_RETIRE_COPY_END: The copy of a retiring ray-frame page to its replacement ends. (R360) -/
  | pageRetireCopyEnd (dt : Nat) (die : Fin 2) (page : Nat)
  /-- FRAME_BASE_COPY_END: The background copy of a moved ray-frame pair completes and the old pair is released. (R263) -/
  | frameBaseCopyEnd (dt : Nat) (die : Fin 2)
  /-- PATROL_SCRUB: The firmware port reads each granule once per 24 h. (R357) -/
  | patrolScrub (dt : Nat) (die : Fin 2)
  /-- BEACON_SEND: Every 100 µs the A9 sends a BEACON on every skyline port that is up. (R368) -/
  | beaconSend (dt : Nat)
  /-- BEACON_RECEIVED: A BEACON arrives; parent selection, depth and provisional addresses are updated. (R370) -/
  | beaconReceived (dt : Nat) (p : Fin 4) (data : List Byte) (rx : SkyRx)
  /-- RELAY_RECEIVED: A RELAY packet arrives from the parent and is placed and relayed on. (R377) -/
  | relayReceived (dt : Nat) (p : Fin 4) (n : Fin 8) (seq : Nat) (desc : List Byte) (found : Placed) (rx : SkyRx)
  /-- MGMT_RECEIVED: A MGMT packet with a tunnelled command or response arrives. (R379) -/
  | mgmtReceived (dt : Nat) (p : Fin 4) (kind : Nat) (m : Fin 8) (data : List Byte) (rx : SkyRx)
  /-- EVENT_RECEIVED: An EVENT packet from a chain A9 arrives and the root writes it to its rings. (R379) -/
  | eventReceived (dt : Nat) (p : Fin 4) (sender : Nat) (record : List Byte) (rx : SkyRx)
  /-- PORT_DEAD: A skyline port loses lock for 100 µs or beacons for 300 µs and is bypassed. (R369) -/
  | portDead (dt : Nat) (p : Fin 4) (lockLost : Bool)
  /-- PARENT_RETURN: A parent-side port carries valid beacons for 1 s and the A9 returns to it. (R370) -/
  | parentReturn (dt : Nat) (p : Fin 4)
  /-- SKYLINE_PORT_UP: A skyline port completes its bring-up. (R363) -/
  | skylinePortUp (dt : Nat) (p : Fin 4) (full : Bool)
  /-- TICK_EDGE: A TICK edge arrives on the parent port and is forwarded and used to place the tick. (R371) -/
  | tickEdge (dt : Nat) (p : Fin 4)
  /-- READY_INPUT_CHANGE: A READY input changes and the ready AND propagates upstream. (R374) -/
  | readyInputChange (dt : Nat) (p : Fin 4) (level : Bool)
  /-- HOP_MEASURE: Once per frame the upstream end pulses TICK to measure each port's hop delay. (R372) -/
  | hopMeasure (dt : Nat) (p : Fin 4) (roundPs : Nat)
  /-- READY_GRACE_EXPIRY: A dead port's grace period ends and its READY input leaves the AND. (R376) -/
  | readyGraceExpiry (dt : Nat) (p : Fin 4)
  /-- FSYNC_IN_EDGE: An active FSYNC_IN edge arrives and is accepted or ignored. (R401) -/
  | fsyncInEdge (dt : Nat) (falling : Bool) (widthNs : Nat)
  /-- FSYNC_STUCK: No accepted FSYNC_IN edge within 2.5 P, and holdover starts. (R401) -/
  | fsyncStuck (dt : Nat)
  /-- PTP_SYNC: A PTP Sync measurement updates the offset, lock and step. (R392) -/
  | ptpSync (dt : Nat) (n : Fin 2) (secs : Nat) (nanos : Nat) (corr : Int)
  /-- PTP_ANNOUNCE: An Announce message feeds BMCA, which may select a new grandmaster. (R399) -/
  | ptpAnnounce (dt : Nat) (n : Fin 2) (identity : BitVec 64) (selects : Bool)
  /-- PTP_ANNOUNCE_TIMEOUT: The announce receipt timeout expires with no qualified master. (R393) -/
  | ptpAnnounceTimeout (dt : Nat) (n : Fin 2)
  /-- TPULSE_FIRE: A TPULSE output's next instant is reached and it drives its edge. (R404) -/
  | tpulseFire (dt : Nat) (n : Fin 4)
  /-- LEASE_RENEWAL: The holder renews the lease every 10 ms. (R419) -/
  | leaseRenewal (dt : Nat) (die : Fin 2)
  /-- LEASE_MISSED: 10 ms pass without a renewal; MISSED rises, and at the third the lease lapses. (R419) -/
  | leaseMissed (dt : Nat)
  /-- LEASE_REQUEST: A complex requests the lease from Bellows, which grants the first valid request. (R419) -/
  | leaseRequest (dt : Nat) (west : Bool) (east : Bool)
  /-- ROUTE_LOSS_TIMEOUT: A complex has had no route to the I/O die for 100 µs. (R421) -/
  | routeLossTimeout (dt : Nat) (die : Fin 2)
  /-- MC_DOMAIN_RESET: Bellows resets a management complex domain 1 ms after the request, or 10 ms after a lapse. (R421) -/
  | mcDomainReset (dt : Nat) (die : Fin 2) (cut : Nat)
  /-- WATCHDOG_EXPIRY: A region's watchdog limit passes without progress. (R408) -/
  | watchdogExpiry (dt : Nat) (kind : Nat) (unit : Nat) (cut : Nat)
  /-- REGION_ERROR_DETECTED: Hardware sees an error in a region and isolates it at once. (R408) -/
  | regionErrorDetected (dt : Nat) (kind : Nat) (unit : Nat) (cls : Nat) (hit : Option (Fin 8))
  /-- HANDLER_START: A free complex starts the handler of the next queued error record. (R409) -/
  | handlerStart (dt : Nat) (die : Fin 2)
  /-- HANDLER_TEST_END: A handler's test ends, and the region is restored or fenced. (R409) -/
  | handlerTestEnd (dt : Nat) (die : Fin 2) (pass : Bool)
  /-- REGION_RETEST: A fenced region is retested 1 h after fencing and hourly after that. (R413) -/
  | regionRetest (dt : Nat) (kind : Nat) (unit : Nat)
  /-- DIE_COLD_RESET: Bellows asserts STAND_SAFE, releases the lease if held and powers a compute die off for 1 ms. (R417) -/
  | dieColdReset (dt : Nat) (die : Fin 2)
  /-- DIE_POWER_UP: A cold-reset die powers up again and starts its rejoin. (R417) -/
  | diePowerUp (dt : Nat) (die : Fin 2)
  /-- IO_BLOCK_RESUME: An I/O block resumes after its 1 ms reset. (R418) -/
  | ioBlockResume (dt : Nat) (unit : Nat)
  /-- BELLOWS_POWER_UP: BELLOWS_IN reaches range after Bellows stopped; Bellows state resets and the restore starts. (R484) -/
  | bellowsPowerUp (dt : Nat)
  /-- HISTORY_RESTORE_END: Bellows finishes restoring flushed history and writes the 0x0012 record. (R463) -/
  | historyRestoreEnd (dt : Nat)
  /-- SYS_RST_N_ASSERT: SYS_RST_N low holds every domain but Bellows in reset and asserts STAND_SAFE. (R497) -/
  | sysRstNAssert (dt : Nat)
  /-- SYS_RST_N_RELEASE: Release of SYS_RST_N starts the boot ROM; the straps as the pins then stand. (R103) -/
  | sysRstNRelease (dt : Nat) (straps : BitVec 3)
  /-- BUNDLE_VERIFY_END: Verification of a bundle ends with success, or with a failure code. (R107) -/
  | bundleVerifyEnd (dt : Nat) (sent : List Byte)
  /-- COMPLEX_SELF_TEST_END: A management complex finishes its boot self-test. (R110) -/
  | complexSelfTestEnd (dt : Nat) (die : Fin 2) (ok : Bool)
  /-- COMPLEX_ABSENT: A complex has not requested the lease within 600 ms of 0x02 and is left absent. (R110) -/
  | complexAbsent (dt : Nat) (die : Fin 2)
  /-- LEADERSHIP_TIMEOUT: Neither complex requests within 2 s of 0x03, and Bellows cold-restarts both dies. (R110) -/
  | leadershipTimeout (dt : Nat)
  /-- STANDBY_REACHED: Boot reaches Standby: FW_UP sets, the rollback fuse advances and the drone powers down. (R111) -/
  | standbyReached (dt : Nat)
  /-- SKYLINE_BUNDLE_REQUEST: A child's request for the boot bundle arrives over the skyline. (R106) -/
  | skylineBundleRequest (dt : Nat) (p : Fin 4)
  /-- SKYLINE_BOOT_RETRY: A child with no responding parent retries every 2 s. (R106) -/
  | skylineBootRetry (dt : Nat)
  /-- POWER_LOSS: Bellows declares loss of A9 power and runs the STAND_SAFE and journal sequence. (R291) -/
  | powerLoss (dt : Nat) (rail : Nat)
  /-- JOURNAL_FLUSH_END: The steering journal flush to flash ends, and the recorder flush starts. (R293) -/
  | journalFlushEnd (dt : Nat) (ok : Bool)
  /-- RECORDER_FLUSH_END: The power-loss flush of the recorder ends. (R461) -/
  | recorderFlushEnd (dt : Nat) (ok : Bool)
  /-- POWER_RESTORE: Every rail is back in range for 10 ms while Bellows stayed up, and both dies cold-restart. (R482) -/
  | powerRestore (dt : Nat)
  /-- CORE_RAIL_RESTORED: A fenced die's core rail is in range for 10 ms and the die rejoins. (R482) -/
  | coreRailRestored (dt : Nat) (die : Fin 2)
  /-- RAIL_FAULT: A rail is out of range for 10 µs. (R481) -/
  | railFault (dt : Nat) (rail : Nat) (mv : Nat)
  /-- HOLDUP_LOW: HOLDUP_OK falls while BELLOWS_IN is in range. (R486) -/
  | holdupLow (dt : Nat) (mv : Nat)
  /-- TBREF_LOSS: TBREF stops for 200 ns, and Bellows switches to its internal oscillator. (R502) -/
  | tbrefLoss (dt : Nat)
  /-- JUNCTION_SAMPLE: Every 100 µs the junction sensors are read and throttling is judged. (R489) -/
  | junctionSample (dt : Nat) (temps : List Int)
  /-- THERMAL_FENCE: A junction at 110 °C for 10 ms fences the die, or declares power loss for the I/O die. (R489) -/
  | thermalFence (dt : Nat) (k : Fin 3)
  /-- REED_CLOCK_STEP: Each ms a throttled, capped or boosting die steps its reed clock by 25 MHz. (R489) -/
  | reedClockStep (dt : Nat)
  /-- POWER_CAP_SAMPLE: The 10 ms package power average is compared with CAP_W. (R490) -/
  | powerCapSample (dt : Nat) (mw : Nat) (rails : List (Nat × Nat))
  /-- AVS_ADJUST: A die sets its core voltage over AVSBus, at most once per 100 µs. (R487) -/
  | avsAdjust (dt : Nat) (die : Fin 2) (mv : Nat)
  /-- AVS_FAILURE: Three consecutive AVSBus transactions go unacknowledged. (R487) -/
  | avsFailure (dt : Nat) (die : Fin 2)
  /-- EVR_COALESCE_TIMEOUT: COAL_US passes since the oldest unsignalled record and an MSI-X message is sent. (R89) -/
  | evrCoalesceTimeout (dt : Nat) (r : Fin 4)
  /-- MIRROR_FAULT: A write to host memory fails, and the ring is disabled. (R58) -/
  | mirrorFault (dt : Nat) (r : Fin 4)
  /-- FW_UPDATE_STAGE_END: A live-update stage ends or fails. (R432) -/
  | fwUpdateStageEnd (dt : Nat) (outcome : Nat)
  /-- HANDOVER_ARM: At H − 2.5 ms the chanter arms the handover and the drone takes new commands. (R434) -/
  | handoverArm (dt : Nat)
  /-- HANDOVER_GRANT: At H − 1 µs Bellows grants the lease to the drone. (R434) -/
  | handoverGrant (dt : Nat)
  /-- RECORD_PAD_TIMEOUT: A record still unmarked 10 ms after allocation is turned into a pad. (R449) -/
  | recordPadTimeout (dt : Nat) (off : Nat)
  /-- REC_FLUSH_TRIGGER: A background flush starts at 16 KiB unflushed or 10 s after the oldest record. (R459) -/
  | recFlushTrigger (dt : Nat)
  /-- REC_FLUSH_END: A recorder flush to flash ends. (R459) -/
  | recFlushEnd (dt : Nat) (ok : Bool)
  /-- SERVICE_HOUR: SERVICE_HOURS advances hourly and the spare budgets are judged again. (R441) -/
  | serviceHour (dt : Nat)
  /-- MGMT_DATAGRAM: A management query or signed command arrives over UDP. (R477) -/
  | mgmtDatagram (dt : Nat) (n : Fin 2) (data : List Byte)
  /-- DRONE_IN_SYNC: The drone finishes mirroring the chanter's committed configuration and DRONE_STATE becomes 3. (R113) -/
  | droneInSync (dt : Nat)
  /-- MC_DOMAIN_RELEASE: Bellows releases a reset management complex domain, and the complex boots from the boot buffer as the drone. (R422) -/
  | mcDomainRelease (dt : Nat) (die : Fin 2)
  /-- HANDLER_TEST_TIMEOUT: A handler's test exceeds its limit by 100 % and ends as a fail. (R409) -/
  | handlerTestTimeout (dt : Nat) (die : Fin 2)
  /-- RESERVE_COPY_END: The copy of a fenced pseudo-channel into the other die's reserve ends, and its addresses are served from the reserve from then on. (R415) -/
  | reserveCopyEnd (dt : Nat) (pc : Nat)
  /-- IDLE_POWER_DOWN: A stack ID that has had no request for IDLE_NS enters power-down. (R348) -/
  | idlePowerDown (dt : Nat) (pc : Nat) (sid : Nat)
  /-- STACK_TEMP_SAMPLE: Every millisecond each HBM stack's own temperature sensor is read, setting the refresh interval and judging the 95 °C throttle. (R346) -/
  | stackTempSample (dt : Nat) (temps : List (Option Int))
  /-- REFRESH_REPAY: A pseudo-channel with refresh debt that no longer holds a real-time read repays it with back-to-back refreshes. (R346) -/
  | refreshRepay (dt : Nat) (pc : Nat) (count : Nat)
  /-- REAL_TIME_PANIC: A real-time port's FIFO falls below 24 KiB and the port enters panic, or reaches 48 KiB and leaves it. (R341) -/
  | realTimePanic (dt : Nat) (port : Fin 16) (fill : Nat) (owes : Bool)
  /-- HOP_ECHO: As the downstream end, the A9 receives a 20 ns hop-measurement pulse on a TICK pair and echoes it on the READY pair. (R372) -/
  | hopEcho (dt : Nat) (p : Fin 4)
  /-- PTP_MESSAGE_INTERVAL: At each LOG_SYNC, LOG_ANNOUNCE or LOG_DELAY interval a PTP port sends its Sync, Announce or delay-request messages. (R398) -/
  | ptpMessageInterval (dt : Nat) (n : Fin 2) (kind : Nat)
  /-- PTP_DELAY_MESSAGE: A delay-request, delay-response or peer-delay message arrives on a PTP port and is timestamped and answered or used. (R397) -/
  | ptpDelayMessage (dt : Nat) (n : Fin 2) (kind : Nat) (secs : Nat) (nanos : Nat) (corr : Int)
  /-- TBREF_RESTORED: TBREF returns after a loss while Bellows runs on its internal oscillator. (R502) -/
  | tbrefRestored (dt : Nat)
  /-- PERST_N_DEASSERT: PERST_N is released and the PCIe function and link come out of reset and train. (R498) -/
  | perstNDeassert (dt : Nat)
  /-- HOLDUP_OK_SET: The hold-up bank reaches 10.5 V and BLW_STATUS.HOLDUP_OK sets. (R484) -/
  | holdupOkSet (dt : Nat) (mv : Nat)
  /-- BELLOWS_STOP: The hold-up bank falls to 4.0 V while BELLOWS_IN is absent and Bellows stops. (R484) -/
  | bellowsStop (dt : Nat)
deriving DecidableEq, Repr

end Sys2Proof
end

