-- ==== Sys2Proof/Machine/Bytes.lean ====
section
/-! DEFINITION. Bytes and little-endian numbers (R12): fields of payloads, records and registers, and CRC-32 (R32). -/

namespace Sys2Proof.Machine

/-- The byte at `off`; bytes beyond the end read 0 (R61: an area's bytes beyond what was written). -/
def byteAt (bs : List Byte) (off : Nat) : Byte := bs.getD off 0

/-- The byte at `off` as a number. -/
def u8 (bs : List Byte) (off : Nat) : Nat := (byteAt bs off).toNat

/-- The little-endian number of the `n` bytes from `off` (R12, R57). -/
def uN (bs : List Byte) : (off n : Nat) → Nat
  | _, 0 => 0
  | off, n + 1 => u8 bs off + 256 * uN bs (off + 1) n

/-- 16-bit field. -/
def u16 (bs : List Byte) (off : Nat) : Nat := uN bs off 2
/-- 32-bit field. -/
def u32 (bs : List Byte) (off : Nat) : Nat := uN bs off 4
/-- 64-bit field. -/
def u64 (bs : List Byte) (off : Nat) : Nat := uN bs off 8

/-- The two's-complement reading of a `w`-bit number. -/
def signedOf (w v : Nat) : Int := if v < 2 ^ (w - 1) then (v : Int) else (v : Int) - (2 ^ w : Nat)

/-- The `w`-bit two's complement of an integer. -/
def wrapInt (w : Nat) (v : Int) : Nat := (v % ((2 ^ w : Nat) : Int)).toNat

/-- Signed 8-bit field. -/
def s8 (bs : List Byte) (off : Nat) : Int := signedOf 8 (u8 bs off)
/-- Signed 16-bit field. -/
def s16 (bs : List Byte) (off : Nat) : Int := signedOf 16 (u16 bs off)
/-- Signed 32-bit field. -/
def s32 (bs : List Byte) (off : Nat) : Int := signedOf 32 (u32 bs off)
/-- Signed 64-bit field. -/
def s64 (bs : List Byte) (off : Nat) : Int := signedOf 64 (u64 bs off)

/-- A number as `n` little-endian bytes, its bits above dropped. -/
def le : (n v : Nat) → List Byte
  | 0, _ => []
  | n + 1, v => BitVec.ofNat 8 v :: le n (v / 256)

/-- An integer as `n` little-endian bytes, two's complement. -/
def leI (n : Nat) (v : Int) : List Byte := le n (wrapInt (8 * n) v)

/-- A number as `n` big-endian bytes (network order of PTP identities and DER). -/
def be (n v : Nat) : List Byte := (le n v).reverse

/-- `n` zero bytes (reserved fields of what the A9 writes, R12). -/
def zeros (n : Nat) : List Byte := List.replicate n 0

/-- Bit `i` of a number. -/
def bitOf (v i : Nat) : Bool := v / 2 ^ i % 2 == 1

/-- Bits `hi` to `lo` of a number. -/
def bitsOf (v hi lo : Nat) : Nat := v / 2 ^ lo % 2 ^ (hi + 1 - lo)

/-- One bit as a number. -/
def b2n (b : Bool) : Nat := if b then 1 else 0

/-- A list of flags as a number, the first flag bit 0. -/
def maskOf : List Bool → Nat
  | [] => 0
  | b :: bs => b2n b + 2 * maskOf bs

/-- How many of the low 64 bits of a number are set. -/
def popCount (v : Nat) : Nat := ((List.range 64).filter (bitOf v)).length

/-- The slice of `n` bytes from `off`; bytes beyond the end read 0. -/
def slice (bs : List Byte) (off n : Nat) : List Byte := (List.range n).map fun i => byteAt bs (off + i)

/-- `bs` with `new` written from `off` (the list grows with zeros where needed). -/
def overwrite (bs : List Byte) (off : Nat) (new : List Byte) : List Byte :=
  slice bs 0 off ++ new ++ bs.drop (off + new.length)

/-- A list made `n` bytes long: cut, or filled with zeros. -/
def padTo (n : Nat) (bs : List Byte) : List Byte := slice bs 0 n

/-- A packet on the wire: header, body, zeros to the next 8 bytes; `body` starts with the header's second byte (R313). -/
def packetBytes (kind : Nat) (body : List Byte) : List Byte :=
  let n := (body.length + 3 + 7) / 8
  le 1 kind ++ body.take 1 ++ le 2 n ++ body.drop 1 ++ zeros (8 * n - 3 - body.length)

/-- One bit of the reflected CRC-32 of R32 (polynomial 0xEDB88320). -/
def crcBit (c : Nat) : Nat := if c % 2 = 1 then (c / 2) ^^^ 0xEDB88320 else c / 2

/-- One byte of the CRC-32. -/
def crcByte (c : Nat) (b : Byte) : Nat :=
  crcBit (crcBit (crcBit (crcBit (crcBit (crcBit (crcBit (crcBit (c ^^^ b.toNat))))))))

/-- CRC-32: IEEE 802.3, reflected, initial value and final XOR 0xFFFF_FFFF (R32). -/
def crc32 (bs : List Byte) : Nat := bs.foldl crcByte 0xFFFFFFFF ^^^ 0xFFFFFFFF

/-- Saturation at a limit (DEDUCED, log entry 98). -/
def sat (limit v : Nat) : Nat := min limit v

/-- Clamp of an integer. -/
def clampI (lo hi v : Int) : Int := max lo (min hi v)

end Sys2Proof.Machine
end

