-- ==== Sys2Proof/Config.lean ====
section
/-! DEFINITION. What one A9 fixes and what the spec leaves open: constants without a body. Nothing can evaluate them, so a
statement that holds, holds whatever they are. -/

namespace Sys2Proof.Config

/-- The value a result has that the spec leaves open, by a counter of such results (DESIGN CHOICE, log entry 11). -/
opaque freeValue : Nat → Nat

/-- AES-128 of one 16-byte block under a key, and its inverse (R130), as FIPS 197 defines them (DESIGN CHOICE, log entry 84). -/
opaque aesEncrypt : (key block : List Byte) → List Byte
opaque aesDecrypt : (key block : List Byte) → List Byte

/-- AES-256 of one 16-byte block under a key (R132), as FIPS 197 defines it (DESIGN CHOICE, log entry 84). -/
opaque aes256 : (key block : List Byte) → List Byte

/-- The secret that ML-KEM-768 decapsulates from a ciphertext with the private key of a generation, the implicit-rejection secret where it
does not decapsulate (R132, R476), and the secret of X25519 with a public key (DESIGN CHOICE, log entry 84). -/
opaque kemDecapsulate : (kemGen : Nat) → (cipher : List Byte) → List Byte
opaque x25519 : (kemGen : Nat) → (pub : List Byte) → List Byte

/-- A BLEND channel one of whose binary16 operands is an infinity or not a number (R218 states no result): source,
destination, factor (DESIGN CHOICE, log entry 26). -/
opaque blendSpecial : (s d g : Nat) → Nat

/-- Code-to-width table that the stand-type tables of a bundle hold for a stand type (R331, R467): 3 × 1,024 entries of 2 bytes (DESIGN CHOICE,
log entry 105). -/
opaque bundleLut : (tables : List (List Byte)) → (stype : Nat) → List Byte

/-- Drive table that the stand-type tables of a bundle hold for a stand type (R281): bytes 4 to 1,567 of a STEER.TABLE payload (DESIGN CHOICE,
log entry 105). -/
opaque bundleSteer : (tables : List (List Byte)) → (stype : Nat) → List Byte

/-- A sample that a decoder puts out (R135, R142): codec, the access units decoded since the last random-access picture, view,
component (0 luma, 1 Cb, 2 Cr; chroma as it applies at the luma sample), column, row.  The codecs are other
specifications (DESIGN CHOICE, log entry 138). -/
opaque decodedSample : (codec : Nat) → (aus : List (List Byte)) → (view comp i j : Nat) → Nat

/-- A sample of a mip level from 1 on, as a 10-bit value (R158 builds the levels and names no filter); the component of a residual
mosaic's tile is 16 + tile (DESIGN CHOICE, log entry 118). -/
opaque mipSample (codec : Nat) (aus : List (List Byte)) (view comp level i j : Nat) : Rat

/-- A texel of a mip level from 1 on of a lifted slot (R200 names no filter): the access units that give the colour, those that give the
shape, slot, component (0 to 2 R'G'B' premultiplied, 3 alpha), level, column, row (DESIGN CHOICE, log entry 118). -/
opaque liftMip (codec : Nat) (aus shape : List (List Byte)) (slot comp level i j : Nat) : Rat

/-- Colour space of a stereo stream's pictures, which no field of the A9 gives: H.273 primaries, transfer, matrix and whether the range is
full (DESIGN CHOICE, log entry 119). -/
opaque stereoColour (codec : Nat) (aus : List (List Byte)) : Nat × Nat × Nat × Bool

/-- Light of a PQ value above 1, where the curve of SMPTE ST 2084 has no value (DESIGN CHOICE, log entry 118). -/
opaque pqOver (v : Rat) : Rat

/-- Light of a binary16 compose texel channel for which R205 states none: colour +∞, or not a number: its pattern (DESIGN CHOICE, log entry 118). -/
opaque halfLight (bits : Nat) : Rat

/-- By how much a written code differs from the reference synthesiser's, within the latitude of R179: 0 one below, 1 equal,
2 one above (taken modulo 3): window, stand, kerf, ray, colour (DESIGN CHOICE, log entry 20). -/
opaque rayLatitude : (window stand kerf ray colour : Nat) → Nat

/-- Where the marker of a SYNC packet falls in the link frame that carries it, in UI (R318), by link and window (DESIGN CHOICE, log entry 130). -/
opaque markUi : (link window : Nat) → Nat

/-- The starting preset, 0 to 10, that the stand-type tables of a bundle hold for a stand type (taken modulo 11; DESIGN CHOICE,
log entry 105). -/
opaque bundlePreset : (tables : List (List Byte)) → (stype : Nat) → Nat

/-- The A9's own PTP clock identity, which the spec does not give (R397) (DESIGN CHOICE, log entry 165). -/
opaque clockIdentity : Nat

/-- When a bake rewrites a hogel of the live set, in thirds of a nanosecond after it starts (R228 fixes neither order nor pace): stand,
live-set generation, hogel (DESIGN CHOICE, log entry 128). -/
opaque bakeInstant : (stand gen hogel : Nat) → Nat

/-- CONCEAL_PTR of a kerf that has concealment entries (R181, R243 fix no placement): stand, kerf, concealment generation (DESIGN CHOICE, log entry 14). -/
opaque concealPtr : (stand kerf gen : Nat) → Nat

/-- Luma of an eye at a level of the pyramid that lift builds, at half the per-eye resolution and below (R198 names no filter): FORMAT, eye as the
stream carries it, level, column, row (DESIGN CHOICE, log entry 119). -/
opaque stereoLuma (codec : Nat) (aus : List (List Byte)) (bits format eye level i j : Nat) : Rat

/-- How many samples to each side of the coarser estimate the search of a finer level looks (R198 states none) (DESIGN CHOICE, log entry 119). -/
opaque searchReach : (level : Nat) → Nat

/-- Sub-pixel refinement of an estimate (R198 names no method), in eighths of a pixel about −15, taken modulo 31: FORMAT, eye as the stream carries
it, column, row (DESIGN CHOICE, log entry 119). -/
opaque subPixel (codec : Nat) (aus : List (List Byte)) (format eye i j : Nat) : Nat

/-- Median vertical misalignment of the eyes of a stereo picture, in pixels (R202 cause 3 names no measure; DESIGN CHOICE, log entry 119). -/
opaque verticalShift : (codec : Nat) → (aus : List (List Byte)) → Rat

/-- Source views of a MIV stream, as ISO/IEC 23090-12 reads them from its atlas data and pictures (R137, R180): how many, and of each the
camera centre, the unit vector along its axis, both in scene space, and the near and far depth along that axis (DESIGN CHOICE, log entry 138). -/
opaque viewCount : (atlas : List (List (List Byte))) → Nat
opaque viewCentre : (atlas : List (List (List Byte))) → (view : Nat) → Rat × Rat × Rat
opaque viewAxis : (atlas : List (List (List Byte))) → (view : Nat) → Rat × Rat × Rat
opaque viewRange : (atlas : List (List (List Byte))) → (view : Nat) → Rat × Rat

/-- Where a scene point falls in a view: column, row and depth in the view; none outside its frustum (R180) (DESIGN CHOICE, log entry 138). -/
opaque viewProject : (atlas : List (List (List Byte))) → (view : Nat) → (x y z : Rat) → Option (Rat × Rat × Rat)

/-- Decoded depth of a view at a position; none in a hole, where no patch covers the pixel (R180) (DESIGN CHOICE, log entry 138). -/
opaque viewDepth : (atlas : List (List (List Byte))) → (view : Nat) → (u v : Rat) → Option Rat

/-- Size of a view pixel at a scene point, in scene metres (R180 takes the level of detail from it) (DESIGN CHOICE, log entry 138). -/
opaque viewPixel (atlas : List (List (List Byte))) (view : Nat) (x y z : Rat) : Rat

/-- Size of a view's texture, and a texel of a level of it: working-space colour (R180) (DESIGN CHOICE, log entry 138). -/
opaque viewSize : (atlas : List (List (List Byte))) → (view : Nat) → Nat × Nat
opaque viewTexel (atlas : List (List (List Byte))) (view level i j : Nat) : Rat × Rat × Rat

/-- A unorm channel whose binary16 value before rounding is not a number (R218 states no result): the pattern and the channel's largest
code (DESIGN CHOICE, log entry 26). -/
opaque unormNan : (bits maxCode : Nat) → Nat

/-- The speed monitors of a compute die show margin (R487): die, reed clock in MHz, core voltage in mV, junction temperature in 0.1 °C
(DESIGN CHOICE, log entry 147). -/
opaque speedMargin : (die mhz mv : Nat) → (tj : Int) → Bool

/-- Row repair resources of a bank, as the stacks report at the first Bellows power-up (R440): A9-wide pseudo-channel, bank
(stack ID × 16 + bank) (DEDUCED, log entry 61). -/
opaque rowRepairs : (pc bank : Nat) → Nat

/-- Device serial number (R32) (DESIGN CHOICE, log entry 11). -/
opaque serial : Nat

/-- GLB_ID.STEPPING and GLB_ID.GRADE (R48) (DESIGN CHOICE, log entry 11). -/
opaque stepping : Nat
opaque grade : Nat

/-- SHA-384 of a byte string (R107, R467, R473), as FIPS 180-4 defines it (DESIGN CHOICE, log entry 84). -/
opaque sha384 : List Byte → List Byte

/-- The certificate of a chain at an index, in DER (R465): a first byte and the rest, for a certificate is never empty (DESIGN CHOICE, log entry 84). -/
opaque certificateHead : (chain cert : Nat) → Byte
opaque certificateTail : (chain cert : Nat) → List Byte
/-- The certificate's bytes. -/
def certificate (chain cert : Nat) : List Byte := certificateHead chain cert :: certificateTail chain cert

/-- Public halves of the content-key pairs of a generation: ML-KEM-768 encapsulation key, X25519 key (R475) (DESIGN CHOICE, log entry 84). -/
opaque kemPublic : (kemGen : Nat) → List Byte

/-- A signature verifies: pure Ed25519 of a message (RFC 8032); pure ML-DSA-65 of a body under a context string (FIPS 204) (R464)
(DESIGN CHOICE, log entry 84). -/
opaque ed25519Ok : (pub msg sig : List Byte) → Bool
opaque mldsaOk : (pub ctx body sig : List Byte) → Bool

/-- Public keys of the Tabnar firmware keys in the boot ROM (R464): Ed25519, 32 bytes, then ML-DSA-65, 1,952 bytes (DESIGN CHOICE, log entry 84). -/
opaque tabnarKeys : List Byte

/-- Signatures that the identity keys make: of a message, and of a body under a context string (R465, R473) (DESIGN CHOICE, log entry 84). -/
opaque ed25519Sign : (msg : List Byte) → List Byte
opaque mldsaSign : (ctx body : List Byte) → List Byte

/-- Session value, by the number of values drawn (R477) (DESIGN CHOICE, log entry 11). -/
opaque sessionValue : Nat → List Byte

/-- SHA-384 of the boot ROM (R473) (DESIGN CHOICE, log entry 11). -/
opaque romDigest : List Byte

end Sys2Proof.Config
end

