-- ==== Sys2Proof/Machine/State.lean ====
section
/-! DEFINITION. The state of the A9 as the spec gives it: one structure per part of the device, plain data throughout.
A field's default value is its value in `State.reset`; the docstring of a field gives its width (or its meaning) and the
rules that name it.  Instants are counts of 1/3 ns on the model's own clock (`Clock.up`) unless a docstring says otherwise. -/

namespace Sys2Proof.Machine

/-- Why a run stops with a fault.  No command of the A9 stops it: every meaning answers a next state. -/
inductive Fault where
  /-- Raised by no meaning: the spec describes an outcome for every command.  It stands here so that the type has a
  value to name a stop of a later repair (safe: a stop proves nothing false). -/
  | noOutcomeGiven
deriving DecidableEq, Repr

/-- Why a command is refused by the model. -/
inductive Refusal where
  /-- Raised by a dispatch arm of a command without a meaning (safe: nothing is proved about it). -/
  | notModelled (mnemonic : String)
deriving DecidableEq, Repr

/-- What the A9 sends out of itself, in the order sent (R88, R92, R402 and the chapters that name each). -/
inductive Out where
  /-- A posted write to host memory. -/
  | hostWrite (addr : Nat) (bytes : List Byte)
  /-- A read of host memory by the ingest engine. -/
  | hostRead (addr len : Nat)
  /-- An MSI-X message on a vector. -/
  | msix (vector : Nat)
  /-- A packet or group of packets sent on a stand link: link, packet type, body bytes. -/
  | linkSend (link kind : Nat) (body : List Byte)
  /-- Blocks sent on lanes of a stand link: link, and for each block lane, header and body. -/
  | linkBlocks (link : Nat) (blocks : List (Nat × Nat × Nat))
  /-- The clock lane of a stand link starts or stops: link, whether it runs. -/
  | linkClock (link : Nat) (runs : Bool)
  /-- A skyline packet sent on a port: port, type, body bytes. -/
  | portSend (port kind : Nat) (body : List Byte)
  /-- An event record sent toward the root over a skyline port. -/
  | portEvent (port : Nat) (rec : List Byte)
  /-- A PTP message sent on an Ethernet port: 0 Sync, 1 Announce, 2 delay request, 3 its answer, 4 Follow_Up, with the PTP time it carries, ns, and
  the clock identity of the grandmaster served. -/
  | ptpSend (port kind : Nat) (time : Int) (grandmaster : Nat)
  /-- A management datagram sent on an Ethernet port. -/
  | mgmtSend (port : Nat) (bytes : List Byte)
  /-- A pulse on an output pin: pin number (0 FSYNC_OUT, 1 to 4 TPULSE0 to 3), width in ns, whether it is active low. -/
  | pulse (pin widthNs : Nat) (low : Bool)
  /-- A READY output driven to a level from an instant on. -/
  | ready (port : Nat) (high : Bool) (instant : Nat)
  /-- A READY output is left undriven. -/
  | readyOff (port : Nat)
  /-- A tick edge sent on a child port at an instant. -/
  | tickEdge (port instant : Nat)
  /-- Blocks sent on the lanes of a skyline port: port, and for each block lane, header and body. -/
  | portBlocks (port : Nat) (blocks : List (Nat × Nat × Nat))
  /-- A hop-measurement pulse on the TICK pair of a child-side port. -/
  | hopPulse (port : Nat)
  /-- The echo of a hop-measurement pulse on the READY pair. -/
  | hopEcho (port : Nat)
deriving DecidableEq, Repr

/-- An event record before it gets its ring's phase and sequence number (R87). -/
structure EventRec where
  /-- 16 (R87) -/
  code : Nat := 0
  /-- 8 (R87) -/
  sev : Nat := 0
  /-- 8 (R87) -/
  origin : Nat := 0
  /-- 8 (R87) -/
  die : Nat := 0xFF
  /-- 16 (R87) -/
  unit : Nat := 0xFFFF
  /-- 64, ns (R87) -/
  time : Nat := 0
  /-- 64 (R87) -/
  tick : Nat := 0
  /-- 32 (R87) -/
  txn : BitVec 32 := 0
  /-- 32 (R87) -/
  tag : BitVec 32 := 0
  /-- 16, saturates (R87) -/
  count : Nat := 1
  /-- 6 x 32, trailing zeros left out (R87) -/
  params : List Nat := []
deriving DecidableEq, Repr

/-- Device time, the frame tick and the running frame. -/
structure Clock where
  /-- count of 1/3 ns (the model's own clock) (R387); the model's own (DESIGN CHOICE), log entry 10 -/
  up : Nat := 0
  /-- 64-bit ns + 16-bit fraction, kept in 1/3 ns (R387) -/
  dev : Nat := 0
  /-- 64-bit tick index (R387) -/
  tick : Nat := 0
  /-- device time of the current tick, 1/3 ns (R389 R391) -/
  tickAt : Nat := 0
  /-- instant of the current tick on the model's own clock (R391); the model's own (DESIGN CHOICE), log entry 10 -/
  tickUp : Nat := 0
  /-- instant of the next tick on the model's own clock (R388 R391) -/
  nextUp : Nat := 50000000
  /-- frame blank in progress (R249) -/
  blank : Bool := false
  /-- current sub-frame 0..3 (R249) -/
  sub : Nat := 0
  /-- frame rate in force, 60 or 120 (R260) -/
  rate : Nat := 60
  /-- spread count in force (R260) -/
  spread : Nat := 1
  /-- TBREF present (R502); reset value a DESIGN CHOICE, log entry 2 -/
  tbref : Bool := true
  /-- tick of the last lead deadline run, plus 1 (R18); the model's own (DESIGN CHOICE), log entry 10 -/
  leadTick : Nat := 0
  /-- display tick of the last synthesis start run, plus 1 (R18); the model's own (DESIGN CHOICE), log entry 10 -/
  synthTick : Nat := 0
  /-- display tick of the last scan-out start run, plus 1 (R18); the model's own (DESIGN CHOICE), log entry 10 -/
  scanTick : Nat := 0
deriving DecidableEq, Repr

/-- A timing-mode change or accepted jump under way (R264, R395). -/
structure TimingChange where
  /-- tick index T of the loading frame (R264) -/
  loadTick : Nat := 0
  /-- rate from N on (R264) -/
  newRate : Nat := 60
  /-- spread from N on (R264) -/
  newSpread : Nat := 1
  /-- accepted step, ns (R395) -/
  jump : Option Int := none
  /-- starts at T: left Standby or Bring-up in force before the blank (R266) -/
  direct : Bool := false
  /-- device time has stepped (R395) -/
  stepped : Bool := false
  /-- TAG of the SCAN.TIMING that changes it (R61 R87) -/
  tag : BitVec 32 := 0
  /-- TXN_ID of its transaction (R87) -/
  txn : BitVec 32 := 0
  /-- streams are re-anchored for the ticks from N on (R140 R265) -/
  anchored : Bool := false
deriving DecidableEq, Repr

/-- FSYNC_IN (R400, R401). -/
structure FsyncIn where
  /-- 1 (R400) -/
  armed : Bool := true
  /-- 1 (R400) -/
  falling : Bool := false
  /-- 32 signed (R400) -/
  delayNs : Int := 0
  /-- edge instants ignored in the last 1 s (R401) -/
  ignored : List Nat := []
  /-- instant of last accepted edge (R401) -/
  last : Option Nat := none
  /-- consecutive off-rate edges (R401) -/
  offrate : Nat := 0
  /-- consecutive in-rate edges (R392 R401) -/
  inrate : Nat := 0
  /-- held over by cause 4: needs 16 in-rate edges (R401) -/
  recover : Bool := false
deriving DecidableEq, Repr

/-- One Ethernet port's PTP settings and state (R397, R398). -/
structure PtpPort where
  /-- 8 (R398) -/
  mode : Nat := 0
  /-- 8 (R398); reset value a DESIGN CHOICE, log entry 2 -/
  flags : BitVec 8 := 0
  /-- 8 (R398); reset value a DESIGN CHOICE, log entry 2 -/
  profile : Nat := 0
  /-- 8 (R398); reset value a DESIGN CHOICE, log entry 2 -/
  domain : Nat := 0
  /-- 8 (R398); reset value a DESIGN CHOICE, log entry 2 -/
  phy : Nat := 0
  /-- 8 signed (R398); reset value a DESIGN CHOICE, log entry 2 -/
  logAnnounce : Int := 0
  /-- 8 signed (R398); reset value a DESIGN CHOICE, log entry 2 -/
  logSync : Int := 0
  /-- 8 signed (R398); reset value a DESIGN CHOICE, log entry 2 -/
  logDelay : Int := 0
  /-- 8 (R398); reset value a DESIGN CHOICE, log entry 2 -/
  announceTimeout : Nat := 2
  /-- 8 (R398); reset value a DESIGN CHOICE, log entry 2 -/
  priority1 : Nat := 0
  /-- 8 (R398); reset value a DESIGN CHOICE, log entry 2 -/
  priority2 : Nat := 0
  /-- 16 (R398); reset value a DESIGN CHOICE, log entry 2 -/
  vlan : Nat := 0
  /-- 32 (R398); reset value a DESIGN CHOICE, log entry 2 -/
  ipv4 : BitVec 32 := 0
  /-- 32 (R398); reset value a DESIGN CHOICE, log entry 2 -/
  mask : BitVec 32 := 0
  /-- 32 (R398); reset value a DESIGN CHOICE, log entry 2 -/
  gateway : BitVec 32 := 0
  /-- 32 signed (R398); reset value a DESIGN CHOICE, log entry 2 -/
  asymNs : Int := 0
  /-- 64 signed (R398); reset value a DESIGN CHOICE, log entry 2 -/
  offsetS : Int := 0
  /-- 64, clock identity of the selected grandmaster (R399) -/
  master : Option (BitVec 64) := none
  /-- instant (R393) -/
  lastAnnounce : Nat := 0
  /-- 64 signed (R397); reset value a DESIGN CHOICE, log entry 2 -/
  pathDelayNs : Int := 0
  /-- device time of the last delay request, 1/3 ns (R397 R398) -/
  lastDelayReq : Nat := 0
  /-- latest Sync: its origin as device time, 2^-16 ns (R397) -/
  syncT1 : Int := 0
  /-- its arrival (R397) -/
  syncT2 : Int := 0
  /-- instants of the last Sync, Announce and delay request (R398) -/
  sentAt : List Nat := [0, 0, 0]
  /-- messages sent (model counter) (R398); the model's own (DESIGN CHOICE), log entry 10 -/
  sent : Nat := 0
deriving DecidableEq, Repr

/-- One timed pulse output (R403, R404). -/
structure TPulse where
  /-- 1 (R403) -/
  enable : Bool := false
  /-- 1 (R403); reset value a DESIGN CHOICE, log entry 2 -/
  periodic : Bool := false
  /-- 1 (R403); reset value a DESIGN CHOICE, log entry 2 -/
  activeLow : Bool := false
  /-- 32 (R403); reset value a DESIGN CHOICE, log entry 2 -/
  widthNs : Nat := 0
  /-- 64 (R403); reset value a DESIGN CHOICE, log entry 2 -/
  periodNs : Nat := 0
  /-- 64-bit instant, ns; low 48 bits compared (R404); reset value a DESIGN CHOICE, log entry 2 -/
  next : Nat := 0
  /-- pulses left; 0 no limit (R403); reset value a DESIGN CHOICE, log entry 2 -/
  left : Nat := 0
  /-- edges driven (model counter) (R403); the model's own (DESIGN CHOICE), log entry 10 -/
  fired : Nat := 0
deriving DecidableEq, Repr

/-- A stand of the stand map with its per-stand settings (R332, R258, R331, R279, R225). -/
structure StandCfg where
  /-- 8 (R332) -/
  link : Nat := 0
  /-- 8, recorded type (R332) -/
  stype : Nat := 0
  /-- 16 (R332) -/
  focal : Nat := 350
  /-- 32 (R332) -/
  x0 : Nat := 0
  /-- 32 (R332) -/
  y0 : Nat := 0
  /-- 64, recorded serial (R332) -/
  serial : Nat := 0
  /-- 16 (R258) -/
  levelR : Nat := 1800
  /-- 16 (R258) -/
  levelG : Nat := 2400
  /-- 16 (R258) -/
  levelB : Nat := 2400
  /-- 8 (R258) -/
  preWidth : Nat := 22
  /-- 3 x 1024 entries of 2 bytes; none: the bundle's table (R331) -/
  lut : Option (List Byte) := none
  /-- STEER.TABLE payload bytes 4 to 1567; none: the bundle's table (R279 R281) -/
  steer : Option (List Byte) := none
  /-- 4 x 16 signed, 0.1 C (R225) -/
  calT : List Int := [200, 350, 500, 650]
deriving DecidableEq, Repr

/-- STAND.LINK settings of a link (R330). -/
structure LinkCfg where
  /-- 8 (R330) -/
  rate : Nat := 0
  /-- 8 (R330) -/
  clocking : Nat := 0
  /-- 8 (R330) -/
  preset : Nat := 0xFF
deriving DecidableEq, Repr

/-- STREAM.OPEN parameters in the configuration (R123, R124). -/
structure StreamCfg where
  /-- 64 (R123) -/
  payload : List Byte := []
  /-- 8 (R123) -/
  queue : Nat := 0
  /-- 8 (R123) -/
  format : Nat := 0
  /-- 32 (R124) -/
  bufferMib : Nat := 0
  /-- 16 (R124) -/
  texels : Nat := 0
  /-- 16 (R124) -/
  rateNum : Nat := 0
  /-- 16 (R124) -/
  rateDen : Nat := 1
deriving DecidableEq, Repr

/-- CHAIN.REGION (R380). -/
structure WallRegion where
  /-- 32 (R380) -/
  gridW : Nat := 0
  /-- 32 (R380) -/
  gridH : Nat := 0
  /-- 32 (R380) -/
  x0 : Nat := 0
  /-- 32 (R380) -/
  y0 : Nat := 0
  /-- 32 (R380) -/
  w : Nat := 0
  /-- 32 (R380) -/
  h : Nat := 0
deriving DecidableEq, Repr

/-- A snapshot trigger (R453). -/
structure Trigger where
  /-- 8 (R453) -/
  id : Nat := 0
  /-- 8 (R453) -/
  kind : Nat := 1
  /-- 8 (R453) -/
  set : Nat := 0
  /-- 1 (R453) -/
  unitMatch : Bool := false
  /-- 16 (R453) -/
  event : Nat := 0
  /-- 16 (R453) -/
  unit : Nat := 0
  /-- 32 (R453) -/
  period : Nat := 0
deriving DecidableEq, Repr

/-- The committed configuration: every stageable setting (R73, R80). -/
structure Settings where
  /-- 3 (R49 R96) -/
  mode : Nat := 0
  /-- 8 (R96) -/
  modeFlags : BitVec 8 := 0
  /-- a stand map is in force (R332) -/
  mapped : Bool := false
  /-- 16 (R332) -/
  pitchUm : Nat := 1000
  /-- at most 128 (R332) -/
  stands : List StandCfg := []
  /-- 16 links (R330) -/
  links : List LinkCfg := List.replicate 16 {}
  /-- 8 (R260) -/
  rate : Nat := 60
  /-- 8 (R260) -/
  spread : Nat := 1
  /-- 8 (R260) -/
  cls : Nat := 0
  /-- 8 (R267) -/
  measFlags : BitVec 8 := 0
  /-- 8 (R267) -/
  measPass : Nat := 0
  /-- 16 (R267) -/
  measLinks : BitVec 16 := 0xFFFF
  /-- 2 x 32, MiB (R262) -/
  frameBase : List Nat := [0, 0]
  /-- 8 slots (R123 R125) -/
  streams : List (Option StreamCfg) := List.replicate 8 none
  /-- 32 bytes, every role 0xFF (R172 R173) -/
  bind : List Byte := List.replicate 3 0xFF ++ [0] ++ [0xFF, 0, 0, 0, 0xFF, 0, 0, 0, 0xFF, 0, 0, 0] ++ List.replicate 16 0
  /-- 4 payloads of SCENE.PLACE; [] at 0: the reset placement, at 1 to 3: unset (R170) -/
  places : List (List Byte) := [[], [], [], []]
  /-- payload of SCENE.LIFT; []: the reset parameters (R197) -/
  lift : List Byte := []
  /-- 8 payloads of COMPOSE.LAYER; [] disabled (R203) -/
  layers : List (List Byte) := List.replicate 8 []
  /-- 16 (R221) -/
  deadtimeNs : Nat := 0
  /-- FLAGS, K_R, K_G, K_B (R235) -/
  calPolicy : List Nat := [0, 50, 50, 50]
  /-- 8, 0 native (R344 R4) -/
  ordering : Nat := 0
  /-- 1 (R344); reset value a DESIGN CHOICE, log entry 8 -/
  pdOff : Bool := false
  /-- 16 (R344); reset value a DESIGN CHOICE, log entry 8 -/
  idleNs : Nat := 1000
  /-- 8, 0: not configured (R365 R366) -/
  chainAddr : Nat := 0
  /-- ROOT (R365) -/
  chainRoot : Bool := true
  /-- RING (R365) -/
  chainRing : Bool := false
  /-- 4 roles (root: ports 0 and 1 unused) (R364 R365) -/
  roles : List Nat := [0, 0, 3, 4]
  /-- 8 (R365) -/
  readyMask : BitVec 8 := 1
  /-- 8 (R365) -/
  maxRate : Nat := 0
  /-- none until the first CHAIN.REGION (R380) -/
  region : Option WallRegion := none
  /-- 32 (R376) -/
  graceUs : Nat := 500000
  /-- 8 (R390) -/
  source : Nat := 0
  /-- 32 (R390) -/
  jumpUs : Nat := 50
  /-- at most 16 (R453) -/
  triggers : List Trigger := []
  /-- at most 8 register sets of selectors (R453) -/
  sets : List (Nat × List (BitVec 32)) := []
  /-- 16 (R490) -/
  capW : Nat := 0
  /-- 1 (R490) -/
  noBoost : Bool := false
deriving DecidableEq, Repr

/-- Source, lock and jumps (R390 to R396). -/
structure TimeBase where
  /-- 8 (R390) -/
  source : Nat := 0
  /-- 32 (R390) -/
  jumpUs : Nat := 50
  /-- 0..4 (R389) -/
  state : Nat := 0
  /-- 32 signed saturating (R389) -/
  offsetNs : Int := 0
  /-- consecutive in-criterion measurements (R392) -/
  lockRun : Nat := 0
  /-- N0 fixed (R391) -/
  everLocked : Bool := false
  /-- a step measurement is due (R394) -/
  needStep : Bool := false
  /-- refused step, ns (R394) -/
  pendingStep : Option Int := none
  /-- step last reported (R394) -/
  reportedStep : Option Int := none
  /-- correction still to be slewed, ns (R388) -/
  slewNs : Int := 0
  /-- rate correction of device time against TBREF, ppb (R388 R393) -/
  rateNow : Int := 0
  /-- rate corrections of the last 64 s of lock, each with its instant (R393) -/
  rateLog : List (Nat × Int) := []
  /-- the parent announced a jump: the tick waits for its edge (R396) -/
  follow : Bool := false
  /-- instant at which the source applied (R393 R401) -/
  appliedAt : Nat := 0
  /-- timing-mode change in progress (R264) -/
  change : Option TimingChange := none
  /-- settings before what the last blank applied: its scan settings serve until N of a timing-mode change (R266); the model's own (DESIGN CHOICE), log entry 10 -/
  blankCfg : Option Settings := none
  /-- accepted jump waiting for its blank (R395) -/
  acceptedJump : Option Int := none
  /-- instant at which it was accepted (R395) -/
  acceptedUp : Nat := 0
  /-- N0 of the source-1 grid, 1/3 ns (R391) -/
  gridN0 : Nat := 0
  /-- sub-structure (R400) -/
  fsync : FsyncIn := {}
  /-- 2 ports (R397) -/
  ptp : List PtpPort := List.replicate 2 {}
  /-- 4 outputs (R403) -/
  tpulse : List TPulse := List.replicate 4 {}
  /-- tick runs on free from before the boot (R511) (R511) -/
  bootHold : Bool := false
deriving DecidableEq, Repr

/-- One mailbox: command area, response area, registers (R55, R61, R62). -/
structure Mailbox where
  /-- 4 KiB (bytes beyond the list read 0) (R47 R61); reset value a DESIGN CHOICE, log entry 3 -/
  cmdArea : List Byte := []
  /-- 4 KiB (R47 R62); reset value a DESIGN CHOICE, log entry 3 -/
  rspArea : List Byte := []
  /-- 2: 0 IDLE 1 PENDING 2 RUNNING 3 DONE (R55) -/
  state : Nat := 0
  /-- 16, wraps (R55) -/
  doneCount : Nat := 0
  /-- 32 (ENABLE 31, VECTOR 7:0) (R55) -/
  irq : BitVec 32 := 0
  /-- 32 (RING_BUSY 1, STALL 0) (R55) -/
  err : BitVec 32 := 0
  /-- instant of the ring (R55 R64) -/
  rungAt : Nat := 0
  /-- instant of acceptance (R67 R68) -/
  acceptedAt : Nat := 0
  /-- firmware's own copy of the running command (R56) -/
  running : List Byte := []
  /-- the running command was forwarded (R68) (R68) -/
  tunnelled : Bool := false
  /-- Ethernet port, KEY and COUNTER of the datagram whose command occupies the mailbox (R477) -/
  mgmt : Option (Nat × Nat × Nat) := none
  /-- instant at which STALL last set (R9); the model's own (DESIGN CHOICE), log entry 10 -/
  stallSet : Option Nat := none
  /-- EV_MAILBOX_STALL owed once FW_UP is 1 (R64) -/
  stallEvent : Bool := false
deriving DecidableEq, Repr

/-- A staged command held in a transaction (R76). -/
structure Staged where
  /-- 16 (R61) -/
  opcode : Nat := 0
  /-- 32 (R61) -/
  tag : BitVec 32 := 0
  /-- LENGTH bytes (R61) -/
  payload : List Byte := []
deriving DecidableEq, Repr

/-- A transaction (R75 to R85). -/
structure Txn where
  /-- 32: bits 2:0 mailbox, 31:3 count (R75) -/
  id : Nat := 0
  /-- at most 256 (R76) -/
  staged : List Staged := []
  /-- 32 (R75) -/
  timeoutMs : Nat := 0
  /-- instant the timer last started (R78) -/
  timerAt : Nat := 0
  /-- 0 open..7 aborted (R85) -/
  state : Nat := 0
  /-- 64 (R79) -/
  applyTick : Nat := 0
  /-- 64, ns (R79) -/
  commitTime : Nat := 0
  /-- commit-instant order (R83) -/
  order : Nat := 0
  /-- TAG of the committing command (R87) -/
  tag : BitVec 32 := 0
  /-- recorded in both complexes (R80 R424) -/
  both : Bool := true
  /-- 1, compute die that records the commit where one alone does (R80 R424) -/
  die : Nat := 0
  /-- its TXN.COMMIT is accepted and has not run: the timer stands (R78) -/
  committing : Bool := false
deriving DecidableEq, Repr

/-- One event ring's control group (R57, R58). -/
structure Ring where
  /-- 32 (R57) -/
  baseLo : BitVec 32 := 0
  /-- 32 (R57) -/
  baseHi : BitVec 32 := 0
  /-- 32 (R57) -/
  mirrorLo : BitVec 32 := 0
  /-- 32 (R57) -/
  mirrorHi : BitVec 32 := 0
  /-- 32 (R57) -/
  ctrl : BitVec 32 := 0
  /-- 5 (R57) -/
  log2 : Nat := 8
  /-- 20 (R57) -/
  pidx : Nat := 0
  /-- 1 (R57) -/
  phase : Bool := true
  /-- 20 (R57) -/
  cidx : Nat := 0
  /-- 16, saturates (R57) -/
  dropped : Nat := 0
  /-- 1 (R57) -/
  configErr : Bool := false
  /-- 1 (R57) -/
  mirrorFault : Bool := false
  /-- instant at which MIRROR_FAULT last set (R9); the model's own (DESIGN CHOICE), log entry 10 -/
  faultSet : Option Nat := none
  /-- 31, wraps (R87) -/
  seq : Nat := 0
  /-- at most 64 (R58) -/
  held : List EventRec := []
  /-- records since the last MSI-X message (R89) -/
  unsignalled : Nat := 0
  /-- instant of the oldest unsignalled record (R89) -/
  oldest : Nat := 0
deriving DecidableEq, Repr

/-- A compose layer in force (R203); bytes as staged. -/
structure LayerState where
  /-- 64 bytes of COMPOSE.LAYER, [] when disabled (R203) -/
  payload : List Byte := []
  /-- 64, base in force (NEW_BASE) (R207) -/
  base : Nat := 0
deriving DecidableEq, Repr

/-- A compose update (R207 to R211). -/
structure Update where
  /-- 32 (R207) -/
  seq : Nat := 0
  /-- 0..7 (R207) -/
  layer : Nat := 0
  /-- 0..15 (R206 R207) -/
  region : Nat := 0
  /-- 1 (R207) -/
  whole : Bool := false
  /-- 64 (R207) -/
  newBase : Option Nat := none
  /-- 16 (R207) -/
  x : Nat := 0
  /-- 16 (R207) -/
  y : Nat := 0
  /-- 16 (R207) -/
  w : Nat := 0
  /-- 16 (R207) -/
  h : Nat := 0
  /-- 32 (R207) -/
  afterBlit : Nat := 0
  /-- 32, SEQ of the update it queues behind (R207 R210) -/
  behind : Nat := 0
  /-- latched, not complete (R209) -/
  running : Bool := false
  /-- touched kerfs still to be written (stand, kerf) (R209 R211) -/
  kerfs : List (Nat × Nat) := []
  /-- the old placement, for region 15 (R206) -/
  oldRect : List Byte := []
deriving DecidableEq, Repr

/-- A queued 2D operation (R216). -/
structure Blit where
  /-- 32 (R216) -/
  seq : Nat := 0
  /-- 64 (R216) -/
  payload : List Byte := []
  /-- 32 (R220) -/
  tag : BitVec 32 := 0
deriving DecidableEq, Repr

/-- An armed watermark (R213). -/
structure Watermark where
  /-- 32 (R213) -/
  row : Nat := 0
  /-- 32 (R214) -/
  tag : BitVec 32 := 0
  /-- window number it is judged in (R213 R214) -/
  window : Nat := 0
deriving DecidableEq, Repr

/-- Compose layers, updates, the 2D engine. -/
structure Compose where
  /-- 8 layers (R203) -/
  layers : List LayerState := List.replicate 8 {}
  /-- at most 256 (R208 R209) -/
  updates : List Update := []
  /-- 32, last SEQ issued (R207) -/
  updateSeq : Nat := 0
  /-- 32, compose sequence (R209) -/
  latchedSeq : Nat := 0
  /-- at most 64, front running (R217 R220) -/
  blits : List Blit := []
  /-- 32, last SEQ issued (R216) -/
  blitSeq : Nat := 0
  /-- instant from which the bursts of the running operation are counted (R221); the model's own (DESIGN CHOICE), log entry 10 -/
  blitStart : Nat := 0
  /-- first burst counted from that instant (R221); the model's own (DESIGN CHOICE), log entry 10 -/
  blitFrom : Nat := 0
  /-- 32, highest SEQ completed or discarded (R209 R220) -/
  blitDone : Nat := 0
  /-- 32, completed since the last EV_BLIT_DONE (R220) -/
  blitsSince : Nat := 0
  /-- 16 (R221) -/
  deadtimeNs : Nat := 0
  /-- at most 16 (R213) -/
  watermarks : List Watermark := []
deriving DecidableEq, Repr

/-- What the decoders hold of one substream (R142, R156): the coded pictures since its last random-access picture. -/
structure Plane where
  /-- 16, substream (R145 R121) -/
  sub : Nat := 0
  /-- 1 VVC 2 HEVC 3 MV-HEVC (R135) -/
  codec : Nat := 0
  /-- sample bit depth, 8 or 10 (R135 R159) -/
  bits : Nat := 10
  /-- picture width (R158) -/
  w : Nat := 0
  /-- picture height (R158) -/
  h : Nat := 0
  /-- access units in decoding order, from the last IDR or CRA picture on (R146 R163) -/
  aus : List (List Byte) := []
deriving DecidableEq, Repr

/-- A descriptor read from a queue, with its index (R119). -/
structure Desc where
  /-- queue entry (R119) -/
  index : Nat := 0
  /-- 64 (R119) -/
  bytes : List Byte := []
  /-- fetched and checked: its data is placed next (R118 R122); the model's own (DESIGN CHOICE), log entry 10 -/
  checked : Bool := false
  /-- its reading failed twice (cause 8) (R122); the model's own (DESIGN CHOICE), log entry 10 -/
  failed : Bool := false
  /-- dropped here, and read for the children alone (R129); the model's own (DESIGN CHOICE), log entry 10 -/
  onlyRelay : Bool := false
deriving DecidableEq, Repr

/-- A submission queue (R117, R118). -/
structure Queue where
  /-- 8, 0 unconfigured (R117) -/
  log2 : Nat := 0
  /-- 64 (R117); reset value a DESIGN CHOICE, log entry 3 -/
  base : Nat := 0
  /-- 64 (R117); reset value a DESIGN CHOICE, log entry 3 -/
  pidxAddr : Nat := 0
  /-- 64 (R117); reset value a DESIGN CHOICE, log entry 3 -/
  cidxAddr : Nat := 0
  /-- 16 (R117 R118) -/
  cidx : Nat := 0
  /-- 16, index up to which descriptors were read (R118); the model's own (DESIGN CHOICE), log entry 10 -/
  read : Nat := 0
  /-- 32, consumer index last written to CIDX_ADDR (R118) -/
  mirrored : Nat := 0
  /-- descriptors read and not yet used up, the first one first (R118 R127); the model's own (DESIGN CHOICE), log entry 10 -/
  fetched : List Desc := []
  /-- instant of the last cause-10 report (R122); the model's own (DESIGN CHOICE), log entry 10 -/
  badIdxAt : Option Nat := none
  /-- instant of the last poll (R118); the model's own (DESIGN CHOICE), log entry 10 -/
  polled : Option Nat := none
deriving DecidableEq, Repr

/-- A scene frame of a stream (R120, R142). -/
structure SceneFrame where
  /-- 32 (R120) -/
  num : Nat := 0
  /-- 64 (R120) -/
  pts : Nat := 0
  /-- tick (R140) -/
  due : Nat := 0
  /-- 1 (R120) -/
  rap : Bool := false
  /-- first descriptor fetched (false: expected) (R142) -/
  seen : Bool := false
  /-- every byte placed (R120) -/
  complete : Bool := false
  /-- instant of completion (R144) -/
  completeAt : Nat := 0
  /-- parse failure (R166) -/
  bad : Bool := false
  /-- released for decoding (R142) -/
  released : Bool := false
  /-- decode done (R142) -/
  decoded : Bool := false
  /-- LAST descriptor fetched (R119) -/
  lastSeen : Bool := false
  /-- bytes placed (R127) -/
  placed : Nat := 0
  /-- control substream bytes (R149) -/
  control : List Byte := []
  /-- substreams that carried data, one entry per access unit (R146) -/
  subs : List Nat := []
  /-- decrypted data placed in both dies: substream and bytes, in order (R127 R134) -/
  parts : List (Nat × List Byte) := []
  /-- the sequence header in force for the frame (LRS) (R145 R164) -/
  seq : List Byte := []
  /-- number of that sequence in the stream (R164); the model's own (DESIGN CHOICE), log entry 10 -/
  seqNo : Nat := 0
  /-- lead deadline of the due tick minus completion, 1/3 ns, once released (R144); the model's own (DESIGN CHOICE), log entry 10 -/
  margin : Int := 0
  /-- what the decoders hold after it, once decoded (R142 R156) -/
  planes : List Plane := []
deriving DecidableEq, Repr

/-- A loaded content key (R131). -/
structure KeySlot where
  /-- 16 bytes (R131) -/
  kid : List Byte := []
  /-- 64 (R131) -/
  notAfter : Nat := 0
  /-- 16 bytes, in the security domain only (R132) -/
  key : List Byte := []
deriving DecidableEq, Repr

/-- The descriptor being read by the ingest engine (R128, R133): the head of a stream's queue. -/
structure Serve where
  /-- 3 (R128) -/
  stream : Nat := 0
  /-- the key it took at the start (R133) -/
  key : Option KeySlot := none
deriving DecidableEq, Repr

/-- An open stream slot (R123 to R144). -/
structure SceneStream where
  /-- 8 (R123) -/
  queue : Nat := 0
  /-- 8 (R123) -/
  format : Nat := 0
  /-- 8 (R123) -/
  codec : Nat := 0
  /-- 8 (R123) -/
  protect : Nat := 0
  /-- 8 (R123) -/
  crypt : Nat := 0
  /-- 8 (R123) -/
  skip : Nat := 0
  /-- 64 ns, kept in 1/3 ns (R123 R140) -/
  ptsOrigin : Int := 0
  /-- 64 (R123 R140) -/
  tickOrigin : Nat := 0
  /-- 32 (R123) -/
  bufferMib : Nat := 0
  /-- 8 (R123) -/
  high : Nat := 4
  /-- 8 (R123) -/
  low : Nat := 2
  /-- 16 (R123) -/
  texels : Nat := 32
  /-- 16 (R123) -/
  eyeW : Nat := 0
  /-- 16 (R123) -/
  eyeH : Nat := 0
  /-- 16 (R123) -/
  rateNum : Nat := 1
  /-- 16 (R123) -/
  rateDen : Nat := 1
  /-- 1 (R124 R142) -/
  awaitRap : Bool := true
  /-- END fetched (R126) -/
  ended : Bool := false
  /-- EV_STREAM_END raised (R125 R126) -/
  endRaised : Bool := false
  /-- 1 (R125) -/
  draining : Bool := false
  /-- closes at the next blank (R125) -/
  drainDue : Bool := false
  /-- 1/3 ns of fetching time with an empty queue (R125) -/
  emptyFor : Nat := 0
  /-- fetch stopped at HIGH_FRAMES or a full share (R127) -/
  stopped : Bool := false
  /-- FRAME whose descriptors are skipped (R122) -/
  discarding : Option Nat := none
  /-- frames known, oldest first (R142) -/
  frames : List SceneFrame := []
  /-- frame whose planes synthesis uses (R142 R155) -/
  inUse : Option SceneFrame := none
  /-- newest FRAME and PTS fetched (R120 R142) -/
  lastFrame : Option (Nat × Nat) := none
  /-- last due tick (R141) -/
  lastDue : Option Nat := none
  /-- sequence header in force (LRS) (R145 R164) -/
  seqHdr : List Byte := []
  /-- previous layer descriptor per slot (R154) -/
  layerDesc : List (Nat × List Byte) := []
  /-- FRAME of the frame that those and prevActive are of (R154); the model's own (DESIGN CHOICE), log entry 10 -/
  prevFrame : Option Nat := none
  /-- ACTIVE_MASK of the previous frame (R154 R155) -/
  prevActive : BitVec 16 := 0
  /-- BACKGROUND in use (R155) -/
  background : BitVec 32 := 0
  /-- ACTIVE_MASK in use (R155) -/
  activeUsed : BitVec 16 := 0
  /-- 32, scene generation (R155); reset value a DESIGN CHOICE, log entry 4 -/
  sceneGen : Nat := 0
  /-- slot -> 32-bit slot generation, scene generation at which it last changed (R155 R184); reset value a DESIGN CHOICE, log entry 4 -/
  slotGens : List (Nat × Nat × Nat) := []
  /-- 32, scene generation at which ACTIVE_MASK or BACKGROUND last changed (R184); the model's own (DESIGN CHOICE), log entry 10 -/
  activeGen : Nat := 0
  /-- layer descriptor in use per slot (R154 R182) -/
  descUsed : List (Nat × List Byte) := []
  /-- sequence header of the frame in use (R164) -/
  seqUsed : List Byte := []
  /-- sequences begun, by the headers parsed (R164); the model's own (DESIGN CHOICE), log entry 10 -/
  seqNo : Nat := 0
  /-- number of the sequence of the last frame released (R164); the model's own (DESIGN CHOICE), log entry 10 -/
  seqReleased : Nat := 0
  /-- number of the sequence of the last frame decoded (R164); the model's own (DESIGN CHOICE), log entry 10 -/
  seqDecoded : Nat := 0
  /-- number of the sequence of the frame in use (R164); the model's own (DESIGN CHOICE), log entry 10 -/
  seqTaken : Nat := 0
  /-- what the decoders hold after the last frame decoded (R142 R156) -/
  planes : List Plane := []
  /-- substreams whose first picture since their slot became active was decoded (R163); the model's own (DESIGN CHOICE), log entry 10 -/
  started : List Nat := []
  /-- relayed descriptors that wait for a key slot, first one first (R129 R133); the model's own (DESIGN CHOICE), log entry 10 -/
  relayQ : List (List Byte × Placed) := []
  /-- 4 slots (R131) -/
  keys : List (Option KeySlot) := [none, none, none, none]
  /-- substream, decoder, load in luma samples/s times RATE_DEN (R136) -/
  decoders : List (Nat × Nat × Nat) := []
  /-- substreams are assigned at the next random-access point (R136 R164); the model's own (DESIGN CHOICE), log entry 10 -/
  reassign : Bool := true
  /-- substream and its picture size, as last read (R136); the model's own (DESIGN CHOICE), log entry 10 -/
  sizes : List (Nat × Nat × Nat) := []
  /-- 32 (R367) -/
  relaySeq : Nat := 0
  /-- tick of the last lead deadline that had a candidate, and the candidate's FRAME (R142); the model's own (DESIGN CHOICE), log entry 10 -/
  cand : Option (Nat × Nat) := none
  /-- 32, consecutive missed ticks (R143) -/
  missRun : Nat := 0
  /-- last tick missed (R143); the model's own (DESIGN CHOICE), log entry 10 -/
  missTick : Option Nat := none
  /-- tick that ends the blank at which the stream opened (R140); the model's own (DESIGN CHOICE), log entry 10 -/
  openedFor : Nat := 0
  /-- expected frames after the newest fetched that were abandoned (R142); the model's own (DESIGN CHOICE), log entry 10 -/
  expGone : Nat := 0
  /-- discards older frames as ingest resumes (R93 R29) -/
  resuming : Bool := false
  /-- 64 (R144) -/
  descriptors : Nat := 0
  /-- 64 (R144) -/
  bytes : Nat := 0
  /-- 32 (R144) -/
  decoded : Nat := 0
  /-- 32 (R144) -/
  misses : Nat := 0
  /-- 32 (R144) -/
  discardedLate : Nat := 0
  /-- 32 (R144) -/
  discardedRap : Nat := 0
  /-- 32 (R144) -/
  queueErrors : Nat := 0
  /-- 32 (R144) -/
  decodeErrors : Nat := 0
  /-- 32 (R144) -/
  keyRefusals : Nat := 0
  /-- 8 (R144) -/
  minHeld : Nat := 255
  /-- 32 signed, us (R144) -/
  minMargin : Int := 2147483647
  /-- 64 (R144) -/
  lastPts : Nat := 0
  /-- 64 (R144) -/
  lastDueTick : Nat := 0
deriving DecidableEq, Repr

/-- Queues, streams, decoders. -/
structure Ingest where
  /-- 16 (R117) -/
  pollUs : Nat := 50
  /-- 16 queues (R116) -/
  queues : List Queue := List.replicate 16 {}
  /-- 8 slots (R116) -/
  streams : List (Option SceneStream) := List.replicate 8 none
  /-- keys delivered for an armed open (R131 R132) -/
  armedKeys : List (Nat × List (Option KeySlot)) := []
  /-- 8 decoders: 0 idle 1 decoding 2 fenced 3 retired (R43) -/
  decState : List Nat := List.replicate 8 0
  /-- ingest resumes at a play mode or D0 (R29 R93) -/
  resume : Bool := false
  /-- the descriptor whose data the engine reads now (R128 R133) -/
  serving : Option Serve := none
  /-- stream served last (R128); the model's own (DESIGN CHOICE), log entry 10 -/
  lastServed : Nat := 7
  /-- streams closed since the last synthesis start: they leave their roles there (R173); the model's own (DESIGN CHOICE), log entry 10 -/
  unbind : List Nat := []
  /-- 8, consecutive lifted frames below 0.25 pixel (R202) -/
  liftFlat : Nat := 0
  /-- cause, instant of the last EV_LIFT_DEGRADED 2 to 4 (R202); the model's own (DESIGN CHOICE), log entry 10 -/
  liftEvents : List (Nat × Nat) := []
deriving DecidableEq, Repr

/-- One steering band of a stand: state and journal record (R277, R283, R290). -/
structure Band where
  /-- 2 (R297); reset value a DESIGN CHOICE, log entry 4 -/
  state : Nat := 0
  /-- classed known (R294) -/
  known : Bool := false
  /-- 2, FROM (R290) -/
  fromSt : Nat := 0
  /-- 2, TO (R290) -/
  toSt : Nat := 0
  /-- IN_FLIGHT (R290) -/
  inFlight : Bool := false
  /-- FORCED (R290) -/
  forced : Bool := false
  /-- 5: sub-frame and bin (R290) -/
  window : Nat := 0
  /-- 16 (R290) -/
  tick : Nat := 0
  /-- 16 (R290) -/
  swAmp : Nat := 0
  /-- 16 (R290) -/
  swWidth : Nat := 0
  /-- 16 (R290) -/
  balAmp : Nat := 0
  /-- 16 (R290) -/
  balX : Nat := 0
  /-- 16 (R290) -/
  balY : Nat := 0
  /-- 32 signed mV us, kept in 1/10,000 (R283 R290) -/
  dcX : Int := 0
  /-- 32 signed mV us, kept in 1/10,000 (R283 R290) -/
  dcY : Int := 0
  /-- the pair in flight is a compensation pulse of the known-state sequence (R295); the model's own (DESIGN CHOICE), log entry 10 -/
  comp : Bool := false
  /-- width of the compensation pulse of stage X, 0.1 us, signed (R295 R315); reset value a DESIGN CHOICE, log entry 4 -/
  compX : Int := 0
  /-- as compX, stage Y (R295 R315); reset value a DESIGN CHOICE, log entry 4 -/
  compY : Int := 0
  /-- EV_STEER_DC raised, not re-armed (R283) -/
  dcRaised : Bool := false
  /-- the last window was acknowledged (R288) -/
  acked : Bool := true
deriving DecidableEq, Repr

/-- A fault record of a stand's fault list (R242). -/
structure ChanFault where
  /-- 16 (R242) -/
  hogel : Nat := 0
  /-- 8 (R242) -/
  emitter : Nat := 0
  /-- 8 (R242) -/
  failed : BitVec 8 := 0
  /-- 8 (R242) -/
  shorted : BitVec 8 := 0
  /-- 64, ns (R242) -/
  time : Nat := 0
deriving DecidableEq, Repr

/-- A kerf context (R181) with its select bit. -/
structure Kerf where
  /-- 32 (R181); reset value a DESIGN CHOICE, log entry 4 -/
  sceneGen : Nat := 0
  /-- 3 x 16 (R181); reset value a DESIGN CHOICE, log entry 4 -/
  insetGen : List Nat := [0, 0, 0]
  /-- 16 (R181); reset value a DESIGN CHOICE, log entry 4 -/
  layerMask : Nat := 0
  /-- 8 (R181); reset value a DESIGN CHOICE, log entry 4 -/
  composeMask : Nat := 0
  /-- 8 (R181); reset value a DESIGN CHOICE, log entry 4 -/
  insetMask : Nat := 0
  /-- FLAGS bit 0 (R181) -/
  late : Bool := false
  /-- FLAGS bit 1 (R181 R185) -/
  valid : Bool := false
  /-- FLAGS bit 2 (R181 R185) -/
  invalid : Bool := true
  /-- 16 (R181); reset value a DESIGN CHOICE, log entry 4 -/
  calGen : Nat := 0
  /-- 16 (R181); reset value a DESIGN CHOICE, log entry 4 -/
  concealGen : Nat := 0
  /-- 16 (R181) -/
  composeRegion : Nat := 0xFFFF
  /-- 32 (R181); reset value a DESIGN CHOICE, log entry 4 -/
  composeWant : Nat := 0
  /-- 32 (R181); reset value a DESIGN CHOICE, log entry 4 -/
  composeDone : Nat := 0
  /-- 32 (R181); reset value a DESIGN CHOICE, log entry 4 -/
  lastTick : Nat := 0
  /-- 16, saturates (R181) -/
  lateRun : Nat := 0
  /-- 32, binary32 (R181 R182); reset value a DESIGN CHOICE, log entry 4 -/
  nearZ : Nat := 0
  /-- 32, binary32 (R181 R182); reset value a DESIGN CHOICE, log entry 4 -/
  farZ : Nat := 0
  /-- 16, A9-wide reed that last took it (R181 R186) -/
  owner : Nat := 0xFFFF
  /-- 32, reed cycles of the last synthesis, saturates (R181 R187); reset value a DESIGN CHOICE, log entry 4 -/
  cost : Nat := 0
  /-- 32, first concealment entry in 64-byte units, 0 none (R181 R243) -/
  concealPtr : Nat := 0
  /-- 1, the ray frame holding the current rays (R22); reset value a DESIGN CHOICE, log entry 4 -/
  select : Nat := 0
deriving DecidableEq, Repr

/-- A rebuild of a stand's concealment entries (R243). -/
structure Rebuild where
  /-- instant of the declaration that asked for it (R243) -/
  asked : Nat := 0
  /-- the fault list it is for (R242 R243) -/
  faults : List ChanFault := []
  /-- the entries are rebuilt (R243) -/
  ready : Bool := false
  /-- the rebuilt entries (R243 R246) -/
  entries : List (Nat × Nat × Nat × Nat) := []
deriving DecidableEq, Repr

/-- Calibration state of a stand (R222 to R242); records lie in the frame store (R224). -/
structure Cal where
  /-- 32, cd/m2 (R229); reset value a DESIGN CHOICE, log entry 4 -/
  lumFull : Nat := 0
  /-- 16 (R227); reset value a DESIGN CHOICE, log entry 4 -/
  liveGen : Nat := 0
  /-- T of the last bake, 0.1 C (R227) -/
  bakeT : Option Int := none
  /-- instant at which the running bake started (R228); the model's own (DESIGN CHOICE), log entry 10 -/
  bakeFrom : Nat := 0
  /-- a reload of the sets waits for the running operation (R358); the model's own (DESIGN CHOICE), log entry 10 -/
  reload : Bool := false
  /-- T latched by the running bake (R227) -/
  baking : Option Int := none
  /-- running operation: 0 none 1 load 2 measure 3 read 4 Bring-up 5 admission (R232) -/
  op : Nat := 0
  /-- payload of the running operation (R232) -/
  opParams : List Byte := []
  /-- TAG (R87) -/
  opTag : BitVec 32 := 0
  /-- fault list (R242) -/
  faults : List ChanFault := []
  /-- rebuilds of its concealment entries that await a synthesis start, oldest first (R243) -/
  rebuilds : List Rebuild := []
  /-- 16 (R243); reset value a DESIGN CHOICE, log entry 4 -/
  concealGen : Nat := 0
  /-- concealment entries in force: receiver emitter, source emitter, WEIGHT code, channels they carry (R244 R246) -/
  entries : List (Nat × Nat × Nat × Nat) := []
  /-- 4,194,304 x 3 x 8: channels whose code is not 128, by channel, rising (R236) -/
  trims : List (Nat × Nat) := []
  /-- hogels whose breach was reported, with the condition of R247, 1 or 2 (R248) -/
  breaches : List (Nat × Nat) := []
  /-- an abandoned bake left the live set of no one bake (R231 R358); the model's own (DESIGN CHOICE), log entry 10 -/
  mixed : Bool := false
  /-- CAL.READ of the live set, payload and TAG, that waits for a completed bake (R231 R232); the model's own (DESIGN CHOICE), log entry 10 -/
  parked : Option (List Byte × Word) := none
  /-- channel, candidate trim, retries (repeat agreement) (R238) -/
  cand : List (Nat × Rat × Nat) := []
  /-- channel and code accepted in this pass (R240) -/
  newTrims : List (Nat × Nat) := []
  /-- Calibrate frame: channel, sum of samples, count (R269) -/
  samples : List (Nat × Int × Nat) := []
  /-- channels rejected this pass per cause (R240) -/
  rejected : List Nat := [0, 0, 0]
  /-- channels accepted this pass (R451) -/
  acceptedN : Nat := 0
  /-- 0 repeat agreement, 1 plausibility; fixed at pass start (R237) -/
  method : Nat := 0
  /-- next measurement row (R268) -/
  row : Nat := 0
  /-- 32, passes since the stand entered the map (R268) -/
  passes : Nat := 0
  /-- passes left of a CAL.MEASURE (R241) -/
  passLeft : Nat := 0
  /-- bytes of the stand's memory that the running load has received, by offset (R319) -/
  memory : List Host.Cell := []
  /-- offset up to which it has received them (R319) -/
  memoryTo : Nat := 0
deriving DecidableEq, Repr

/-- Run-time state of a stand of the map in force, by index. -/
structure Stand where
  /-- 40 bytes, latest STATUS packet (R323 R333) -/
  statusBytes : List Byte := []
  /-- 8 (R323) -/
  stypeSeen : Nat := 0
  /-- 64 (R323 R332) -/
  serialSeen : Nat := 0
  /-- STATUS received since the link came up, and not since removed (R438 R439) -/
  seen : Bool := false
  /-- STATUS received since the link last came up (R332) -/
  reported : Bool := false
  /-- 16 (R323) -/
  flags : BitVec 16 := 0
  /-- 16, mV (R286 R290); reset value a DESIGN CHOICE, log entry 8 -/
  railP : Nat := 0
  /-- 16, mV (R286 R290); reset value a DESIGN CHOICE, log entry 8 -/
  railN : Nat := 0
  /-- 16 (R323) -/
  failedDrivers : Nat := 0
  /-- 16 signed, 0.1 C (R274 R320) -/
  temp : Option Int := none
  /-- EV_STAND_TEMP raised, not re-armed (R275) -/
  tempAlarm : Bool := false
  /-- EV_STAND_TEMP raised for want of readings (R275) -/
  tempLost : Bool := false
  /-- frames without a valid TEMP (R275) -/
  tempMiss : Nat := 0
  /-- frames without STATUS (R438) -/
  statusMiss : Nat := 0
  /-- 1 (R114) -/
  excluded : Bool := false
  /-- 1 (R437) -/
  released : Bool := false
  /-- bands parked (R437) -/
  releaseDone : Bool := false
  /-- the frame in progress drives the bands of a released stand to state 0 (R437) -/
  parking : Bool := false
  /-- 1 (R438) -/
  removed : Bool := false
  /-- the stand is kept dark (R114 R287) -/
  dark : Bool := true
  /-- completed Bring-up (R97) -/
  ready : Bool := false
  /-- the receiver holds tables and calibration (R296 R439) -/
  loaded : Bool := false
  /-- admission step 0..5 (R439) -/
  admission : Nat := 0
  /-- KEEP_TRIMS (R439) -/
  admitKeep : Bool := false
  /-- TAG of STAND.ADMIT (R439) -/
  admitTag : BitVec 32 := 0
  /-- progress in a Bring-up or rejoin: 1 identity checked, 2 loading, 3 loaded, 4 sequence started, 5 sequence ended (R113 R417); the model's own (DESIGN CHOICE), log entry 10 -/
  bring : Nat := 0
  /-- EV_STAND_READY owed (R439) -/
  firstLit : Bool := false
  /-- 3 (R282); reset value a DESIGN CHOICE, log entry 8 -/
  bin : Nat := 0
  /-- window (tick x 4 + sub-frame, plus 1) whose journal records and STEER packet were last made (R288); the model's own (DESIGN CHOICE), log entry 10 -/
  steerWin : Nat := 0
  /-- window (plus 1) last acknowledged (R288); the model's own (DESIGN CHOICE), log entry 10 -/
  ackWin : Nat := 0
  /-- 8 bands (R277) -/
  bands : List Band := List.replicate 8 {}
  /-- known-state sequence: 0 none, else 1 + frames run (R295) -/
  kss : Nat := 0
  /-- a sequence starts at the next tick (R296) -/
  kssDue : Bool := false
  /-- frames used by a sequence that ends with this frame, reported at its tick (R295); the model's own (DESIGN CHOICE), log entry 10 -/
  kssEnd : Nat := 0
  /-- unknown bands at its start (R295) -/
  kssMask : BitVec 8 := 0
  /-- dark under 4 x DC_LIMIT (R283) -/
  dcHold : Bool := false
  /-- 1 (R287) -/
  railFault : Bool := false
  /-- instant both rails came back in range (R287) -/
  railOkAt : Option Nat := none
  /-- 8, of the last frame (R297) -/
  darkMask : BitVec 8 := 0
  /-- bands dark so far in the frame in progress (R285 R297) -/
  darkNow : BitVec 8 := 0
  /-- a drive table waits to be sent (R281) -/
  steerDue : Bool := false
  /-- 32 (R297) -/
  darkCount : Nat := 0
  /-- 32 (R297) -/
  ackMissing : Nat := 0
  /-- 32 (R297) -/
  dcEvents : Nat := 0
  /-- 64 (R297) -/
  pairs : Nat := 0
  /-- 1, code-to-width slot in force (R316); reset value a DESIGN CHOICE, log entry 8 -/
  lutSlot : Nat := 0
  /-- a LOAD_LUT awaits its ACK (R331) -/
  lutPending : Bool := false
  /-- the inactive slot holds an acknowledged table (R331) -/
  lutAcked : Bool := false
  /-- the switch applied and waits for a blank after the ACK (R331) -/
  lutWant : Bool := false
  /-- tables that armed STAND.LUT commands bring to the stand, each with the tick of its blank, in that order; the first lies in the inactive slot or is on its way there (R331); the model's own (DESIGN CHOICE), log entry 10 -/
  lutNext : List (Nat × List Byte) := []
  /-- in held class (R256 R257) -/
  held : Bool := false
  /-- a kerf was written since the last loading frame (R257) -/
  wrote : Bool := false
  /-- given a loading frame at the last scan-out start (R257) -/
  loadNext : Bool := false
  /-- 2, KIND of the SCAN packet of the frame in progress (R316) -/
  kind : Nat := 3
  /-- sub-structure (R224) -/
  cal : Cal := {}
  /-- context of every kerf not listed in kerfs (R181); the model's own (DESIGN CHOICE), log entry 10 -/
  kerfBase : Kerf := {}
  /-- contexts that differ, by stand-local kerf, rising (R181); the model's own (DESIGN CHOICE), log entry 10 -/
  kerfs : List (Nat × Kerf) := []
deriving DecidableEq, Repr

/-- Run-time state of a stand link (R299 to R334). -/
structure Link where
  /-- 0 down 1 training 2 up 3 up on spare 4 up at 7/8 5 asleep (R40) -/
  state : Nat := 0
  /-- STATE shown when awake (2, 3 or 4) (R40); the model's own (DESIGN CHOICE), log entry 10 -/
  awake : Nat := 2
  /-- 8 (R40 R333) -/
  spared : Nat := 0xFF
  /-- 8 (R333) -/
  narrowed : Nat := 0xFF
  /-- usable (R306 R333); reset value a DESIGN CHOICE, log entry 8 -/
  dataSpare : Bool := true
  /-- usable (R306 R333); reset value a DESIGN CHOICE, log entry 8 -/
  retSpare : Bool := true
  /-- 1 (R333) -/
  retOnSpare : Bool := false
  /-- 12 x 16, mV (R333); reset value a DESIGN CHOICE, log entry 8 -/
  eye : List Nat := List.replicate 12 0
  /-- failed attempts (R114) -/
  attempts : Nat := 0
  /-- instant the attempt began (R304) -/
  attemptAt : Nat := 0
  /-- instant the recovery began (R312) -/
  recovering : Option Nat := none
  /-- instants of recoveries in the last 1 s (R312) -/
  recoveryTimes : List Nat := []
  /-- 15, next SEQ to send (R309) -/
  txNext : Nat := 0
  /-- 15, oldest unacknowledged SEQ (R311) -/
  txAcked : Nat := 0
  /-- ACK_SEQ being replayed (R311) -/
  txReplay : Option Nat := none
  /-- instant ACK_SEQ last advanced (R311) -/
  txSince : Nat := 0
  /-- replays from one ACK_SEQ without progress (R312) -/
  txReplays : Nat := 0
  /-- 15 (R310) -/
  rxExpect : Nat := 0
  /-- discarding until REPLAY (R310) -/
  rxDiscard : Bool := false
  /-- replay buffer: bodies of the unacknowledged frames, oldest first (R311) -/
  txHeld : List (List Byte) := []
  /-- 9 x 31, scrambler per data lane and spare (R303); reset value a DESIGN CHOICE, log entry 8 -/
  txScr : List Nat := List.replicate 9 0
  /-- 2 x 31, scrambler of the return lane and its spare (R303); reset value a DESIGN CHOICE, log entry 8 -/
  rxScr : List Nat := [0, 0]
  /-- active lane that takes the next block (R309) -/
  txDeal : Nat := 0
  /-- blocks sent since the last SKIP (R302) -/
  txSkip : Nat := 0
  /-- 10 x (pre, post) of the data, spare and clock lanes (R308); reset value a DESIGN CHOICE, log entry 8 -/
  taps : List (Nat × Nat) := List.replicate 10 (0, 0)
  /-- return lane and its spare arrive inverted (R307) -/
  inverted : List Bool := [false, false]
  /-- transmit direction: 0 awake 1 doze 2 sleep (R329) -/
  doze : Nat := 0
  /-- return direction (R329) -/
  retDoze : Nat := 0
  /-- RETURN_POWER in force (R317 R329); reset value a DESIGN CHOICE, log entry 8 -/
  retPower : Nat := 1
  /-- CMDs awaiting ACK: CMD_ID, stand position, OP (R317) -/
  cmds : List (Nat × Nat × Nat) := []
  /-- 16, next CMD_ID (R317); reset value a DESIGN CHOICE, log entry 8 -/
  cmdNext : Nat := 0
  /-- 64 (R333) -/
  frames : Nat := 0
  /-- 32 (R333) -/
  naked : Nat := 0
  /-- 32 (R333) -/
  rxCrc : Nat := 0
  /-- 32 (R333) -/
  timeouts : Nat := 0
  /-- 32 (R333) -/
  recoveries : Nat := 0
  /-- 32 (R333) -/
  skips : Nat := 0
  /-- 32 (R326 R333) -/
  heldSubs : Nat := 0
  /-- window (plus 1) of the latest sub-frame whose RAY packets have begun (R326); the model's own (DESIGN CHOICE), log entry 10 -/
  rayWin : Nat := 0
  /-- first window that the held scheme of a narrowed link serves (R326); the model's own (DESIGN CHOICE), log entry 10 -/
  narrowFrom : Nat := 0
  /-- position being measured (R268) -/
  measStand : Nat := 0
  /-- measurement slots whose samples are awaited: tick, sub-frame, stand, row (R234 R268); the model's own (DESIGN CHOICE), log entry 10 -/
  measSlots : List (Nat × Nat × Nat × Nat) := []
  /-- up since its last retrain (R332); the model's own (DESIGN CHOICE), log entry 10 -/
  everUp : Bool := false
  /-- requests made for the return lane and its spare in the attempt (R308) -/
  asked : List Nat := [0, 0]
  /-- EQ_DONE of the A9: its receivers accept the current settings (R307 R308) -/
  eqDone : Bool := false
  /-- EQ_DONE of the stand receiver (R307 R308) -/
  standEq : Bool := false
  /-- instant at which step 7 of the attempt began (R304) -/
  framing : Option Nat := none
  /-- a return frame was discarded in step 7 of the attempt (R304) -/
  frameBad : Bool := false
  /-- instant at which the replay under way has gone out (R311); the model's own (DESIGN CHOICE), log entry 10 -/
  txReplayTo : Nat := 0
  /-- its stands are dark for a recovery, until a sub-frame whose codes all arrive (R312) -/
  blanked : Bool := false
  /-- first window whose packets had not begun at the end of the last recovery (R312); the model's own (DESIGN CHOICE), log entry 10 -/
  litFrom : Nat := 0
  /-- frame blocks received on the standby return lane (R306) -/
  spareN : Nat := 0
  /-- blocks of the last 64 there whose headers were invalid (R304 R306) -/
  spareBad : List Nat := []
  /-- blocks of the last 2^20 there whose bodies were wrong (R306) -/
  spareErrs : List Nat := []
  /-- packet stream of the return direction that is not yet a whole packet (R313) -/
  rxStream : List Byte := []
  /-- tick and sub-frame of the latest Calibrate samples and the measurement rows of it that are whole (R269 R319); the model's own (DESIGN CHOICE), log entry 10 -/
  diagAt : Nat × Nat × Nat := (0, 0, 0)
deriving DecidableEq, Repr

/-- What synthesis reads of an open stream, as latched for a window (R183). -/
structure Scene where
  /-- 8 (R123) -/
  format : Nat := 0
  /-- 32, scene generation (R155 R183) -/
  gen : Nat := 0
  /-- 32, scene generation at which ACTIVE_MASK or BACKGROUND last changed (R184); the model's own (DESIGN CHOICE), log entry 10 -/
  activeGen : Nat := 0
  /-- slot -> slot generation, scene generation at which it last changed (R155 R184) -/
  slotGens : List (Nat × Nat × Nat) := []
  /-- a scene frame is in use (R142) -/
  shown : Bool := false
  /-- ACTIVE_MASK in use (R155) -/
  active : BitVec 16 := 0
  /-- BACKGROUND in use (R155 R175) -/
  background : BitVec 32 := 0
  /-- sequence header of the frame in use (R164) -/
  seq : List Byte := []
  /-- layer descriptor in use per slot (R154 R182) -/
  descs : List (Nat × List Byte) := []
  /-- decoded planes of the frame in use (R142 R156) -/
  planes : List Plane := []
  /-- per-eye width of a stereo stream (R138) -/
  eyeW : Nat := 0
  /-- per-eye height of a stereo stream (R138) -/
  eyeH : Nat := 0
deriving DecidableEq, Repr

/-- A stereo frame as lift takes it (R196 to R201). -/
structure LiftFrame where
  /-- 3 (R196) -/
  stream : Nat := 0
  /-- its decoded pictures (R138 R196) -/
  plane : Plane := {}
  /-- 3 side-by-side, 4 top-bottom, 5 MV-HEVC (R138) -/
  format : Nat := 3
  /-- per-eye width (R138 R200) -/
  w : Nat := 0
  /-- per-eye height (R138 R200) -/
  h : Nat := 0
  /-- SCENE.LIFT payload it was lifted under; []: the reset parameters (R197) -/
  params : List Byte := []
deriving DecidableEq, Repr

/-- One die's copy of the lifted scene, slots 0 and 1 of an internal scene, with the disparity history (R196). -/
structure LiftCopy where
  /-- lifted frames since the last cut, newest first: the disparity history (R196 R198) -/
  frames : List LiftFrame := []
  /-- frame whose reference eye is the colour of the scene (R200 R201) -/
  colour : Option LiftFrame := none
deriving DecidableEq, Repr

/-- The kerf dispatcher of a section in a window (R186, R193). -/
structure Dispatcher where
  /-- 4, section (R186) -/
  sec : Nat := 0
  /-- kerfs in order: stand, kerf, kerfs passed over before it (R186 R193) -/
  queue : List (Nat × Nat × Nat) := []
  /-- instant from which it can hand out (R186) -/
  next : Nat := 0
  /-- reed, stand, kerf it holds, instant its last write completes (R186 R191) -/
  held : List (Nat × Nat × Nat × Nat) := []
deriving DecidableEq, Repr

/-- The synthesis window in progress or last ended (R183, R187). -/
structure Window where
  /-- windows started since reset (R214); the model's own (DESIGN CHOICE), log entry 10 -/
  num : Nat := 0
  /-- between synthesis start and kerf deadline (R187) -/
  active : Bool := false
  /-- display tick it serves (R183) -/
  tick : Nat := 0
  /-- mode of the window (R100) -/
  mode : Nat := 0
  /-- kerfs may be dispatched (R92) -/
  writes : Bool := false
  /-- kerfs not skipped, not yet written: stand, kerf (R186) -/
  todo : List (Nat × Nat) := []
  /-- latched scene generation (R183) -/
  latchScene : Nat := 0
  /-- latched inset generations (R183) -/
  latchInset : List Nat := [0, 0, 0]
  /-- latched live-set generation per stand (R183) -/
  latchCal : List Nat := []
  /-- latched concealment generation per stand (R183) -/
  latchConceal : List Nat := []
  /-- LUM_FULL per stand as the start found it (R175 R223) -/
  latchLum : List Nat := []
  /-- fault list per stand as the start found it (R175 R242) -/
  latchFaults : List (List ChanFault) := []
  /-- latched compose sequence (R183) -/
  latchCompose : Nat := 0
  /-- lift phase running (R201) -/
  liftWait : Bool := false
  /-- instant of the start (R201) -/
  startAt : Nat := 0
  /-- West late count (R190) -/
  lateW : Nat := 0
  /-- East late count (R190) -/
  lateE : Nat := 0
  /-- dispatchers of the window (R186) -/
  secs : List Dispatcher := []
  /-- stand, kerf, reed cycles its synthesis takes (0 where not listed) (R187 R195); the model's own (DESIGN CHOICE), log entry 10 -/
  costs : List (Nat × Nat × Nat) := []
  /-- kerfs written in the window (R20 R187) -/
  done : List (Nat × Nat) := []
  /-- kerfs handed out: stand, kerf, A9-wide reed (R182 R186) -/
  taken : List (Nat × Nat × Nat) := []
  /-- where the stands latched at the start stand in the map in force ([]: unmoved) (R24); the model's own (DESIGN CHOICE), log entry 10 -/
  moved : List (Option Nat) := []
  /-- synthesis front, lowest unfinished kerf row (R189) -/
  front : Nat := 0
  /-- the front lies beyond every row (R189) -/
  beyond : Bool := true
deriving DecidableEq, Repr

/-- A stand that a new map has dropped, while packets follow the map before (R24). -/
structure LeftStand where
  /-- its settings (R24); the model's own (DESIGN CHOICE), log entry 10 -/
  cfg : StandCfg := {}
  /-- its run-time state (R24); the model's own (DESIGN CHOICE), log entry 10 -/
  st : Stand := {}
deriving DecidableEq, Repr

/-- Settings as synthesis reads them (R24) and the windows. -/
structure Synth where
  /-- the settings latched at the last synthesis start (R24) -/
  cfg : Settings := {}
  /-- generation of the stand map in synthesis (R185); the model's own (DESIGN CHOICE), log entry 10 -/
  mapGen : Nat := 0
  /-- invalidate every kerf at the next synthesis start (R185) -/
  invalidate : Bool := false
  /-- rebuild every context at the next synthesis start (R185) -/
  mapChange : Bool := false
  /-- sub-structure (R183) -/
  window : Window := {}
  /-- what the window reads of the 8 streams (R183) -/
  scenes : List (Option Scene) := List.replicate 8 none
  /-- compose layers as the window reads them (R24 R203 R209) -/
  layers : List LayerState := List.replicate 8 {}
  /-- lifted scene in each die (R196 R201) -/
  lifts : List LiftCopy := [{}, {}]
  /-- settings whose stand map the latched ray frames were synthesised for (R24 R188) -/
  scanCfg : Settings := {}
  /-- where the stands of that map stand in the map in force ([]: unmoved) (R24); the model's own (DESIGN CHOICE), log entry 10 -/
  scanMoved : List (Option Nat) := []
  /-- tick that ends the blank at which the last stand map applied (R24); the model's own (DESIGN CHOICE), log entry 10 -/
  mapTick : Nat := 0
  /-- for each map that packets still follow, oldest first: the tick before which they do, and link and position under it of each stand of the map in force, then of each that has left (R24); the model's own (DESIGN CHOICE), log entry 10 -/
  places : List (Nat × List (Option (Nat × Nat))) := []
  /-- stands that the maps in force since have dropped and packets still name (R24); the model's own (DESIGN CHOICE), log entry 10 -/
  left : List LeftStand := []
deriving DecidableEq, Repr

/-- A pseudo-channel with counters away from zero (R346 to R362). -/
structure PseudoChannel where
  /-- 7, A9-wide number (R336) -/
  pc : Nat := 0
  /-- 0..4 (R346) -/
  debt : Nat := 0
  /-- holds an admitted real-time read (R346) -/
  inRt : Bool := false
  /-- 64 (R362) -/
  forced : Nat := 0
  /-- 8 (R362) -/
  maxDebt : Nat := 0
  /-- 64 (R362) -/
  corrected : Nat := 0
  /-- corrections since the last EV_MEM_CORRECTED (R357) -/
  corrSince : Nat := 0
  /-- instant of the last EV_MEM_CORRECTED (R357) -/
  corrAt : Option Nat := none
  /-- 32 (R362) -/
  uncorrected : Nat := 0
  /-- 32 (R362) -/
  poisonReads : Nat := 0
  /-- 32 (R362) -/
  rowsSpared : Nat := 0
  /-- row repairs used, by bank (stack ID × 16 + bank) (R359 R440) -/
  bankUsed : List (Nat × Nat) := []
  /-- served from the other die's reserve (R415) -/
  reserve : Bool := false
  /-- stack IDs in power-down (R348) -/
  powered : List Nat := []
  /-- stack IDs that a refresh woke, with the instant (R348) -/
  woke : List (Nat × Nat) := []
  /-- instant of the last refresh that fell due (R346) -/
  refAt : Nat := 0
  /-- of those repairs, the soft ones that no full pass has made permanent, by bank (R359) -/
  bankSoft : List (Nat × Nat) := []
deriving DecidableEq, Repr

/-- A move of a die's pair of ray frames under way (R263). -/
structure FrameMove where
  /-- 0 West 1 East (R262) -/
  die : Nat := 0
  /-- OFFSET_MIB of the pair it leaves (R263) -/
  old : Nat := 0
  /-- OFFSET_MIB of the pair it brings up to date (R263) -/
  new : Nat := 0
  /-- its transaction has applied (R263) -/
  applied : Bool := false
  /-- the background copy has completed (R263) -/
  copied : Bool := false
deriving DecidableEq, Repr

/-- The frame store (R336 to R362). -/
structure FrameStore where
  /-- 128 GiB of bytes; canonical: rising, no entry equal to 0 (R336 R42); reset value a DESIGN CHOICE, log entry 9 -/
  mem : List Host.Cell := []
  /-- poisoned granule indices, rising (R358) -/
  poisoned : List Nat := []
  /-- kerfs that a poisoned granule of a surface keeps late: granule, stand, kerf (R358); the model's own (DESIGN CHOICE), log entry 10 -/
  lateKerfs : List (Nat × Nat × Nat) := []
  /-- per die: a set point was trained since its stacks lost power (R349) -/
  avail : List Bool := [false, false]
  /-- 2 bits (R336 R42) -/
  setPoint : Nat := 2
  /-- 2 x 4, mask of trained set points per die (R42 R350) -/
  trained : List Nat := [0, 0]
  /-- in self-refresh (R349) -/
  selfRefresh : Bool := false
  /-- passes running or queued: set point (0xFF the one in force), kind 1 full 2 live 3 Bring-up step 2 4 + die full in a rejoining die 6 and 7 full and live by MEM.TRAIN, TAG (R66 R350 R352 R417) -/
  trainQueue : List (Nat × Nat × BitVec 32) := []
  /-- passes that run after the pending change (R354) -/
  trainAfter : List (Nat × Nat × BitVec 32) := []
  /-- target of a pending change (R353 R362) -/
  pending : Option Nat := none
  /-- TAG of MEM.SET_POINT (R87) -/
  pendingTag : BitVec 32 := 0
  /-- change in its steps (R354) -/
  changing : Bool := false
  /-- instant from which only the scan-out gap holds the pending change back (R354) -/
  changeFrom : Nat := 0
  /-- requests of the last 60 us: first address, bytes, instant (R348) -/
  asked : List (Nat × Nat × Nat) := []
  /-- per die: device time at which the last pass ended (R362) -/
  lastTrainAt : List Nat := [0, 0]
  /-- stack temperatures at their last pass (R351); reset value a DESIGN CHOICE, log entry 7 -/
  lastTrainTemp : List Int := [0, 0, 0, 0]
  /-- the same instant on the model's own clock (R351); the model's own (DESIGN CHOICE), log entry 10 -/
  lastTrainUp : Nat := 0
  /-- 2 x 32 (R362) -/
  trainPasses : List Nat := [0, 0]
  /-- 2 x 32 (R362) -/
  trainFails : List Nat := [0, 0]
  /-- 4 x 16 signed, 0.1 C (R346 R362) -/
  stackTemp : List (Option Int) := [none, none, none, none]
  /-- pseudo-channels away from reset, by number (R336) -/
  pcs : List PseudoChannel := []
  /-- pseudo-channel, row code, instants of corrected errors in 24 h (R359) -/
  rowErrs : List (Nat × Nat × List Nat) := []
  /-- rows awaiting soft repair (R359) -/
  rowsDue : List (Nat × Nat) := []
  /-- die, page, instants of corrected reads in 24 h (R360) -/
  pageErrs : List (Nat × Nat × List Nat) := []
  /-- die, page, copy ended (R360) -/
  retiring : List (Nat × Nat × Bool) := []
  /-- die, page: retired pages (R360) -/
  retired : List (Nat × Nat) := []
  /-- 2 x 32 (R360) -/
  poolLeft : List Nat := [1024, 1024]
  /-- 2 x 32 (R362) -/
  scrubPasses : List Nat := [0, 0]
  /-- per die: instant of the last patrol scrub's end, or from which its first runs (R357) -/
  scrubAt : List Nat := [0, 0]
  /-- port, in panic now (R341) -/
  rtPanic : List (Nat × Bool) := []
  /-- 16 x 17, bytes in the FIFO of each real-time port (R339 R341); reset value a DESIGN CHOICE, log entry 8 -/
  rtFill : List Nat := List.replicate 16 0
  /-- port, panics this frame (R341) -/
  panicsFrame : List (Nat × Nat) := []
  /-- 2 x 32 (R362) -/
  panics : List Nat := [0, 0]
  /-- 2 x 32 (R362) -/
  underruns : List Nat := [0, 0]
  /-- SCAN.FRAME_BASE moves from their commit instants on, oldest first (R263) -/
  moves : List FrameMove := []
  /-- pseudo-channels being copied into the reserve (R415) -/
  reserveCopy : List Nat := []
deriving DecidableEq, Repr

/-- The last beacon heard on a port (R368). -/
structure Beacon where
  /-- 8 (R368) -/
  address : Nat := 0
  /-- 8 (R368) -/
  root : Nat := 0
  /-- 8 (R368) -/
  depth : Nat := 0xFF
  /-- 8 (R368) -/
  flags : BitVec 8 := 0
  /-- 32, ps (R368) -/
  dCum : Nat := 0
  /-- 16, ps (R368) -/
  fwd : Nat := 0
  /-- 16, ps (R368) -/
  echo : Nat := 0
  /-- 64 (R368) -/
  nextTick : Nat := 0
  /-- 64, ns (R368) -/
  nextTime : Nat := 0
  /-- 64 (R368) -/
  serial : Nat := 0
deriving DecidableEq, Repr

/-- A RELAY packet kept (R378). -/
structure RelayPkt where
  /-- 8 (R367) -/
  stream : Nat := 0
  /-- 32 (R367) -/
  seq : Nat := 0
  /-- 64 bytes (R367) -/
  desc : List Byte := []
  /-- data and subsample table (R367) -/
  placed : Placed := {}
deriving DecidableEq, Repr

/-- Link frames of a skyline port, two lanes a direction (R303, R309 to R312, R363). -/
structure SkyFrames where
  /-- 15, next SEQ to send (R309) -/
  txNext : Nat := 0
  /-- 15, oldest unacknowledged SEQ (R311) -/
  txAcked : Nat := 0
  /-- replay buffer of 64 KiB: bodies of the unacknowledged frames, oldest first (R311 R363) -/
  txHeld : List (List Byte) := []
  /-- ACK_SEQ being replayed (R311) -/
  txReplay : Option Nat := none
  /-- instant at which the replay under way has gone out (R311); the model's own (DESIGN CHOICE), log entry 10 -/
  txReplayTo : Nat := 0
  /-- replays from one ACK_SEQ without progress (R312) -/
  txReplays : Nat := 0
  /-- instant ACK_SEQ last advanced (R311) -/
  txSince : Nat := 0
  /-- 2 x 31, scrambler per lane, as R303 seeds it (R303); reset value a DESIGN CHOICE, log entry 8 -/
  txScr : List Nat := [1, 2]
  /-- blocks per lane since the last SKIP (R302) -/
  txSkip : Nat := 0
  /-- packets that no frame carries yet (R313 R367) -/
  stream : List Byte := []
  /-- 15 (R310) -/
  rxExpect : Nat := 0
  /-- discarding until REPLAY (R310) -/
  rxDiscard : Bool := false
  /-- 2 x 31, scrambler per lane, as R303 seeds it (R303); reset value a DESIGN CHOICE, log entry 8 -/
  rxScr : List Nat := [1, 2]
  /-- instant the recovery began (R312) -/
  recovering : Option Nat := none
  /-- instants of recoveries in the last 1 s (R312) -/
  recoveryTimes : List Nat := []
deriving DecidableEq, Repr

/-- An A9 farther from the root, as it is heard with its parent selected (R366). -/
structure Claim where
  /-- 8, 0 none yet (R366) -/
  address : Nat := 0
  /-- 64 (R366 R368) -/
  serial : Nat := 0
  /-- port over which it is heard (R366) -/
  port : Nat := 0
  /-- ports from here to it, child before child-skip or second child, as depth-first order takes them (R366) -/
  path : List Nat := []
deriving DecidableEq, Repr

/-- A skyline port (R363 to R386). -/
structure Port where
  /-- 0 down 1 training 2 up 18.0 3 up 9.0 4 dead (R386) -/
  state : Nat := 0
  /-- last beacon (R368) -/
  heard : Beacon := {}
  /-- instant (R369) -/
  lastBeacon : Nat := 0
  /-- valid beacons since (R369 R370) -/
  goodSince : Option Nat := none
  /-- 32 (R372 R386) -/
  hopPs : Nat := 0
  /-- last 64 measurements (R372) -/
  hopList : List Nat := []
  /-- last value reported (R372) -/
  hopReported : Option Nat := none
  /-- level of the READY input (R374) -/
  readyIn : Bool := false
  /-- the neighbour has selected this port (R374) -/
  inAnd : Bool := false
  /-- instant the port died while feeding the AND (R376) -/
  grace : Option Nat := none
  /-- left out after grace (R376) -/
  leftOut : Bool := false
  /-- 32 (R386) -/
  bypasses : Nat := 0
  /-- 32 (R386) -/
  rxCrc : Nat := 0
  /-- 32 (R386) -/
  replays : Nat := 0
  /-- RELAY traffic kept, oldest first, at most 16 MiB (R378) -/
  buffer : List RelayPkt := []
  /-- lane rate of a dead port that is up again: 0 none, 2 at 18.0, 3 at 9.0 (R369) -/
  lanes : Nat := 0
  /-- its READY input is held until this instant (R372) -/
  holdUntil : Nat := 0
  /-- level at the pin while the input is held (R372) -/
  readyRaw : Bool := false
  /-- link frames (R363) -/
  fr : SkyFrames := {}
  /-- up since it was last brought up, and not dead (R363 R369); the model's own (DESIGN CHOICE), log entry 10 -/
  wasUp : Bool := false
  /-- a DEPTH no greater than the selected parent's has been heard since (R370) -/
  depthSince : Option Nat := none
deriving DecidableEq, Repr

/-- The skyline (R363 to R386). -/
structure Chain where
  /-- 4 ports (R363) -/
  ports : List Port := List.replicate 4 {}
  /-- 8, provisional address, 0 none (R366) -/
  provisional : Nat := 0
  /-- next provisional address the root assigns (R366) -/
  nextProv : Nat := 2
  /-- selected parent port (R370) -/
  parent : Option Nat := none
  /-- a parent was selected since the roles applied (R370) -/
  hadParent : Bool := false
  /-- 32, ps (R371) -/
  dCum : Nat := 0
  /-- 64 (R386) -/
  relayBytes : Nat := 0
  /-- 32 (R378 R386) -/
  spliceLost : Nat := 0
  /-- READY output level (R374) -/
  readyOut : Bool := false
  /-- port whose READY pair this A9 drives (R374) -/
  readyPort : Option Nat := none
  /-- records held while there is no parent, at most 256 (R379) -/
  heldEvents : List EventRec := []
  /-- A9s heard below this one (R366) -/
  claims : List Claim := []
  /-- per stream: RELAY_SEQ after the last packet relayed on (R378) -/
  relayNext : List Nat := List.replicate 8 0
  /-- 16, own TICK forwarding delay (R368); reset value a DESIGN CHOICE, log entry 8 -/
  fwdPs : Nat := 0
  /-- 16, own TICK-to-READY echo turnaround (R368); reset value a DESIGN CHOICE, log entry 8 -/
  echoPs : Nat := 0
  /-- ports and roles kept while both dies restart (R26); the model's own (DESIGN CHOICE), log entry 10 -/
  kept : Bool := false
deriving DecidableEq, Repr

/-- A region away from reset: in error, fenced, retired (R405 to R413). -/
structure RegionRec where
  /-- 8 (R405) -/
  kind : Nat := 0
  /-- 16 (R405) -/
  unit : Nat := 0
  /-- 0 queued 1 handling 2 fenced 3 retired 4 in service (R430) -/
  state : Nat := 4
  /-- 8 (R430) -/
  records : Nat := 0
  /-- 8 (R406) -/
  cls : Nat := 0
  /-- instants of errors in the last 24 h (R412) -/
  times : List Nat := []
  /-- 64, ns (R430) -/
  firstTime : Nat := 0
  /-- 64, ns (R430) -/
  lastTime : Nat := 0
  /-- instant isolated, fenced or last retested (R413) -/
  fencedAt : Nat := 0
  /-- merged into the overflow record (R411) -/
  merged : Bool := false
  /-- isolated or fenced: out of service (R408 R410) -/
  out : Bool := false
  /-- die whose complex runs the handler (R409) -/
  handler : Nat := 0
  /-- the running handler is a retest (R413) -/
  retest : Bool := false
  /-- instant the handler started (R409) -/
  startAt : Nat := 0
  /-- arrival order in its complex's queue (R411) -/
  order : Nat := 0
deriving DecidableEq, Repr

/-- Containment (R405 to R430). -/
structure Faults where
  /-- regions away from reset (R405 R430) -/
  regions : List RegionRec := []
  /-- arrival counter (R411); the model's own (DESIGN CHOICE), log entry 10 -/
  nextOrder : Nat := 0
  /-- records merged per complex (R430) -/
  overflow : List Nat := [0, 0]
  /-- 16 (R430) -/
  overKinds : BitVec 16 := 0
  /-- instant of the last EV_ERR_OVERFLOW per complex (R411) -/
  overAt : List (Option Nat) := [none, none]
  /-- records merged since it (R411) -/
  overSince : List Nat := [0, 0]
  /-- REED_STATE per reed: 0 active 1 spare 2 fenced 3 retired (R41 R45) -/
  reeds : List Nat := (List.range 544).map (fun n => if 32 ≤ n % 34 then 1 else 0)
  /-- masked vector lanes (A9-wide reed x 32 + lane) (R408) -/
  lanes : List Nat := []
  /-- failed reeds awaiting a spare at the next tick (R191) -/
  promote : List Nat := []
  /-- failed sections already spread: section, quadrant (R193) -/
  spread : List (Nat × Nat) := []
  /-- sections failed as a whole since the last tick (R193) -/
  spreadDue : List Nat := []
  /-- sections working again, taking their kerfs back (R193) -/
  backDue : List Nat := []
  /-- those seen working at a frame tick (R193) -/
  backSeen : List Nat := []
  /-- die-order kerf row, home section, section that carries it (R193) -/
  shares : List (Nat × Nat × Nat) := []
  /-- failed reed, spare that replaced it (R191 R440) -/
  spared : List (Nat × Nat) := []
  /-- instant a complex lost its route (R421) -/
  routeLostAt : List (Option Nat) := [none, none]
deriving DecidableEq, Repr

/-- A management complex (R110, R419 to R425). -/
structure Complex where
  /-- answered at boot (R110) -/
  present : Bool := false
  /-- passed its boot self-test and not fenced since (R419) -/
  passed : Bool := false
  /-- self-fenced (R421) -/
  fenced : Bool := false
  /-- instant of its reset request (R421) -/
  fenceAt : Option Nat := none
  /-- instant its lease lapsed or was released (R421) -/
  lapseAt : Option Nat := none
  /-- domain held in reset (R421 R426) -/
  inReset : Bool := false
  /-- 24, EPOCH last observed (R419 R421) -/
  epochSeen : Nat := 0
  /-- its cores have stopped making progress (R64) -/
  stopped : Bool := false
  /-- 32, firmware release it runs (R432 R473) -/
  release : Nat := 0
  /-- manifest measurement of its image (R473) -/
  measure : List Byte := []
  /-- left absent at boot (R110) -/
  absent : Bool := false
  /-- has made a valid lease request since its die's release (R110) -/
  requested : Bool := false
  /-- supervises its own die (R422) -/
  supervises : Bool := false
deriving DecidableEq, Repr

/-- Bellows, its status block, the lease and the journal header (R60, R419, R289). -/
structure Bellows where
  /-- Bellows is powered (R484) -/
  running : Bool := true
  /-- BLW_STATUS.IN_OK (R60) -/
  inOk : Bool := true
  /-- BLW_STATUS.ON_HOLDUP (R60) -/
  onHoldup : Bool := false
  /-- 16, BLW_CAP_MV (R60) -/
  capMv : Nat := 0
  /-- 16, BLW_SAFE_LINKS, every link asserted until Bring-up step 3 (R60 R426 R92) -/
  safeLinks : BitVec 16 := 0xFFFF
  /-- 2 (R60) -/
  journalSt : Nat := 0
  /-- 2 (R60) -/
  recorderSt : Nat := 0
  /-- 32, BLW_LATCH (R60) -/
  latch : BitVec 32 := 0
  /-- instant at which BLW_LATCH bits last set, and those bits (R9); the model's own (DESIGN CHOICE), log entry 10 -/
  latchSet : Nat × BitVec 32 := (0, 0)
  /-- 32, BLW_STARTS: the start by SYS_RST_N is counted (R60 R497) -/
  starts : Nat := 1
  /-- die holding the lease (R52 R419) -/
  holder : Option Nat := none
  /-- 24, wraps (R52) -/
  epoch : Nat := 0
  /-- instant of the last renewal (R52) -/
  renewAt : Nat := 0
  /-- 2 (R52) -/
  missed : Nat := 0
  /-- cause of the last grant, P2 of EV_LEASE_MOVED (R423) -/
  grantCause : Nat := 0
  /-- the holder takes the chanter role at the next tick (R423) -/
  roleDue : Bool := false
  /-- die with the chanter role (R25 R423) -/
  role : Option Nat := none
  /-- GLB_STATUS.CHANTER: die that last took the role (R49 R423) -/
  chanterBit : Nat := 0
  /-- 64 (R429) -/
  lastMoveTick : Nat := 0
  /-- 32 (R429) -/
  moves : Nat := 0
  /-- 32 (R429) -/
  selfFences : Nat := 0
  /-- 32 (R420 R429) -/
  staleDropped : Nat := 0
  /-- EV_SELF_FENCE owed: die, cause, error class (R421) -/
  fenceEvents : List (Nat × Nat × Nat) := []
  /-- West, East (R14) -/
  complexes : List Complex := [{}, {}]
  /-- Bellows power-ups since manufacture (R451 R457); reset value a DESIGN CHOICE, log entry 6 -/
  powerUps : Nat := 1
  /-- LOSS_VALID (R289) -/
  lossValid : Bool := false
  /-- 64 (R289) -/
  lossTick : Nat := 0
  /-- 32 (R289) -/
  lossOffNs : Nat := 0
  /-- 16 (R289) -/
  lossLinks : BitVec 16 := 0
  /-- 8 (R289) -/
  lossRate : Nat := 60
  /-- 32 (R289) -/
  journalSeq : Nat := 0
  /-- the live journal was written since Bellows power-up (R294) -/
  journalWritten : Bool := false
  /-- stand blocks of the live journal kept across a boot: serial, index, 208 bytes (R290 R294) -/
  oldJournal : List (Nat × Nat × List Byte) := []
  /-- consecutive cold restarts by LEADERSHIP_TIMEOUT (R110) -/
  bootTries : Nat := 0
  /-- loss of A9 power declared, rails not yet restored (R482) -/
  powerLost : Bool := false
  /-- instant L (R291) -/
  lossAt : Nat := 0
  /-- instant a die's cold reset began (R417) -/
  dieOff : List (Option Nat) := [none, none]
  /-- cause of the last cold reset of each die (P1 of 0x0050) (R451) -/
  dieCause : List Nat := [0, 0]
  /-- rejoin step of each die, 0 none (R417) -/
  rejoin : List Nat := [0, 0]
  /-- GLB_RESET_CTRL COLD bits: the action runs (R51) -/
  coldBusy : List Bool := [false, false]
  /-- cold reset asked of Bellows and not yet begun, per die: 0 none, 1 GLB_RESET_CTRL, 2 die fenced, 3 boot restart (R417 R451) -/
  resetDue : List Nat := [0, 0]
  /-- SYS_RST_N not yet released since Bellows power-up (R387); the model's own (DESIGN CHOICE), log entry 10 -/
  fresh : Bool := false
  /-- instant of the reset that left neither complex running (R425) -/
  bothReset : Option Nat := none
deriving DecidableEq, Repr

/-- A firmware bundle: its bytes and what the verifier finds (R107, R467). -/
structure Bundle where
  /-- manifest, signatures and components (R467) -/
  bytes : List Byte := []
deriving DecidableEq, Repr

/-- The boot flash (R104, R457). -/
structure Flash where
  /-- the board fits a boot flash (R104 R459); reset value a DESIGN CHOICE, log entry 5 -/
  present : Bool := true
  /-- slots A and B (R104); reset value a DESIGN CHOICE, log entry 5 -/
  slots : List (Option Bundle) := [none, none]
  /-- two journal copies (R293) -/
  journals : List (Option (List Byte)) := [none, none]
  /-- kind, unit; at most 1,024 (R412) -/
  retireList : List (Nat × Nat) := []
  /-- 32 (R441) -/
  serviceHours : Nat := 0
  /-- 8 (R442) -/
  conditions : BitVec 8 := 0
  /-- 32 (R442) -/
  breaches : Nat := 0
  /-- 32 (R442) -/
  coldStarts : Nat := 0
  /-- a boot since deployment has been counted (R442) -/
  booted : Bool := false
  /-- sectors in use: SEQ, power-up count, record bytes (R458) -/
  history : List (Nat × Nat × List Byte) := []
  /-- 32 (R458); reset value a DESIGN CHOICE, log entry 5 -/
  historySeq : Nat := 0
deriving DecidableEq, Repr

/-- The recorder log and window (R59, R447 to R463). -/
structure Recorder where
  /-- 4 MiB of bytes, canonical; cleared to 0 at Bellows power-up (R447) -/
  sram : List Host.Cell := []
  /-- 22 (R59) -/
  head : Nat := 0
  /-- 32 (R59) -/
  wraps : Nat := 0
  /-- 32, REC_CURSOR (R59) -/
  cursor : BitVec 32 := 0
  /-- flush offset (R459) -/
  flushed : Nat := 0
  /-- bytes not yet flushed (R459) -/
  unflushed : Nat := 0
  /-- instant of the oldest unflushed record (R459) -/
  oldestAt : Nat := 0
  /-- running flush: bytes to write, TAG (R459) -/
  flushing : Option (Nat × BitVec 32) := none
  /-- the running flush is that of a REC.FLUSH (R66 R459) -/
  commanded : Bool := false
  /-- running REC.ERASE, TAG (R460) -/
  erasing : Option (BitVec 32) := none
  /-- allocated, unmarked: offset, length, instant, pass byte (R449) -/
  openRecs : List (Nat × Nat × Nat × Nat) := []
  /-- restore of R463 running (R463) -/
  restoring : Bool := true
  /-- trigger, tick at which it last fired (R455) -/
  trigTick : List (Nat × Nat) := []
  /-- trigger, matches folded into its next record (R455) -/
  trigMerged : List (Nat × Nat) := []
  /-- records held during a recorder reset, at most 256 (R418) -/
  held : List (List Byte) := []
  /-- triggers fired in this step: trigger, event, UNIT (R455); the model's own (DESIGN CHOICE), log entry 10 -/
  fired : List (Nat × Nat × Nat) := []
  /-- the recorder block is in its 1 ms reset (R418) -/
  inReset : Bool := false
deriving DecidableEq, Repr

/-- The security domain (R464 to R477). -/
structure Security where
  /-- 2, fused (R471); reset value a DESIGN CHOICE, log entry 6 -/
  lifecycle : Nat := 0
  /-- blown rollback fuses, 0..64 (R470); reset value a DESIGN CHOICE, log entry 6 -/
  fuses : Nat := 0
  /-- 16 (R475); reset value a DESIGN CHOICE, log entry 6 -/
  kemGen : Nat := 1
  /-- the content-key pairs exist (R472) -/
  kemValid : Bool := true
  /-- 128, counter of session values drawn (the value is a free value) (R477); the model's own (DESIGN CHOICE), log entry 10 -/
  session : Nat := 0
  /-- 4 x 64, last COUNTER accepted per KEY (R477) -/
  lastCounter : List Nat := [0, 0, 0, 0]
  /-- instant of the last EV_SIG_FAIL P0 3 (R477) -/
  refusedAt : Option Nat := none
  /-- 16 MiB boot buffer (bytes beyond the list read 0) (R105 R107); reset value a DESIGN CHOICE, log entry 6 -/
  bootBuffer : List Byte := []
  /-- the verified image kept for the drone (R107) -/
  image : List Byte := []
  /-- staging buffer of a live update (R432) -/
  staging : List Byte := []
  /-- counter of free values drawn ((model)); the model's own (DESIGN CHOICE), log entry 11 -/
  free : Nat := 0
deriving DecidableEq, Repr

/-- A live update (R431 to R436). -/
structure FwUpdate where
  /-- 0 none, 1..6 stage running (R432) -/
  stage : Nat := 0
  /-- 8 (R431) -/
  flags : BitVec 8 := 0
  /-- 64 (R431) -/
  atTick : Nat := 0
  /-- TAG (R87) -/
  tag : BitVec 32 := 0
  /-- tick H (R434) -/
  handover : Nat := 0
  /-- handover armed in Bellows (R434) -/
  armed : Bool := false
  /-- lease granted to the drone (R434) -/
  granted : Bool := false
  /-- die (R434) -/
  newChanter : Nat := 0
  /-- instant the stage began (R432) -/
  stageAt : Nat := 0
deriving DecidableEq, Repr

/-- Domains, rails, clocks, temperatures (R478 to R492). -/
structure Power where
  /-- 83: 0 off 1 on 2 fenced 3 unswitched; reed banks off as in Standby (R39 R478 R92); reset value a DESIGN CHOICE, log entry 7 -/
  domains : List Nat := (List.range 82).map (fun n => if n % 35 < 16 ∧ n < 51 then 0 else 1) ++ [3]
  /-- domains the host switched off and nothing has needed since (R479 R480); the model's own (DESIGN CHOICE), log entry 10 -/
  hostOff : List Nat := []
  /-- 12 x 16 (R481 R492); reset value a DESIGN CHOICE, log entry 7 -/
  railMv : List Nat := [720, 720, 800, 750, 1100, 400, 1800, 900, 1200, 1800, 3300, 0]
  /-- 12 x 16, 0.1 A (R492); reset value a DESIGN CHOICE, log entry 7 -/
  railDa : List Nat := List.replicate 12 0
  /-- 2 x 16 (R488) -/
  reedMhz : List Nat := [1500, 1500]
  /-- 2 x 16, mV (R487) -/
  vcore : List Nat := [720, 720]
  /-- clock limited to 1.50 GHz (R487) -/
  avsLimited : List Bool := [false, false]
  /-- instant of the last change (R487) -/
  avsAt : List (Option Nat) := [none, none]
  /-- 3 x 16 signed, 0.1 C (R489); reset value a DESIGN CHOICE, log entry 7 -/
  tj : List Int := [0, 0, 0]
  /-- at 110 C or above since (R489) -/
  hotSince : List (Option Nat) := [none, none, none]
  /-- 1 each (R489) -/
  throttle : List Bool := [false, false]
  /-- throttled by an HBM stack (R489) -/
  stackThr : List Bool := [false, false]
  /-- 1 (R490) -/
  capped : Bool := false
  /-- 32 (R492); reset value a DESIGN CHOICE, log entry 7 -/
  powerMw : Nat := 0
  /-- 32 (R492) -/
  throttles : Nat := 0
  /-- 32 (R492) -/
  throttleMs : Nat := 0
  /-- 32 (R492) -/
  cappedMs : Nat := 0
  /-- 32 (R492) -/
  railFaults : Nat := 0
  /-- instant the throttle was entered (R489) -/
  thrAt : List (Option Nat) := [none, none]
  /-- core rail fault, waiting for 10 ms in range (R482) -/
  coreFault : List Bool := [false, false]
deriving DecidableEq, Repr

/-- Operating mode, Bring-up and boot (R92 to R115). -/
structure Modes where
  /-- 3, GLB_STATUS.MODE (R49 R92) -/
  mode : Nat := 0
  /-- mode applied at the blank, shown at the tick (R100) -/
  modeDue : Option Nat := none
  /-- TAG (R87) -/
  modeTag : BitVec 32 := 0
  /-- TXN_ID (R87) -/
  modeTxn : BitVec 32 := 0
  /-- tick T of the last mode change (R100) -/
  enteredAt : Nat := 0
  /-- mode before it (R100) -/
  prevMode : Nat := 0
  /-- the frame last planned wanted held class (Hold, or Compose with CLASS 1) (R257); the model's own (DESIGN CHOICE), log entry 10 -/
  heldFrame : Bool := false
  /-- 0..7, MODE.GET.STEP (R97 R113) -/
  step : Nat := 0
  /-- instant the step began (R451) -/
  stepAt : Nat := 0
  /-- READY (R97) -/
  ready : Bool := false
  /-- KEEP_TRAINING (R96) -/
  keepTraining : Bool := false
  /-- KEEP_CAL (R96) -/
  keepCal : Bool := false
  /-- DRONE_STATE 0..4 (R44 R113) -/
  drone : Nat := 0
  /-- 8, BOOT_STAGE (R49) -/
  bootStage : Nat := 0
  /-- 0 SPI 1 host 2 skyline 3 none (R44 R103) -/
  bootSource : Nat := 0
  /-- slot being tried, 0 A 1 B (R104) -/
  slot : Nat := 0
  /-- sampled strap (R103 R52); reset value a DESIGN CHOICE, log entry 5 -/
  leadPref : Nat := 0
  /-- BOOT_SRC1, BOOT_SRC0 pins (R103 R496); reset value a DESIGN CHOICE, log entry 5 -/
  strapSrc : Nat := 0
  /-- LEAD_PREF pin (R103 R496); reset value a DESIGN CHOICE, log entry 5 -/
  strapPref : Nat := 0
  /-- instant BOOT_STAGE 0x02 began (R110) -/
  releasedAt : Nat := 0
  /-- instant of the last BOOT_STAGE change (R110) -/
  stageAt : Nat := 0
  /-- SYS_RST_N low (R497) -/
  rst : Bool := false
  /-- instant of the last skyline boot request (R106) -/
  bootRetryAt : Nat := 0
  /-- bundle requests served to children (R106); the model's own (DESIGN CHOICE), log entry 10 -/
  served : Nat := 0
  /-- Standby reached since boot (R111) -/
  standby : Bool := false
  /-- tick T + P after which the links go down for Standby (R102) -/
  linksDownDue : Option Nat := none
  /-- manifest body the firmware identity entry shows (R44) -/
  idBytes : List Byte := []
deriving DecidableEq, Repr

/-- What the entries of the Cruise table that change in service show (R33, R39 to R44). -/
structure CruiseView where
  /-- 83 x STATE (R39) -/
  domains : List Nat := (List.range 82).map (fun n => if n % 35 < 16 ∧ n < 51 then 0 else 1) ++ [3]
  /-- STATE and SPARED of 16 links (R40) -/
  links : List (Nat × Nat) := List.replicate 16 (0, 0xFF)
  /-- RATE and CLOCKING of 16 links (R40) -/
  linkCfgs : List LinkCfg := List.replicate 16 {}
  /-- link of each stand of the map (R40) -/
  standLinks : List Nat := []
  /-- REED_STATE per reed (R41) -/
  reeds : List Nat := (List.range 544).map (fun n => if 32 ≤ n % 34 then 1 else 0)
  /-- SET_POINT, SET_POINTS, RETIRED_PAGES, ORDERING (R42) -/
  store : List Nat := [2, 0, 0, 0]
  /-- STATE of 8 decoders (R43) -/
  decoders : List Nat := List.replicate 8 0
  /-- manifest body behind the firmware identity entry (R44) -/
  idBytes : List Byte := []
  /-- DRONE_STATE, BOOT_SOURCE, ROLLBACK, LIFECYCLE, CHANTER_DIE (R44) -/
  identity : List Nat := [0, 0, 0, 0, 0xFF]
deriving DecidableEq, Repr

/-- The PCIe function and global registers (R27 to R30, R48 to R54). -/
structure Pcie where
  /-- D-state (R29) -/
  d3hot : Bool := false
  /-- PERST_N asserted (R103 R498) -/
  perst : Bool := false
  /-- 32 (R50) -/
  glbErr : BitVec 32 := 0
  /-- 32 (R54) -/
  scratch : BitVec 32 := 0
  /-- 32, BASE_LO (R53) -/
  apLo : BitVec 32 := 0
  /-- 32, BASE_HI as written (R53) -/
  apHi : BitVec 32 := 0
  /-- 37, base in force (R53) -/
  apBase : Nat := 0
  /-- instant of the last EV_APERTURE_FAULT (R54) -/
  apFaultAt : Option Nat := none
  /-- 4 KiB (R27 R47); reset value a DESIGN CHOICE, log entry 3 -/
  msixTable : List Byte := []
  /-- 256, MSI-X messages pending behind a mask (R27 R47) -/
  pba : BitVec 256 := 0
  /-- 32, GENERATION (R32 R33); reset value a DESIGN CHOICE, log entry 3 -/
  cruiseGen : Nat := 2
  /-- TYPE and INSTANCE of entries changed in the last update (R34) -/
  cruiseChanged : List (Nat × Nat) := []
  /-- TYPE and INSTANCE of entries rewritten since the last update (R33); the model's own (DESIGN CHOICE), log entry 10 -/
  cruiseDue : List (Nat × Nat) := []
  /-- what the table shows: the device as it stood at the last update (R33) -/
  shown : CruiseView := {}
  /-- revision-read flag (R65) -/
  revRead : Bool := false
  /-- data of the last BAR0 or BAR2 read (R30 R59); the model's own (DESIGN CHOICE), log entry 10 -/
  lastRead : List Byte := []
  /-- the completion of the last read carried the poisoned bit (R358); the model's own (DESIGN CHOICE), log entry 10 -/
  lastPoison : Bool := false
  /-- poisoned completions reported through AER (R27 R358); the model's own (DESIGN CHOICE), log entry 10 -/
  aer : Nat := 0
  /-- dies with BAR2 writes not yet known done (Linub) (R345) -/
  hostWrites : BitVec 2 := 0
deriving DecidableEq, Repr

/-- Mailbox `n` after reset: MBX_IRQ.VECTOR is n (R55). -/
def mailboxReset (n : Nat) : Mailbox := { irq := BitVec.ofNat 32 n }

/-- Ring `r` after reset: COAL_COUNT 1 and VECTOR 8 + r (R57). -/
def ringReset (r : Nat) : Ring := { ctrl := BitVec.ofNat 32 (0x100000 + 8 + r) }

/-- The A9. -/
structure State where
  /-- sub-structure (R387) -/
  clock : Clock := {}
  /-- sub-structure (R390) -/
  tb : TimeBase := {}
  /-- sub-structure (R27) -/
  pcie : Pcie := {}
  /-- 8 (R55) -/
  mailboxes : List Mailbox := (List.range 8).map mailboxReset
  /-- 4 (R57) -/
  rings : List Ring := (List.range 4).map ringReset
  /-- 16 x 8, event route per class (R74) -/
  routes : List Nat := List.replicate 16 0
  /-- open, armed and closed transactions, oldest first; 64 per mailbox kept (R85) -/
  txns : List Txn := []
  /-- 29, count of the last transaction ID (R75) -/
  txnCount : Nat := 0
  /-- commit-instant counter (R83); the model's own (DESIGN CHOICE), log entry 10 -/
  armOrder : Nat := 0
  /-- configuration in force (R80) -/
  settings : Settings := {}
  /-- sub-structure (R24) -/
  synth : Synth := {}
  /-- sub-structure (R92) -/
  modes : Modes := {}
  /-- sub-structure (R116) -/
  ingest : Ingest := {}
  /-- sub-structure (R203) -/
  compose : Compose := {}
  /-- run-time state per stand of the map in force (R332) -/
  stands : List Stand := []
  /-- stands whose bake is queued or running, in queue order (R227) -/
  bakeQueue : List Nat := []
  /-- 16 (R299) -/
  links : List Link := List.replicate 16 {}
  /-- packets of each link not yet put into frames (R313) -/
  linkStreams : List (List Byte) := List.replicate 16 []
  /-- latched VALID and select bits per stand (exceptions first) (R22 R188); the model's own (DESIGN CHOICE), log entry 10 -/
  scanLatch : List (List (Nat × Bool × Nat)) := []
  /-- sub-structure (R336) -/
  fs : FrameStore := {}
  /-- sub-structure (R363) -/
  chain : Chain := {}
  /-- sub-structure (R405) -/
  faults : Faults := {}
  /-- sub-structure (R60) -/
  bellows : Bellows := {}
  /-- sub-structure (R457) -/
  flash : Flash := {}
  /-- sub-structure (R447) -/
  recorder : Recorder := {}
  /-- sub-structure (R464) -/
  security : Security := {}
  /-- sub-structure (R432) -/
  fw : FwUpdate := {}
  /-- sub-structure (R478) -/
  power : Power := {}
  /-- what the last command sent out of the A9 ((model)); the model's own (DESIGN CHOICE), log entry 19 -/
  out : List Out := []
  /-- records raised while no complex serves, written at the next role change (R64 R423); the model's own (DESIGN CHOICE), log entry 10 -/
  owed : List EventRec := []
  /-- commands waiting, first in first out ((model)); the model's own (DESIGN CHOICE), log entry 1 -/
  pending : List Instr := []
deriving DecidableEq, Repr

/-- The A9 right after the first release of SYS_RST_N that follows Bellows power-up: every field at its default (see
INVENTORY.md, State, for the rule or log entry each value comes from). -/
def State.reset : State := {}

end Sys2Proof.Machine
end

