-- ==== Sys2Proof/Machine/Ops.lean ====
section
/-! DEFINITION. The operations every family shares: device time, byte memory in its canonical form, the fields of lists of
parts, and what the A9 sends out. -/

namespace Sys2Proof.Machine

/-! ### Time (units of 1/3 ns) -/

/-- A number of nanoseconds in units of 1/3 ns. -/
def ns (n : Nat) : Nat := 3 * n
/-- Microseconds in units of 1/3 ns. -/
def us (n : Nat) : Nat := 3000 * n
/-- Milliseconds in units of 1/3 ns. -/
def ms (n : Nat) : Nat := 3000000 * n
/-- Seconds in units of 1/3 ns. -/
def sec (n : Nat) : Nat := 3000000000 * n
/-- Hours in units of 1/3 ns. -/
def hours (n : Nat) : Nat := 3600 * sec n

/-- The frame period P at a frame rate (R18): 16,666.667 µs at 60 Hz, 8,333.333 µs at 120 Hz. -/
def framePeriod (rate : Nat) : Nat := if rate = 120 then 25000000 else 50000000
/-- The frame blank B, 100 µs (R18). -/
def blankTime : Nat := us 100
/-- The write guard G, 50 µs (R18). -/
def guardTime : Nat := us 50
/-- The sub-frame period S = (P − B) / 4 (R249). -/
def subPeriod (rate : Nat) : Nat := (framePeriod rate - blankTime) / 4

/-- Frame period in force. -/
def State.period (s : State) : Nat := framePeriod s.clock.rate

/-- Device time in whole nanoseconds. -/
def State.nowNs (s : State) : Nat := s.clock.dev / 3

/-- An instant lies at least `d` units back (DESIGN CHOICE, log entry 12). -/
def State.since (s : State) (t d : Nat) : Bool := t + d ≤ s.clock.up

/-- Sends something out of the A9 (DESIGN CHOICE, log entry 19). -/
def State.emit (s : State) (o : Out) : State := { s with out := s.out ++ [o] }

/-! ### Byte memory (R336, R447): a list of cells, addresses rising, no entry equal to 0 -/

/-- The byte at an address; an unlisted address reads 0 (DESIGN CHOICE, log entry 9). -/
def Mem.read : List Host.Cell → Nat → Byte
  | [], _ => 0
  | (k, v) :: m, a => if k = a then v else Mem.read m a

/-- Writes one byte, keeping the form: writing 0 removes the entry (DESIGN CHOICE, log entry 9). -/
def Mem.write : List Host.Cell → Nat → Byte → List Host.Cell
  | [], a, b => if b = 0 then [] else [(a, b)]
  | (k, v) :: m, a, b =>
    if a < k then (if b = 0 then (k, v) :: m else (a, b) :: (k, v) :: m)
    else if a = k then (if b = 0 then m else (a, b) :: m)
    else (k, v) :: Mem.write m a b

/-- Writes bytes from an address upward. -/
def Mem.writes (m : List Host.Cell) (a : Nat) : List Byte → List Host.Cell
  | [] => m
  | b :: bs => Mem.writes (Mem.write m a b) (a + 1) bs

/-- Reads `n` bytes from an address. -/
def Mem.reads (m : List Host.Cell) (a n : Nat) : List Byte := (List.range n).map fun i => Mem.read m (a + i)

/-- Clears every byte of a span to 0. -/
def Mem.clear (m : List Host.Cell) (lo hi : Nat) : List Host.Cell := m.filter fun c => c.1 < lo || hi ≤ c.1

/-- Every address of the memory lies above `lo` (or `lo` is none), addresses rise and no entry is 0. -/
def Mem.wfFrom : Option Nat → List Host.Cell → Bool
  | _, [] => true
  | lo, (k, v) :: m => (match lo with | none => true | some l => decide (l < k)) && decide (v ≠ 0) && Mem.wfFrom (some k) m

/-- The canonical form (DESIGN CHOICE, log entry 9). -/
def Memory.wf (m : List Host.Cell) : Bool := Mem.wfFrom none m

/-! ### Lists of parts -/

/-- `n`-th entry changed; a list too short stays as it is. -/
def upd {α : Type} (l : List α) (n : Nat) (f : α → α) : List α := l.modify n f

/-- The value stored for a key, or a default. -/
def lookupD {α : Type} (l : List (Nat × α)) (k : Nat) (d : α) : α :=
  match l with
  | [] => d
  | (k', v) :: m => if k' = k then v else lookupD m k d

/-- Stores a value for a key, the keys rising. -/
def insertKey {α : Type} (l : List (Nat × α)) (k : Nat) (v : α) : List (Nat × α) :=
  match l with
  | [] => [(k, v)]
  | (k', v') :: m => if k < k' then (k, v) :: (k', v') :: m else if k = k' then (k, v) :: m else (k', v') :: insertKey m k v

/-- Removes a key. -/
def removeKey {α : Type} (l : List (Nat × α)) (k : Nat) : List (Nat × α) := l.filter fun e => e.1 != k

/-- An element added once. -/
def addOnce (l : List Nat) (n : Nat) : List Nat := if l.contains n then l else l ++ [n]
/-- Numbers put at the end of a list, each once. -/
def addAll (l : List Nat) (ns : List Nat) : List Nat := ns.foldl addOnce l

/-- The numbers from `lo` below `hi`. -/
def span (lo hi : Nat) : List Nat := (List.range (hi - lo)).map (lo + ·)

/-- Runs an action for each number of a list. -/
def forEach (l : List Nat) (s : State) (f : Nat → State → State) : State := l.foldl (fun s n => f n s) s

def State.mbx (s : State) (n : Nat) : Mailbox := s.mailboxes.getD n {}
def State.updMbx (s : State) (n : Nat) (f : Mailbox → Mailbox) : State := { s with mailboxes := upd s.mailboxes n f }
def State.ring (s : State) (r : Nat) : Ring := s.rings.getD r {}
def State.updRing (s : State) (r : Nat) (f : Ring → Ring) : State := { s with rings := upd s.rings r f }
def State.stand (s : State) (n : Nat) : Stand := s.stands.getD n {}
def State.updStand (s : State) (n : Nat) (f : Stand → Stand) : State := { s with stands := upd s.stands n f }
def State.link (s : State) (n : Nat) : Link := s.links.getD n {}
def State.updLink (s : State) (n : Nat) (f : Link → Link) : State := { s with links := upd s.links n f }
def State.port (s : State) (n : Nat) : Port := s.chain.ports.getD n {}
def State.updPort (s : State) (n : Nat) (f : Port → Port) : State :=
  { s with chain := { s.chain with ports := upd s.chain.ports n f } }

/-- The port is up and not dead. -/
def Port.up (p : Port) : Bool := p.state == 2 || p.state == 3

/-- The port carries frames: up, or dead with its lanes up again (R369). -/
def Port.carries (p : Port) : Bool := p.up || (p.state == 4 && p.lanes != 0)

/-- The port is up but for a recovery of its lanes (R312), which holds its frames back and leaves the sideband pairs alone. -/
def Port.joined (p : Port) : Bool := p.up || (p.state == 1 && p.fr.recovering.isSome)

/-- A packet joins the stream that the frames of a port carry (R313, R367): byte 1 of its header is reserved, `body` is what follows the header. -/
def State.portStream (s : State) (p kind : Nat) (body : List Byte) : State :=
  s.updPort p fun q =>
    if q.carries || q.joined then { q with fr := { q.fr with stream := q.fr.stream ++ packetBytes kind (0 :: body) } } else q

/-- A packet is sent on a skyline port. -/
def State.sendPort (s : State) (p kind : Nat) (body : List Byte) : State := (s.emit (.portSend p kind body)).portStream p kind body

def State.stream (s : State) (n : Nat) : Option SceneStream := s.ingest.streams.getD n none
def State.setStream (s : State) (n : Nat) (v : Option SceneStream) : State :=
  { s with ingest := { s.ingest with streams := upd s.ingest.streams n fun _ => v } }
def State.updStream (s : State) (n : Nat) (f : SceneStream → SceneStream) : State :=
  { s with ingest := { s.ingest with streams := upd s.ingest.streams n (Option.map f) } }
def State.queue (s : State) (n : Nat) : Queue := s.ingest.queues.getD n {}
def State.updQueue (s : State) (n : Nat) (f : Queue → Queue) : State :=
  { s with ingest := { s.ingest with queues := upd s.ingest.queues n f } }
def State.complex (s : State) (d : Nat) : Complex := s.bellows.complexes.getD d {}
def State.updComplex (s : State) (d : Nat) (f : Complex → Complex) : State :=
  { s with bellows := { s.bellows with complexes := upd s.bellows.complexes d f } }
def State.standCfg (s : State) (n : Nat) : StandCfg := s.settings.stands.getD n {}

/-- Indices of the stands of the stand map in force that lie on a link. -/
def Settings.standsOn (c : Settings) (link : Nat) : List Nat :=
  (List.range c.stands.length).filter fun i => (c.stands.getD i {}).link == link

/-- Links the stand map uses, rising. -/
def Settings.linksUsed (c : Settings) : List Nat := (List.range 16).filter fun l => (c.standsOn l).length != 0

/-- A stand's position among the stands of its link, 0 to 7 (R313). -/
def Settings.position (c : Settings) (i : Nat) : Nat :=
  ((c.standsOn (c.stands.getD i {}).link).filter (· < i)).length

/-- The compute die of a stand link (R17): links 0 to 7 West, 8 to 15 East. -/
def dieOfLink (l : Nat) : Nat := if l < 8 then 0 else 1

/-- The die of a stand of the map in force. -/
def State.dieOfStand (s : State) (i : Nat) : Nat := dieOfLink (s.standCfg i).link

/-- Bellows latches bits of BLW_LATCH (R60); the instant is kept for a write in the same cycle (R9). -/
def State.latch (s : State) (bits : BitVec 32) : State :=
  let old := if s.bellows.latchSet.1 = s.clock.up then s.bellows.latchSet.2 else 0
  { s with bellows := { s.bellows with latch := s.bellows.latch ||| bits, latchSet := (s.clock.up, old ||| bits) } }

/-! ### Free values: what the spec leaves open -/

/-- Takes the next free value (DESIGN CHOICE, log entry 11). -/
def State.drawFree (s : State) : Nat × State :=
  (s.security.free, { s with security := { s.security with free := s.security.free + 1 } })

/-! ### Modes -/

/-- The operating modes (R49, R92). -/
def isPlay (m : Nat) : Bool := m == 2 || m == 3 || m == 4

/-- Display modes (R92): the modes that scan the wall out. -/
def isDisplay (m : Nat) : Bool := 2 ≤ m && m ≤ 7

/-- The host can be reached: the function is in D0 and its link is up (R29, R498). -/
def State.hostReach (s : State) : Bool := !s.pcie.d3hot && !s.pcie.perst && !s.modes.rst

/-- Firmware serves mailboxes: a complex holds the chanter role (GLB_STATUS.FW_UP, R49). -/
def State.fwUp (s : State) : Bool := s.modes.standby && s.bellows.role.isSome

/-- The chanter makes progress (R64). -/
def State.serves (s : State) : Bool :=
  s.fwUp && (match s.bellows.role with | none => false | some d => !(s.complex d).stopped)

/-- The other complex. -/
def otherDie (d : Nat) : Nat := 1 - d

/-- A region is retired (R412). -/
def State.regionRetired (s : State) (kind unit : Nat) : Bool :=
  s.faults.regions.any fun r => r.kind == kind && r.unit == unit && r.state == 3

/-- A region is out of service: isolated, fenced or retired (R408, R412). -/
def State.regionOut (s : State) (kind unit : Nat) : Bool :=
  s.faults.regions.any fun r => r.kind == kind && r.unit == unit && (r.out || r.state == 3)

/-- Chain address of this A9 (R365, R366): configured, else 1 at the root, else provisional (DEDUCED, log entry 64). -/
def State.ownAddress (s : State) : Nat :=
  if s.settings.chainAddr ≠ 0 then s.settings.chainAddr else if s.settings.chainRoot then 1 else s.chain.provisional

end Sys2Proof.Machine
end

