-- ==== Sys2Proof/Machine/Events.lean ====
section
/-! DEFINITION. Event records and event rings (R57, R58, R74, R87 to R91), the recorder's allocator and fixed records
(R447 to R451), and the triggers events fire (R455). -/

namespace Sys2Proof.Machine

/-! ### Event codes (R90) -/

/-- EV_CRUISE_CHANGED: UNIT none; P0 new GENERATION -/
abbrev evCruiseChanged : Nat := 0x0101
/-- EV_MAILBOX_STALL: UNIT Mailbox; P0 opcode -/
abbrev evMailboxStall : Nat := 0x0102
/-- EV_APERTURE_FAULT: UNIT none; P0, P1 frame-store address low, high -/
abbrev evApertureFault : Nat := 0x0103
/-- EV_REGION_ERROR: UNIT Region index; P0 region kind, P1 error class -/
abbrev evRegionError : Nat := 0x0104
/-- EV_REGION_FENCED: UNIT Region index; P0 region kind, P1 records held -/
abbrev evRegionFenced : Nat := 0x0105
/-- EV_REGION_RETIRED: UNIT Region index; P0 region kind -/
abbrev evRegionRetired : Nat := 0x0106
/-- EV_ERR_OVERFLOW: UNIT none; P0 records merged -/
abbrev evErrOverflow : Nat := 0x0107
/-- EV_REED_SPARED: UNIT A9-wide reed; P0 spare that replaced it -/
abbrev evReedSpared : Nat := 0x0108
/-- EV_SECTION_SPREAD: UNIT Section; P0 quadrant -/
abbrev evSectionSpread : Nat := 0x0109
/-- EV_LEASE_MOVED: UNIT none; P0 new holder die, P1 epoch, P2 cause -/
abbrev evLeaseMoved : Nat := 0x010A
/-- EV_SELF_FENCE: UNIT none; P0 die, P1 cause -/
abbrev evSelfFence : Nat := 0x010B
/-- EV_SPARE_BUDGET: UNIT none; P0 resource kind, P1 used, P2 budget -/
abbrev evSpareBudget : Nat := 0x010C
/-- EV_MODE_CHANGED: UNIT none; P0 old mode, P1 new mode -/
abbrev evModeChanged : Nat := 0x0201
/-- EV_STANDBY: UNIT none; P0 boot source -/
abbrev evStandby : Nat := 0x0202
/-- EV_TXN_APPLIED: UNIT none; P0 staged count, P1, P2 tick that ends the blank at which it applied, low, high -/
abbrev evTxnApplied : Nat := 0x0301
/-- EV_TXN_TIMEOUT: UNIT none; P0 staged count -/
abbrev evTxnTimeout : Nat := 0x0302
/-- EV_TXN_DROPPED: UNIT none; P0 position, P1 status -/
abbrev evTxnDropped : Nat := 0x0303
/-- EV_TXN_ABORTED: UNIT none; P0 staged count -/
abbrev evTxnAborted : Nat := 0x0304
/-- EV_QUEUE_ERROR: UNIT Submission queue; P0 descriptor index, P1 cause -/
abbrev evQueueError : Nat := 0x0401
/-- EV_KEY_REFUSED: UNIT Stream; P0 cause -/
abbrev evKeyRefused : Nat := 0x0402
/-- EV_DECODE_ERROR: UNIT Decoder; P0 stream, P1 cause -/
abbrev evDecodeError : Nat := 0x0403
/-- EV_STREAM_END: UNIT Stream; none -/
abbrev evStreamEnd : Nat := 0x0404
/-- EV_SCENE_REPEAT: UNIT Stream; P0 misses this frame, P1 total misses -/
abbrev evSceneRepeat : Nat := 0x0501
/-- EV_KERF_LATE: UNIT none; P0 late kerfs, P1 West, P2 East -/
abbrev evKerfLate : Nat := 0x0502
/-- EV_LIFT_DEGRADED: UNIT Stream; P0 cause -/
abbrev evLiftDegraded : Nat := 0x0503
/-- EV_WATERMARK: UNIT none; P0 kerf row -/
abbrev evWatermark : Nat := 0x0601
/-- EV_UPDATE_SUPERSEDED: UNIT Compose layer; P0 region -/
abbrev evUpdateSuperseded : Nat := 0x0602
/-- EV_BLIT_DONE: UNIT none; P0 operations completed -/
abbrev evBlitDone : Nat := 0x0603
/-- EV_CAL_DONE: UNIT Stand or 0xFFFF; P0 operation, P1 result -/
abbrev evCalDone : Nat := 0x0701
/-- EV_CAL_REJECTED: UNIT Stand; P0 cause, P1 channels affected -/
abbrev evCalRejected : Nat := 0x0702
/-- EV_CAL_REBAKE: UNIT Stand; P0 temperature, 0.1 °C units -/
abbrev evCalRebake : Nat := 0x0703
/-- EV_CHANNEL_FAULT: UNIT Stand; P0 hogel, P1 emitter, P2 channel, P3 0 open 1 short -/
abbrev evChannelFault : Nat := 0x0704
/-- EV_CONCEALED: UNIT Stand; P0 hogel, P1 emitter or 0xFFFF for whole hogel -/
abbrev evConcealed : Nat := 0x0705
/-- EV_CONCEAL_ENVELOPE: UNIT Stand; P0 hogel -/
abbrev evConcealEnvelope : Nat := 0x0706
/-- EV_LINK_UP: UNIT Link; P0 rate, P1 clocking -/
abbrev evLinkUp : Nat := 0x0801
/-- EV_LINK_DOWN: UNIT Link; P0 cause -/
abbrev evLinkDown : Nat := 0x0802
/-- EV_LANE_SPARED: UNIT Link; P0 logical lane -/
abbrev evLaneSpared : Nat := 0x0803
/-- EV_LINK_NARROW: UNIT Link; P0 second lane -/
abbrev evLinkNarrow : Nat := 0x0804
/-- EV_STAND_REMOVED: UNIT Stand; P0 link -/
abbrev evStandRemoved : Nat := 0x0805
/-- EV_STAND_READY: UNIT Stand; P0 link -/
abbrev evStandReady : Nat := 0x0806
/-- EV_STAND_TEMP: UNIT Stand; P0 temperature, 0.1 °C units -/
abbrev evStandTemp : Nat := 0x0807
/-- EV_STAND_STATUS: UNIT Stand; P0 receiver status -/
abbrev evStandStatus : Nat := 0x0808
/-- EV_TIMING_CHANGED: UNIT none; P0 frame rate, P1 spread count -/
abbrev evTimingChanged : Nat := 0x0901
/-- EV_MEASURE_PASS: UNIT Stand; P0 pass number -/
abbrev evMeasurePass : Nat := 0x0902
/-- EV_STEER_UNKNOWN: UNIT Stand; P0 band mask -/
abbrev evSteerUnknown : Nat := 0x0A01
/-- EV_STEER_KNOWN: UNIT none; P0 stands set -/
abbrev evSteerKnown : Nat := 0x0A02
/-- EV_STEER_DC: UNIT Stand; P0 band, P1 integral -/
abbrev evSteerDc : Nat := 0x0A03
/-- EV_MEM_CORRECTED: UNIT Pseudo-channel; P0 count -/
abbrev evMemCorrected : Nat := 0x0B01
/-- EV_MEM_UNCORRECTED: UNIT Pseudo-channel; P0, P1 address low, high -/
abbrev evMemUncorrected : Nat := 0x0B02
/-- EV_ROW_SPARED: UNIT Pseudo-channel; P0 row -/
abbrev evRowSpared : Nat := 0x0B03
/-- EV_PAGE_RETIRED: UNIT none; P0 page, P1 total retired -/
abbrev evPageRetired : Nat := 0x0B04
/-- EV_RT_PANIC: UNIT Port; P0 panics this frame -/
abbrev evRtPanic : Nat := 0x0B05
/-- EV_SET_POINT: UNIT none; P0 old, P1 new set point -/
abbrev evSetPoint : Nat := 0x0B06
/-- EV_TRAIN_DONE: UNIT none; P0 set point, P1 result -/
abbrev evTrainDone : Nat := 0x0B07
/-- EV_CHAIN_BYPASS: UNIT Port; P0 neighbour address -/
abbrev evChainBypass : Nat := 0x0C01
/-- EV_CHAIN_RESTORED: UNIT Port; P0 neighbour address -/
abbrev evChainRestored : Nat := 0x0C02
/-- EV_READY_GRACE: UNIT Port; P0 grace, µs -/
abbrev evReadyGrace : Nat := 0x0C03
/-- EV_HOP_DELAY: UNIT Port; P0 delay, ps -/
abbrev evHopDelay : Nat := 0x0C04
/-- EV_HOLDOVER: UNIT none; P0 cause -/
abbrev evHoldover : Nat := 0x0D01
/-- EV_TIME_LOCKED: UNIT none; P0 source -/
abbrev evTimeLocked : Nat := 0x0D02
/-- EV_JUMP_REFUSED: UNIT none; P0, P1 step ns, signed, low and high -/
abbrev evJumpRefused : Nat := 0x0D03
/-- EV_FSYNC_UNUSABLE: UNIT none; P0 ignored edges in the last second -/
abbrev evFsyncUnusable : Nat := 0x0D04
/-- EV_PTP_MASTER: UNIT Ethernet port; P0, P1 clock identity low, high -/
abbrev evPtpMaster : Nat := 0x0D05
/-- EV_FW_UPDATE: UNIT none; P0 stage, P1 result -/
abbrev evFwUpdate : Nat := 0x0E01
/-- EV_SIG_FAIL: UNIT none; P0 object, P1 which signature -/
abbrev evSigFail : Nat := 0x0E02
/-- EV_REC_FLUSHED: UNIT none; P0 result, P1 bytes -/
abbrev evRecFlushed : Nat := 0x0F01
/-- EV_THROTTLE: UNIT Die; P0 junction temperature, 0.1 °C units -/
abbrev evThrottle : Nat := 0x1001
/-- EV_RAIL_FAULT: UNIT Domain; P0 rail -/
abbrev evRailFault : Nat := 0x1002
/-- EV_HOLDUP_LOW: UNIT none; P0 bank voltage, mV -/
abbrev evHoldupLow : Nat := 0x1003
/-- EV_POWER_LOSS: UNIT none; P0 journal result, P1 recorder result -/
abbrev evPowerLoss : Nat := 0x1004

/-- SEVERITY of each event (R90). -/
def eventSev : Nat → Nat
  | 0x0108 | 0x0302 | 0x0503 | 0x0705 | 0x0806 | 0x0B01 | 0x0B03 | 0x0B04 | 0x0C02 | 0x0D05 | 0x0E01 => 1
  | 0x0102 | 0x0103 | 0x010A | 0x010C | 0x0304 | 0x0501 | 0x0502 | 0x0702 | 0x0803 | 0x0805 | 0x0807 | 0x0A01 | 0x0B05 | 0x0C01 | 0x0C03 | 0x0D01 | 0x0D03 | 0x1001 | 0x1004 => 2
  | 0x0104 | 0x0105 | 0x0106 | 0x0107 | 0x0109 | 0x0303 | 0x0401 | 0x0402 | 0x0403 | 0x0704 | 0x0706 | 0x0802 | 0x0804 | 0x0808 | 0x0A03 | 0x0B02 | 0x0D04 | 0x0E02 | 0x1002 | 0x1003 => 3
  | 0x010B => 4
  | _ => 0
/-- Die of a region (R405): KIND and UNIT. -/
def regionDie (kind unit : Nat) : Nat :=
  match kind with
  | 1 => unit / 8704
  | 2 => unit / 272
  | 3 => unit / 8
  | 4 => dieOfLink unit
  | 5 => unit / 64
  | 6 => unit / 4
  | 7 => 0
  | 8 | 9 => unit
  | _ => 2

/-- Port `n` of a frame store belongs to a die (R339): links 0 to 7, sections 0 to 7 and decoders 0 to 3 are West. -/
def diesOfPort (n : Nat) : List Nat :=
  if n < 16 then [n / 8] else if n < 32 then [(n - 16) / 8] else if n < 40 then [(n - 32) / 4]
  else if n = 41 ∨ n = 42 then [0, 1] else [b2n (decide (n = 44 ∨ n = 46))]

/-- The die of a port that one die serves; West for those that both serve (R339). -/
def dieOfPort (n : Nat) : Nat := (diesOfPort n).headD 0

/-- DIE of an event (R87): the die that holds the resource its UNIT names, 0xFF where it names none (DEDUCED, log entry 91). -/
def eventDie (s : State) (code unit : Nat) (ps : List Nat) : Nat :=
  if unit = 0xFFFF then 0xFF else
  match code with
  | 0x0104 | 0x0105 | 0x0106 => regionDie (ps.getD 0 0) unit
  | 0x0108 => regionDie 2 unit
  | 0x0109 => regionDie 3 unit
  | 0x0403 => regionDie 6 unit
  | 0x0701 | 0x0702 | 0x0703 | 0x0704 | 0x0705 | 0x0706 | 0x0805 | 0x0806 | 0x0807 | 0x0808 | 0x0902 | 0x0A01 | 0x0A03 =>
    s.dieOfStand unit
  | 0x0801 | 0x0802 | 0x0803 | 0x0804 => dieOfLink unit
  | 0x0B01 | 0x0B02 | 0x0B03 => regionDie 5 unit
  | 0x0B05 => dieOfPort unit
  | 0x1001 => unit
  | 0x1002 => if unit < 35 then 0 else if unit < 69 then 1 else 2
  | 0x0102 | 0x0C01 | 0x0C02 | 0x0C03 | 0x0C04 | 0x0D05 => 2
  | _ => 0xFF

/-! ### The recorder's log -/

/-- Bytes of the retention SRAM (R447). -/
def recSize : Nat := 0x400000

/-- Length of the record that starts at an offset of the SRAM, from its header (R450, R452). -/
def recLen (m : List Host.Cell) (off : Nat) : Nat :=
  let code := u16 (Mem.reads m off 2) 0
  let n := if code = 0xFFFE then u32 (Mem.reads m (off + 12) 4) 0
    else if 0xF000 ≤ code ∧ code ≤ 0xF00F then u16 (Mem.reads m (off + 26) 2) 0 else 32
  max 32 n

/-- End of the last record, walked from `off`, that starts below `stop`. -/
def recWalk (m : List Host.Cell) (stop : Nat) : (fuel off : Nat) → Nat
  | 0, off => off
  | n + 1, off => if off < stop then recWalk m stop n (off + recLen m off) else off

/-- A record's mark (R448): 0xA5 and the pass byte. -/
def recMark (pass : Nat) : List Byte := le 2 (0xA5 + 256 * (pass % 256))

/-- A pad record (R450): header with its length in P0. -/
def recPad (pass timeNs len : Nat) : List Byte :=
  le 2 0xFFFE ++ recMark pass ++ le 8 timeNs ++ le 4 len ++ zeros 16

/-- Allocates `n` bytes (R449): a pad to the end where the record would cross it, a pad over the rest of an old record. -/
def Recorder.alloc (r : Recorder) (timeNs n : Nat) : Nat × Recorder :=
  let r := if r.head + n ≤ recSize then r else
    { r with sram := Mem.writes r.sram r.head (recPad r.wraps timeNs (recSize - r.head)), head := 0, wraps := r.wraps + 1,
             unflushed := r.unflushed + (recSize - r.head) }
  let h := r.head
  let old := if r.wraps = 0 then h + n else recWalk r.sram (h + n) (n / 32 + 1) h
  let r := if old ≤ h + n then r else
    { r with sram := Mem.writes r.sram (h + n) (recPad (r.wraps + 255) timeNs (old - (h + n))) }
  (h, { r with sram := Mem.writes r.sram (h + 2) [0, 0],
               head := (h + n) % recSize, wraps := r.wraps + (h + n) / recSize })

/-- A record is written at an instant: it is the oldest unflushed one where none lies behind those being flushed (R459). -/
def Recorder.starts (r : Recorder) (now : Nat) : Recorder :=
  { r with oldestAt := if r.unflushed ≤ (r.flushing.map (·.1)).getD 0 then now else r.oldestAt }

/-- Writes a whole record whose bytes 2 and 3 are its mark's place: allocated, written, marked (R448, R449). -/
def Recorder.put (r : Recorder) (timeNs nowDev : Nat) (bytes : List Byte) : Recorder :=
  if r.inReset then { r with held := if r.held.length < 256 then r.held ++ [bytes] else r.held } else
  let pass := if r.head + bytes.length ≤ recSize then r.wraps else r.wraps + 1
  let (off, r) := (r.starts nowDev).alloc timeNs bytes.length
  { r with sram := Mem.writes r.sram off (overwrite bytes 2 (recMark pass)), unflushed := r.unflushed + bytes.length }

/-- A fixed record of 32 bytes (R450). -/
def fixedRec (code timeNs : Nat) (ps : List Nat) : List Byte :=
  le 2 code ++ [0, 0] ++ le 8 timeNs ++ (List.range 5).flatMap fun i => le 4 (ps.getD i 0)

/-- Writes a fixed record to the log. -/
def State.recFixed (s : State) (code : Nat) (ps : List Nat) : State :=
  { s with recorder := s.recorder.put s.nowNs s.clock.up (fixedRec code s.nowNs ps) }

/-! ### Event rings -/

/-- Entries of a ring. -/
def Ring.size (r : Ring) : Nat := 2 ^ r.log2

/-- ENABLE of EVR_CTRL. -/
def Ring.enabled (r : Ring) : Bool := r.ctrl.getLsbD 31

/-- The ring is full: advancing PIDX would make it equal to EVR_CIDX (R58). -/
def Ring.full (r : Ring) : Bool := (r.pidx + 1) % r.size == r.cidx

/-- COAL_COUNT; 0 acts as 1 (R57). -/
def Ring.coalCount (r : Ring) : Nat := max 1 (bitsOf r.ctrl.toNat 27 20)
/-- COAL_US in units of 1/3 ns. -/
def Ring.coalWait (r : Ring) : Nat := us (bitsOf r.ctrl.toNat 19 8)
/-- VECTOR. -/
def Ring.vector (r : Ring) : Nat := bitsOf r.ctrl.toNat 7 0

/-- EVR_PIDX as it reads (R57). -/
def Ring.pidxWord (r : Ring) : Nat := b2n r.phase * 0x100000 + r.pidx % 0x100000

/-- Ring base address in host memory. -/
def Ring.base (r : Ring) : Nat := r.baseHi.toNat * 0x100000000 + r.baseLo.toNat
/-- Mirror address in host memory. -/
def Ring.mirror (r : Ring) : Nat := r.mirrorHi.toNat * 0x100000000 + r.mirrorLo.toNat

/-- Counts records lost (saturating, R57). -/
def Ring.drop (r : Ring) (n : Nat) : Ring := { r with dropped := sat 0xFFFF (r.dropped + n) }

/-- Bytes 0 to 59 of a record (R87). -/
def EventRec.body (e : EventRec) : List Byte :=
  le 2 e.code ++ le 1 e.sev ++ le 1 e.origin ++ le 1 e.die ++ [0] ++ le 2 e.unit ++ le 8 e.time ++ le 8 e.tick ++
  le 4 e.txn.toNat ++ le 4 e.tag.toNat ++ le 2 e.count ++ [0, 0] ++ (List.range 6).flatMap fun i => le 4 (e.params.getD i 0)

/-- Writes one record at PIDX: bytes 0 to 59, then bytes 60 to 63 (R88); PIDX, PHASE and the sequence number advance. -/
def State.ringWrite (s : State) (i : Nat) (e : EventRec) : State :=
  let r := s.ring i
  let a := r.base + 64 * r.pidx
  let s := s.emit (.hostWrite a e.body)
  let s := s.emit (.hostWrite (a + 60) (le 4 (b2n r.phase * 0x80000000 + r.seq % 0x80000000)))
  let wrap := r.pidx + 1 == r.size
  s.updRing i fun r => { r with
    pidx := (r.pidx + 1) % r.size, phase := r.phase != wrap, seq := (r.seq + 1) % 0x80000000,
    unsignalled := r.unsignalled + 1, oldest := if r.unsignalled = 0 then s.clock.up else r.oldest }

/-- The Vector Control word of MSI-X table entry `v` masks its vector (PRESUMED, log entry 143). -/
def State.msixMasked (s : State) (v : Nat) : Bool := 4096 ≠ s.pcie.msixTable.length || bitOf (u8 s.pcie.msixTable (16 * v + 12)) 0

/-- An MSI-X message on a vector: sent, or pending in the PBA while its table entry masks it (PRESUMED, log entry 143). -/
def State.msixSend (s : State) (v : Nat) : State :=
  if s.msixMasked v then { s with pcie := { s.pcie with pba := s.pcie.pba ||| BitVec.ofNat 256 (2 ^ v) } } else s.emit (.msix v)

/-- Ends a batch of written records: the mirror, and then the MSI-X message where COAL_COUNT is reached (R88, R89). -/
def State.ringSignal (s : State) (i : Nat) : State :=
  let r := s.ring i
  let s := s.emit (.hostWrite r.mirror (le 4 r.pidxWord))
  if r.coalCount ≤ r.unsignalled then
    (s.msixSend r.vector).updRing i fun r => { r with unsignalled := 0 }
  else s

/-- Two records that merge (R89). -/
def EventRec.same (a b : EventRec) : Bool := a.code == b.code && a.origin == b.origin && a.die == b.die && a.unit == b.unit

/-- Folds a record into a held one: COUNT rises, the rest keeps its first values (R89). -/
def EventRec.fold (held : EventRec) (n : Nat) : EventRec := { held with count := sat 0xFFFF (held.count + n) }

/-- Holds a record in a list of at most `cap`: merged, held, or dropped; the second part says it was dropped (DEDUCED, log entry 91). -/
def holdRec (cap : Nat) (l : List EventRec) (e : EventRec) : List EventRec × Bool :=
  match l.findIdx? (·.same e) with
  | some k => (l.modify k (·.fold e.count), false)
  | none => if l.length < cap then (l ++ [e], false) else (l, true)

/-- Routes one record into ring `i` (R58, R89): discarded where the ring is disabled, held where it is full or the host is
out of reach (R29), else written (DEDUCED, log entry 91). -/
def State.ringPut (s : State) (i : Nat) (e : EventRec) : State :=
  let r := s.ring i
  if !r.enabled then s.updRing i (·.drop 1)
  else if r.full || !s.hostReach || r.held.length != 0 then
    let (h, lost) := holdRec 64 r.held e
    s.updRing i fun r => ({ r with held := h }).drop (b2n lost)
  else (s.ringWrite i e).ringSignal i

/-- Writes held records while entries are free. -/
def State.ringDrainN (s : State) (i : Nat) : Nat → State
  | 0 => s
  | n + 1 =>
    let r := s.ring i
    match r.held with
    | [] => s
    | e :: rest => if r.full then s else ((s.ringWrite i e).updRing i fun r => { r with held := rest }).ringDrainN i n

/-- Writes the records held for a ring as its entries free, in one batch (R58). -/
def State.ringDrain (s : State) (i : Nat) : State :=
  let r := s.ring i
  if r.enabled && s.hostReach && !r.full && r.held.length != 0 then (s.ringDrainN i 64).ringSignal i else s

/-- ENABLE falls: the records held are discarded and counted (R58). -/
def Ring.disable (r : Ring) : Ring :=
  ({ r with ctrl := r.ctrl &&& 0x7FFFFFFF#32, held := [], unsignalled := 0 }).drop r.held.length

/-! ### Raising events -/

/-- Routes a record at the root by its class (R74): the class's ring, 0xFF discards it, FATAL always to ring 0. -/
def State.routeRec (s : State) (e : EventRec) : State :=
  if e.sev = 4 then s.ringPut 0 e else
  let r := s.routes.getD (e.code / 256 - 1) 0xFF
  if r = 0xFF then s else s.ringPut r e

/-- A record held while there is no parent (R379): up to 256 as they are, those beyond merged under R89, or lost where none is the same. -/
def holdUp (l : List EventRec) (e : EventRec) : List EventRec := if l.length < 256 then l ++ [e] else (holdRec 256 l e).1

/-- Delivers a record: at the root into its rings, elsewhere up the selected parent, or held while there is none (R379). -/
def State.deliver (s : State) (e : EventRec) : State :=
  if s.settings.chainRoot then s.routeRec e else
  match s.chain.parent with
  | some p => (s.emit (.portEvent p (e.body ++ zeros 4))).portStream p 0x13 (e.body ++ zeros 4)
  | none => { s with chain := { s.chain with heldEvents := holdUp s.chain.heldEvents e } }

/-- The trigger matches the event (R453, R455). -/
def Trigger.fires (t : Trigger) (code unit : Nat) : Bool := t.kind == 1 && t.event == code && (!t.unitMatch || t.unit == unit)

/-- A trigger fires, or a further match in one tick is counted (R455). -/
def State.fireTrigger (s : State) (id code unit : Nat) : State :=
  if s.recorder.trigTick.any fun e => e.1 == id && e.2 == s.clock.tick then
    { s with recorder := { s.recorder with trigMerged := insertKey s.recorder.trigMerged id (sat 255 (lookupD s.recorder.trigMerged id 0 + 1)) } }
  else
    { s with recorder := { s.recorder with trigTick := insertKey s.recorder.trigTick id (s.clock.tick)
                                           fired := if s.fwUp then s.recorder.fired ++ [(id, code, unit)] else s.recorder.fired } }

/-- Fires every trigger that an event of this A9 matches; only in modes 2 to 6 (R455). -/
def State.fireAll (s : State) (code unit : Nat) : State :=
  if 2 ≤ s.modes.mode ∧ s.modes.mode ≤ 6 then
    (s.settings.triggers.filter (·.fires code unit)).foldl (fun s t => s.fireTrigger t.id code unit) s
  else s

/-- The record of an event raised now (R87). -/
def State.mkRec (s : State) (code unit : Nat) (ps : List Nat) (tag txn : Word) : EventRec :=
  { code := code, sev := eventSev code, die := eventDie s code unit ps, unit := unit, time := s.nowNs, tick := s.clock.tick,
    txn := txn, tag := tag, params := ps }

/-- The A9 raises an event (R87): written, held or discarded as routed; owed while no complex serves (R64, R423). -/
def State.raise (s : State) (code : Nat) (unit : Nat) (ps : List Nat) (tag : Word := 0) (txn : Word := 0) : State :=
  let e := s.mkRec code unit ps tag txn
  let s := s.fireAll code unit
  if s.serves then s.deliver e else { s with owed := s.owed ++ [e] }

/-- The records owed are delivered once a complex serves. -/
def State.payOwed (s : State) : State :=
  if s.serves then s.owed.foldl (fun s e => s.deliver e) { s with owed := [] } else s

/-- No UNIT (R87). -/
abbrev noUnit : Nat := 0xFFFF

/-- The low and high 32 bits of a 64-bit value, as parameters carry them. -/
def lo32 (v : Nat) : Nat := v % 0x100000000
def hi32 (v : Nat) : Nat := v / 0x100000000 % 0x100000000

/-- A signed value as the 32 bits a parameter holds. -/
def p32 (v : Int) : Nat := wrapInt 32 v

/-- An entry of the Cruise table is rewritten by the rule that names it, whether or not its contents differ (R33). -/
def State.cruiseTouch (s : State) (type inst : Nat) : State :=
  { s with pcie := { s.pcie with cruiseDue := s.pcie.cruiseDue ++ [(type, inst)] } }

/-- A Cruise table update (R33): the entries rewritten to what they now show, GENERATION to the next even value, the changed
entries marked, EV_CRUISE_CHANGED. -/
def State.cruiseUpdate (s : State) (now : CruiseView) (changed : List (Nat × Nat)) : State :=
  let g := (s.pcie.cruiseGen + 2) % 0x100000000
  let s := { s with pcie := { s.pcie with shown := now, cruiseGen := if g = 0 then 2 else g, cruiseChanged := changed, cruiseDue := [] } }
  s.raise evCruiseChanged noUnit [s.pcie.cruiseGen]

end Sys2Proof.Machine
end

