-- ==== Sys2Proof/Machine/Command.lean ====
section
/-! DEFINITION. Firmware commands: areas and headers (R61, R62, R63), response codes and the order of checks (R70, R71),
the life of a command in its mailbox (R55, R56, R64, R65), and the description each command gives of itself. -/

namespace Sys2Proof.Machine

/-! ### Response codes (R70) -/

abbrev stOk : Nat := 0x0000
abbrev stStaged : Nat := 0x0001
abbrev stBadOpcode : Nat := 0x0100
abbrev stBadLength : Nat := 0x0101
abbrev stReserved : Nat := 0x0102
abbrev stBadField : Nat := 0x0103
abbrev stBadMode : Nat := 0x0104
abbrev stNotStageable : Nat := 0x0105
abbrev stRevision : Nat := 0x0106
abbrev stNoTxn : Nat := 0x0200
abbrev stTxnOpen : Nat := 0x0201
abbrev stWrongMailbox : Nat := 0x0202
abbrev stTxnFull : Nat := 0x0203
abbrev stTxnRejected : Nat := 0x0204
abbrev stTooLate : Nat := 0x0205
abbrev stTickRange : Nat := 0x0206
abbrev stBusy : Nat := 0x0300
abbrev stNoResource : Nat := 0x0301
abbrev stFenced : Nat := 0x0302
abbrev stAuth : Nat := 0x0400
abbrev stLifecycle : Nat := 0x0401
abbrev stUnreachable : Nat := 0x0500
abbrev stChainTimeout : Nat := 0x0501
abbrev stInternal : Nat := 0x0F00
abbrev stAborted : Nat := 0x0F01

/-! ### Checks -/

/-- A check that fails: STATUS and the detail record of R63. -/
structure Err where
  status : Nat
  field : Nat := 0xFFFF
  index : Nat := 0xFFFF
  cause : Nat := 0
deriving DecidableEq, Repr

/-- The check fails where `c` holds. -/
def chk (c : Bool) (status : Nat) (field : Nat := 0xFFFF) : List Err := if c then [{ status := status, field := field }] else []

/-- The same for a payload field. -/
def chkP (c : Bool) (status off : Nat) : List Err := chk c status (16 + off)

/-- `a` is answered before `b`: its code stands earlier in the table of R70, or it concerns an earlier staged command, or an
earlier field (R63, R71) (DEDUCED, log entry 107). -/
def Err.first (a b : Err) : Bool :=
  a.status < b.status || (a.status == b.status && (a.index < b.index || (a.index == b.index && a.field ≤ b.field)))

/-- Of the checks that fail, the one that is answered: the code that stands first in the table of R70, and among equals the
first field at fault (R63) (DEDUCED, log entry 107). -/
def Err.pick : List Err → Option Err
  | [] => none
  | e :: es =>
    match Err.pick es with
    | none => some e
    | some b => if e.first b then some e else some b

/-- The detail record (R63). -/
def Err.detail (e : Err) : List Byte := le 2 e.field ++ le 2 e.index ++ le 2 e.cause ++ [0, 0]

/-- Reserved payload bytes that must be 0 (R12): the failing checks for bytes `lo` to `hi - 1`. -/
def rsvBytes (p : List Byte) (lo hi : Nat) : List Err :=
  match (span lo hi).find? fun i => byteAt p i != 0 with
  | some i => [{ status := stReserved, field := 16 + i }]
  | none => []

/-- Reserved bits of the payload byte at `off`: those of `mask` must be 0. -/
def rsvBits (p : List Byte) (off : Nat) (mask : Byte) : List Err := chkP ((byteAt p off &&& mask) != 0) stReserved off

/-! ### Commands -/

/-- A command as firmware takes it from a mailbox or a tunnel. -/
structure Cmd where
  mbx : Nat := 0
  opcode : Nat := 0
  flags : BitVec 16 := 0
  tag : Word := 0
  len : Nat := 0
  rsv : BitVec 16 := 0
  txn : Word := 0
  payload : List Byte := []
  /-- It came by a tunnel: the root has checked the revision flag (R65). -/
  tunnelled : Bool := false
deriving DecidableEq, Repr

/-- The command of an opcode, a header and a payload. -/
def Cmd.of (op : Nat) (h : CmdHdr) (p : List Byte) : Cmd :=
  { mbx := h.mbx.val, opcode := op, flags := h.flags, tag := h.tag, len := p.length, rsv := h.rsv, txn := h.txn, payload := p }

/-- The bytes of a command area (R61). -/
def Cmd.bytes (c : Cmd) : List Byte :=
  le 2 c.opcode ++ le 2 c.flags.toNat ++ le 4 c.tag.toNat ++ le 2 c.len ++ le 2 c.rsv.toNat ++ le 4 c.txn.toNat ++ c.payload

/-- The command that stands in a command area (R61): bytes beyond 16 + LENGTH are ignored. -/
def Cmd.parse (mbx : Nat) (a : List Byte) : Cmd :=
  { mbx := mbx, opcode := u16 a 0, flags := BitVec.ofNat 16 (u16 a 2), tag := BitVec.ofNat 32 (u32 a 4), len := u16 a 8,
    rsv := BitVec.ofNat 16 (u16 a 10), txn := BitVec.ofNat 32 (u32 a 12), payload := slice a 16 (min (u16 a 8) 4080) }

/-- TUNNEL. -/
def Cmd.tunnel (c : Cmd) : Bool := c.flags.getLsbD 0
/-- TARGET. -/
def Cmd.target (c : Cmd) : Nat := bitsOf c.flags.toNat 15 8

/-- A command's kind (R73). -/
inductive Kind where
  /-- Marked S. -/
  | stageable
  /-- Marked I or L. -/
  | immediate
  /-- TXN.COMMIT, TXN.ROLLBACK and TXN.STATUS: immediate, with a transaction ID (R76). -/
  | onTxn
deriving DecidableEq, Repr

/-- What running a command comes to. -/
inductive Result where
  /-- A check fails: no effect (R71) but the event the rule of that check names. -/
  | fail (s : State) (e : Err)
  /-- OK with a response payload; `txn` is the TXN_ID of the response. -/
  | done (s : State) (payload : List Byte) (txn : Word)

/-- One command's own description: its payload sizes and checks, and its effect.  FIELD offsets count from the start of
the command (R63). -/
structure CmdDef where
  opcode : Nat
  kind : Kind
  /-- LENGTH is one the command accepts. -/
  lenOk : List Byte → Bool
  /-- Checks made when the command runs, or is staged: reserved fields, field ranges, mode, resources. -/
  checks : State → Cmd → List Err
  /-- The effect of an immediate command whose checks pass. -/
  run : State → Cmd → Result := fun s c => .done s [] c.txn
  /-- Commit-time checks of a staged command (R80): the device, whether its blank is reached, the configuration before the
  transaction, before this command, and after the transaction, the payload. -/
  validate : State → Bool → Settings → Settings → Settings → List Byte → List Err := fun _ _ _ _ _ _ => []
  /-- What firmware copies at the commit instant into the payload (R331). -/
  prepare : State → List Byte → List Byte := fun _ p => p
  /-- The setting it makes. -/
  apply : List Byte → Settings → Settings := fun _ c => c
  /-- What else happens at the blank at which it applies: the settings before, the device with the new settings, TAG, TXN_ID. -/
  effect : Settings → List Byte → Word → Word → State → State := fun _ _ _ _ s => s

/-- A payload of exactly `n` bytes. -/
def lenIs (n : Nat) (p : List Byte) : Bool := p.length == n

/-- No further checks. -/
def noChecks : State → Cmd → List Err := fun _ _ => []

/-- Checks of every command (R61, R65, R70, R71) beside those of its own transaction ID (DEDUCED, log entry 107). -/
def Cmd.headerErrs (d : CmdDef) (s : State) (c : Cmd) : List Err :=
  chk (c.len != c.payload.length || !d.lenOk c.payload) stBadLength 8 ++
  chk (bitsOf c.flags.toNat 7 1 != 0) stReserved 2 ++
  chk (c.rsv != 0) stReserved 10 ++
  chk (!c.tunnel && c.target != 0) stBadField 2 ++
  chk (d.kind == .immediate && c.txn != 0) stNotStageable 12 ++
  chk (!s.pcie.revRead && !c.tunnelled && c.opcode != 0x0101 && c.opcode != 0x0102) stRevision

/-! ### Responses -/

/-- A response (R62). -/
structure Resp where
  status : Nat := 0
  txn : Word := 0
  payload : List Byte := []
deriving DecidableEq, Repr

/-- The response of a failed check: the detail record, and the command's own TXN_ID. -/
def Err.resp (e : Err) (c : Cmd) : Resp := { status := e.status, txn := c.txn, payload := e.detail }

/-- The bytes of a response area (R62). -/
def Resp.bytes (r : Resp) (c : Cmd) : List Byte :=
  le 2 c.opcode ++ le 2 r.status ++ le 4 c.tag.toNat ++ le 2 r.payload.length ++ [0, 0] ++ le 4 r.txn.toNat ++ r.payload

/-- ENABLE of MBX_IRQ. -/
def Mailbox.irqOn (m : Mailbox) : Bool := m.irq.getLsbD 31

/-- Bytes 0 to 39 of a management response (R477): KIND 2, KEY and COUNTER as the datagram gave them. -/
def State.mgmtHeader (s : State) (key counter : Nat) : List Byte :=
  le 4 0x544D4752 ++ [2] ++ le 1 key ++ [0, 0] ++ le 8 Config.serial ++ padTo 16 (Config.sessionValue s.security.session) ++ le 8 counter

/-- A command that a management datagram brought gets its response there (R477). -/
def State.mgmtAnswer (s : State) (n : Nat) (resp : List Byte) : State :=
  match (s.mbx n).mgmt with
  | none => s
  | some (port, key, counter) => (s.emit (.mgmtSend port (s.mgmtHeader key counter ++ resp))).updMbx n fun m => { m with mgmt := none }

/-- A command completes: the whole response first, then STATE DONE and DONE_COUNT, then the MSI-X message (R62, R55). -/
def State.completeBytes (s : State) (n : Nat) (resp : List Byte) : State :=
  let s := s.updMbx n fun m => { m with rspArea := overwrite m.rspArea 0 resp, running := [], tunnelled := false, state := 3,
                                        doneCount := (m.doneCount + 1) % 65536 }
  let s := s.mgmtAnswer n resp
  if (s.mbx n).irqOn && s.hostReach then s.msixSend (bitsOf (s.mbx n).irq.toNat 7 0) else s

/-- Completes a command with a response. -/
def State.complete (s : State) (c : Cmd) (r : Resp) : State := s.completeBytes c.mbx (r.bytes c)

/-- A transaction's timer follows a command accepted with its ID (R78): a TXN.COMMIT stops it, any other restarts it (DESIGN CHOICE, log entry 41). -/
def State.acceptTxn (s : State) (op id : Nat) : State :=
  if id = 0 then s else
  { s with txns := s.txns.map fun (t : Txn) =>
      if t.id = id ∧ t.state = 0 then { t with timerAt := s.clock.up, committing := op == 0x0302 } else t }

/-- A command is accepted and held (R434): its acceptance counts for its transaction's timer. -/
def State.acceptHeld (s : State) (n : Nat) : State :=
  let c := Cmd.parse n (s.mbx n).running
  if c.tunnel ∧ c.target ≠ s.ownAddress then s else s.acceptTxn c.opcode c.txn.toNat

/-- A mailbox is rung (R55, R56): ignored with RING_BUSY in PENDING and RUNNING; otherwise PENDING, and accepted at once
where firmware serves (R64): firmware takes its own copy and `k` runs it.  While a handover is armed the drone accepts, and
holds the command until the handover (R434) (DEDUCED, log entry 108). -/
def State.ringMbx (s : State) (n : Nat) (k : State → State) : State :=
  let m := s.mbx n
  if m.state = 1 ∨ m.state = 2 then s.updMbx n fun m => { m with err := m.err ||| 2#32 }
  else if s.serves then
    let s := s.updMbx n fun m => { m with state := 2, rungAt := s.clock.up, acceptedAt := s.clock.up, running := m.cmdArea }
    if s.fw.armed then s.acceptHeld n else k s
  else s.updMbx n fun m => { m with state := 1, rungAt := s.clock.up }

end Sys2Proof.Machine
end

