-- ==== Sys2Proof/Machine/Steer.lean ====
section
/-! DEFINITION. The steering layer (R276 to R298): drive tables, pulse pairs and DC balance, requests, the journal, the
known-state sequence; STEER.TABLE, STATUS and JOURNAL. -/

namespace Sys2Proof.Machine

/-! ### The bundle's stand-type tables (R281, R467) -/

/-- COMPONENTS of a bundle's manifest. -/
def manifestCount (b : List Byte) : Nat := u16 b 6
/-- Offset of component record i. -/
def compOff (i : Nat) : Nat := 128 + 64 * i
/-- TYPE, OFFSET, SIZE of component i. -/
def compType (b : List Byte) (i : Nat) : Nat := u32 b (compOff i)
def compAt (b : List Byte) (i : Nat) : Nat := u32 b (compOff i + 4)
def compSize (b : List Byte) (i : Nat) : Nat := u32 b (compOff i + 8)

/-- The components of a TYPE of a bundle. -/
def compsOf (b : List Byte) (type' : Nat) : List (List Byte) :=
  ((List.range (min 32 (manifestCount b))).filter fun i => compType b i == type').map fun i => slice b (compAt b i) (compSize b i)

/-- The stand-type tables of the firmware bundle in force (TYPE 4 of R467). -/
def State.standTables (s : State) : List (List Byte) := compsOf s.security.image 4

/-! ### Drive tables (R279 to R282) -/

/-- Settings that the scan of a tick follows (R266): until tick N of a change of timing mode, those in force before the blank at which it
applied. -/
def State.scanSettings (s : State) (tick : Nat) : Settings :=
  match s.tb.change, s.tb.blankCfg with
  | some c, some b => if !c.direct && tick < c.loadTick + 2 then b else s.settings
  | _, _ => s.settings

/-- EDGE k of a table, k from 1 to 7, 0.1 °C. -/
def edgeOf (tb : List Byte) (k : Nat) : Int := s16 tb (2 * (k - 1))
/-- DC_LIMIT, mV·µs. -/
def dcLimit (tb : List Byte) : Nat := u32 tb 16
/-- Offset of entry (bin, from, to) in a table. -/
def entryOff (bin f t : Nat) : Nat := 28 + 12 * (bin * 16 + f * 4 + t)
/-- Field of an entry: 0 SW_AMP, 1 SW_WIDTH, 2 BAL_AMP, 3 BAL_WIDTH, 4 SETTLE. -/
def entryField (tb : List Byte) (bin f t field : Nat) : Nat := u16 tb (entryOff bin f t + 2 * field)

/-- An entry of a payload breaks R279 or R280; `o` is its payload offset (DEDUCED, log entry 53). -/
def entryErrs (p : List Byte) (o : Nat) : List Err :=
  let a := u16 p o
  let w := u16 p (o + 2)
  let ba := u16 p (o + 4)
  let bw := u16 p (o + 6)
  let se := u16 p (o + 8)
  chkP (a < 100 || 1000 < a) stBadField o ++
  chkP (w < 10 || 600 < w || 1200 < 55 + w + se) stBadField (o + 2) ++
  chkP (ba < 1 || a < 2 * ba) stBadField (o + 4) ++
  chkP (bw < 10 || 1120 < bw || 11800 < 550 + 10 * w + 100 + 11 * bw ||
    a * w < 100 * (max (a * w) (ba * bw) - min (a * w) (ba * bw))) stBadField (o + 6) ++
  chkP (1145 < se) stBadField (o + 8) ++ rsvBytes p (o + 10) (o + 12)

/-- A STEER.TABLE payload from byte 18 on, and its edges, break R279 or R280. -/
def tableErrs (p : List Byte) : List Err :=
  (List.range 7).flatMap (fun k =>
    chkP (s16 p (4 + 2 * k) < -400 || 1250 < s16 p (4 + 2 * k) || (k != 0 && s16 p (4 + 2 * k) ≤ s16 p (2 + 2 * k))) stBadField (4 + 2 * k)) ++
  rsvBytes p 18 20 ++ chkP (u32 p 20 < 10000 || 300000 < u32 p 20) stBadField 20 ++ rsvBytes p 24 32 ++
  (List.range 128).flatMap fun i => entryErrs p (32 + 12 * i)

/-- A drive table, bytes 4 to 1,567 of a payload, meets R279 and R280. -/
def tableOk (tb : List Byte) : Bool := tb.length == 1564 && tableErrs (zeros 4 ++ tb) == []

/-- A table that meets R279 and R280, in whose place the bundle's stands wherever that does (DESIGN CHOICE, log entry 105). -/
def plainTable : List Byte :=
  (List.range 7).flatMap (fun k => leI 2 (100 * k)) ++ zeros 2 ++ le 4 100000 ++ zeros 8 ++
  (List.range 128).flatMap fun _ => le 2 900 ++ le 2 260 ++ le 2 325 ++ le 2 720 ++ zeros 4

/-- The bundle's drive table for a stand type, which meets R279 and R280 (R281) (DESIGN CHOICE, log entry 105). -/
def State.bundleTable (s : State) (stype : Nat) : List Byte :=
  if tableOk (Config.bundleSteer s.standTables stype) then Config.bundleSteer s.standTables stype else plainTable

/-- The drive table of a stand: bytes 4 to 1,567 of a STEER.TABLE payload, the bundle's while none was set (R281). -/
def State.tableOf (s : State) (c : StandCfg) : List Byte := c.steer.getD (s.bundleTable c.stype)

/-- The drive table that a stand's windows in a tick follow (R279, R266). -/
def State.steerTableAt (s : State) (i tick : Nat) : List Byte := s.tableOf ((s.scanSettings tick).stands.getD i {})

/-- STAND of a payload names a stand of the map at the blank, or all (0xFFFF). -/
def standMissing (c : Settings) (p : List Byte) : List Err :=
  chkP (u16 p 0 != 0xFFFF && c.stands.length ≤ u16 p 0) stNoResource 0

/-- Changes one stand of a configuration, or all. -/
def Settings.updStands (c : Settings) (p : List Byte) (f : StandCfg → StandCfg) : Settings :=
  if u16 p 0 = 0xFFFF then { c with stands := c.stands.map f } else { c with stands := upd c.stands (u16 p 0) f }

/-- The stands a payload names in a configuration. -/
def Settings.named (c : Settings) (p : List Byte) : List Nat :=
  if u16 p 0 = 0xFFFF then List.range c.stands.length else [u16 p 0]

/-- A CMD moves an object to a stand receiver (R317): its ID is awaited. -/
def State.sendCmd (s : State) (stand op param : Nat) (object : List Byte) : State :=
  let l := (s.standCfg stand).link
  let pos := s.settings.position stand
  let id := (s.link l).cmdNext
  let s := s.updLink l fun k => { k with cmds := k.cmds ++ [(id, pos, op)], cmdNext := (id + 1) % 65536 }
  s.emit (.linkSend l 4 (le 1 pos ++ le 2 id ++ le 1 op ++ le 1 param ++ le 4 0 ++ le 4 object.length ++ object))

/-- A CMD that reads from a stand receiver, from offset 0 (R317): it carries no object, and TOTAL is the length of the read. -/
def State.sendRead (s : State) (stand total : Nat) : State :=
  let l := (s.standCfg stand).link
  let pos := s.settings.position stand
  let id := (s.link l).cmdNext
  let s := s.updLink l fun k => { k with cmds := k.cmds ++ [(id, pos, 3)], cmdNext := (id + 1) % 65536 }
  s.emit (.linkSend l 4 (le 1 pos ++ le 2 id ++ le 1 3 ++ le 1 0 ++ le 4 0 ++ le 4 total))

/-- STEER.TABLE (R279 to R281). -/
def steerTable : CmdDef where
  opcode := 0x0A01
  kind := .stageable
  lenOk := lenIs 1568
  checks _ c :=
    let p := c.payload
    rsvBytes p 2 4 ++ tableErrs p
  validate _ _ _ _ fin p := standMissing fin p
  apply p c := c.updStands p fun t => { t with steer := some (p.drop 4) }
  effect _ p _ _ s :=
    let later := s.tb.change.any fun c => c.loadTick != s.clock.tick + 1
    let s := if later then { s with tb := { s.tb with blankCfg := s.tb.blankCfg.map fun c => c.updStands p fun t => { t with steer := some (p.drop 4) } } } else s
    forEach (s.settings.named p) s fun i s => s.updStand i fun st => { st with steerDue := true }

/-- The bin for a temperature (R282): up at an edge plus 0.5 °C, down below an edge minus 0.5 °C. -/
def nextBin (tb : List Byte) (bin : Nat) (t : Int) : Nat :=
  let up := ((List.range 8).filter fun k => k = 0 || edgeOf tb k + 5 ≤ t).getLast?.getD 0
  let down := ((List.range 8).filter fun k => k = 0 || edgeOf tb k - 5 ≤ t).getLast?.getD 0
  if bin < up then up else min bin down

/-! ### Pulse pairs and DC integrals (R276, R278, R283) -/

/-- Steering stage bits: stage 0 is X, stage 1 is Y. -/
def stageBit (state stage : Nat) : Bool := bitOf state stage

/-- The pair from `f` to `t` pulses the stage: it differs, or the pair is forced. -/
def pulsed (forced : Bool) (f t stage : Nat) : Bool := forced || stageBit f stage != stageBit t stage

/-- DC change of one stage by a switching pulse and a balance pulse, in 1/10,000 mV·µs: rail in mV, amplitudes in 0.001,
widths in 0.1 µs.  Toward 1 the switching pulse is drawn from VSTEER_P. -/
def pairDc (railP railN : Nat) (toOne : Bool) (swAmp swWidth balAmp balWidth : Nat) : Int :=
  if toOne then (swAmp * railP * swWidth : Int) - (balAmp * railN * balWidth : Int)
  else (balAmp * railP * balWidth : Int) - (swAmp * railN * swWidth : Int)

/-- The width, of those from `lo` to `hi`, that `cost` makes least; the first among equals. -/
def bestWidth (cost : Nat → Nat) (lo hi : Nat) : Nat :=
  (span lo (hi + 1)).foldl (fun b w => if cost w < cost b then w else b) lo

/-- Balance width trimmed by up to ±10 % to bring the integral nearest 0 (R283). -/
def trimWidth (dc : Int) (railP railN : Nat) (toOne : Bool) (swAmp swWidth balAmp balWidth : Nat) : Nat :=
  bestWidth (fun w => (dc + pairDc railP railN toOne swAmp swWidth balAmp w).natAbs)
    (balWidth - balWidth / 10) (balWidth + balWidth / 10)

/-- The stand's DC_LIMIT in the units integrals are kept in. -/
def State.dcLim (s : State) (i : Nat) : Nat := 10000 * dcLimit (s.steerTableAt i s.clock.tick)

/-- The integrals a band has after its pair in flight, counted whole. -/
def Band.afterPair (b : Band) (railP railN : Nat) : Int × Int :=
  if b.comp then
    let add (w : Int) : Int := if 0 ≤ w then w * (b.balAmp * railP : Nat) else w * (b.balAmp * railN : Nat)
    (b.dcX + add b.compX, b.dcY + add b.compY)
  else
    let stage (k : Nat) (dc : Int) (bw : Nat) : Int :=
      if bw = 0 then dc else dc + pairDc railP railN (stageBit b.toSt k) b.swAmp b.swWidth b.balAmp bw
    (stage 0 b.dcX b.balX, stage 1 b.dcY b.balY)

/-- The integrals of a band, a pair that was never acknowledged counted as issued (R283). -/
def Band.dcNow (b : Band) (railP railN : Nat) : Int × Int := if b.inFlight then b.afterPair railP railN else (b.dcX, b.dcY)

/-- The record's pair is of this window. -/
def Band.isOf (b : Band) (win : Nat) : Bool := b.tick == win / 4 % 65536 && b.window % 4 == win % 4

/-- The state a band is taken to be in: that of its last ACK, or where a pair leads that was issued since and never acknowledged (R283). -/
def Band.believed (b : Band) : Nat := if b.inFlight then b.toSt else b.state

/-- The integrals that a record of a window starts from: a pair of an earlier window that was never acknowledged counts as issued (R283), the
record that was made ahead for this very window does not (R288). -/
def Band.dcFor (b : Band) (railP railN win : Nat) : Int × Int := if b.isOf win then (b.dcX, b.dcY) else b.dcNow railP railN

/-- Step 2 of R288 for a band: the record of a pair to `t` in a window, IN_FLIGHT set; a record still in flight keeps FROM,
its missing pair counted as issued (R283), and the new one starts where that leads. -/
def Band.launch (b : Band) (tb : List Byte) (bin railP railN : Nat) (forced trim : Bool) (t win : Nat) : Band :=
  let f := if b.inFlight && b.isOf win then b.fromSt else b.believed
  let dc := b.dcFor railP railN win
  let ef := if forced then t else f
  let sa := entryField tb bin ef t 0
  let sw := entryField tb bin ef t 1
  let ba := entryField tb bin ef t 2
  let bw := entryField tb bin ef t 3
  let width (k : Nat) (d : Int) : Nat :=
    if !pulsed forced f t k then 0 else if trim then trimWidth d railP railN (stageBit t k) sa sw ba bw else bw
  { b with fromSt := if b.inFlight then b.fromSt else f, toSt := t, inFlight := true, forced := forced, window := win % 4 + 4 * bin, tick := win / 4 % 65536,
           swAmp := sa, swWidth := sw, balAmp := ba, balX := width 0 dc.1, balY := width 1 dc.2, dcX := dc.1, dcY := dc.2,
           comp := false, compX := 0, compY := 0 }

/-- The compensation pulse of one stage (R295): BAL_AMP of the forced entry (0, 0), against the integral, to at most 118.0 µs. -/
def compWidth (dc : Int) (limit amp railP railN band : Nat) : Int :=
  if dc.natAbs ≤ limit / 4 then 0 else
  let maxW := 1180 - 20 - 5 * band
  let rail := if 0 < dc then railN else railP
  let w := bestWidth (fun w => ((dc.natAbs : Int) - (amp * rail * w : Nat)).natAbs) 0 maxW
  if 0 < dc then -(w : Int) else w

/-- A later window of the known-state sequence for a band. -/
def Band.compensate (b : Band) (tb : List Byte) (bin railP railN limit band win : Nat) : Band :=
  let dc := b.dcFor railP railN win
  let amp := entryField tb bin 0 0 2
  let cx := compWidth dc.1 limit amp railP railN band
  let cy := compWidth dc.2 limit amp railP railN band
  if cx = 0 ∧ cy = 0 then b else
  { b with fromSt := if b.inFlight then b.fromSt else b.state, toSt := b.believed, inFlight := true, forced := false, comp := true, compX := cx, compY := cy,
           balAmp := amp, swAmp := 0, swWidth := 0, balX := 0, balY := 0, dcX := dc.1, dcY := dc.2,
           window := win % 4 + 4 * bin, tick := win / 4 % 65536 }

/-- Step 1 of R288: the ACK's state becomes TO, IN_FLIGHT clears, the integrals include the window where the band ran; a pair of an
earlier window, never acknowledged, counts as issued (R283). -/
def Band.ack (b : Band) (win state : Nat) (ran : Bool) (railP railN : Nat) : Band :=
  let dc := if ran || !b.isOf win then b.dcNow railP railN else (b.dcX, b.dcY)
  { b with state := state, toSt := state, inFlight := false, dcX := dc.1, dcY := dc.2, comp := false, compX := 0, compY := 0 }

/-- Window index of a tick and sub-frame. -/
def windowOf (tick sub : Nat) : Nat := 4 * tick + sub

/-- What the bands of a stand are asked for in a window: none where no request is made. -/
inductive Ask where
  | none
  | state (t : Nat)
  | kssFirst
  | kssLater
deriving DecidableEq, Repr

/-- CTRL, widths and compensation of one band of a STEER packet (R315). -/
def bandRequest (b : Band) (win : Nat) : List Byte :=
  let live := b.inFlight && b.isOf win
  if !live then le 1 8 ++ zeros 11
  else if b.comp then le 1 8 ++ zeros 5 ++ leI 2 b.compX ++ leI 2 b.compY ++ zeros 2
  else le 1 (b.toSt + 4 * b2n b.forced) ++ [0] ++ le 2 b.balX ++ le 2 b.balY ++ zeros 6

/-- The STEER packet's bytes from offset 4 (R315). -/
def steerBody (st : Stand) (kss : Bool) (win : Nat) : List Byte :=
  le 1 (win % 4 + 128 * b2n kss) ++ le 1 st.bin ++ zeros 2 ++ le 4 (win / 4) ++ zeros 4 ++ st.bands.flatMap (bandRequest · win)

/-- Link and position that the packets of a tick carry for a stand: those of the previous map until T + 2P, none for a stand that it
did not hold (R24) (DEDUCED, log entry 126). -/
def State.packetPlace (s : State) (i tick : Nat) : Option (Nat × Nat) :=
  match s.synth.places.find? fun e => decide (tick < e.1) with
  | some e => e.2.getD i none
  | none => some ((s.standCfg i).link, s.settings.position i)

/-- Stands that the packets of a tick name on a link. -/
def State.countOn (s : State) (l tick : Nat) : Nat :=
  (List.range s.stands.length).countP fun i => (s.packetPlace i tick).any fun p => p.1 == l

/-- Does something with the stands that a new map has dropped in their places again, behind those of the map in force: packets
follow the map before for two frames (R24) (DEDUCED, log entry 126). -/
def State.withLeft (s : State) (f : State → State) : State :=
  if s.synth.left = [] then f s else
  let n := s.stands.length
  let wide (c : Settings) : Settings := { c with stands := c.stands ++ s.synth.left.map (·.cfg) }
  let t := f { s with
    stands := s.stands ++ s.synth.left.map (·.st), settings := wide s.settings, tb := { s.tb with blankCfg := s.tb.blankCfg.map wide } }
  let slim (c : Settings) : Settings := { c with stands := c.stands.take n }
  { t with
    stands := t.stands.take n, settings := slim t.settings, tb := { t.tb with blankCfg := t.tb.blankCfg.map slim }
    synth := { t.synth with left := (t.synth.left.zip (t.stands.drop n)).map fun e => { e.1 with st := e.2 } } }

/-- From the first frame packetised under the new map on, those stands are gone (R24). -/
def State.forgetLeft (s : State) (tick : Nat) : State :=
  if s.synth.places.all fun e => e.1 ≤ tick then { s with synth := { s.synth with places := [], left := [] } } else s

/-- The stand that packets of a tick name by link and position. -/
def State.standIn (s : State) (l pos tick : Nat) : Option Nat :=
  (List.range s.stands.length).find? fun i => s.packetPlace i tick == some (l, pos)

/-- The latest tick, up to the one in force, with these low 32 bits. -/
def State.fullTick (s : State) (low : Nat) : Nat := s.clock.tick - (s.clock.tick + (0x100000000 - low % 0x100000000)) % 0x100000000

/-- Writes the journal records of a stand for a window, then sends its STEER packet (R288, R315). -/
def State.steerStand (s : State) (i win : Nat) (ask : Ask) (send : Bool) : State :=
  let tb := s.steerTableAt i (win / 4)
  let lim := s.dcLim i
  let s := s.updStand i fun st => { st with
    steerWin := win + 1
    bands := st.bands.mapIdx fun n b =>
      match ask with
      | .none => b
      | .state t => if b.believed = t then b else b.launch tb st.bin st.railP st.railN false true t win
      | .kssFirst =>
        if !b.known then b.launch tb st.bin st.railP st.railN true false 0 win
        else if b.believed = 0 then b else b.launch tb st.bin st.railP st.railN false false 0 win
      | .kssLater => b.compensate tb st.bin st.railP st.railN lim n win }
  match (if send then s.packetPlace i (win / 4) else none) with
  | some (l, pos) => s.emit (.linkSend l 2 (le 1 pos ++ steerBody (s.stand i) (decide (ask = .kssFirst ∨ ask = .kssLater)) win))
  | none => s

/-- Larger of a band's two integrals by magnitude, in mV·µs, a pair that was never acknowledged counted as issued (R283). -/
def Band.worst (b : Band) (railP railN : Nat) : Int :=
  let dc := b.dcNow railP railN
  ((if dc.2.natAbs ≤ dc.1.natAbs then dc.1 else dc.2)).tdiv 10000

/-- Judges the DC integrals of a stand after a window (R283). -/
def State.judgeDc (s : State) (i : Nat) : State :=
  let lim := s.dcLim i
  let dc (st : Stand) (b : Band) : Nat := max (b.dcNow st.railP st.railN).1.natAbs (b.dcNow st.railP st.railN).2.natAbs
  let s := (s.stand i).bands.zipIdx.foldl (fun s e =>
    if lim < dc (s.stand i) e.1 && !e.1.dcRaised then
      (s.raise evSteerDc i [e.2, p32 (e.1.worst (s.stand i).railP (s.stand i).railN)]).updStand i fun st => { st with
        dcEvents := (st.dcEvents + 1) % 0x100000000, bands := upd st.bands e.2 fun b => { b with dcRaised := true } }
    else s) s
  s.updStand i fun st =>
    let hold := st.bands.any fun b => 4 * lim < dc st b
    { st with
      bands := st.bands.map fun b => if 2 * dc st b < lim then { b with dcRaised := false } else b
      dcHold := st.dcHold || hold, dark := st.dark || hold, kssDue := st.kssDue || (hold && st.kss == 0) }

/-- Classes every band of a stand as unknown (R287, R296). -/
def Stand.unknownAll (st : Stand) : Stand := { st with bands := st.bands.map fun (b : Band) => { b with known := false } }

/-- Classes the bands in flight as unknown (R296); their records stay IN_FLIGHT, which only an ACK clears (R288), and their pairs count as
issued from then on (R283) (DEDUCED, log entry 51). -/
def Stand.unknownInFlight (st : Stand) : Stand :=
  { st with bands := st.bands.map fun b => { b with known := b.known && !b.inFlight } }

/-! ### The journal (R289, R290, R293, R294) -/

/-- A band record (R290).  That of a band classed unknown with no pair in flight is a forced pair in flight with parameters of 0, from which
R294 classes the band unknown again and adds nothing to its integrals (DESIGN CHOICE, log entry 162). -/
def Band.bytes (b : Band) : List Byte :=
  if !b.known && !b.inFlight then
    le 1 (b.fromSt + 4 * b.toSt + 48) ++ le 1 b.window ++ le 2 b.tick ++ zeros 12 ++ leI 4 (b.dcX.tdiv 10000) ++ leI 4 (b.dcY.tdiv 10000)
  else
  le 1 (b.fromSt + 4 * b.toSt + 16 * b2n b.inFlight + 32 * b2n b.forced) ++ le 1 b.window ++ le 2 b.tick ++ le 2 b.swAmp ++
  le 2 b.swWidth ++ le 2 b.balAmp ++ le 2 b.balX ++ le 2 b.balY ++ zeros 2 ++ leI 4 (b.dcX.tdiv 10000) ++ leI 4 (b.dcY.tdiv 10000)

/-- Serial a stand is known by: the map's, or the one it reported (R332). -/
def State.serialOf (s : State) (i : Nat) : Nat :=
  if (s.standCfg i).serial ≠ 0 then (s.standCfg i).serial else (s.stand i).serialSeen

/-- A stand block (R290). -/
def State.standBlock (s : State) (i : Nat) : List Byte :=
  let st := s.stand i
  le 8 (s.serialOf i) ++ le 1 i ++ le 1 (s.standCfg i).link ++ le 2 st.railP ++ le 2 st.railN ++ zeros 2 ++ st.bands.flatMap Band.bytes

/-- The block the live journal keeps for a serial from before the boot. -/
def State.oldBlock (s : State) (serial : Nat) : Option (List Byte) := (s.bellows.oldJournal.find? fun e => e.1 == serial).map (·.2.2)

/-- The live journal as Bellows keeps it across a boot: a block not yet read stays as it was (DESIGN CHOICE, log entry 52). -/
def State.keepJournal (s : State) : State :=
  if s.stands = [] then s else
  let block := fun (i : Nat) => let n := s.serialOf i; (n, i, (s.oldBlock n).getD (s.standBlock i))
  { s with bellows := { s.bellows with oldJournal := (List.range s.stands.length).map block } }

/-- The stand blocks of the live journal. -/
def State.journalBlocks (s : State) : List (List Byte) := s.keepJournal.bellows.oldJournal.map fun e => e.2.2

/-- The journal's header from byte 16 on, and its blocks (R289). -/
def State.journalTail (s : State) : List Byte :=
  let b := s.bellows
  le 8 b.lossTick ++ le 4 b.lossOffNs ++ le 2 b.lossLinks.toNat ++ le 2 s.journalBlocks.length ++ le 1 b.lossRate ++ zeros 31 ++
  s.journalBlocks.flatten

/-- The live journal. -/
def State.journal (s : State) : List Byte :=
  le 4 0x4E524A53 ++ le 2 1 ++ le 2 (b2n s.bellows.lossValid) ++ le 4 s.bellows.journalSeq ++ le 4 0 ++ s.journalTail

/-- The journal as a flush writes it: FLUSHED, the next SEQ, CRC over bytes 16 to the end. -/
def State.flushedJournal (s : State) : List Byte :=
  le 4 0x4E524A53 ++ le 2 1 ++ le 2 (b2n s.bellows.lossValid + 2) ++ le 4 (s.bellows.journalSeq + 1) ++ le 4 (crc32 s.journalTail) ++ s.journalTail

/-- A journal copy has valid MAGIC and CRC. -/
def journalValid (j : List Byte) : Bool := u32 j 0 == 0x4E524A53 && u32 j 12 == crc32 (j.drop 16) && 64 ≤ j.length

/-- Index of the valid flushed copy with the higher SEQ. -/
def State.newestCopy (s : State) : Option Nat :=
  let seqOf (k : Nat) : Option Nat := match s.flash.journals.getD k none with
    | some j => if journalValid j then some (u32 j 8) else none
    | none => none
  match seqOf 0, seqOf 1 with
  | some a, some b => some (if a < b then 1 else 0)
  | some _, none => some 0
  | none, some _ => some 1
  | none, none => none

/-- Bytes of the newest valid flushed copy (DESIGN CHOICE, log entry 52). -/
def State.newestJournal (s : State) : Option (List Byte) := s.newestCopy.bind fun k => s.flash.journals.getD k none

/-- Bellows flushes the journal to the copy that does not hold the newest valid SEQ (R293); `ok` is what the flash reports. -/
def State.flushJournal (s : State) (ok : Bool) : State :=
  let k := match s.newestCopy with | some 0 => 1 | _ => 0
  if ok then { s with
    flash := { s.flash with journals := upd s.flash.journals k fun _ => some s.flushedJournal }
    bellows := { s.bellows with journalSeq := (s.bellows.journalSeq + 1) % 0x100000000, journalSt := 2 } }
  else ({ s with
    flash := { s.flash with journals := upd s.flash.journals k fun _ => none }
    bellows := { s.bellows with journalSt := 3 } }).latch 8#32

/-- The older copy is erased once the known-state sequence has ended (R293). -/
def State.eraseOldCopy (s : State) : State :=
  match s.newestCopy with
  | some k => { s with flash := { s.flash with journals := upd s.flash.journals (1 - k) fun _ => none } }
  | none => { s with flash := { s.flash with journals := [none, none] } }

/-- A number of units of 1/10,000 per mV·µs, from a journal field. -/
def dcField (b : List Byte) (o : Nat) : Int := 10000 * s32 b o

/-- A pulse pair of a journal record, cut at `r` (1/10 µs after the switching start): the DC it adds to a stage. -/
def cutPair (railP railN : Nat) (toOne : Bool) (sa sw ba bw r : Nat) : Int :=
  pairDc railP railN toOne sa (min sw r) ba (min bw (r - sw - 10))

/-- Band state after a start, read from a band record of the journal (R294).  `hit` is the assertion's instant minus the
start of the window in 1/3 ns when the loss covered the stand's link; none otherwise.  `r` is rounded to 0.1 µs, as the chapter's example has it. -/
def bandFromJournal (blk r24 : List Byte) (band : Nat) (hit : Option Int) : Band :=
  let st := u8 r24 0
  let f := bitsOf st 1 0
  let t := bitsOf st 3 2
  let railP := u16 blk 10
  let railN := u16 blk 12
  let sa := u16 r24 4
  let sw := u16 r24 6
  let ba := u16 r24 8
  let start : Int := 3 * (2000 + 500 * band)
  let base : Band := { state := t, known := true, fromSt := f, toSt := t, dcX := dcField r24 16, dcY := dcField r24 20 }
  let add (r : Option Nat) : Band :=
    let one (k o : Nat) (dc : Int) : Int :=
      if u16 r24 o = 0 then dc else
      match r with
      | some r => dc + cutPair railP railN (stageBit t k) sa sw ba (u16 r24 o) r
      | none => dc + pairDc railP railN (stageBit t k) sa sw ba (u16 r24 o)
    { base with known := false, state := f, dcX := one 0 10 base.dcX, dcY := one 1 12 base.dcY }
  if !bitOf st 4 then base
  else if bitOf st 5 && sw == 0 then { base with known := false, state := f }
  else match hit with
    | some h => if h ≤ start then { base with state := f, toSt := f } else add (some (((h + 3000 - start).toNat + 150) / 300))
    | none => add none

/-- The bands of a stand as the journal leaves them; every band unknown with integrals 0 where it has no block. -/
def State.bandsFromJournal (j : List Byte) (serial : Nat) : List Band :=
  let blk := ((List.range (u16 j 30)).map fun k => slice j (64 + 208 * k) 208).find? fun b => u64 b 0 == serial
  match blk with
  | none => List.replicate 8 {}
  | some blk =>
    let covered := bitOf (u16 j 6) 0 && bitOf (u16 j 28) (u8 blk 9)
    (List.range 8).map fun n =>
      let brec := slice blk (16 + 24 * n) 24
      let lt := u64 j 16
      let tick := u16 brec 2
      -- TICK completed from LOSS_TICK: the nearest tick with those low bits, for a record made in the blank names the next tick
      let behind : Int := ((lt % 65536 + 65536 + 32767 - tick) % 65536 : Nat) - 32767
      let sub := u8 brec 1 % 4
      let at0 : Int := 3 * (u32 j 24 : Int) + behind * framePeriod (u8 j 32) - (sub * subPeriod (u8 j 32) : Nat)
      bandFromJournal blk brec n (if covered then some at0 else none)

/-- A journal that holds one stand block, under the LOSS fields in force. -/
def State.oneBlock (s : State) (block : List Byte) : List Byte :=
  let b := s.bellows
  le 4 0x4E524A53 ++ le 2 1 ++ le 2 (b2n b.lossValid) ++ le 8 0 ++ le 8 b.lossTick ++ le 4 b.lossOffNs ++ le 2 b.lossLinks.toNat ++
  le 2 1 ++ le 1 b.lossRate ++ zeros 31 ++ block

/-- The bands of a stand from its block of the live journal. -/
def State.liveBands (s : State) (i : Nat) : List Band :=
  State.bandsFromJournal (s.oneBlock ((s.oldBlock (s.serialOf i)).getD (s.standBlock i))) (s.serialOf i)

/-- Reads the journal at the start of Bring-up step 6 (R294): the live one if Bellows was not powered up since it was last
written, else the newest valid copy. -/
def State.readJournal (s : State) : State :=
  let bands := fun (i : Nat) => if s.bellows.journalWritten then s.liveBands i else State.bandsFromJournal (s.newestJournal.getD []) (s.serialOf i)
  { s with stands := s.stands.mapIdx (fun i st => if st.excluded then st else { st with bands := bands i })
           bellows := { s.bellows with oldJournal := [], journalWritten := true } }

/-! ### STEER.STATUS and STEER.JOURNAL (R297, R298) -/

/-- Mask of the bands classed unknown. -/
def Stand.unknownMask (st : Stand) : Nat := maskOf (st.bands.map fun b => !b.known)

/-- An integral in 10 mV·µs units, saturating at 16 bits. -/
def dc16 (v : Int) : List Byte := leI 2 (clampI (-32768) 32767 (v.tdiv 100000))

/-- Response payload of STEER.STATUS. -/
def State.steerStatus (s : State) (i : Nat) : List Byte :=
  if s.stands.length ≤ i then zeros 64 else
  let st := s.stand i
  le 2 ((st.bands.zipIdx.map fun e => e.1.state * 4 ^ e.2).foldl (· + ·) 0) ++ le 1 st.unknownMask ++ le 1 st.darkMask.toNat ++ le 1 st.bin ++
  le 1 (b2n (st.kss != 0) + 2 * b2n st.railFault + 4 * b2n st.dcHold) ++ le 2 st.railP ++ le 2 st.railN ++ zeros 2 ++
  st.bands.flatMap (fun b => dc16 b.dcX ++ dc16 b.dcY) ++ le 4 st.darkCount ++ le 4 st.ackMissing ++ le 4 st.dcEvents ++ le 8 st.pairs

/-- STEER.STATUS (R297). -/
def steerStatusCmd : CmdDef where
  opcode := 0x0A02
  kind := .immediate
  lenOk := lenIs 8
  checks s c := rsvBytes c.payload 2 8 ++ chkP (s.stands.length ≤ u16 c.payload 0) stNoResource 0
  run s c := .done s (s.steerStatus (u16 c.payload 0)) 0

/-- The journal a STEER.JOURNAL names, empty where there is none. -/
def State.journalSource (s : State) (src : Nat) : List Byte := if src = 0 then s.journal else s.newestJournal.getD []

/-- STEER.JOURNAL (R298). -/
def steerJournal : CmdDef where
  opcode := 0x0A03
  kind := .immediate
  lenOk := lenIs 8
  checks s c :=
    let p := c.payload
    let j := s.journalSource (u8 p 2)
    chkP (u8 p 1 = 0 || 19 < u8 p 1) stBadField 1 ++ chkP (1 < u8 p 2) stBadField 2 ++ rsvBytes p 3 8 ++
    chkP (j != [] && u16 j 30 < u8 p 0 + u8 p 1) stBadField 0 ++ chkP (u8 p 2 = 1 && j = []) stNoResource 2
  run s c :=
    let j := s.journalSource (u8 c.payload 2)
    .done s (slice j 0 64 ++ slice j (64 + 208 * u8 c.payload 0) (208 * u8 c.payload 1)) 0

end Sys2Proof.Machine
end

