-- ==== Sys2Proof/Machine/Cal.lean ====
section
/-! DEFINITION. Emitter calibration and concealment (R222 to R248): records and bakes, calibration blocks, self-measurement
and the acceptance of trims, channel faults and concealment entries; CAL.*. -/

namespace Sys2Proof.Machine

/-! ### Where calibration data lies (R224) -/

/-- One GiB. -/
def gib : Nat := 0x40000000
/-- First frame-store byte of a die (R46). -/
def dieBase (die : Nat) : Nat := die * (64 * gib)
/-- Bytes of one set: 4,194,304 records of 12 bytes. -/
def setBytes : Nat := 50331648
/-- The span lies in the free region of one die. -/
def inFree (lo n : Nat) : Bool := 52 * gib ≤ lo % (64 * gib) && lo % (64 * gib) + n ≤ 64 * gib && lo + n ≤ 128 * gib

/-- A stand's place among the stands of its die, in stand-map order (R224). -/
def Settings.dieSlot (c : Settings) (i : Nat) : Nat :=
  ((List.range i).filter fun j => dieOfLink (c.stands.getD j {}).link == dieOfLink (c.stands.getD i {}).link).length

/-- First byte of the four temperature sets of a stand. -/
def Settings.setsAddr (c : Settings) (i : Nat) : Nat :=
  dieBase (dieOfLink (c.stands.getD i {}).link) + 8 * gib + 4 * setBytes * c.dieSlot i
/-- First byte of temperature set `k` of a stand. -/
def Settings.setAddr (c : Settings) (i k : Nat) : Nat := c.setsAddr i + setBytes * k
/-- First byte of the live set of a stand. -/
def Settings.liveAddr (c : Settings) (i : Nat) : Nat :=
  dieBase (dieOfLink (c.stands.getD i {}).link) + 20 * gib + setBytes * c.dieSlot i

/-- Cells of a span, counted from its start. -/
def Mem.spanOf (m : List Host.Cell) (lo n : Nat) : List Host.Cell :=
  (m.filter fun c => lo ≤ c.1 && c.1 < lo + n).map fun c => (c.1 - lo, c.2)

/-- A span replaced by cells counted from its start. -/
def Mem.splice (m : List Host.Cell) (lo n : Nat) (cells : List Host.Cell) : List Host.Cell :=
  m.filter (fun c => c.1 < lo) ++ (cells.filter fun c => c.1 < n).map (fun c => (c.1 + lo, c.2)) ++ m.filter fun c => lo + n ≤ c.1

/-- Cells in canonical form from any list of offsets and bytes. -/
def Mem.ofCells (cells : List Host.Cell) : List Host.Cell := cells.foldl (fun m c => Mem.write m c.1 c.2) []

/-- CRC-32 state after `n` zero bytes. -/
def crcZeros (n c : Nat) : Nat := Nat.rec c (fun _ c => crcByte c 0) n

/-- CRC-32 state after the `n` bytes that cells from `pos` on give. -/
def crcCells (n : Nat) : (pos : Nat) → List Host.Cell → Nat → Nat
  | pos, [], c => crcZeros (n - pos) c
  | pos, (k, v) :: m, c => if k < n then crcCells n (k + 1) m (crcByte (crcZeros (k - pos) c) v) else crcZeros (n - pos) c

/-! ### Records and bakes (R222, R226, R236) -/

/-- Fields of a record (R222): lowest bit, width, signed; GAIN first, then the matrix by rows. -/
def calFields : List (Nat × Nat × Bool) :=
  [(84, 12, false), (74, 10, false), (65, 9, true), (56, 9, true), (47, 9, true), (37, 10, false), (28, 9, true),
   (19, 9, true), (10, 9, true), (0, 10, false)]

/-- Code of a field in a record's 96 bits. -/
def fieldCode (r : Nat) (f : Nat × Nat × Bool) : Int :=
  let v := r / 2 ^ f.1 % 2 ^ f.2.1
  if f.2.2 then signedOf f.2.1 v else v

/-- The trim of a code is 2^((code − 128) / 128): whether n + 1/2 is below x times the trim, by 128th powers. -/
def halfBelow (x : Rat) (code n : Nat) : Bool :=
  let y : Rat := n + 1 / 2
  if 128 ≤ code then y ^ 128 < x ^ 128 * 2 ^ (code - 128) else y ^ 128 * 2 ^ (128 - code) < x ^ 128

/-- Whether n + 1/2 equals x times the trim. -/
def halfEq (x : Rat) (code n : Nat) : Bool :=
  let y : Rat := n + 1 / 2
  if 128 ≤ code then y ^ 128 == x ^ 128 * 2 ^ (code - 128) else y ^ 128 * 2 ^ (128 - code) == x ^ 128

/-- x times the trim of a code, rounded half up, to at most `top` in magnitude. -/
def trimRound (x : Rat) (code top : Nat) : Int :=
  if code = 128 then clampI (-(top : Int)) top (x + 1 / 2).floor
  else if 0 ≤ x then (((List.range top).filter fun n => halfBelow x code n || halfEq x code n).length : Int)
  else -(((List.range top).filter fun n => halfBelow (-x) code n).length : Int)

/-- One field of a live record: interpolated, trimmed, rounded half up, clamped to the field's range (R226). -/
def bakeField (a b : Nat) (w : Rat) (trim : Nat) (f : Nat × Nat × Bool) : Nat :=
  let x : Rat := (1 - w) * (fieldCode a f : Rat) + w * (fieldCode b f : Rat)
  let v := trimRound x trim (2 ^ f.2.1)
  let hi : Int := if f.2.2 then (2 ^ (f.2.1 - 1) : Nat) - 1 else (2 ^ f.2.1 : Nat) - 1
  let lo : Int := if f.2.2 then -(2 ^ (f.2.1 - 1) : Nat) else 0
  wrapInt f.2.1 (clampI lo hi v)

/-- The live record of an emitter from two set records (R226); `trims` are the codes of its three channels. -/
def bakeRecord (a b : Nat) (w : Rat) (trims : List Nat) : Nat :=
  (calFields.zipIdx.map fun e =>
    bakeField a b w (if e.2 = 0 then 128 else trims.getD ((e.2 - 1) / 3) 128) e.1 * 2 ^ e.1.1).foldl (· + ·) 0

/-- The two sets and the weight of a bake temperature (R226). -/
def bakeSets (t : List Int) (temp : Int) : Nat × Nat × Rat :=
  let at' (k : Nat) : Int := t.getD k 0
  if temp ≤ at' 0 then (0, 0, 0) else if at' 3 ≤ temp then (3, 3, 0) else
  let a := if at' 2 ≤ temp then 2 else if at' 1 ≤ temp then 1 else 0
  (a, a + 1, ((temp - at' a : Int) : Rat) / ((at' (a + 1) - at' a : Int) : Rat))

/-- A number put in its place in a rising list, once. -/
def insertNat (l : List Nat) (n : Nat) : List Nat :=
  match l with
  | [] => [n]
  | m :: l' => if n < m then n :: m :: l' else if n = m then m :: l' else m :: insertNat l' n

/-- Trim codes of an emitter (R236): 128 where none is listed. -/
def Cal.trimsOf (c : Cal) (e : Nat) : List Nat := (List.range 3).map fun ch => lookupD c.trims (3 * e + ch) 128

/-- The live set of a stand at a bake temperature, as cells: emitters without a set byte are dark under any trim. -/
def State.bakedCells (s : State) (i : Nat) (temp : Int) : List Host.Cell :=
  let (a, b, w) := bakeSets (s.standCfg i).calT temp
  let ca := Mem.spanOf s.fs.mem (s.settings.setAddr i a) setBytes
  let cb := Mem.spanOf s.fs.mem (s.settings.setAddr i b) setBytes
  let es := ((ca ++ cb).map fun c => c.1 / 12).foldl insertNat []
  Mem.ofCells (es.flatMap fun e =>
    let r := bakeRecord (uN (Mem.reads ca (12 * e) 12) 0 12) (uN (Mem.reads cb (12 * e) 12) 0 12) w ((s.stand i).cal.trimsOf e)
    (le 12 r).zipIdx.map fun x => (12 * e + x.2, x.1))

/-- A stand's bake is queued, once (R227). -/
def State.queueBake (s : State) (i : Nat) : State := { s with bakeQueue := addOnce s.bakeQueue i }

/-- Changes a stand's calibration state. -/
def State.updCal (s : State) (i : Nat) (f : Cal → Cal) : State := s.updStand i fun st => { st with cal := f st.cal }

/-- The latest reading differs from the T of the last bake by 0.5 °C or more: the bake is queued (R227). -/
def State.bakeOnTemp (s : State) (i : Nat) : State :=
  let st := s.stand i
  match st.temp, (match st.cal.baking with | some t => some t | none => st.cal.bakeT) with
  | some t, some b => if 5 ≤ (t - b).natAbs then s.queueBake i else s
  | _, _ => s

/-- The operation of a stand that a bake has to wait for (R232): a load, read or measurement that runs. -/
def Cal.holdsBake (c : Cal) : Bool := c.op == 1 || c.op == 2 || c.op == 3 || ((c.op == 4 || c.op == 5) && c.opParams.length != 2)

/-- Memory with the hogels that `due` names rewritten in a stand's live set, 12 whole granules each (R228). -/
def State.bakeHogels (s : State) (i : Nat) (temp : Int) (due : Nat → Bool) (m : List Host.Cell) : List Host.Cell :=
  let new := s.bakedCells i temp
  ((List.range 16384).filter due).foldl (fun m h =>
    Mem.splice m (s.settings.liveAddr i + 3072 * h) 3072 (Mem.spanOf new (3072 * h) 3072)) m

/-- The instant at which the running bake of a stand rewrites a hogel, after the one at which it starts (R228) (DESIGN CHOICE, log entry 128). -/
def State.bakeAt (s : State) (i h : Nat) : Nat :=
  (s.stand i).cal.bakeFrom + 1 + Config.bakeInstant i (s.stand i).cal.liveGen h

/-- Stands whose bake runs. -/
def State.bakers (s : State) : List Nat := (List.range s.stands.length).filter fun i => (s.stand i).cal.baking.isSome

/-- The live sets of the stands that bake, with the hogels whose instant lies within the next `dt` rewritten (R228). -/
def State.bakeWrites (s : State) (dt : Nat) (m : List Host.Cell) : List Host.Cell :=
  s.bakers.foldl (fun m i =>
    s.bakeHogels i ((s.stand i).cal.baking.getD 0) (fun h => s.clock.up < s.bakeAt i h && s.bakeAt i h ≤ s.clock.up + dt) m) m

/-- READ_MEMORY goes to a stand whose load from its own memory runs, once no bake of it runs (R232, R317): TOTAL is the one block of KIND 0 that
the memory holds (R229). -/
def State.askMemory (s : State) (i : Nat) : State :=
  let c := (s.stand i).cal
  let asks := (c.op == 1 && u8 c.opParams 2 == 0) || ((c.op == 4 || c.op == 5) && c.opParams.length != 2)
  if asks && c.baking.isNone then (s.updCal i fun c => { c with memory := [], memoryTo := 0 }).sendRead i (64 + 4 * setBytes) else s

/-- Memory data of a DIAG packet of KIND 3 (R319): at most 65,536 bytes, in offset order, for a load from the stand's memory that runs. -/
def Cal.memoryIn (c : Cal) (first : Nat) (data : List Byte) : Cal :=
  if (c.op = 1 ∨ c.op = 4 ∨ c.op = 5) ∧ first = c.memoryTo ∧ data.length ≤ 65536 then
    { c with memory := Mem.writes c.memory first data, memoryTo := first + data.length }
  else c

/-- The reload of a stand's sets from its memory, as at admission, after a bake that met a poisoned granule (R358). -/
def State.startReload (s : State) (i : Nat) : State :=
  (s.updCal i fun c => { c with reload := false, op := 1, opParams := le 2 i ++ [0, 1] ++ zeros 28, opTag := 0 }).askMemory i

/-- Starts the next bake of a die: the first queued stand with a reading, not one that readings have stopped coming from (R275), and no load or read
running (R227, R232) (DEDUCED, log entry 30). -/
def State.bakeStart (s : State) (die : Nat) : State :=
  let mine := (List.range s.stands.length).filter fun i => s.dieOfStand i == die
  if (mine.any fun i => (s.stand i).cal.baking.isSome) || s.modes.mode == 6 || !(s.fs.avail.getD die false) then s else
  match s.bakeQueue.find? fun i => s.dieOfStand i == die && !(s.stand i).cal.holdsBake && (s.stand i).temp.isSome && !(s.stand i).tempLost with
  | none => s
  | some i => { (s.updCal i fun c => { c with baking := (s.stand i).temp, bakeFrom := s.clock.up }) with bakeQueue := s.bakeQueue.filter (· != i) }

/-- A CAL.READ of the live set starts once the set is that of one completed bake (R231). -/
def Cal.unpark (c : Cal) : Cal :=
  match c.parked with
  | some p => if c.op = 0 ∧ !c.mixed then { c with op := 3, opParams := p.1, opTag := p.2, parked := none } else c
  | none => c

/-- EV_CAL_DONE ends an operation (R232); a reload that waited for it starts. -/
def State.calDone (s : State) (i result : Nat) : State :=
  let c := (s.stand i).cal
  let s := (s.updCal i fun c => { c with op := 0, opParams := [] }).raise evCalDone i [c.op, result] c.opTag
  if c.reload then s.startReload i else s.updCal i Cal.unpark

/-- The bake of a stand completes (R227): the rest of the live set, the generation, EV_CAL_REBAKE, whose TAG is 0 as no command causes it
by itself; a Bring-up or admission load ends (DEDUCED, log entry 30), and a load that waited for the bake starts (R232). -/
def State.bakeEnd (s : State) (i : Nat) : State :=
  match (s.stand i).cal.baking with
  | none => s
  | some t =>
    let s := { s with fs := { s.fs with mem := s.bakeHogels i t (fun h => s.clock.up < s.bakeAt i h) s.fs.mem } }
    let s := s.updCal i fun c => { c with baking := none, bakeT := some t, liveGen := (c.liveGen + 1) % 65536, mixed := false }
    let s := (s.raise evCalRebake i [p32 t]).bakeOnTemp i
    if ((s.stand i).cal.op = 4 ∨ (s.stand i).cal.op = 5) ∧ (s.stand i).cal.opParams.length = 2 then
      (s.updStand i fun st => { st with loaded := true }).calDone i 0
    else (s.updCal i Cal.unpark).askMemory i

/-! ### Channel faults and concealment (R242 to R248) -/

/-- A fault list has the channel: in a record of its emitter, or in a failed hogel. -/
def failedIn (faults : List ChanFault) (hogel emitter ch : Nat) : Bool :=
  faults.any fun f => f.hogel == hogel && (f.failed.getLsbD 7 || (f.emitter == emitter && f.failed.getLsbD ch))

/-- The channel is failed. -/
def Cal.failedCh (c : Cal) (hogel emitter ch : Nat) : Bool := failedIn c.faults hogel emitter ch

/-- The hogel is wholly failed. -/
def Cal.failedHogel (c : Cal) (hogel : Nat) : Bool := c.faults.any fun f => f.hogel == hogel && f.failed.getLsbD 7

/-- Any channel of the emitter is failed. -/
def Cal.failedEm (c : Cal) (hogel emitter : Nat) : Bool := (List.range 3).any (c.failedCh hogel emitter)

/-- A fault record (R242). -/
def ChanFault.bytes (f : ChanFault) : List Byte :=
  le 2 f.hogel ++ le 1 f.emitter ++ [f.failed, f.shorted] ++ zeros 3 ++ le 8 f.time

/-- The fault record at an offset of a KIND 4 payload; reserved bits are ignored (R12, R242). -/
def faultAt (b : List Byte) (o : Nat) : ChanFault :=
  { hogel := u16 b o, emitter := u8 b (o + 2), failed := byteAt b (o + 3) &&& 0x87, shorted := byteAt b (o + 4) &&& 0x07, time := u64 b (o + 8) }

/-- A record with WHOLE_HOGEL replaces the hogel's channel records (R242). -/
def Cal.wholeHogel (c : Cal) (hogel time : Nat) : Cal :=
  { c with faults := c.faults.filter (fun f => f.hogel != hogel) ++ [{ hogel := hogel, failed := 0x80, time := time }] }

/-- All 768 channels of a hogel are in the list. -/
def Cal.hogelFull (c : Cal) (hogel : Nat) : Bool :=
  256 ≤ (c.faults.filter fun f => f.hogel == hogel).length &&
    (List.range 256).all fun e => (List.range 3).all fun ch => c.failedCh hogel e ch

/-- A fault list as the A9 keeps it: a hogel with WHOLE_HOGEL or with all its channels listed has that one record (R242). -/
def Cal.settleFaults (c : Cal) : Cal :=
  (addAll [] (c.faults.map (·.hogel))).foldl (fun c h =>
    if c.failedHogel h || c.hogelFull h then
      c.wholeHogel h (((c.faults.find? fun f => f.hogel == h && f.failed.getLsbD 7).orElse fun _ => c.faults.find? fun f => f.hogel == h).getD {}).time
    else c) c

/-- The fault list of a stand changed: its entries are rebuilt within 200 µs, each time by itself (R243). -/
def State.needRebuild (s : State) (i : Nat) : State :=
  s.updCal i fun c => { c with rebuilds := c.rebuilds.filter (·.asked != s.clock.up) ++ [{ asked := s.clock.up, faults := c.faults }] }

/-- Declares a channel failed (R242); a channel in the list already is not declared again. -/
def State.declareFault (s : State) (i hogel emitter ch : Nat) (short : Bool) : State :=
  if (s.stand i).cal.failedCh hogel emitter ch then s else
  let bit : BitVec 8 := BitVec.ofNat 8 (2 ^ ch)
  let sbit : BitVec 8 := if short then bit else 0
  let s := s.updCal i fun c =>
    let c := if c.faults.any fun (f : ChanFault) => f.hogel == hogel && f.emitter == emitter then
        { c with faults := c.faults.map fun (f : ChanFault) => if f.hogel = hogel ∧ f.emitter = emitter then
            { f with failed := f.failed ||| bit, shorted := f.shorted ||| sbit } else f }
      else { c with faults := c.faults ++ [{ hogel := hogel, emitter := emitter, failed := bit, shorted := sbit, time := s.nowNs }] }
    if c.hogelFull hogel then c.wholeHogel hogel s.nowNs else c
  (s.raise evChannelFault i [hogel, emitter, ch, b2n short]).needRebuild i

/-- Neighbours of a cell of an n × n square. -/
def neighbours (n x y : Nat) : List (Nat × Nat) :=
  (if x = 0 then [] else [(x - 1, y)]) ++ (if x + 1 < n then [(x + 1, y)] else []) ++
  (if y = 0 then [] else [(x, y - 1)]) ++ (if y + 1 < n then [(x, y + 1)] else [])

/-- Working neighbour emitters of a failed channel (R244). -/
def Cal.emReceivers (c : Cal) (hogel emitter ch : Nat) : List Nat :=
  ((neighbours 16 (emitter % 16) (emitter / 16)).map fun e => e.2 * 16 + e.1).filter fun e => !c.failedCh hogel e ch

/-- Working neighbour hogels of a failed hogel (R245). -/
def Cal.hogelReceivers (c : Cal) (hogel : Nat) : List Nat :=
  ((neighbours 128 (hogel % 128) (hogel / 128)).map fun e => e.2 * 128 + e.1).filter fun h => !c.failedHogel h

/-- WEIGHT of 1 / k (R246). -/
def weightOf (k : Nat) : Nat := (2 * 32768 + k) / (2 * k)

/-- Kerf of an emitter of a stand, counted over the stand: two hogels of a row (R16). -/
def kerfOfEmitter (e : Nat) : Nat := e / 256 / 128 * 64 + e / 256 % 128 / 2

/-- The concealment entries of a kerf as they lie in the concealment region: 16 bytes each in receiver order, LAST on the last, padded to
64 bytes (R246). -/
def Cal.kerfEntries (c : Cal) (k : Nat) : List Byte :=
  let l := c.entries.filter fun e => kerfOfEmitter e.1 == k
  let bytes := l.zipIdx.flatMap fun e =>
    le 2 (e.1.1 / 256 % 2 * 256 + e.1.1 % 256) ++ [0x0F] ++ le 1 (b2n (e.2 + 1 == l.length)) ++ le 4 e.1.2.1 ++ le 2 e.1.2.2.1 ++ zeros 6
  padTo ((bytes.length + 63) / 64 * 64) bytes

/-- Entries that cover one fault record: receiver emitter, source emitter, weight, and the channels whose light goes out under that weight (R244). -/
def Cal.entriesOf (c : Cal) (f : ChanFault) : List (Nat × Nat × Nat × Nat) :=
  if f.failed.getLsbD 7 then
    let rs := c.hogelReceivers f.hogel
    rs.flatMap fun h => (List.range 256).map fun e => (256 * h + e, 256 * f.hogel + e, weightOf rs.length, 7)
  else
    (List.range 3).flatMap fun ch =>
      if !f.failed.getLsbD ch then [] else
      let rs := c.emReceivers f.hogel f.emitter ch
      rs.map fun e => (256 * f.hogel + e, 256 * f.hogel + f.emitter, weightOf rs.length, 2 ^ ch)

/-- An entry in its place in receiver order; channels of one source that a receiver takes at one weight share an entry. -/
def insertEntry (l : List (Nat × Nat × Nat × Nat)) (e : Nat × Nat × Nat × Nat) : List (Nat × Nat × Nat × Nat) :=
  match l with
  | [] => [e]
  | x :: l' =>
    if x.1 = e.1 ∧ x.2.1 = e.2.1 ∧ x.2.2.1 = e.2.2.1 then (x.1, x.2.1, x.2.2.1, x.2.2.2 ||| e.2.2.2) :: l'
    else if e.1 < x.1 then e :: x :: l' else x :: insertEntry l' e

/-- Entries of a stand under at most `room`, and the hogels left without concealment (R246) (DEDUCED, log entry 31). -/
def Cal.buildEntries (c : Cal) (room : Nat) : List (Nat × Nat × Nat × Nat) × List Nat :=
  c.faults.foldl (fun acc f =>
    let l := (c.entriesOf f).foldl insertEntry acc.1
    if l.length ≤ room then (l, acc.2) else (acc.1, addOnce acc.2 f.hogel)) ([], [])

/-- Hogels that a breach of the first two conditions of R247 involves, with the condition. -/
def Cal.breached (c : Cal) : List (Nat × Nat) :=
  ((c.faults.filter fun f =>
    if f.failed.getLsbD 7 then (neighbours 128 (f.hogel % 128) (f.hogel / 128)).any fun h => c.failedHogel (h.2 * 128 + h.1)
    else (neighbours 16 (f.emitter % 16) (f.emitter / 16)).any fun e => c.failedEm f.hogel (e.2 * 16 + e.1)).map
    fun f => (f.hogel, if f.failed.getLsbD 7 then 2 else 1)).eraseDups

/-- EV_CONCEAL_ENVELOPE for a hogel, counted since deployment (R248, R442). -/
def State.envelope (s : State) (i hogel : Nat) : State :=
  let s := { s with flash := { s.flash with breaches := s.flash.breaches + b2n (s.security.lifecycle == 1),
                                            conditions := s.flash.conditions ||| 2#8 } }
  s.raise evConcealEnvelope i [hogel]

/-- The entries of a stand as its latest finished rebuild leaves them. -/
def Cal.latestEntries (c : Cal) : List (Nat × Nat × Nat × Nat) :=
  (((c.rebuilds.filter (·.ready)).getLast?).map (·.entries)).getD c.entries

/-- Entries that the other stands of a die hold (DEDUCED, log entry 31). -/
def State.entriesElsewhere (s : State) (i : Nat) : Nat :=
  (((List.range s.stands.length).filter fun j => j != i && s.dieOfStand j == s.dieOfStand i).map fun j =>
    (s.stand j).cal.latestEntries.length).foldl (· + ·) 0

/-- Firmware finishes one rebuild of a stand's entries (R243 to R248): EV_CONCEAL_ENVELOPE for each hogel that a new breach involves, and for each
hogel left without concealment. -/
def State.rebuildOne (s : State) (i n : Nat) : State :=
  let c := (s.stand i).cal
  let q := c.rebuilds.getD n {}
  if q.ready ∨ c.rebuilds.length ≤ n then s else
  let c' : Cal := { c with faults := q.faults }
  let (l, lost) := c'.buildEntries (1048576 - s.entriesElsewhere i)
  let fresh := ((c'.breached.filter fun h => !c.breaches.contains h).map (·.1)).eraseDups
  let s := s.updCal i fun c => { c with
    rebuilds := upd c.rebuilds n fun (q : Rebuild) => { q with ready := true, entries := l }, breaches := c'.breached }
  (fresh ++ lost.filter fun h => !fresh.contains h).foldl (fun s h => s.envelope i h) s

/-- Firmware finishes the rebuilds of a stand's entries, in the order they were asked for. -/
def State.rebuild (s : State) (i : Nat) : State :=
  forEach (List.range (s.stand i).cal.rebuilds.length) s fun n s => s.rebuildOne i n

/-- What entries cover: hogel and emitter, or 0xFFFF for a whole hogel, whose light goes to other hogels. -/
def coveredBy (entries : List (Nat × Nat × Nat × Nat)) : List (Nat × Nat) :=
  (entries.map fun e => (e.2.1 / 256, if e.1 / 256 = e.2.1 / 256 then e.2.1 % 256 else 0xFFFF)).foldl
    (fun l x => if l.contains x then l else l ++ [x]) []

/-- Rebuilt entries take effect at the first synthesis start at least 200 µs after the declaration that asked for them (R243). -/
def State.concealSwitch (s : State) (i : Nat) : State :=
  if !(s.stand i).cal.rebuilds.any fun q => s.since q.asked (us 200) then s else
  let s := s.rebuild i
  let c := (s.stand i).cal
  let due := c.rebuilds.takeWhile fun q => s.since q.asked (us 200)
  let l := (due.getLast?.map (·.entries)).getD c.entries
  let new := (coveredBy l).filter fun x => !(coveredBy c.entries).contains x
  let s := s.updCal i fun c => { c with entries := l, rebuilds := c.rebuilds.drop due.length, concealGen := (c.concealGen + 1) % 65536 }
  new.foldl (fun s x => s.raise evConcealed i [x.1, x.2]) s

/-! ### Self-measurement (R234 to R241) -/

/-- The measured trim of a deviation in 0.5 mV units under a coefficient in 10^−5 per mV (R235); −1 where 1 − K × ΔV is not
above 0. -/
def measuredTrim (k : Nat) (dv : Rat) : Rat :=
  let x := 1 - (k : Rat) * dv / 200000
  if x ≤ 0 then -1 else 1 / x

/-- Whether 2^((2n − 1) / 256) ≤ t for a code step n from 128: the code is at least 128 + n. -/
def codeReached (t : Rat) (code : Nat) : Bool :=
  if 129 ≤ code then (2 : Rat) ^ (2 * (code - 128) - 1) ≤ t ^ 256 else 1 ≤ t ^ 256 * 2 ^ (2 * (128 - code) + 1)

/-- The code of a trim (R236): the nearest, from 0 to 255. -/
def trimCode (t : Rat) : Nat := ((List.range 255).filter fun n => 0 < t && codeReached t (n + 1)).length

/-- The trim in force as a comparison: |m / 2^((code − 128)/128) − 1| ≤ 0.05, by 128th powers. -/
def within5 (m : Rat) (code : Nat) : Bool :=
  let lim (f : Rat) (below : Bool) : Bool :=
    -- f × trim ≤ m (below) or m ≤ f × trim
    let l := if 128 ≤ code then f ^ 128 * 2 ^ (code - 128) else f ^ 128
    let r := if 128 ≤ code then m ^ 128 else m ^ 128 * 2 ^ (128 - code)
    if below then l ≤ r else r ≤ l
  0 < m && lim (19 / 20) true && lim (21 / 20) false

/-- Counts a channel as rejected for a cause, 1 to 3. -/
def Cal.reject (c : Cal) (cause : Nat) : Cal := { c with rejected := upd c.rejected (cause - 1) (· + 1) }

/-- A trim is accepted for a channel; it takes effect at the end of the pass (R240). -/
def Cal.accept (c : Cal) (ch : Nat) (t : Rat) : Cal :=
  { c with newTrims := insertKey c.newTrims ch (trimCode t), acceptedN := c.acceptedN + 1 }

/-- Repeat agreement (R238). -/
def Cal.agree (c : Cal) (ch : Nat) (m : Rat) : Cal :=
  match (c.cand.find? fun e => e.1 == ch) with
  | none => { c with cand := c.cand ++ [(ch, m, 0)] }
  | some (_, p, n) =>
    let rest := c.cand.filter fun e => e.1 != ch
    if 0 < m ∧ 0 < p ∧ |m / p - 1| ≤ 1 / 100 then { c with cand := rest }.accept ch ((m + p) / 2)
    else if n = 3 then { c with cand := rest }.reject 1
    else { c with cand := rest ++ [(ch, m, n + 1)] }

/-- Plausibility limits (R239). -/
def Cal.judge (c : Cal) (ch : Nat) (m : Rat) : Cal :=
  if m < 1 / 2 ∨ 2 < m then c.reject 2
  else if within5 m (lookupD c.trims ch 128) then c.accept ch m else c.reject 3

/-- One measured trim of a channel under the method fixed at the start of the pass (R237). -/
def Cal.measured (c : Cal) (ch : Nat) (m : Rat) : Cal := if c.method = 0 then c.agree ch m else c.judge ch m

/-- K of a channel (R235). -/
def Settings.kOf (c : Settings) (ch : Nat) : Nat := c.calPolicy.getD (1 + ch % 3) 0
/-- TRIM_OFF. -/
def Settings.trimOff (c : Settings) : Bool := bitOf (c.calPolicy.getD 0 0) 0

/-- Acceptance method for a number of stands (R237). -/
def methodFor (stands : Nat) : Nat := if stands ≤ 8 then 0 else 1

/-- Stand-wide channel of a sample index in a measurement row (R234, R319). -/
def channelOf (row idx : Nat) : Nat :=
  let hrow := 8 * (row / 16) + idx / 6144
  let hcol := idx / 48 % 128
  ((hrow * 128 + hcol) * 256 + (row % 16) * 16 + idx % 48 / 3) * 3 + idx % 3

/-- One DIAG sample (R242, R235, R269): status, ΔV in 0.5 mV; `cal` says that its slot is one of Calibrate, `trims` that a sample may change a trim
(R241) (DEDUCED, log entry 30). -/
def State.sample (s : State) (cal trims : Bool) (i ch status : Nat) (dv : Int) : State :=
  match status with
  | 1 => s.declareFault i (ch / 768) (ch / 3 % 256) (ch % 3) false
  | 2 => s.declareFault i (ch / 768) (ch / 3 % 256) (ch % 3) true
  | 0 =>
    if s.settings.trimOff ∨ !trims then s
    else if cal then
      s.updCal i fun c =>
        match c.samples.find? fun e => e.1 == ch with
        | some _ => { c with samples := c.samples.map fun e => if e.1 = ch then (ch, e.2.1 + dv, e.2.2 + 1) else e }
        | none => { c with samples := c.samples ++ [(ch, dv, 1)] }
    else s.updCal i fun c => c.measured ch (measuredTrim (s.settings.kOf ch) dv)
  | _ => s

/-- The trims accepted in a pass take their places; code 128 is not listed. -/
def Cal.takeTrims (c : Cal) : Cal :=
  { c with trims := c.newTrims.foldl (fun l e => if e.2 = 128 then removeKey l e.1 else insertKey l e.1 e.2) c.trims, newTrims := [] }

/-- What a pass leaves to accept and count: the means of its samples judged, or nothing under TRIM_OFF (R240, R269). -/
def Cal.passed (c : Cal) (set : Settings) (cal : Bool) : Cal :=
  if set.trimOff then { c with samples := [], newTrims := [], rejected := [0, 0, 0], acceptedN := 0 }
  else if !cal then c
  else { c.samples.foldl (fun c e => c.measured e.1 (measuredTrim (set.kOf e.1) ((e.2.1 : Rat) / e.2.2))) c with samples := [] }

/-- A measurement pass over a stand ends (R240, R268, R269): acceptance, EV_MEASURE_PASS, EV_CAL_REJECTED, a bake; `cal` says that it is
one of a CAL.MEASURE, whose TAG its events echo (R61). -/
def State.endPass (s : State) (cal : Bool) (i : Nat) : State :=
  let s := s.updCal i fun c => c.passed s.settings cal
  let c := (s.stand i).cal
  let mine := cal && c.op == 2
  let tag := if mine then c.opTag else 0
  let s := s.updCal i fun c => { c with passes := (c.passes + 1) % 0x100000000 }
  let s := s.raise evMeasurePass i [(s.stand i).cal.passes] tag
  let s := (List.range 3).foldl (fun s k =>
    let n := c.rejected.getD k 0
    if n = 0 then s else s.raise evCalRejected i [k + 1, n] tag) s
  let s := if mine then
      s.recFixed 0x0080 [i, u8 c.opParams 3 - c.passLeft + 1, c.acceptedN, c.rejected.foldl (· + ·) 0] else s
  let s := if c.newTrims = [] then s else s.queueBake i
  s.updCal i fun c => { c.takeTrims with rejected := [0, 0, 0], acceptedN := 0, passLeft := if mine then c.passLeft - 1 else c.passLeft }

/-- A pass over a stand starts: its acceptance method is fixed (R237). -/
def State.startPass (s : State) (i : Nat) : State := s.updCal i fun c => { c with method := methodFor s.stands.length }

/-- Calibrate ends at the present blank: a pass that has not ended by now is discarded (R241). -/
def State.leavesCal (s : State) : Bool := s.modes.mode == 7 && s.modes.modeDue.any (· != 7)

/-- A slot of a measurement that ended: its samples find faults, and change no trim and no candidate (R241, R242). -/
def voidSlot (e : Nat × Nat × Nat × Nat) : Bool := 256 ≤ e.2.2.2

/-- A running CAL.MEASURE ends with a result: the pass in progress is discarded with its samples, and its slots of frames before `to'` serve for
faults alone (R241, R242). -/
def State.stopMeasure (s : State) (i to' result : Nat) : State :=
  let late (e : Nat × Nat × Nat × Nat) : Nat × Nat × Nat × Nat :=
    if e.2.2.1 = i ∧ e.1 < to' ∧ !voidSlot e then (e.1, e.2.1, e.2.2.1, 256 + e.2.2.2) else e
  let s := { s with links := s.links.map fun (k : Link) => { k with measSlots := k.measSlots.map late } }
  (s.updCal i fun c => { c with samples := [] }).calDone i result

/-- A change of mode ends every running CAL.MEASURE (R241): with success where its passes had all ended. -/
def State.abortMeasure (s : State) : State :=
  forEach (List.range s.stands.length) s fun i s =>
    if (s.stand i).cal.op = 2 then s.stopMeasure i s.clock.tick (if (s.stand i).cal.passLeft = 0 then 0 else 7) else s

/-- DIAG samples of one slot: measurement row, index of the first sample, statuses and deviations (R319). -/
def State.samplesOf (s : State) (cal trims : Bool) (i row first : Nat) (l : List (Nat × Int)) : State :=
  (l.zipIdx).foldl (fun s e => s.sample cal trims i (channelOf row (first + e.2)) e.1.1 e.1.2) s

/-! ### Calibration blocks (R229 to R232) -/

/-- PAYLOAD_BYTES that a KIND asks for. -/
def payloadBytes (kind records : Nat) : Option Nat :=
  match kind with
  | 0 => some (4 * setBytes)
  | 1 | 2 => some setBytes
  | 3 => some 12582912
  | 4 => some (16 * records)
  | _ => none

/-- MAGIC of a calibration block. -/
def calMagic : Nat := 0x424C4143

/-- The result of the checks of a load (R230, R232); 0 where none fails (DEDUCED, log entry 29). -/
def State.blockResult (s : State) (i : Nat) (h : List Byte) (cells : List Host.Cell) (adopt : Bool) : Nat :=
  let kind := u8 h 6
  let t := (List.range 4).map fun k => s16 h (16 + 2 * k)
  if u32 h 0 ≠ calMagic ∨ u16 h 4 ≠ 1 ∨ ¬ [0, 1, 3, 4].contains kind ∨ payloadBytes kind (u32 h 36) ≠ some (u32 h 28) ∨
      (kind = 1 ∧ 3 < u8 h 7) then 2
  else if crcCells (u32 h 28) 0 cells ((slice h 0 32).foldl crcByte 0xFFFFFFFF) ^^^ 0xFFFFFFFF ≠ u32 h 32 then 1
  else if u64 h 8 ≠ (s.stand i).serialSeen then 3
  else if !adopt && ((t.zip (s.standCfg i).calT).any fun e => 1 < (e.1 - e.2).natAbs) then 4
  else 0

/-- Takes a checked block into a stand (R230). -/
def State.takeBlock (s : State) (i : Nat) (h : List Byte) (cells : List Host.Cell) (adopt reset : Bool) : State :=
  let kind := u8 h 6
  let c := s.settings
  let put (lo n : Nat) : State := { s with fs := { s.fs with mem := Mem.splice s.fs.mem lo n cells } }
  let s := match kind with | 0 => put (c.setsAddr i) (4 * setBytes) | 1 => put (c.setAddr i (u8 h 7)) setBytes | _ => s
  let s := s.updCal i fun k =>
    let k := if kind ≤ 1 then { k with lumFull := u32 h 24 } else k
    let k := if kind = 3 then { k with trims :=
        ((List.range 12582912).filterMap fun n =>
          let b := (Mem.read cells n).toNat
          if b = 128 then none else some (n, b)) } else k
    let k := if kind = 4 then
        ({ k with faults := (List.range (u32 h 36)).map fun n => faultAt (Mem.reads cells (16 * n) 16) 0 } : Cal).settleFaults else k
    if reset then { k with trims := [], newTrims := [], cand := [] } else k
  let s := if adopt then { s with settings := { s.settings with stands := upd s.settings.stands i fun t =>
      { t with calT := (List.range 4).map fun k => s16 h (16 + 2 * k) } } } else s
  let s := if kind = 4 then s.needRebuild i else s
  if kind = 4 ∧ !adopt ∧ !reset then s else s.queueBake i

/-- Payload of a block that CAL.READ writes, as cells. -/
def State.readCells (s : State) (i kind set : Nat) : List Host.Cell :=
  match kind with
  | 1 => Mem.spanOf s.fs.mem (s.settings.setAddr i set) setBytes
  | 2 => Mem.spanOf s.fs.mem (s.settings.liveAddr i) setBytes
  | 3 => Mem.ofCells ((List.range 12582912).map fun n => (n, BitVec.ofNat 8 (lookupD (s.stand i).cal.trims n 128)))
  | _ => Mem.ofCells (((s.stand i).cal.faults.flatMap ChanFault.bytes).zipIdx.map fun e => (e.2, e.1))

/-- Writes the block of a CAL.READ to the frame store (R231). -/
def State.writeBlock (s : State) (i : Nat) (p : List Byte) : State :=
  let kind := u8 p 2
  let n := (s.stand i).cal.faults.length
  let bytes := (payloadBytes kind n).getD 0
  let cells := s.readCells i kind (u8 p 3)
  let h32 := le 4 calMagic ++ le 2 1 ++ le 1 kind ++ le 1 (u8 p 3) ++ le 8 (s.serialOf i) ++
    ((s.standCfg i).calT.flatMap fun t => leI 2 t) ++ le 4 (s.stand i).cal.lumFull ++ le 4 bytes
  let crc := crcCells bytes 0 cells (h32.foldl crcByte 0xFFFFFFFF) ^^^ 0xFFFFFFFF
  let head := h32 ++ le 4 crc ++ le 4 (if kind = 4 then n else 0) ++ zeros 24
  let m := Mem.writes (Mem.clear s.fs.mem (u64 p 8) (u64 p 8 + 64)) (u64 p 8) head
  { s with fs := { s.fs with mem := Mem.splice m (u64 p 8 + 64) bytes cells } }

/-- A stand's link is up. -/
def State.linkUp (s : State) (l : Nat) : Bool := 2 ≤ (s.link l).state

/-- The block that a load brings from the stand's memory: the one that DIAG packets of KIND 3 brought (R319), else the operands (DESIGN CHOICE,
log entry 54). -/
def Cal.block (c : Cal) (h : List Byte) (cells : List Host.Cell) : List Byte × List Host.Cell :=
  if 64 ≤ c.memoryTo then (Mem.reads c.memory 0 64, Mem.spanOf c.memory 64 (c.memoryTo - 64)) else (padTo 64 h, Mem.ofCells cells)

/-- A calibration operation of a stand ends (R232); for a load over the return lane the block is the one that DIAG packets of KIND 3 brought (R319),
else `h` and `cells`, as its memory returned them (DESIGN CHOICE, log entry 54). -/
def State.calOpEnd (s : State) (i : Nat) (h : List Byte) (cells : List Host.Cell) : State :=
  let st := s.stand i
  let c := st.cal
  let p := c.opParams
  let b := c.block h cells
  let h := b.1
  let cells := b.2
  let load (h : List Byte) (cells : List Host.Cell) (adopt reset : Bool) : State × Nat :=
    let r := s.blockResult i h cells adopt
    (if r = 0 then s.takeBlock i h cells adopt reset else s, r)
  if c.op = 0 ∨ c.baking.isSome ∨ ((c.op = 4 ∨ c.op = 5) ∧ p.length = 2) then s
  else if st.removed ∧ !st.seen then (if c.op = 2 then s.stopMeasure i (s.clock.tick + 2) 6 else s.calDone i 6)
  else match c.op with
    | 1 =>
      if u8 p 2 = 0 ∧ !s.linkUp (s.standCfg i).link then s.calDone i 5 else
      let flags := u8 p 3
      let h := if u8 p 2 = 0 then h else Mem.reads s.fs.mem (u64 p 8) 64
      let cells := if u8 p 2 = 0 then cells else Mem.spanOf s.fs.mem (u64 p 8 + 64) (u32 h 28)
      let r := load h cells (bitOf flags 0) (bitOf flags 1)
      r.1.calDone i r.2
    | 2 =>
      if c.passLeft = 0 then s.calDone i 0
      else if !s.linkUp (s.standCfg i).link then s.stopMeasure i (s.clock.tick + 2) 5 else s
    | 3 => (s.writeBlock i p).calDone i 0
    | _ =>
      if !s.linkUp (s.standCfg i).link then s.calDone i 5 else
      let r := load h cells true (bitOf (u8 p 0) 1)
      if r.2 = 0 then r.1.updCal i fun c => { c with opParams := [0, byteAt p 0] } else r.1.calDone i r.2

/-! ### Commands -/

/-- CAL.SETS (R225). -/
def calSets : CmdDef where
  opcode := 0x0702
  kind := .stageable
  lenOk := lenIs 16
  checks _ c :=
    let p := c.payload
    rsvBytes p 2 4 ++
    (List.range 4).flatMap (fun k =>
      let t := s16 p (4 + 2 * k)
      chkP (t < -400 || 1250 < t || (k != 0 && t < s16 p (2 + 2 * k) + 50)) stBadField (4 + 2 * k)) ++ rsvBytes p 12 16
  validate _ _ _ _ fin p := standMissing fin p
  apply p c := c.updStands p fun t => { t with calT := (List.range 4).map fun k => s16 p (4 + 2 * k) }
  effect _ p _ _ s := forEach (s.settings.named p) s fun i s => s.queueBake i

/-- CAL.POLICY (R235). -/
def calPolicy : CmdDef where
  opcode := 0x0704
  kind := .stageable
  lenOk := lenIs 16
  checks _ c :=
    let p := c.payload
    rsvBits p 0 0xFE ++ rsvBytes p 1 2 ++
    [2, 4, 6].flatMap (fun o => chkP (1000 < u16 p o) stBadField o) ++ rsvBytes p 8 16
  apply p c := { c with calPolicy := [u8 p 0, u16 p 2, u16 p 4, u16 p 6] }

/-- The stand is not in the stand map in force. -/
def State.noStand (s : State) (p : List Byte) (all : Bool) : List Err :=
  chkP (s.stands.length ≤ u16 p 0 && !(all && u16 p 0 == 0xFFFF)) stNoResource 0

/-- A calibration operation of the stand runs or waits, or its admission is about to load (R66, R232, R439). -/
def Stand.calRuns (st : Stand) : Bool := st.cal.op != 0 || st.cal.parked.isSome || st.admission == 1

/-- A calibration operation runs on a stand the payload names. -/
def State.calBusy (s : State) (p : List Byte) : List Err :=
  chk ((s.settings.named p).any fun i => (s.stand i).calRuns) stBusy

/-- Starts an operation on each stand named. -/
def State.startCalOp (s : State) (c : Cmd) (op passes : Nat) : State :=
  forEach (s.settings.named c.payload) s fun i s =>
    s.updCal i fun k => { k with op := op, opParams := c.payload, opTag := c.tag, passLeft := passes }

/-- CAL.LOAD (R230). -/
def calLoad : CmdDef where
  opcode := 0x0701
  kind := .immediate
  lenOk := lenIs 32
  checks s c :=
    let p := c.payload
    let a := u64 p 8
    chkP (1 < u8 p 2) stBadField 2 ++ rsvBits p 3 0xFC ++ rsvBytes p 4 8 ++
    chkP (if u8 p 2 = 0 then a != 0
      else a % 256 != 0 || !inFree a 64 || !inFree a (64 + u32 (Mem.reads s.fs.mem a 64) 28)) stBadField 8 ++
    rsvBytes p 16 32 ++ s.noStand p false ++ s.calBusy p
  run s c :=
    .done ((s.startCalOp c 1 0).askMemory (u16 c.payload 0)) [] 0

/-- CAL.READ (R231). -/
def calRead : CmdDef where
  opcode := 0x0705
  kind := .immediate
  lenOk := lenIs 32
  checks s c :=
    let p := c.payload
    let n := (payloadBytes (u8 p 2) (s.stand (u16 p 0)).cal.faults.length).getD 0
    chkP (u8 p 2 = 0 || 4 < u8 p 2) stBadField 2 ++ chkP (if u8 p 2 = 1 then 3 < u8 p 3 else u8 p 3 != 0) stBadField 3 ++
    rsvBytes p 4 8 ++ chkP (u64 p 8 % 256 != 0 || !inFree (u64 p 8) (64 + n)) stBadField 8 ++
    rsvBytes p 16 32 ++ s.noStand p false ++ s.calBusy p
  run s c :=
    let i := u16 c.payload 0
    if u8 c.payload 2 = 2 ∧ (s.stand i).cal.mixed then .done (s.updCal i fun k => { k with parked := some (c.payload, c.tag) }) [] 0
    else .done (s.startCalOp c 3 0) [] 0

/-- CAL.MEASURE (R241, R95). -/
def calMeasure : CmdDef where
  opcode := 0x0703
  kind := .immediate
  lenOk := lenIs 16
  checks s c :=
    let p := c.payload
    rsvBits p 2 0xFE ++ chkP (u8 p 3 = 0 || 8 < u8 p 3) stBadField 3 ++ chkP (1023 < u16 p 4) stBadField 4 ++ rsvBytes p 6 16 ++
    chk (s.modes.mode != 7) stBadMode ++ s.noStand p true ++ s.calBusy p
  run s c := .done (s.startCalOp c 2 (u8 c.payload 3)) [] 0

/-! ### A stand map applies (R233) -/

/-- The data of stands that stay moves to the places the new map gives; stands that leave lose theirs.  `from'` gives, for
each stand of the new configuration, the index it had (DEDUCED, log entry 62). -/
def moveCal (m : List Host.Cell) (old new : Settings) (from' : List (Option Nat)) : List Host.Cell :=
  let cleared := [0, 1].foldl (fun m d => Mem.clear m (dieBase d + 8 * gib) (dieBase d + 23 * gib)) m
  (from'.zipIdx).foldl (fun acc e =>
    match e.1 with
    | none => acc
    | some i =>
      let acc := Mem.splice acc (new.setsAddr e.2) (4 * setBytes) (Mem.spanOf m (old.setsAddr i) (4 * setBytes))
      Mem.splice acc (new.liveAddr e.2) setBytes (Mem.spanOf m (old.liveAddr i) setBytes)) cleared

end Sys2Proof.Machine
end

