-- ==== Sys2Proof/Machine/Scan.lean ====
section
/-! DEFINITION. Scan timing and pulse-width drive (R249 to R275): code-to-width tables, the frame plan that the SCAN packets
carry, measurement slots and the sweep, steering windows, timing-mode changes, stand temperature; SCAN.*. -/

namespace Sys2Proof.Machine

/-! ### Pulse widths (R252 to R254) -/

/-- The low `n` bits of x reversed. -/
def bitrev (n x : Nat) : Nat := ((List.range n).map fun k => (x / 2 ^ k % 2) * 2 ^ (n - 1 - k)).foldl (· + ·) 0

/-- Portions of a width over the passes of a sub-frame, 2^n of them (R253). -/
def portions (w n : Nat) : List Nat :=
  (List.range (2 ^ n)).map fun q => w / 2 ^ n + b2n (decide (bitrev n q < w % 2 ^ n))

/-- Segments of a portion: length and start in clocks (R254); the spread count is 2^n. -/
def segments (p n phase : Nat) : List (Nat × Nat) :=
  let c := 1024 / 2 ^ n
  (List.range (2 ^ n)).map fun m =>
    let len := p / 2 ^ n + b2n (decide (bitrev n m < p % 2 ^ n))
    (len, m * c + min (phase * c / 32) (c - len))

/-- The bundle's code-to-width table for a stand type (R331) (DESIGN CHOICE, log entry 105). -/
def State.bundleWidths (s : State) (stype : Nat) : List Byte := padTo 6144 (Config.bundleLut s.standTables stype)

/-- Code-to-width table of a stand (R331): the host's, else the bundle's for its type. -/
def State.widthsOf (s : State) (t : StandCfg) : List Byte := t.lut.getD (s.bundleWidths t.stype)

/-- Largest width at a frame rate (R252). -/
def widthLimit (rate : Nat) : Nat := if rate = 120 then 8191 else 16383

/-- A code-to-width table meets R252 at a frame rate (DEDUCED, log entry 49). -/
def widthsOk (rate : Nat) (tb : List Byte) : Bool :=
  (List.range 3).all fun ch =>
    let w (n : Nat) : Nat := u16 tb (2048 * ch + 2 * n)
    w 0 == 0 && (List.range 1023).all (fun n => w n < w (n + 1)) && w 1023 ≤ widthLimit rate

/-- A table holds an entry above 8,191 (R260). -/
def widthsWide (tb : List Byte) : Bool := (List.range 3072).any fun n => 8191 < u16 tb (2 * n)

/-- Stands a link carries at most (R16, R300, R301): by rate code and frame rate. -/
def linkCap (code rate : Nat) : Nat := if rate = 120 then code else 2 * code

/-- Scan passes of a sub-frame (R249). -/
def passes (rate : Nat) : Nat := if rate = 120 then 8 else 16

/-! ### SCAN commands -/

/-- A change of timing mode starts at a blank (R264, R266): from tick T the loading frame, the transition frame, then the
new timing; at once where Standby or Bring-up was in force (DEDUCED, log entry 104). -/
def State.startTiming (s : State) (rate spread : Nat) (tag txn : Word) : State :=
  let t := s.clock.tick + 1
  let here := s.tb.change.any fun c => c.loadTick == t
  if !here && rate == s.clock.rate && spread == s.clock.spread then s else
  let c : TimingChange := s.tb.change.getD { loadTick := t, direct := s.modes.mode ≤ 1 }
  { s with tb := { s.tb with change := some { c with newRate := rate, newSpread := spread, tag := tag, txn := txn } } }

/-- SCAN.TIMING (R260). -/
def scanTiming : CmdDef where
  opcode := 0x0901
  kind := .stageable
  lenOk := lenIs 16
  checks _ c :=
    let p := c.payload
    chkP (u8 p 0 != 60 && u8 p 0 != 120) stBadField 0 ++ chkP (!([1, 2, 4, 8, 16, 32].contains (u8 p 1))) stBadField 1 ++
    chkP (1 < u8 p 2) stBadField 2 ++ rsvBytes p 3 16
  apply p c := { c with rate := u8 p 0, spread := u8 p 1, cls := u8 p 2 }
  effect _ p tag txn s := s.startTiming (u8 p 0) (u8 p 1) tag txn

/-- SCAN.PRECHARGE (R258). -/
def scanPrecharge : CmdDef where
  opcode := 0x0902
  kind := .stageable
  lenOk := lenIs 16
  checks _ c :=
    let p := c.payload
    [2, 4, 6].flatMap (fun o => chkP (3000 < u16 p o || u16 p o % 10 != 0) stBadField o) ++
    chkP (43 < u8 p 8) stBadField 8 ++ rsvBytes p 9 16
  validate _ _ _ _ fin p := standMissing fin p
  apply p c := c.updStands p fun t =>
    { t with levelR := u16 p 2, levelG := u16 p 4, levelB := u16 p 6, preWidth := u8 p 8 }

/-- SCAN.MEASURE_PLAN (R267). -/
def scanMeasurePlan : CmdDef where
  opcode := 0x0903
  kind := .stageable
  lenOk := lenIs 16
  checks _ c := rsvBits c.payload 0 0xFC ++ rsvBytes c.payload 4 16
  validate _ _ _ _ fin p := chkP (passes fin.rate ≤ u8 p 1) stBadField 1
  apply p c := { c with measFlags := BitVec.ofNat 8 (u8 p 0), measPass := u8 p 1, measLinks := BitVec.ofNat 16 (u16 p 2) }

/-- R of R262 in MiB: 4 bytes for each ray of a die, a multiple of 64 MiB. -/
def Settings.frameMib (c : Settings) (die : Nat) : Nat :=
  64 * (c.stands.filter fun t => dieOfLink t.link == die).length

/-- A die's pair of ray frames at one offset comes to hold the codes of the pair at another (R263). -/
def State.copyFrames (s : State) (c : Settings) (die old new : Nat) : State :=
  let n := 2 * c.frameMib die * 0x100000
  { s with fs := { s.fs with
      mem := Mem.splice s.fs.mem (dieBase die + new * 0x100000) n (Mem.spanOf s.fs.mem (dieBase die + old * 0x100000) n) } }

/-- SCAN.FRAME_BASE (R262, R263). -/
def scanFrameBase : CmdDef where
  opcode := 0x0904
  kind := .stageable
  lenOk := lenIs 16
  checks _ c :=
    let p := c.payload
    chkP (1 < u8 p 0) stBadField 0 ++ rsvBytes p 1 4 ++ chkP (u32 p 4 % 64 != 0) stBadField 4 ++ rsvBytes p 8 16
  validate _ _ _ cur fin p :=
    let r := fin.frameMib (u8 p 0)
    let old := cur.frameBase.getD (u8 p 0) 0
    let new := u32 p 4
    chkP (8192 < new + 2 * r || (new < old + 2 * r && old < new + 2 * r)) stBadField 4
  apply p c := { c with frameBase := upd c.frameBase (u8 p 0) fun _ => u32 p 4 }
  effect old p _ _ s :=
    let d := u8 p 0
    let s := { s with fs := { s.fs with
      moves := s.fs.moves.map fun (e : FrameMove) => if e.die = d ∧ e.new = u32 p 4 then { e with applied := true } else e } }
    -- a read of what the copy has not reached yet is served from the old pair (R263)
    s.copyFrames old d (old.frameBase.getD d 0) (u32 p 4)

/-- OFFSET_MIB of the pair that a die's scan-out reads in the frame of a tick (R263, R266). -/
def State.shownBase (s : State) (tick die : Nat) : Nat := (s.scanSettings tick).frameBase.getD die 0

/-- Old pairs are released where the copy has completed and scan-out reads the new pair, with the Cruise table updated (R33, R263);
`tick` is that of the frame in progress, or in a blank of the next. -/
def State.releaseFrames (s : State) (tick : Nat) : State :=
  let over' (e : FrameMove) : Bool := e.applied && e.copied && s.shownBase tick e.die != e.old
  if s.fs.moves.any over' then
    ({ s with fs := { s.fs with moves := s.fs.moves.filter fun e => !over' e } }).cruiseTouch 7 0
  else s

/-! ### The frame plan (R256, R257, R264, R316) -/

/-- Operating mode that governs scan-out from the tick that ends the blank (DEDUCED, log entry 42). -/
def State.nextMode (s : State) : Nat := s.modes.modeDue.getD s.modes.mode

/-- Tick of the last mode change and the mode before it, the change of the present blank counted (DEDUCED, log entry 44). -/
def State.entered (s : State) : Nat × Nat :=
  match s.modes.modeDue with
  | some _ => (s.clock.tick + 1, s.modes.mode)
  | none => (s.modes.enteredAt, s.modes.prevMode)

/-- Stands are to be in held class: Hold, or Compose with CLASS 1 (R101, R257). -/
def State.wantHeld (s : State) : Bool := s.nextMode == 6 || (s.nextMode == 5 && s.settings.cls == 1)

/-- KIND of the SCAN packet of frame `t` for a stand, and whether the stand is in held class afterwards (DEDUCED, log entry 28). -/
def State.frameKind (s : State) (st : Stand) (t : Nat) : Nat × Bool :=
  let m := s.nextMode
  let (at', prev) := s.entered
  let wantHeld := s.wantHeld
  let usual : Nat × Bool :=
    if wantHeld then (if !st.held then (1, true) else if m = 5 ∧ st.loadNext then (1, true) else (2, true))
    else if st.held then (if prev = 6 ∧ t < at' + 2 then (2, true) else if s.modes.heldFrame then (2, false) else (0, false))
    else if prev = 1 ∧ t < at' + 2 then (3, false) else (0, false)
  if m ≤ 1 then (3, false) else
  let k := match s.tb.change with
    | none => usual
    | some c =>
      if c.direct then usual
      else if t = c.loadTick then (if usual.1 = 3 then usual else (1, st.held || wantHeld))
      else if t = c.loadTick + 1 then (if st.kind = 3 then (3, st.held) else (2, st.held))
      else if t = c.loadTick + 2 then (if wantHeld then (1, true) else (0, false)) else usual
  if st.dark ∨ st.excluded ∨ st.released ∨ st.removed then (3, k.2) else k

/-- Held sub-frame of a narrowed link (R326): the stand at position `p` of `n` gets no RAY packets; at 9.0 Gbit/s and 120 Hz the budget of
R301 admits none (DEDUCED, log entry 28). -/
def narrowHeld (code rate n t s p : Nat) : Bool :=
  let cap := match code, rate with | 4, 60 => 7 | 3, 60 => 5 | 2, 60 => 3 | 4, _ => 3 | 3, _ => 2 | 1, 120 => 0 | _, _ => 1
  let h := n - cap
  (List.range h).any fun i => ((t + s) * h + i) % n == p

/-- The link runs narrowed (R325). -/
def Link.narrow (l : Link) : Bool := l.state == 4 || (l.state == 5 && l.awake == 4)

/-- A narrowed link holds the stand at a position in a sub-frame (R326): from the first sub-frame on whose packets had not begun at the
switch, among the stands of the map that the packets of the tick follow. -/
def State.heldAt (s : State) (l pos t sub : Nat) : Bool :=
  (s.link l).narrow && decide ((s.link l).narrowFrom ≤ windowOf t sub) &&
    narrowHeld (s.settings.links.getD l {}).rate s.clock.rate (s.countOn l t) t sub pos

/-- Stands of a link that measurement may fall on in frame kinds as planned (R268, R437). -/
def State.measurable (s : State) (i : Nat) : Bool :=
  let st := s.stand i
  !(st.excluded || st.released || st.removed || st.dark)

/-- Stands of a link in the order measurement takes them in frame `t`, each with its position: the previous map's until T + 2P (R24, R268). -/
def State.measOrder (s : State) (t l : Nat) : List (Nat × Nat) :=
  (List.range 8).filterMap fun pos => (s.standIn l pos t).map fun i => (pos, i)

/-- The stand measured next on a link, from a position on, wrapping once. -/
def State.measNext (s : State) (t l from' : Nat) (ok : Nat → Bool) : Option (Nat × Nat) :=
  let on := s.measOrder t l
  ((on.filter (fun e => from' ≤ e.1) ++ on.filter fun e => e.1 < from').find? fun e => ok e.2)

/-- MEASURE_OFF and SWEEP_OFF. -/
def Settings.measureOff (c : Settings) : Bool := c.measFlags.getLsbD 0
def Settings.sweepOff (c : Settings) : Bool := c.measFlags.getLsbD 1

/-- Measurement slots of frame `t` on a link (R268, R269): each slot is noted until its samples come (DEDUCED, log entry 32); a plan that
leaves the link no slots leaves it none in Calibrate either (R267) (DEDUCED, log entry 148). -/
def State.planMeasure (s : State) (t l : Nat) : State :=
  let c := s.scanSettings t
  let m := s.nextMode
  if c.measureOff ∨ !c.measLinks.getLsbD l then s
  else if m = 7 then
    let ok (i : Nat) : Bool :=
      let out := ((s.link l).measSlots.filter fun e => e.2.2.1 == i && !voidSlot e).length
      (s.stand i).cal.op == 2 && out < (s.stand i).cal.passLeft && (s.stand i).kind ≤ 1 && (s.stand i).cal.baking.isNone
    match s.measNext t l (s.link l).measStand ok with
    | none => s
    | some (pos, i) => (s.startPass i).updLink l fun k => { k with measSlots := k.measSlots ++ [(t, 3, i, 255)], measStand := pos + 1 }
  else if ¬ (isPlay m ∨ m = 5) then s
  else
    (List.range 4).foldl (fun s sub =>
      match s.measNext t l (s.link l).measStand s.measurable with
      | none => s
      | some (pos, i) =>
        if ¬ (s.stand i).kind ≤ 1 ∨ s.heldAt l pos t sub then s else
        let row := (s.stand i).cal.row
        let s := (if row = 0 then s.startPass i else s).updCal i fun k => { k with row := (row + 1) % 256 }
        s.updLink l fun k => { k with
          measSlots := k.measSlots ++ [(t, sub, i, row)]
          measStand := if row = 255 then pos + 1 else pos }) s

/-- Measurement starts again at row 0 of each link's first stand with the first frame packetised under a new map (R268). -/
def State.restartMeasure (s : State) (t : Nat) : State :=
  if t ≠ s.synth.mapTick + 2 then s else
  { s with
    links := s.links.map fun k => { k with measStand := 0 }
    stands := s.stands.map fun st => { st with cal := { st.cal with row := 0 } } }

/-- The SCAN packet of a stand for frame `t` from byte 4 on (R316), at the link and position of the map that the frame follows (R24). -/
def State.scanBody (s : State) (i t l pos : Nat) : List Byte :=
  let st := s.stand i
  let c := s.scanSettings t
  let cfg := c.stands.getD i {}
  let slots := (s.link l).measSlots.filter fun e => e.1 == t && e.2.2.1 == i
  let all := s.nextMode == 7 && slots.length != 0
  let sweep := st.kind ≤ 1 && !c.sweepOff && s.nextMode != 6 && s.nextMode != 1 && !all
  let rate := match s.tb.change with
    | some k => if t = k.loadTick + 2 ∨ k.direct then (k.newRate, k.newSpread) else (s.clock.rate, s.clock.spread)
    | none => (s.clock.rate, s.clock.spread)
  let pass := if c.measPass = 0 then passes rate.1 / 2 else c.measPass
  le 1 st.kind ++ le 1 rate.1 ++ le 1 rate.2 ++ le 1 st.lutSlot ++ le 8 t ++ le 2 cfg.levelR ++ le 2 cfg.levelG ++
  le 2 cfg.levelB ++ le 1 cfg.preWidth ++ le 1 (b2n (st.kss != 0)) ++
  (List.range 4).flatMap (fun sub =>
    let mode := if st.kind = 3 then 2
      else if s.heldAt l pos t sub then 1 else 0
    let slot := slots.find? fun e => e.2.1 == sub
    le 1 sub ++ le 1 mode ++
    (if all then [0xC0, 0] else match slot with | some e => le 1 (0x80 + pass) ++ le 1 e.2.2.2 | none => [0, 0]) ++
    (if sweep then [0x80] ++ le 1 (4 * (t % 64) + sub) else [0, 0]) ++ zeros 2) ++ zeros 8

/-- A link carries packets. -/
def State.linkRuns (s : State) (l : Nat) : Bool := s.linkUp l

/-- Drive tables set at a blank go to their stand receivers in CMD packets (R281): in the blank from whose tick they serve. -/
def State.sendTables (s : State) (tick : Nat) : State :=
  forEach (List.range s.stands.length) s fun i s =>
    if (s.stand i).steerDue ∧ s.linkUp (s.standCfg i).link ∧ s.steerTableAt i tick = s.tableOf (s.standCfg i) then
      (s.sendCmd i 2 0 (s.tableOf (s.standCfg i))).updStand i fun st => { st with steerDue := false }
    else s

/-- A code-to-width table set together with a change of timing mode waits for its tick N (R266). -/
def State.lutWaits (s : State) (t : Nat) : Bool := s.tb.change.any fun c => !c.direct && t < c.loadTick + 2

/-- A code-to-width table goes to the receiver's inactive slot (R331). -/
def State.loadLut (s : State) (i : Nat) (table : List Byte) : State :=
  if s.linkUp (s.standCfg i).link then
    (s.sendCmd i 1 (1 - (s.stand i).lutSlot) table).updStand i fun st => { st with lutPending := true, lutAcked := false }
  else s

/-- An armed STAND.LUT brings a stand a table at the blank of tick `a`: the one whose blank comes first goes to the inactive slot at once, a
later one when that has switched (R331) (DEDUCED, log entry 163). -/
def State.queueLut (s : State) (i a : Nat) (table : List Byte) : State :=
  let st := s.stand i
  let l := st.lutNext.filter (·.1 < a) ++ [(a, table)] ++ st.lutNext.filter (a < ·.1)
  let s := s.updStand i fun st => { st with lutNext := l }
  if (l.headD (0, [])).1 = a ∧ !st.lutWant then s.loadLut i table else s

/-- The switch of a stand to a table applies at the blank of tick `t` (R331): it is loaded now where the inactive slot does not hold it. -/
def State.wantLut (s : State) (i t : Nat) : State :=
  let st := s.stand i
  let held := (st.lutNext.headD (0, [])).1 == t && (st.lutPending || st.lutAcked)
  let s := if held then s else s.loadLut i (s.widthsOf (s.standCfg i))
  s.updStand i fun st => { st with lutWant := true, lutNext := st.lutNext.filter (t ≤ ·.1) }

/-- The inactive slot of a stand is free again after the blank of tick `t`: its switch is done, or its transaction never applied; the table
whose blank comes next goes there (R331) (DEDUCED, log entry 163). -/
def State.nextLut (s : State) (i t : Nat) : State :=
  let st := s.stand i
  if st.lutWant ∨ t < (st.lutNext.headD (t + 1, [])).1 then s else
  let l := st.lutNext.filter (t < ·.1)
  let s := s.updStand i fun st => { st with lutNext := l }
  match l with
  | [] => s
  | e :: _ => s.loadLut i e.2

/-- A stand as frame `t` is planned for it: its kind and class, and the code-to-width slot in force from it (R256, R261, R331). -/
def State.planStand (s : State) (t : Nat) (st : Stand) : Stand :=
  let (k, h) := s.frameKind st t
  let sw := st.lutWant && st.lutAcked && !s.lutWaits t
  { st with kind := k, held := h, wrote := if k ≤ 1 then false else st.wrote, loadNext := false
            parking := st.released && !st.releaseDone && !st.parking, releaseDone := st.released && (st.releaseDone || st.parking)
            lutSlot := if sw then 1 - st.lutSlot else st.lutSlot, lutWant := st.lutWant && !sw, lutAcked := st.lutAcked && !sw }

/-- Plans frame `t` in the blank before it: kinds, slots, code-to-width slot, drive tables (R281); one SCAN packet goes to each stand that the
frame's map names, also for a held frame and in Hold (R316) (DEDUCED, log entry 129). -/
def State.planFrame (s : State) (t : Nat) : State :=
  let s := (s.forgetLeft t).withLeft fun s => { s with stands := s.stands.map (s.planStand t) }
  let s := { s with modes := { s.modes with heldFrame := s.wantHeld } }
  let s := forEach (List.range 16) (s.restartMeasure t) fun l s => s.planMeasure t l
  let s := if s.nextMode = 6 then s else s.sendTables t
  let s := forEach (List.range s.stands.length) s fun i s => s.nextLut i t
  s.withLeft fun s => forEach (List.range s.stands.length) s fun i s =>
    match s.packetPlace i t with
    | some (l, pos) => if s.linkRuns l then s.emit (.linkSend l 3 (le 1 pos ++ s.scanBody i t l pos)) else s
    | none => s

/-- A slot is one of Calibrate: its frame is of the mode in force (R269), or it is one of a CAL.MEASURE that ended (R241). -/
def State.calSlot (s : State) (e : Nat × Nat × Nat × Nat) : Bool := voidSlot e || (s.modes.mode == 7 && s.modes.enteredAt ≤ e.1)

/-- A slot closes: its samples are in, or will not come; row 255 ends a pass (R268, R269), but for one that Calibrate's end discards (R241). -/
def State.closeSlot (s : State) (l : Nat) (e : Nat × Nat × Nat × Nat) : State :=
  let s := s.updLink l fun k => { k with measSlots := k.measSlots.filter (· != e) }
  if e.2.2.2 = 255 ∧ e.2.2.1 < s.stands.length ∧ !(s.calSlot e && s.leavesCal) then s.endPass (s.calSlot e) e.2.2.1 else s

/-- Slots whose samples are a frame overdue close (R335). -/
def State.expireSlots (s : State) (t sub : Nat) : State :=
  forEach (List.range 16) s fun l s =>
    ((s.link l).measSlots.filter fun e => windowOf e.1 e.2.1 + 4 < windowOf t sub).foldl (fun s e => s.closeSlot l e) s

/-- The frame in progress is a streamed one for a stand: it shows codes in it, or would if it were lit; a known-state sequence keeps its
windows by the markers as well (R94, R256, R257, R295) (DEDUCED, log entry 149). -/
def State.streams (s : State) (st : Stand) : Bool :=
  st.kind ≤ 1 || st.kss != 0 ||
    (st.kind == 3 && s.modes.mode != 6 && !(s.modes.mode == 5 && s.settings.cls == 1) &&
      !s.tb.change.any fun c => !c.direct && s.clock.tick == c.loadTick + 1)

/-- Some stand that the packets of a tick name on a link streams. -/
def State.streamsOn (s : State) (l tick : Nat) : Bool :=
  (List.range s.stands.length).any fun i => (s.packetPlace i tick).any (fun p => p.1 == l) && s.streams (s.stand i)

/-- A SYNC packet on every link that runs (R318): KIND 0 markers of the sub-frames of a streamed frame, KIND 1 markers of ticks; where in its
link frame the marker falls is free (DESIGN CHOICE, log entry 130). -/
def State.sync (s : State) (kind sub tick : Nat) : State :=
  s.withLeft fun s => forEach s.settings.linksUsed s fun l s =>
    if s.linkRuns l ∧ (kind = 1 ∨ s.streamsOn l tick) then
      s.emit (.linkSend l 5 ([0xFF] ++ le 1 kind ++ le 1 sub ++ le 2 (Config.markUi l (windowOf tick sub)) ++ le 8 tick)) else s

/-! ### Steering windows (R284, R288, R295, R437) -/

/-- What the bands of a stand are asked for in sub-frame `sub` of a frame whose kind is planned. -/
def State.askOf (s : State) (i sub : Nat) : Ask :=
  let st := s.stand i
  if st.kss ≠ 0 then (if st.kss = 1 ∧ sub = 0 then .kssFirst else .kssLater)
  else if st.parking then .state 0
  else if st.kind = 3 then .none
  else .state sub

/-- The steering request of a window is made for a stand whose link is up (R288, R315); the stand receiver makes its own in
held class (DEDUCED, log entry 50). -/
def State.steerWindow (s : State) (i tick sub : Nat) : State :=
  let st := s.stand i
  match s.packetPlace i tick with
  | some (l, _) =>
    if !s.linkRuns l then s else s.steerStand i (windowOf tick sub) (s.askOf i sub) (st.kind != 2 || st.kss != 0)
  | none => s

/-- A window of a stand went without its ACK (R288). -/
def State.ackMissed (s : State) (i win : Nat) : State :=
  let st := s.stand i
  if st.steerWin = win + 1 ∧ st.ackWin ≠ win + 1 then
    (s.updStand i fun st => { st with ackMissing := (st.ackMissing + 1) % 0x100000000 }).judgeDc i
  else s

/-- At a sub-frame's start: windows without ACK are counted and their requests made late (R288) (DEDUCED, log entry 50). -/
def State.steerLate (s : State) (tick sub : Nat) : State :=
  s.withLeft fun s => forEach (List.range s.stands.length) s fun i s =>
    let s := s.ackMissed i (windowOf tick sub - 1)
    if (s.stand i).steerWin = windowOf tick sub + 1 then s else s.steerWindow i tick sub

/-- A band's larger integral is within a quarter of DC_LIMIT (R295), a pair that was never acknowledged counted as issued (R283). -/
def State.settled (s : State) (i : Nat) (b : Band) : Bool :=
  let dc := b.dcNow (s.stand i).railP (s.stand i).railN
  4 * dc.1.natAbs ≤ s.dcLim i && 4 * dc.2.natAbs ≤ s.dcLim i

/-- The known-state sequence has brought every stage within a quarter of DC_LIMIT (R295). -/
def State.kssDone (s : State) (i : Nat) : Bool := (s.stand i).bands.all (s.settled i)

/-- End of a frame of the known-state sequence (R295): it ends, or runs on for at most 16 frames; a record whose ACK is missing stays IN_FLIGHT
(R288). -/
def State.kssFrameEnd (s : State) (i : Nat) : State :=
  if (s.stand i).kss = 0 then s else
  let st := s.stand i
  if s.kssDone i ∨ 16 ≤ st.kss then
    let outside := st.bands.zipIdx.filter fun e => !s.settled i e.1
    let s := outside.foldl (fun s e => s.raise evSteerDc i [e.2, p32 (e.1.worst st.railP st.railN)]) s
    let s := s.recFixed 0x0061 [i, st.kssMask.toNat, st.kss, b2n (16 ≤ st.kss)]
    s.updStand i fun st => { st with
      kss := 0, kssEnd := st.kss, bring := if st.bring = 4 then 5 else st.bring, dark := st.excluded, dcHold := false,
      dcEvents := (st.dcEvents + outside.length) % 0x100000000,
      bands := st.bands.map fun (b : Band) => { b with state := 0, known := true, fromSt := if b.inFlight then b.fromSt else 0, toSt := 0 } }
  else s.updStand i fun st => { st with kss := st.kss + 1 }

/-- The stand receiver has acknowledged the drive table last set for a stand (R296). -/
def State.tableLoaded (s : State) (i : Nat) : Bool :=
  !(s.stand i).steerDue && !(s.link (s.standCfg i).link).cmds.any fun c => c.2.1 == s.settings.position i && c.2.2 == 2

/-- A sequence starts with the next frame where the link is up and the stand's table is loaded (R296), and after a rail fault both rails have
stayed in range for 100 ms (R287). -/
def State.kssStart (s : State) (i : Nat) : State :=
  let st := s.stand i
  if st.kssDue ∧ st.kss = 0 ∧ !st.railFault ∧ !st.excluded ∧ !st.removed ∧ s.linkUp (s.standCfg i).link ∧ s.tableLoaded i ∧
      (s.packetPlace i (s.clock.tick + 1)).isSome then
    s.updStand i fun st => { st with kss := 1, kssDue := false, dark := true, kssMask := BitVec.ofNat 8 st.unknownMask }
  else s

/-- A known-state sequence runs or is due on a stand that is not excluded. -/
def State.kssOpen (s : State) : Bool := s.stands.any fun st => !st.excluded && (st.kss != 0 || st.kssDue)

/-- At the tick: EV_STEER_UNKNOWN for sequences that start, EV_STEER_KNOWN for those that ended (R295); in Bring-up once for
every stand (R115). -/
def State.kssEvents (s : State) : State :=
  let all := List.range s.stands.length
  let ended := all.filter fun i => (s.stand i).kssEnd != 0
  let s := if ended = [] ∨ (s.modes.mode = 1 ∧ s.modes.step = 6 ∧ s.kssOpen) then s else
    forEach ended (s.raise evSteerKnown noUnit [ended.length]) fun i s => s.updStand i fun st => { st with kssEnd := 0, kssMask := 0 }
  forEach (all.filter fun i => (s.stand i).kss == 1 && (s.stand i).kssMask != 0) s fun i s =>
    s.raise evSteerUnknown i [(s.stand i).kssMask.toNat]

/-! ### Stand temperature (R274, R275, R282) -/

/-- A reading of a stand (R275): the latest reading, EV_STAND_TEMP at 85.0 °C, the bin, the bake. -/
def State.reading (s : State) (i : Nat) (t : Int) : State :=
  let s := s.updStand i fun st => { st with
    temp := some t, tempMiss := 0, tempLost := false, bin := nextBin (s.steerTableAt i s.clock.tick) st.bin t
    tempAlarm := if t < 800 then false else st.tempAlarm }
  let s := if 850 ≤ t ∧ !(s.stand i).tempAlarm then
      (s.raise evStandTemp i [p32 t]).updStand i fun st => { st with tempAlarm := true } else s
  s.bakeOnTemp i

/-- A TEMP packet of a link (R320): readings by position, −32,768 for none. -/
def State.tempPacket (s : State) (l : Nat) (readings : List Int) : State :=
  forEach (s.settings.standsOn l) s fun i s =>
    let t := readings.getD (s.settings.position i) (-32768)
    if t = -32768 then s else s.reading i t

/-- No valid reading for 60 consecutive frames (R275). -/
def State.tempTimeout (s : State) (i : Nat) : State :=
  if i < s.stands.length ∧ 60 ≤ (s.stand i).tempMiss ∧ !(s.stand i).tempLost then
    (s.raise evStandTemp i [0x80000000]).updStand i fun st => { st with tempLost := true }
  else s

end Sys2Proof.Machine
end

