-- ==== Sys2Proof/Machine/Blocks.lean ====
section
/-! DEFINITION. Blocks and link frames of the stand links (R303, R306 to R309, R313): the scrambler, ordered blocks, TRAIN fields and
taps, and how the packets of a link become frames, and frames become blocks on its lanes. -/

namespace Sys2Proof.Machine

/-! ### The scrambler (R303) -/

/-- One step of x^31 + x^28 + 1; bit 30 of the register is the bit put out (DESIGN CHOICE, log entry 130). -/
def lfsrStep (x : Nat) : Nat := x * 2 % 0x80000000 + (x / 0x40000000 + x / 0x8000000) % 2

/-- The register after `n` steps, and the bits put out, the first lowest. -/
def keyBits : (n x : Nat) → Nat × Nat
  | 0, x => (x, 0)
  | n + 1, x => let r := keyBits n (lfsrStep x); (r.1, x / 0x40000000 % 2 + 2 * r.2)

/-- Seed of a lane: 0x0000_0001 + lane number. -/
def laneSeed (lane : Nat) : Nat := 1 + lane

/-- A frame-block body scrambled, or descrambled: the register after it and the body. -/
def scramble (x body : Nat) : Nat × Nat := let r := keyBits 128 x; (r.1, body ^^^ r.2)

/-! ### Ordered blocks (R303, R307) -/

/-- The ordered blocks; TRAIN with its bytes 1 to 7, WAKE with its lane. -/
inductive Ordered where
  | skip
  | train (fields : List Byte)
  | doze
  | sleep
  | wake (lane : Nat)
deriving DecidableEq, Repr

/-- The 16 bytes of an ordered block's body. -/
def Ordered.bytes : Ordered → List Byte
  | .skip => List.replicate 16 0xAA
  | .train f => 0x2D :: padTo 7 f ++ List.replicate 8 0x4A
  | .doze => List.replicate 16 0x66
  | .sleep => List.replicate 16 0x99
  | .wake lane => 0x3C :: BitVec.ofNat 8 lane :: List.replicate 14 0x3C

/-- A block as it travels: 2-bit header and 128-bit body. -/
def Ordered.block (o : Ordered) : Nat × Nat := (1, uN o.bytes 0 16)

/-- The ordered block that a block is: header 0b01 and a whole body that matches. -/
def readOrdered (b : Nat × Nat) : Option Ordered :=
  let x := le 16 b.2
  if b.1 ≠ 1 then none else
  [.skip, .train (slice x 1 7), .doze, .sleep, .wake (u8 x 1)].find? fun o => o.bytes == x

/-- Bytes 1 to 7 of a TRAIN block that a lane of the A9 sends (R307): LANE, EQ_DONE and ACK, what it requests for a lane of the opposite
direction, and its own taps. -/
def trainFields (lane : Nat) (eq ack : Bool) (req : Option (Nat × Nat × Nat)) (taps : Nat × Nat) : List Byte :=
  le 1 lane ++ le 1 (b2n eq + 2 * b2n ack) ++
  (match req with | some r => le 1 r.1 ++ le 1 r.2.1 ++ le 1 r.2.2 | none => [0xFF, 0, 0]) ++ le 1 taps.1 ++ le 1 taps.2

/-- A lane arrives inverted: bytes 8 to 15 of its TRAIN blocks read 0xB5 (R307). -/
def trainInverted (b : List Byte) : Bool := (List.range 8).all fun n => u8 b (8 + n) == 0xB5

/-- The LANE field of a TRAIN body as it arrives, the lane put upright. -/
def trainLane (b : List Byte) : Nat := if trainInverted b then 255 - u8 b 1 else u8 b 1

/-- Data lanes arrive in order, or all in reverse order, which the receiver reverses as a group; another order fails (R307).  Lanes that failed
the attempt (R305) do not count. -/
def laneOrderOk (lost order : List Nat) : Bool :=
  ((List.range 8).all fun n => lost.contains n || order.getD n 0xFF == n) ||
    (List.range 8).all fun n => lost.contains n || order.getD n 0xFF == 7 - n

/-! ### Transmitter taps (R308) -/

/-- Pre- and post-cursor of a preset. -/
def presetTaps (p : Nat) : Nat × Nat :=
  [(0, 12), (0, 8), (0, 10), (0, 6), (0, 0), (5, 0), (6, 0), (5, 10), (6, 6), (8, 0), (0, 16)].getD p (0, 0)

/-- A request is within the ranges: pre 0 to 12, post 0 to 18, and a main cursor of 48 − pre − post of at least 24. -/
def tapsOk (pre post : Nat) : Bool := pre ≤ 12 && post ≤ 18 && pre + post ≤ 24

/-- Taps that an attempt starts from on the A9's ten lanes: the preset of STAND.LINK, or the bundle's default for the type of the link's
stands (R308, R330) (DEDUCED, log entry 146). -/
def State.startTaps (s : State) (l : Nat) : List (Nat × Nat) :=
  let p := (s.settings.links.getD l {}).preset
  let stype := ((s.settings.stands.filter fun t => t.link == l).map (·.stype)).headD 0
  List.replicate 10 (presetTaps (if p = 0xFF then Config.bundlePreset s.standTables stype % 11 else p))

/-! ### Frames to blocks (R303, R306, R309) -/

/-- Lanes that carry frames, in logical order: the spare, 8, in a lost lane's place, and a narrowed lane left out (R324, R325). -/
def Link.activeLanes (k : Link) : List Nat :=
  ((List.range 8).filter (· != k.narrowed)).map fun n => if n = k.spared then 8 else n

/-- One frame block on a lane: tag bit in the header, body scrambled. -/
def Link.sendBlock (k : Link) (lane tagBit body : Nat) : Link × (Nat × Nat × Nat) :=
  let r := scramble (k.txScr.getD lane 0) body
  ({ k with txScr := upd k.txScr lane fun _ => r.1 }, (lane, 1 + tagBit, r.2))

/-- Blocks one after another, each on the lane a function gives it. -/
def Link.sendBlocks (k : Link) (l : List (Nat × Nat × Nat)) : Link × List (Nat × Nat × Nat) :=
  l.foldl (fun a e => let b := a.1.sendBlock e.1 e.2.1 e.2.2; (b.1, a.2 ++ [b.2])) (k, [])

/-- A frame on the data lanes: its 64 blocks dealt round-robin over the active lanes (R309); a standby spare carries zeros with
alternating header bits beside them (R306). -/
def Link.sendFrame (k : Link) (tag : Nat) (body : List Byte) : Link × List (Nat × Nat × Nat) :=
  let lanes := k.activeLanes
  let n := max 1 lanes.length
  let data := (List.range 64).map fun j => (lanes.getD ((k.txDeal + j) % n) 0, tag / 2 ^ j % 2, uN body (16 * j) 16)
  let spare := if k.dataSpare && !lanes.contains 8 then (List.range (64 / n)).map fun j => (8, j % 2, 0) else []
  let r := k.sendBlocks (data ++ spare)
  ({ r.1 with txDeal := (k.txDeal + 64) % n, frames := k.frames + 1 }, r.2)

/-- The tag of a frame (R309): SEQ, REPLAY, ACK_SEQ below the SEQ expected, NAK while frames are discarded, and the CRC over body and tag
bits 63:32 (DEDUCED, log entry 142). -/
def frameTag (expect : Nat) (discard : Bool) (seq : Nat) (replay : Bool) (body : List Byte) : Nat :=
  let hi := seq % 32768 * 0x20000 + b2n replay * 0x10000 + (expect + 32767) % 32768 * 2 + b2n discard
  hi * 0x100000000 + crc32 (body ++ le 4 hi)

/-- The tag of a frame of a stand link. -/
def Link.tag (k : Link) (seq : Nat) (replay : Bool) (body : List Byte) : Nat := frameTag k.rxExpect k.rxDiscard seq replay body

/-! ### Packets to frames (R302, R309, R311, R313) -/

/-- A TEST packet that fills a frame (R304, R318): SEED, and PRBS31 data from it (DESIGN CHOICE, log entry 164). -/
def testFrame (seed : Nat) : List Byte := packetBytes 6 ([0xFF] ++ le 4 seed ++ le 1016 (keyBits 8128 (seed % 0x80000000)).2)

/-- An IDLE packet of 1 word (R313) (DEDUCED, log entry 142). -/
def idlePacket : List Byte := [0, 0xFF, 1, 0, 0, 0, 0, 0]

/-- A frame body from a stream of packets: 1,024 bytes, unused space filled with IDLE packets. -/
def fillBody (idle stream : List Byte) : List Byte :=
  let b := stream.take 1024
  b ++ (List.range ((1024 - b.length) / 8)).flatMap fun _ => idle

/-- A frame body from the stream of a stand link. -/
def frameBody (stream : List Byte) : List Byte := fillBody idlePacket stream

/-- An ordered block goes out on every active lane of the data direction at the same instant. -/
def State.orderedOut (s : State) (l : Nat) (o : Nat → Ordered) : State :=
  s.emit (.linkBlocks l ((s.link l).activeLanes.map fun n => (n, (o n).block)))

/-- In independent-reference mode a SKIP goes out on every active lane after every 1,024 blocks per lane (R302). -/
def State.skipOut (s : State) (l : Nat) : State :=
  if (s.settings.links.getD l {}).clocking ≠ 1 then s else
  let k := s.link l
  let n := k.txSkip + 64
  if n < 1024 * k.activeLanes.length then s.updLink l fun k => { k with txSkip := n }
  else (s.updLink l fun k => { k with txSkip := 0 }).orderedOut l fun _ => .skip

/-- A frame of a body goes out under a sequence number. -/
def State.frameOut (s : State) (l seq : Nat) (replay : Bool) (body : List Byte) : State :=
  let k := s.link l
  let r := k.sendFrame (k.tag seq replay body) body
  ((s.updLink l fun _ => r.1).emit (.linkBlocks l r.2)).skipOut l

/-- The link is in the 1.0 ms of TEST packets of an attempt's step 7 (R304). -/
def State.testing (s : State) (l : Nat) : Bool := (s.link l).state == 1 && (s.link l).framing.any fun t => !s.since t (ms 1)

/-- A new frame is built from the stream, and held until it is acknowledged (R309, R311); in step 7 of an attempt it is one of TEST packets, their
SEED free (R304, R318). -/
def State.buildFrame (s : State) (l : Nat) : State :=
  let test := s.testing l
  let body := if test then testFrame (Config.freeValue s.security.free) else frameBody (s.linkStreams.getD l [])
  let s := s.frameOut l (s.link l).txNext false body
  let s := s.updLink l fun k => { k with txNext := (k.txNext + 1) % 32768, txHeld := k.txHeld ++ [body] }
  if test then { s with security := { s.security with free := s.security.free + 1 } }
  else { s with linkStreams := upd s.linkStreams l fun b => b.drop 1024 }

/-- New frames, one after another. -/
def State.buildFrames (s : State) (l n : Nat) : State := forEach (List.range n) s fun _ s => s.buildFrame l

/-- Time that `n` frames take on the data lanes in use, in 1/3 ns (R300, R309). -/
def State.framesTime (s : State) (l n : Nat) : Nat :=
  n * 24960 / (9 * max 1 (s.settings.links.getD l {}).rate * max 1 (s.link l).activeLanes.length)

/-- The frames that wait for acknowledgement go out again, the first with REPLAY (R311); the replay runs until they have. -/
def State.resend (s : State) (l : Nat) : State :=
  let s := s.updLink l fun k => { k with txReplayTo := s.clock.up + s.framesTime l k.txHeld.length }
  (s.link l).txHeld.zipIdx.foldl (fun s e => s.frameOut l ((s.link l).txAcked + e.2) (e.2 == 0) e.1) s

/-! ### Blocks to frames (R303, R307, R309) -/

/-- A link frame as it is received: its body and tag fields, and whether its headers are valid and its CRC is good. -/
structure LinkFrame where
  body : List Byte
  seq : Nat
  replay : Bool
  ack : Nat
  nak : Bool
  good : Bool
deriving DecidableEq, Repr

/-- The return lane in use: 0 the return lane, 1 its spare. -/
def Link.retLane (k : Link) : Nat := b2n k.retOnSpare

/-- A block of the return lane put upright where the lane is inverted, header and body (R307). -/
def Link.upright (k : Link) (b : Nat × Nat) : Nat × Nat :=
  if k.inverted.getD k.retLane false then (3 - b.1, 2 ^ 128 - 1 - b.2) else b

/-- The bodies of frame blocks descrambled, with the register after them. -/
def descramble (x : Nat) (bs : List (Nat × Nat)) : Nat × List Byte :=
  bs.foldl (fun a b => let r := scramble a.1 b.2; (r.1, a.2 ++ le 16 r.2)) (x, [])

/-- A frame of 64 blocks whose body has been descrambled: its tag from their headers (R309). -/
def frameOf (bs : List (Nat × Nat)) (body : List Byte) : LinkFrame :=
  let tag := (bs.zipIdx.map fun e => (e.1.1 - 1) % 2 * 2 ^ e.2).foldl (· + ·) 0
  let hi := tag / 0x100000000
  { body := body, seq := hi / 0x20000, replay := bitOf hi 16, ack := hi / 2 % 32768, nak := bitOf hi 0
    good := (bs.all fun b => b.1 == 1 || b.1 == 2) && crc32 (body ++ le 4 hi) == tag % 0x100000000 }

/-- A frame read from its 64 blocks, and the link with its scrambler advanced. -/
def Link.readFrame (k : Link) (bs : List (Nat × Nat)) : Link × LinkFrame :=
  let r := descramble (k.rxScr.getD k.retLane 0) bs
  ({ k with rxScr := upd k.rxScr k.retLane fun _ => r.1 }, frameOf bs r.2)

/-- A frame is taken: good CRC, the SEQ expected, and while frames are discarded REPLAY (R310). -/
def LinkFrame.takenBy (f : LinkFrame) (expect : Nat) (discard : Bool) : Bool := f.good && f.seq == expect && (!discard || f.replay)

/-- The standby return lane: the spare, while the return lane is in use (R306). -/
def Link.watches (k : Link) : Bool := k.retSpare && !k.retOnSpare

/-- One frame block on the standby return lane (R306): its header is judged, and its body, which is the scrambler's output over zeros. -/
def Link.spareBlock (k : Link) (b : Nat × Nat) : Link :=
  let b := if k.inverted.getD 1 false then (3 - b.1, 2 ^ 128 - 1 - b.2) else b
  let r := scramble (k.rxScr.getD 1 0) b.2
  { k with
    spareN := k.spareN + 1, rxScr := upd k.rxScr 1 fun _ => r.1
    spareBad := (k.spareBad.filter fun n => k.spareN < n + 64) ++ if b.1 = 1 ∨ b.1 = 2 then [] else [k.spareN]
    spareErrs := (k.spareErrs.filter fun n => k.spareN < n + 2 ^ 20) ++ if r.2 = 0 then [] else [k.spareN] }

/-- The standby return lane has lost block lock, or shows more than 16 body errors in 2^20 blocks (R304, R306). -/
def Link.spareLost (k : Link) : Bool := 16 ≤ k.spareBad.length || 16 < k.spareErrs.length

/-! ### What a settle sends (R303, R304, R329) -/

/-- The clock lane of a link runs: forwarded-clock mode, awake or dozing; it is in electrical idle otherwise (R299, R302, R329). -/
def State.clockLane (s : State) (l : Nat) : Bool :=
  let k := s.link l
  (s.settings.links.getD l {}).clocking == 0 && k.state != 0 && !(k.state == 5 && k.doze == 2)

/-- TRAIN blocks go out on every data lane and the spare (R304). -/
def State.trainOut (s : State) (l : Nat) (ack : Bool) (req : Option (Nat × Nat × Nat)) : State :=
  let k := s.link l
  s.emit (.linkBlocks l ((List.range 9).map fun n => (n, (Ordered.train (trainFields n k.eqDone ack req (k.taps.getD n (0, 0)))).block)))

/-- An attempt or a recovery of a link started since `k0`. -/
def Link.began (k k0 : Link) : Bool :=
  k.state == 1 && (k0.state != 1 || k.attempts != k0.attempts || k.attemptAt != k0.attemptAt || k.recovering != k0.recovering)

/-- What follows on the lanes of a link after a command: the clock lane starts or stops (R302), TRAIN blocks as an attempt starts (R304), WAKE blocks as a direction wakes, the
packets that were sent join the stream, and a direction that goes to sleep sends what it has, then DOZE or SLEEP (R329) (DESIGN CHOICE,
log entry 130). -/
def State.laneOutput (s before : State) (l : Nat) : State :=
  let k := s.link l
  let k0 := before.link l
  let sent := s.out.flatMap fun o => match o with
    | .linkSend m kind body => if m = l then packetBytes kind body else []
    | _ => []
  let s := if s.clockLane l = before.clockLane l then s else s.emit (.linkClock l (s.clockLane l))
  let s := if k.began k0 then s.trainOut l false none else s
  let s := if k0.state = 5 ∧ 2 ≤ k.state ∧ k.state ≤ 4 then s.orderedOut l .wake else s
  let s := if k.state = 0 ∨ (k.state = 1 ∧ k.recovering.isNone ∧ k.framing.isNone) then
      (if (s.linkStreams.getD l []) = [] then s else { s with linkStreams := upd s.linkStreams l fun _ => [] })
    else if sent = [] then s else { s with linkStreams := upd s.linkStreams l fun b => b ++ sent }
  if k.state = 5 ∧ k0.state ≠ 5 then
    let n := ((s.linkStreams.getD l []).length + 1023) / 1024
    (s.buildFrames l (min n (256 - (k.txNext + 32768 - k.txAcked) % 32768))).orderedOut l fun _ => if k.doze = 2 then .sleep else .doze
  else s

/-- The same for every link. -/
def State.linkOutput (s before : State) : State := forEach (List.range 16) s fun l s => s.laneOutput before l

end Sys2Proof.Machine
end

