-- ==== Sys2Proof/Machine/Link.lean ====
section
/-! DEFINITION. The stand link layer (R299 to R334): bring-up, link frames and replay, lanes, recoveries, low power, and what
arrives from stand receivers (R281, R286, R287, R288, R323). -/

namespace Sys2Proof.Machine

/-! ### STAND_SAFE and exclusion (R114, R426) -/

/-- Bellows asserts STAND_SAFE on a link (bit n of BLW_SAFE_LINKS) (DEDUCED, log entry 48; DESIGN CHOICE, log entry 101). -/
def State.assertSafe (s : State) (l : Nat) : State :=
  { s with bellows := { s.bellows with safeLinks := s.bellows.safeLinks ||| BitVec.ofNat 16 (2 ^ l) } }

/-- Bellows deasserts STAND_SAFE on a link. -/
def State.clearSafe (s : State) (l : Nat) : State :=
  { s with bellows := { s.bellows with safeLinks := s.bellows.safeLinks &&& ~~~ (BitVec.ofNat 16 (2 ^ l)) } }

/-- A stand is excluded (R114, R426): dark in every mode, STAND_SAFE asserted on its link, which ends the pulses in flight there. -/
def State.exclude (s : State) (i : Nat) : State :=
  let s := s.updStand i fun st => { st with excluded := true, dark := true, kss := 0, kssDue := false, kssEnd := 0, ready := false }
  let l := (s.standCfg i).link
  forEach (s.settings.standsOn l) (s.assertSafe l) fun j s => s.updStand j fun st => st.unknownInFlight

/-- STAND_SAFE stays asserted on a link while a stand of it is excluded (R114); else Bellows deasserts it (DEDUCED, log entry 48). -/
def State.releaseSafe (s : State) (l : Nat) : State :=
  if (s.settings.standsOn l).any fun j => (s.stand j).excluded then s else s.clearSafe l

/-- Bring-up, or the rejoin of the link's die, is under way (R113, R417). -/
def State.bringing (s : State) (l : Nat) : Bool :=
  (s.modes.mode == 1 && !s.modes.ready) || s.bellows.rejoin.getD (dieOfLink l) 0 != 0

/-- Step 6 runs for the stands of a link, in Bring-up or in the rejoin of its die (R113, R417). -/
def State.inSequence (s : State) (l : Nat) : Bool :=
  (s.modes.mode == 1 && s.modes.step == 6) || s.bellows.rejoin.getD (dieOfLink l) 0 == 6

/-- The record of a step that ends for a link or stand (R451), in a Bring-up or rejoin of link `l` (DEDUCED, log entry 46). -/
def State.stepRecord (s : State) (l step result unit : Nat) : State :=
  if s.bringing l then s.recFixed 0x0030 [step, result, unit, (s.clock.up - s.modes.stepAt) / 3000] else s

/-- The same with EV_STAND_STATUS and the record of its Bring-up step. -/
def State.excludeStatus (s : State) (i step : Nat) : State :=
  ((s.exclude i).raise evStandStatus i [(s.stand i).flags.toNat]).stepRecord (s.standCfg i).link step 2 i

/-- A stand whose bands cannot be driven is excluded while step 6 runs for it (R114). -/
def State.undriven (s : State) (i : Nat) : State :=
  if s.inSequence (s.standCfg i).link && 3 ≤ (s.stand i).bring && !(s.stand i).excluded then s.excludeStatus i 6 else s

/-! ### Link states -/

/-- Every stand of a link changes. -/
def State.onLink (s : State) (l : Nat) (f : Stand → Stand) : State :=
  forEach (s.settings.standsOn l) s fun i s => s.updStand i f

/-- A direction that sleeps wakes (R329). -/
def Link.wake (k : Link) : Link := { k with doze := 0, state := if k.state = 5 then k.awake else k.state }

/-- State of a link that runs: 2, 3 or 4, asleep or not. -/
def Link.running (k : Link) : Nat := if k.state = 5 then k.awake else k.state

/-- Commands that await their ACK are lost with the link; a drive table among them is owed again (R281, R296) (DEDUCED, log entry 51). -/
def State.dropCmds (s : State) (l : Nat) : State :=
  let owed := (s.link l).cmds.filter fun c => c.2.2 == 2
  let s := s.updLink l fun k => { k with cmds := [] }
  forEach (s.settings.standsOn l) s fun i s =>
    if owed.any fun c => c.2.1 == s.settings.position i then s.updStand i fun st => { st with steerDue := true } else s

/-- Code-to-width tables whose LOAD_LUT a link took down with it are loaded again: the one whose switch applied, or the next that an armed
transaction brings (R331) (DEDUCED, log entry 51). -/
def State.reloadLuts (s : State) (l : Nat) : State :=
  forEach (s.settings.standsOn l) s fun i s =>
    let s := s.updStand i fun st => { st with lutPending := false }
    let st := s.stand i
    if st.lutAcked ∨ s.bringing l then s
    else if st.lutWant then s.loadLut i (s.widthsOf (s.standCfg i))
    else match st.lutNext with
      | [] => s
      | e :: _ => s.loadLut i e.2

/-- The link is taken down: STATE 0, STAND_SAFE asserted, EV_LINK_DOWN (R312, R334); in step 6 its stands are excluded, for their
bands cannot be driven (R114) (DEDUCED, log entry 48). -/
def State.linkDown (s : State) (l cause : Nat) : State :=
  let s := (s.dropCmds l).updLink l fun k => { k with state := 0, doze := 0, recovering := none, everUp := false, framing := none, blanked := false }
  let s := (s.assertSafe l).onLink l fun st => { st.unknownInFlight with seen := false, reported := false, kss := 0 }
  forEach (s.settings.standsOn l) (s.raise evLinkDown l [cause]) fun i s => s.undriven i

/-- A recovery is counted among those of the last 1 s (R312). -/
def State.countRecovery (s : State) (l : Nat) : State :=
  s.updLink l fun k => { k.wake with recoveryTimes := (k.recoveryTimes.filter fun t => !s.since t (sec 1)) ++ [s.clock.up] }

/-- A recovery that fails takes the link down (R312, R327). -/
def State.recoveryFailed (s : State) (l cause : Nat) : State :=
  (s.linkDown l cause).recFixed 0x0060 [l, 1, (s.link l).recoveryTimes.length]

/-- A recovery starts (R312), the link's stands dark; the third within 1 s takes the link down. -/
def State.startRecovery (s : State) (l : Nat) : State :=
  if (s.link l).state < 2 then s else
  let s := s.countRecovery l
  if 3 ≤ (s.link l).recoveryTimes.length then s.recoveryFailed l 7
  else
    (s.updLink l fun k => { k with
      awake := k.state, state := 1, recovering := some s.clock.up, txReplay := none, txReplays := 0, rxDiscard := false, blanked := true }).onLink l
      fun st => { st with kss := 0, kssDue := st.kssDue || st.kss != 0 }

/-- Lanes with the lost ones counted: STATE, SPARED, NARROWED of a link that comes up (R304, R305, R328), `spare` and `retSpare` telling
whether the spares trained. -/
def Link.lanes (k : Link) (lost : List Nat) (spare retLost retSpare : Bool) : Link :=
  let spared := if spare then lost.getD 0 0xFF else 0xFF
  let narrowed := lost.getD (b2n spare) 0xFF
  let st := if narrowed ≠ 0xFF then 4 else if spared ≠ 0xFF ∨ retLost then 3 else 2
  { k with state := st, awake := st, spared := spared, narrowed := narrowed, narrowFrom := k.rayWin, dataSpare := spare && lost == []
           retSpare := retSpare && !retLost, retOnSpare := retLost, doze := 0, retDoze := 0, spareN := 0, spareBad := [], spareErrs := [] }

/-- The scramblers are seeded: 0x0000_0001 + lane number (R303). -/
def Link.seeded (k : Link) : Link := { k with txScr := (List.range 9).map laneSeed, rxScr := [laneSeed 16, laneSeed 17] }

/-- Link frames start anew: SEQ 0 in both directions (R304 step 7), under seeded scramblers (DESIGN CHOICE, log entry 164). -/
def Link.fresh (k : Link) : Link :=
  { k.seeded with txNext := 0, txAcked := 0, txReplay := none, txReplays := 0, rxExpect := 0, rxDiscard := false, cmds := [], txHeld := [],
                  txDeal := 0, txSkip := 0, rxStream := [], frameBad := false }

/-- EV_LANE_SPARED for lanes that come up on their spares (R305). -/
def State.sparedEvents (s : State) (l : Nat) (lost : List Nat) (retLost : Bool) : State :=
  let s := match lost with | a :: _ => s.raise evLaneSpared l [a] | [] => s
  if retLost then s.raise evLaneSpared l [16] else s

/-- The bring-up of a link starts an attempt (R304), from the preset's taps (R308): STAND_SAFE is deasserted first (R113), but for an
excluded stand (R114). -/
def State.startBringup (s : State) (l : Nat) : State :=
  if s.regionOut 4 l then s else
  (s.releaseSafe l).updLink l fun k =>
    { k with state := 1, attemptAt := s.clock.up, recovering := none, doze := 0, taps := s.startTaps l, inverted := [false, false]
             asked := [0, 0], eqDone := false, standEq := false, framing := none, frameBad := false }

/-- A bring-up attempt fails (R114): two more are made, then the link stays down and its stands are excluded. -/
def State.bringupFailed (s : State) (l cause : Nat) : State :=
  let n := (s.link l).attempts + 1
  if n < 3 then (s.updLink l fun k => { k with attempts := n }).startBringup l
  else
    let s := (s.updLink l fun k => { k with attempts := 0 }).linkDown l cause
    let s := forEach (s.settings.standsOn l) s fun i s => s.exclude i
    s.stepRecord l 3 1 l

/-- Stands of a link that is up again after it was down run the known-state sequence before they light (R296, R330). -/
def State.sequenceAfterUp (s : State) (l : Nat) : State :=
  if s.bringing l then s
  else s.onLink l fun st => if st.excluded ∨ st.admission ≠ 0 then st else { st with kssDue := true, dark := true }

/-- The step at which a lane fails, by the cause of R334 that names it: bit lock, block lock after 64 consecutive valid headers, deskew to
within 64 UI, and where equalisation is part of it an eye of at least 30 mV and 0.30 UI (R304, R308). -/
def laneCause (eye : Bool) (r : LaneReport) : Option Nat :=
  if !r.bitLock then some 1 else if r.headers < 64 then some 2 else if 64 < r.skew then some 4
  else if eye ∧ (r.eyeMv < 30 ∨ r.eyeWidth < 300) then some 5 else none

/-- The same for the lanes in the order of R333: data 0 to 7, spare, clock, return, its spare; the clock lane under a forwarded clock alone, and
it carries no blocks (R302). -/
def laneCauses (eye : Bool) (clocking : Nat) (lanes : List LaneReport) : List (Option Nat) :=
  (List.range 12).map fun n =>
    let r := lanes.getD n {}
    if n ≠ 9 then laneCause eye r else if clocking = 1 then none else laneCause eye { r with headers := 64, skew := 0 }

/-- A lane of an attempt or recovery failed. -/
def laneFailed (c : List (Option Nat)) (n : Nat) : Bool := (c.getD n none).isSome

/-- The data lanes that failed. -/
def lostLanes (c : List (Option Nat)) : List Nat := (List.range 8).filter (laneFailed c)

/-- Steps at which the losses were more than sparing takes (R305): the second of the data lanes and their spare, the second return lane, the
clock lane. -/
def fatalCauses (c : List (Option Nat)) : List Nat :=
  let second (ns : List Nat) : List Nat := ((List.range 7).filter fun k => 2 ≤ ns.countP fun n => (c.getD n none).any (· ≤ k)).take 1
  second (List.range 9) ++ second [10, 11] ++ (c.getD 9 none).toList

/-- The lanes of an attempt arrive as R307 asks: the data lanes in order or reversed, the return lanes each under its own LANE; `ret` are
the TRAIN bodies of the return lane and its spare. -/
def lanesArrive (c : List (Option Nat)) (order : List Nat) (ret : List (List Byte)) : Bool :=
  laneOrderOk (lostLanes c) order && (laneFailed c 10 || trainLane (ret.getD 0 []) == 16) && (laneFailed c 11 || trainLane (ret.getD 1 []) == 17)

/-- Limits of the seven steps, µs (R304). -/
def stepLimits : List Nat := [1000, 1000, 500, 500, 500, 12000, 2000]

/-- The cause with which an attempt fails, none where the link comes up (R304, R305, R307, R308, R334): `steps` are the times its steps took, µs;
`frameErrs` tells of frame errors that the stand receiver met in step 7. -/
def attemptCause (k : Link) (clocking : Nat) (steps : List Nat) (lanes : List LaneReport) (frameErrs : Bool) (order : List Nat)
    (ret : List (List Byte)) : Option Nat :=
  let c := laneCauses true clocking lanes
  let long := ((List.range 7).filter fun n => stepLimits.getD n 0 < steps.getD n 0).map fun n => [1, 1, 2, 3, 4, 5, 6].getD n 0
  let all := fatalCauses c ++ long ++ (if lanesArrive c order ret then [] else [3]) ++ (if k.framing.isSome then [] else [5]) ++
    if frameErrs || k.frameBad then [6] else []
  (List.range 7).find? all.contains

/-- A bring-up attempt ends (R304, R305): it fails, or the 1.0 ms of TEST packets are over and the link is up; `order` is the order in which the
stand receiver meets the data lanes (DEDUCED, log entry 55). -/
def State.bringupEnd (s : State) (l : Nat) (steps : List Nat) (lanes : List LaneReport) (frameErrs : Bool) (order : List Nat)
    (ret : List (List Byte)) : State :=
  let k := s.link l
  let cfg := s.settings.links.getD l {}
  if k.state ≠ 1 ∨ k.recovering.isSome then s
  else match attemptCause k cfg.clocking steps lanes frameErrs order ret with
  | some why => s.bringupFailed l why
  | none =>
    if s.testing l then s else
    let c := laneCauses true cfg.clocking lanes
    let s := s.updLink l fun k => { (k.lanes (lostLanes c) (!laneFailed c 8) (laneFailed c 10) (!laneFailed c 11)).seeded with
      attempts := 0, recoveries := 0, inverted := [trainInverted (ret.getD 0 []), trainInverted (ret.getD 1 [])]
      eye := (List.range 12).map fun n => (lanes.getD n {}).eyeMv, everUp := true, txSince := s.clock.up, framing := none, blanked := false }
    let s := (s.raise evLinkUp l [cfg.rate, cfg.clocking]).sparedEvents l (lostLanes c) (laneFailed c 10)
    let s := s.stepRecord l 3 0 l
    (s.reloadLuts l).sequenceAfterUp l

/-- A recovery ends (R312, R328): steps 2 to 5 have run on every lane; it resumes at full width when every lane trains, or takes the link down
(DEDUCED, log entry 51). -/
def State.recoveryEnd (s : State) (l : Nat) (lanes : List LaneReport) (order : List Nat) (ret : List (List Byte)) : State :=
  let k := s.link l
  match k.recovering with
  | none => s
  | some t =>
    let c := laneCauses false (s.settings.links.getD l {}).clocking lanes
    if 3 ≤ (List.range 9).countP (laneFailed c) ∨ laneFailed c 9 ∨ (laneFailed c 10 && laneFailed c 11) ∨ !lanesArrive c order ret ∨
        t + us 200 < s.clock.up then s.recoveryFailed l 7
    else
      let s := s.updLink l fun k => { k.lanes (lostLanes c) (!laneFailed c 8) (laneFailed c 10) (!laneFailed c 11) with
        recovering := none, recoveries := (k.recoveries + 1) % 0x100000000, txReplay := some k.txAcked, txSince := s.clock.up, txDeal := 0
        litFrom := k.rayWin }
      let s := s.resend l
      let s := s.recFixed 0x0060 [l, 0, k.recoveryTimes.length]
      s.onLink l fun st =>
        if st.bands.any (·.inFlight) then { st.unknownInFlight with kssDue := true, dark := true } else st

/-- The stands of a link that a recovery blanked light again with the first sub-frame whose codes all arrive (R312). -/
def State.lightAgain (s : State) (tick sub : Nat) : State :=
  { s with links := s.links.map fun k =>
      if k.blanked ∧ 2 ≤ k.state ∧ k.litFrom ≤ windowOf tick sub then { k with blanked := false } else k }

/-! ### Link frames (R309 to R311) -/

/-- Sequence numbers from `a` up to but not including `b` (DEDUCED, log entry 103). -/
def seqGap (a b : Nat) : Nat := (b + 32768 - a) % 32768

/-- A replay starts from the oldest unacknowledged frame; four without progress start a recovery (R311, R312) (DEDUCED, log entry 103). -/
def State.replay (s : State) (l : Nat) (count : Link → Link) : State :=
  let n := (s.link l).txReplays + 1
  let s := s.updLink l fun k => { count k with txReplay := some k.txAcked, txReplays := n, txSince := s.clock.up }
  if 4 ≤ n then s.startRecovery l else s.resend l

/-- Frames built on the data lanes since the last return frame, at most what the replay buffer holds (R311) (DEDUCED, log entry 103). -/
def State.framesSent (s : State) (l sent : Nat) : State :=
  let k := s.link l
  let s := s.buildFrames l (min sent (256 - seqGap k.txAcked k.txNext))
  if k.txAcked = k.txNext then s.updLink l fun k => { k with txSince := s.clock.up } else s

/-- A return-lane frame is taken (R310). -/
def Link.takes (k : Link) (f : LinkFrame) : Bool := f.takenBy k.rxExpect k.rxDiscard

/-- A return-lane frame is judged (R310), and its ACK_SEQ and NAK act on the replay buffer (R311), a NAK that names an ACK_SEQ whose replay still runs on nothing; a direction that
sleeps wakes for it (R329). -/
def State.frameIn (s : State) (l : Nat) (f : LinkFrame) : State :=
  let s := s.updLink l fun k => { k.wake with retDoze := 0 }
  let k := s.link l
  let crcGood := f.good
  let ack := f.ack
  let nak := f.nak
  let s := s.updLink l fun k =>
    if k.takes f then { k with rxExpect := (k.rxExpect + 1) % 32768, rxDiscard := false }
    else { k with rxDiscard := true, rxCrc := (k.rxCrc + 1) % 0x100000000, frameBad := true }
  if !crcGood then s else
  -- the tag of a frame with a good CRC acts on the replay buffer
  let next := (ack + 1) % 32768
  let moved := seqGap k.txAcked next
  let s := if 0 < moved ∧ moved ≤ seqGap k.txAcked k.txNext then
      s.updLink l fun k => { k with txAcked := next, txSince := s.clock.up, txReplays := 0, txReplay := none, txHeld := k.txHeld.drop moved }
    else s
  if nak ∧ !((s.link l).txReplay = some next ∧ s.clock.up < (s.link l).txReplayTo) then
    s.replay l fun k => { k with naked := (k.naked + 1) % 0x100000000 }
  else s

/-- A command to the whole link (R317). -/
def State.linkCmd (s : State) (l op param : Nat) : State :=
  let id := (s.link l).cmdNext
  let s := s.updLink l fun k => { k with cmds := k.cmds ++ [(id, 0xFF, op)], cmdNext := (id + 1) % 65536 }
  s.emit (.linkSend l 4 ([0xFF] ++ le 2 id ++ le 1 op ++ le 1 param ++ zeros 8))

/-- Equalisation has ended in both directions (R308): step 7 starts, with link frames from SEQ 0 and TEST packets (R304), a CLEAR_TEST before them
(DESIGN CHOICE, log entry 164). -/
def State.startFrames (s : State) (l : Nat) : State :=
  let k := s.link l
  if k.eqDone && k.standEq && k.framing.isNone then
    ((s.dropCmds l).updLink l fun k => { k.fresh with framing := some s.clock.up }).linkCmd l 7 0
  else s

/-- The A9's return-lane receivers accept the settings, or ask for others within the ranges, at most 64 times a lane (R308): which is free
(DESIGN CHOICE, log entry 164). -/
def State.equalise (s : State) (l : Nat) : State × Option (Nat × Nat × Nat) :=
  let k := s.link l
  if k.eqDone then (s, none) else
  let v := Config.freeValue s.security.free
  let n := v / 2 % 2
  let s := { s with security := { s.security with free := s.security.free + 1 } }
  if v % 2 = 0 ∨ 64 ≤ k.asked.getD n 0 then (s.updLink l fun k => { k with eqDone := true }, none)
  else
    let pre := v / 4 % 13
    (s.updLink l fun k => { k with asked := upd k.asked n (· + 1) }, some (16 + n, pre, min (v / 52 % 19) (24 - pre)))

/-- An ordered block arrives on the return lane (R302, R303, R307, R308, R329): in an attempt a TRAIN block brings the stand receiver's EQ_DONE and
its request, which is applied where it is within the ranges, and is answered; whether the A9 inserts or deletes a SKIP block is free
(R302, R333) (DESIGN CHOICE, log entry 130). -/
def State.orderedIn (s : State) (l : Nat) (o : Ordered) : State :=
  match o with
  | .skip =>
    { s.updLink l fun k => { k with skips := (k.skips + Config.freeValue s.security.free % 2) % 0x100000000 } with
      security := { s.security with free := s.security.free + 1 } }
  | .train f =>
    if (s.link l).state ≠ 1 ∨ (s.link l).recovering.isSome then s else
    let lane := u8 f 2
    let taps := (u8 f 3, u8 f 4)
    let ok := decide (lane < 10) && tapsOk taps.1 taps.2
    let s := s.updLink l fun k => { k with
      standEq := bitOf (u8 f 1) 0, taps := if ok then upd k.taps lane fun _ => taps else k.taps }
    let r := s.equalise l
    (r.1.trainOut l ok r.2).startFrames l
  | .doze => s.updLink l fun k => { k with retDoze := 1 }
  | .sleep => s.updLink l fun k => { k with retDoze := 2 }
  | .wake _ => s.updLink l fun k => { k with retDoze := 0 }

/-- A block shows that its lane arrives inverted, or upright: a TRAIN block with 0xB5 tail, or with 0x4A (R307). -/
def blockInverts (b : Nat × Nat) : Option Bool :=
  match readOrdered (3 - b.1, 2 ^ 128 - 1 - b.2), readOrdered b with
  | some (.train _), _ => some true
  | _, some (.train _) => some false
  | _, _ => none

/-- The TRAIN blocks of the return lane in use and of the other show whether they arrive inverted (R307). -/
def Link.noteInverted (k : Link) (blocks spare : List (Nat × Nat)) : Link :=
  let note (inv : List Bool) (lane : Nat) (bs : List (Nat × Nat)) : List Bool :=
    match bs.findSome? blockInverts with
    | some v => upd inv lane fun _ => v
    | none => inv
  { k with inverted := note (note k.inverted k.retLane blocks) (1 - k.retLane) spare }

/-- The 4 µs timer, or a full buffer (R311); it does not run while the return direction sleeps (R329) (DESIGN CHOICE, log entry 13). -/
def State.replayTimeout (s : State) (l : Nat) : State :=
  let k := s.link l
  if s.linkUp l ∧ k.retDoze = 0 ∧ k.txAcked ≠ k.txNext ∧ (s.since k.txSince (us 4) ∨ seqGap k.txAcked k.txNext = 256) then
    s.replay l fun k => { k with timeouts := (k.timeouts + 1) % 0x100000000 }
  else s

/-! ### Lost lanes (R324 to R327) -/

/-- From the switch of lanes on, frames go out again from ACK_SEQ + 1 (R324) (DEDUCED, log entry 55). -/
def State.switchReplay (s : State) (l : Nat) : State :=
  if (s.link l).txHeld = [] then s else
  (s.updLink l fun k => { k with txReplay := some k.txAcked, txSince := s.clock.up }).resend l

/-- One data lane is lost (R324, R325), where the spare carries it the spare with it (DEDUCED, log entry 55). -/
def State.loseLane (s : State) (l lane : Nat) : State :=
  let k := s.link l
  if k.narrowed = lane then s
  else if k.dataSpare ∧ k.spared = 0xFF then
    let s := s.updLink l fun k => { k with spared := lane, dataSpare := false, awake := 3, state := if k.state = 5 then 5 else 3 }
    (s.switchReplay l).raise evLaneSpared l [lane]
  else if k.narrowed = 0xFF then
    let s := s.updLink l fun k => { k with spared := if k.spared = lane then 0xFF else k.spared, narrowed := lane, narrowFrom := k.rayWin, txDeal := 0, awake := 4, state := if k.state = 5 then 5 else 4 }
    (s.switchReplay l).raise evLinkNarrow l [lane]
  else s.linkDown l 8

/-- A NAK packet (R322, R324, R325, R317); `lane2` is a second lane lost within the same frame, 0xFF for none. -/
def State.nakPacket (s : State) (l cause lane lane2 cmdId : Nat) : State :=
  if !s.linkUp l then s else
  match cause with
  | 1 => if lane2 < 8 then (s.loseLane l (min lane lane2)).loseLane l (max lane lane2) else s.loseLane l lane
  | 2 =>
    match (s.link l).cmds.find? fun c => c.1 == cmdId with
    | none => s
    | some c =>
      let s := s.updLink l fun k => { k with cmds := k.cmds.filter fun e => e.1 != cmdId }
      let again := (s.link l).cmds.any fun e => e.2 == c.2
      forEach ((s.settings.standsOn l).filter fun i => s.settings.position i == c.2.1) s fun i s =>
        if c.2.2 = 2 then s.updStand i fun st => { st with steerDue := true }
        else if c.2.2 = 1 ∧ !again then s.updStand i fun st => { st with lutPending := false, lutWant := false }
        else s
  | _ => s

/-- The return lane is lost (R327): moved to its spare, or a recovery that fails (DEDUCED, log entry 55). -/
def State.returnLost (s : State) (l : Nat) : State :=
  let k := s.link l
  if !s.linkUp l then s
  else if k.retSpare ∧ !k.retOnSpare then
    ((s.updLink l fun k => { k with retOnSpare := true, retSpare := false }).linkCmd l 5 0).raise evLaneSpared l [16]
  else (s.countRecovery l).recoveryFailed l 9

/-- A spare lane fails (R306): 8 the data spare, 17 the return spare. -/
def State.spareFault (s : State) (l lane : Nat) : State :=
  let k := s.link l
  if !s.linkUp l then s
  else if lane = 8 ∧ k.dataSpare then (s.updLink l fun k => { k with dataSpare := false }).raise evLaneSpared l [8]
  else if lane = 17 ∧ k.retSpare then (s.updLink l fun k => { k with retSpare := false }).raise evLaneSpared l [17]
  else s

/-- Frame blocks on the standby return lane are checked (R306). -/
def State.spareIn (s : State) (l : Nat) (blocks : List (Nat × Nat)) : State :=
  if !s.linkUp l ∨ !(s.link l).watches then s else
  let s := s.updLink l fun k => (blocks.filter fun b => (readOrdered b).isNone).foldl Link.spareBlock k
  if (s.link l).spareLost then s.spareFault l 17 else s

/-! ### Low power (R329) -/

/-- At a tick: in Hold transmit dozes after the SYNC, in a completed Bring-up it sleeps; RETURN_POWER follows the mode (DEDUCED, log entry 56). -/
def State.linkPower (s : State) : State :=
  let m := s.modes.mode
  let want := if m = 6 then 1 else if m = 1 ∧ s.modes.ready then 2 else 0
  let ret := if m = 6 then 0 else if m = 1 ∧ s.modes.ready then 2 else 1
  forEach s.settings.linksUsed s fun l s =>
    if !s.linkUp l then s else
    let s := if (s.link l).retPower = ret then s else (s.updLink l fun k => { k with retPower := ret }).linkCmd l 6 ret
    let want := if want = 1 ∧ s.streamsOn l s.clock.tick then 0 else want
    s.updLink l fun k => if want = 0 then k.wake else { k with awake := k.running, doze := want, state := 5 }

/-- A transmit direction wakes (R329). -/
def State.linkWake (s : State) (l : Nat) : State :=
  if (s.link l).state = 5 then s.updLink l Link.wake else s

/-! ### What stand receivers report -/

/-- The stand at a position of a link. -/
def State.standAt (s : State) (l pos : Nat) : Option Nat := (s.settings.standsOn l)[pos]?

/-- Both rails within ±5 % of 15.0 V (R286). -/
def railsOk (p n : Nat) : Bool := 14250 ≤ p && p ≤ 15750 && 14250 ≤ n && n ≤ 15750

/-- A type is recorded for a stand; at 120 Hz its table is judged (R260, R332): false where it breaks the limit. -/
def State.recordType (s : State) (i : Nat) : State × Bool :=
  let st := s.stand i
  let s := { s with settings := { s.settings with stands := upd s.settings.stands i fun t =>
    { t with stype := if t.stype = 0 then st.stypeSeen else t.stype, serial := if t.serial = 0 then st.serialSeen else t.serial } } }
  (s, !(s.clock.rate == 120 && widthsWide (s.widthsOf (s.standCfg i))))

/-- The identity a stand reports is the one recorded (R332). -/
def State.identityOk (s : State) (i : Nat) : Bool :=
  let st := s.stand i
  let c := s.standCfg i
  (c.stype == 0 || c.stype == st.stypeSeen) && (c.serial == 0 || c.serial == st.serialSeen)

/-- The stand reports a rail out of range (R286, R287, R323). -/
def Stand.railBad (st : Stand) : Bool := st.flags.getLsbD 1 || !railsOk st.railP st.railN

/-- A rail out of range (R287): every band unknown, the stand dark. -/
def State.railFaulted (s : State) (i : Nat) : State :=
  s.updStand i fun st => { st.unknownAll with railFault := true, railOkAt := none, dark := true, kss := 0, kssDue := false }

/-- A STATUS packet arrives (R323, R287, R242): `b` are its bytes 0 to 39 (DEDUCED, log entry 97). -/
def State.statusPacket (s : State) (i : Nat) (b : List Byte) : State :=
  let old := s.stand i
  let flags := u16 b 6
  let p := u16 b 16
  let n := u16 b 18
  let s := s.updStand i fun st => { st with
    statusBytes := padTo 40 b, stypeSeen := u8 b 4, serialSeen := u64 b 8, seen := true, reported := true, flags := BitVec.ofNat 16 flags,
    railP := p, railN := n, failedDrivers := u16 b 20, statusMiss := 0 }
  let rises := flags &&& (0xFFFF ^^^ old.flags.toNat) != 0
  let bad := (s.stand i).railBad
  let s := if rises ∨ (bad ∧ !old.railFault) then s.raise evStandStatus i [flags] else s
  let s := if bad then s.railFaulted i
    else if old.railFault then s.updStand i fun st => { st with railOkAt := some (st.railOkAt.getD s.clock.up) } else s
  -- a hogel whose driver is reported failed is wholly failed
  let s := if u16 b 22 < 16384 ∧ u16 b 20 ≠ 0 ∧ !(old.cal.failedHogel (u16 b 22)) then
      (s.updCal i fun c => c.wholeHogel (u16 b 22) s.nowNs).needRebuild i else s
  -- bands that cannot be driven, by the driver or for want of a rail, exclude the stand in step 6, and in any sequence (R114, R295)
  if bitOf flags 5 ∧ old.kss ≠ 0 ∧ !old.excluded then s.excludeStatus i 6
  else if bitOf flags 5 ∨ bad then s.undriven i else s

/-- Both rails have stayed in range for 100 ms (R287). -/
def State.railRecovered (s : State) (i : Nat) : State :=
  let st := s.stand i
  match st.railOkAt with
  | some t => if st.railFault ∧ s.since t (ms 100) then s.updStand i fun st => { st with kssDue := true, railOkAt := none, railFault := false } else s
  | none => s

/-- An ACK of a steering window (R288, R321): step 1 of the journal, the DC integrals, and the next window's requests, in held class across the tick too (DEDUCED, log entry 50). -/
def State.windowAck (s : State) (i tick sub states dark pairs : Nat) : State :=
  let win := windowOf tick sub
  if (s.stand i).steerWin ≠ win + 1 ∨ (s.stand i).ackWin = win + 1 then s else
  let s := s.updStand i fun st => { st with
    ackWin := win + 1
    bands := st.bands.mapIdx fun b x => x.ack win (bitsOf states (2 * b + 1) (2 * b)) (bitOf pairs b) st.railP st.railN
    darkNow := st.darkNow ||| BitVec.ofNat 8 dark
    darkCount := (st.darkCount + popCount (dark % 256)) % 0x100000000, pairs := st.pairs + popCount (pairs % 256) }
  let s := s.judgeDc i
  let st := s.stand i
  if sub < 3 then s.steerWindow i tick (sub + 1)
  else if st.kind = 2 ∧ st.kss = 0 ∧ !st.parking then s.steerWindow i (tick + 1) 0 else s

/-- An ACK of a command (R317, R331). -/
def State.cmdAck (s : State) (l cmdId : Nat) : State :=
  match (s.link l).cmds.find? fun c => c.1 == cmdId with
  | none => s
  | some c =>
    let s := s.updLink l fun k => { k with cmds := k.cmds.filter fun e => e.1 != cmdId }
    match s.standAt l c.2.1 with
    | none => s
    | some i =>
      if c.2.2 = 1 ∧ !((s.link l).cmds.any fun e => e.2 == c.2) then s.updStand i fun st => { st with lutPending := false, lutAcked := true } else s

/-- STAND_REMOVED (R438): no STATUS for 5 consecutive frames (DESIGN CHOICE, log entry 13; DEDUCED, log entry 97). -/
def State.standRemoved (s : State) (i : Nat) : State :=
  let st := s.stand i
  if i < s.stands.length ∧ 5 ≤ st.statusMiss ∧ (!st.removed ∨ st.seen) then
    let s := s.updStand i fun st =>
      let st := { st with removed := true, seen := false }
      if st.released then st else { st.unknownAll with dark := true, kss := 0, kssDue := false }
    (s.raise evStandRemoved i [(s.standCfg i).link]).undriven i
  else s

end Sys2Proof.Machine
end

