-- ==== Sys2Proof/Machine/Sky.lean ====
section
/-! DEFINITION. Link frames of the skyline ports: those of the stand links (R303 to R312) as R363 takes them over, with two lanes a
direction, no spares and a replay buffer of 64 KiB. -/

namespace Sys2Proof.Machine

/-- What the frames of a port change. -/
def State.updFr (s : State) (p : Nat) (f : SkyFrames → SkyFrames) : State := s.updPort p fun q => { q with fr := f q.fr }

/-- Frames that the replay buffer of a port holds: 64 KiB (R363). -/
def skyHeld : Nat := 64

/-- An IDLE packet of 1 word (R367). -/
def skyIdle : List Byte := [0, 0, 1, 0, 0, 0, 0, 0]

/-- A frame on the two lanes of a port, block after block dealt between them (R309, R363). -/
def SkyFrames.sendFrame (k : SkyFrames) (tag : Nat) (body : List Byte) : SkyFrames × List (Nat × Nat × Nat) :=
  (List.range 64).foldl (fun a j =>
    let r := scramble (a.1.txScr.getD (j % 2) 0) (uN body (16 * j) 16)
    ({ a.1 with txScr := upd a.1.txScr (j % 2) fun _ => r.1 }, a.2 ++ [(j % 2, 1 + tag / 2 ^ j % 2, r.2)])) (k, [])

/-- A frame of a body goes out under a sequence number, and after 1,024 blocks per lane a SKIP on both (R302). -/
def State.portFrameOut (s : State) (p seq : Nat) (replay : Bool) (body : List Byte) : State :=
  let k := (s.port p).fr
  let r := k.sendFrame (frameTag k.rxExpect k.rxDiscard seq replay body) body
  let n := k.txSkip + 32
  let s := (s.updFr p fun _ => { r.1 with txSkip := n % 1024 }).emit (.portBlocks p r.2)
  if n < 1024 then s else s.emit (.portBlocks p [(0, Ordered.skip.block), (1, Ordered.skip.block)])

/-- TRAIN blocks go out on both lanes as the bring-up of a port starts (R304, R307). -/
def State.portTrain (s : State) (p : Nat) : State :=
  s.emit (.portBlocks p ([0, 1].map fun n => (n, (Ordered.train (trainFields n false false none (0, 0))).block)))

/-- New frames are built from the stream and held until they are acknowledged, no more than the replay buffer takes (R309, R311). -/
def State.portBuild (s : State) (p : Nat) : (n : Nat) → State
  | 0 => s
  | n + 1 =>
    let k := (s.port p).fr
    if skyHeld ≤ seqGap k.txAcked k.txNext then s else
    let body := fillBody skyIdle k.stream
    ((s.portFrameOut p k.txNext false body).updFr p fun k =>
      { k with txNext := (k.txNext + 1) % 32768, txHeld := k.txHeld ++ [body], stream := k.stream.drop 1024 }).portBuild p n

/-- The frames that wait for acknowledgement go out again, the first with REPLAY (R311); a frame takes 64 blocks of 130 bits on two lanes. -/
def State.portResend (s : State) (p : Nat) : State :=
  let s := s.updFr p fun k => { k with txReplayTo := s.clock.up + k.txHeld.length * 24960 / (if (s.port p).state = 2 then 36 else 18) }
  (s.port p).fr.txHeld.zipIdx.foldl (fun s e => s.portFrameOut p ((s.port p).fr.txAcked + e.2) (e.2 == 0) e.1) s

/-- A recovery of a port starts, its frames held back until its lanes are up again; the third within 1 s takes the port down (R312, R363). -/
def State.portRecovery (s : State) (p : Nat) : State :=
  s.updPort p fun q =>
    let times := (q.fr.recoveryTimes.filter fun t => !s.since t (sec 1)) ++ [s.clock.up]
    if 3 ≤ times.length then { q with state := 0, fr := { q.fr with recoveryTimes := times, recovering := none } }
    else { q with state := 1, fr := { q.fr with
      recoveryTimes := times, recovering := some s.clock.up, txReplay := none, txReplays := 0, rxDiscard := false } }

/-- A replay starts from the oldest unacknowledged frame; four without progress start a recovery (R311, R312). -/
def State.portReplay (s : State) (p : Nat) : State :=
  let n := (s.port p).fr.txReplays + 1
  let s := s.updPort p fun q => { q with
    replays := (q.replays + 1) % 0x100000000, fr := { q.fr with txReplay := some q.fr.txAcked, txReplays := n, txSince := s.clock.up } }
  if 4 ≤ n then s.portRecovery p else s.portResend p

/-- What time brings a port (R311, R312): the 4 µs timer, or a full buffer, and the end of a recovery that took longer than 200 µs, which takes
the port down (DESIGN CHOICE, log entry 134). -/
def State.portTimer (s : State) (p : Nat) : State :=
  let q := s.port p
  if q.fr.recovering.any fun t => s.clock.up > t + us 200 then
    s.updPort p fun q => { q with state := 0, fr := { q.fr with recovering := none } }
  else if q.carries ∧ q.fr.txAcked ≠ q.fr.txNext ∧ (s.since q.fr.txSince (us 4) ∨ seqGap q.fr.txAcked q.fr.txNext = skyHeld) then s.portReplay p
  else s

/-- A received frame acts on the replay buffer by its ACK_SEQ and NAK, where its CRC is good (R311). -/
def State.portAck (s : State) (p : Nat) (f : LinkFrame) : State :=
  if !f.good then s else
  let k := (s.port p).fr
  let next := (f.ack + 1) % 32768
  let moved := seqGap k.txAcked next
  let s := if 0 < moved ∧ moved ≤ seqGap k.txAcked k.txNext then
      s.updFr p fun k => { k with txAcked := next, txSince := s.clock.up, txReplays := 0, txReplay := none, txHeld := k.txHeld.drop moved }
    else s
  if f.nak ∧ !((s.port p).fr.txReplay = some next ∧ s.clock.up < (s.port p).fr.txReplayTo) then s.portReplay p else s

/-- A frame arrives on a port: judged (R310), with its effect on the replay buffer; true where it is taken. -/
def State.portFrame (s : State) (p : Nat) (bs : List (Nat × Nat)) : State × Bool :=
  let k := (s.port p).fr
  let r := bs.zipIdx.foldl (fun (a : List Nat × List Byte) e =>
    let x := scramble (a.1.getD (e.2 % 2) 0) e.1.2
    (upd a.1 (e.2 % 2) fun _ => x.1, a.2 ++ le 16 x.2)) (k.rxScr, [])
  let f := frameOf bs r.2
  let took := f.takenBy k.rxExpect k.rxDiscard
  let s := s.updPort p fun q =>
    if took then { q with fr := { q.fr with rxScr := r.1, rxExpect := (k.rxExpect + 1) % 32768, rxDiscard := false } }
    else { q with rxCrc := (q.rxCrc + 1) % 0x100000000, fr := { q.fr with rxScr := r.1, rxDiscard := true } }
  (s.portAck p f, took)

/-- The frames around a packet on a port: those built here, then those received; the packet has arrived where every frame that carried it was
taken.  A packet whose frames are not spelled arrives by itself (DESIGN CHOICE, log entry 134). -/
def State.arrives (s : State) (p : Nat) (rx : SkyRx) (f : State → State) : State :=
  let s := s.portTimer p
  if !(s.port p).carries then f s else
  let s := if (s.port p).fr.txAcked = (s.port p).fr.txNext then s.updFr p fun k => { k with txSince := s.clock.up } else s
  let s := s.portBuild p rx.sent
  let r := rx.frames.foldl (fun (a : State × Bool) bs => let b := a.1.portFrame p bs; (b.1, a.2 && b.2)) (s, true)
  if r.2 then f r.1 else r.1

/-- The lanes of a port are up: frames go on after a recovery that ended in time, with a replay of what waits (R312), or start anew from SEQ 0 (R304). -/
def State.portFresh (s : State) (p : Nat) : State :=
  let k := (s.port p).fr
  if k.recovering.any fun t => s.clock.up ≤ t + us 200 then
    (s.updFr p fun k => { k with recovering := none, txReplay := some k.txAcked, txSince := s.clock.up }).portResend p
  else s.updFr p fun k => { recoveryTimes := k.recoveryTimes }

end Sys2Proof.Machine
end

