-- ==== Sys2Proof/Machine/Lrs.lean ====
section
/-! DEFINITION. The Layered Ray Stream format (R145 to R166): control units, their checks, the plane substreams a frame
must carry, and the exact values samples stand for. -/

namespace Sys2Proof.Machine

/-! ### IEEE 754 binary32 -/

/-- The value of a finite binary32; none where it is infinite or not a number. -/
def f32 (v : Nat) : Option Rat :=
  let e := bitsOf v 30 23
  let m := v % 0x800000
  let mag : Rat := if e = 0 then (m : Rat) / 2 ^ 149
    else if 150 ≤ e then ((m + 0x800000) * 2 ^ (e - 150) : Nat) else ((m + 0x800000 : Nat) : Rat) / 2 ^ (150 - e)
  if e = 255 then none else some (if bitOf v 31 then -mag else mag)

/-- A finite binary32 field; 0 where it is not finite (its check has failed then). -/
def f32At (bs : List Byte) (off : Nat) : Rat := (f32 (u32 bs off)).getD 0

/-- A vector of three binary32 values (R156). -/
structure Vec where
  x : Rat
  y : Rat
  z : Rat
deriving DecidableEq, Repr

def vecAt (bs : List Byte) (off : Nat) : Vec := ⟨f32At bs off, f32At bs (off + 4), f32At bs (off + 8)⟩
def Vec.dot (a b : Vec) : Rat := a.x * b.x + a.y * b.y + a.z * b.z
def Vec.cross (a b : Vec) : Vec := ⟨a.y * b.z - a.z * b.y, a.z * b.x - a.x * b.z, a.x * b.y - a.y * b.x⟩
def Vec.add (a b : Vec) : Vec := ⟨a.x + b.x, a.y + b.y, a.z + b.z⟩
def Vec.sub (a b : Vec) : Vec := ⟨a.x - b.x, a.y - b.y, a.z - b.z⟩
def Vec.scale (k : Rat) (a : Vec) : Vec := ⟨k * a.x, k * a.y, k * a.z⟩
/-- Square of the length. -/
def Vec.sq (a : Vec) : Rat := a.dot a

/-! ### Units -/

/-- Splits data into whole units (R146, R148); none where a header or a unit does not lie wholly in it, or its UNIT_SIZE
is below 8 or no multiple of 8. -/
def splitUnits : (fuel : Nat) → List Byte → Option (List (List Byte))
  | 0, bs => if bs.isEmpty then some [] else none
  | n + 1, bs =>
    if bs.isEmpty then some [] else
    let size := u32 bs 4
    if bs.length < 8 ∨ size < 8 ∨ size % 8 ≠ 0 ∨ bs.length < size then none
    else (splitUnits n (bs.drop size)).map (bs.take size :: ·)

/-- The units of a control substream, at most 16,384 bytes (R149). -/
def units (bs : List Byte) : Option (List (List Byte)) := splitUnits 2048 bs

/-- UNIT_TYPE. -/
def unitType (u : List Byte) : Nat := u8 u 0

/-- Every byte of a range is 0. -/
def allZero (bs : List Byte) (lo hi : Nat) : Bool := (span lo hi).all fun i => byteAt bs i == 0

/-! ### The sequence header (R150 to R152) -/

/-- SLOTS. -/
def seqSlots (h : List Byte) : Nat := u8 h 9
/-- Slot record `i`. -/
def slotRec (h : List Byte) (i : Nat) : List Byte := slice h (32 + 16 * i) 16
def slotW (r : List Byte) : Nat := u16 r 0
def slotH (r : List Byte) : Nat := u16 r 2
def slotPlanes (r : List Byte) : Nat := u8 r 4
def slotDiv (r : List Byte) : Nat := u8 r 6
def slotArrange (r : List Byte) : Nat := u8 r 7

/-- The declared plane (R145): slot `s` is declared and has bit `k` of PLANES. -/
def planeDeclared (h : List Byte) (s k : Nat) : Bool := s < seqSlots h && k < 5 && bitOf (slotPlanes (slotRec h s)) k

/-- SUBSTREAM names the control substream or a declared plane (R145). -/
def substreamOk (h : List Byte) (sub : Nat) : Bool :=
  sub == 0 || (sub / 0x100 != 0 && planeDeclared h (sub / 0x100 - 1) (sub % 0x100))

/-- Decoded picture size of a plane (R158). -/
def planeSize (r : List Byte) (k : Nat) : Nat × Nat :=
  let w := slotW r
  let h := slotH r
  match k with
  | 0 | 1 => (w, h)
  | 2 | 3 => (w / max 1 (slotDiv r), h / max 1 (slotDiv r))
  | _ => if slotArrange r = 0 then (9 * w / 4, 3 * h / 4) else (3 * w / 4, 9 * h / 4)

/-- The plane substreams a sequence declares, with their picture sizes, in rising SUBSTREAM. -/
def seqPlanes (h : List Byte) : List (Nat × Nat × Nat) :=
  (List.range (seqSlots h)).flatMap fun s =>
    ((List.range 5).filter (planeDeclared h s)).map fun k =>
      (0x100 * (s + 1) + k, (planeSize (slotRec h s) k).1, (planeSize (slotRec h s) k).2)

/-- Texels of every declared slot. -/
def seqTexels (h : List Byte) : Nat :=
  ((List.range (seqSlots h)).map fun i => slotW (slotRec h i) * slotH (slotRec h i)).foldl (· + ·) 0

/-- A defined field of a slot record lies outside R151. -/
def slotBad (r : List Byte) : Bool :=
  let w := slotW r
  let h := slotH r
  let p := slotPlanes r
  w % 16 != 0 || w < 64 || 7680 < w || h % 16 != 0 || h < 64 || 4320 < h ||
  !bitOf p 0 || (bitOf p 3 && !bitOf p 2) || (u8 r 5 != 1 && u8 r 5 != 2) ||
  (if bitOf p 2 then slotDiv r != 1 && slotDiv r != 2 else slotDiv r != 0) ||
  (if bitOf p 4 then 1 < slotArrange r else slotArrange r != 0)

/-- Decode cause of a sequence header (R166), none where it is accepted; `texels` is the stream's share (R165). -/
def seqCheck (texels : Nat) (h : List Byte) : Option Nat :=
  let n := seqSlots h
  if h.length < 32 ∨ (1 ≤ n ∧ n ≤ 16 ∧ h.length ≠ 32 + 16 * n) then some 1
  else if !(allZero h 2 4 && allZero h 14 16 && allZero h 20 32) then some 1
  else if n ≤ 16 ∧ (List.range n).any (fun i => !(allZero (slotRec h i) 8 16) || 32 ≤ slotPlanes (slotRec h i)) then some 1
  else if u8 h 1 ≠ 2 ∨ u8 h 8 ≠ 1 ∨ !([1, 9].contains (u8 h 10)) ∨ !([1, 14, 16, 18].contains (u8 h 11)) ∨
      !([1, 9].contains (u8 h 12)) ∨ 1 < u8 h 13 then some 2
  else if n = 0 ∨ 16 < n ∨ (List.range n).any (fun i => slotBad (slotRec h i)) then some 3
  else if min (texels * 2 ^ 20) (2 ^ 27) < seqTexels h ∨ (seqPlanes h).any (fun p => 7680 < p.2.1 || 4320 < p.2.2) then some 3
  else none

/-! ### Scene-frame header and layer descriptors (R153 to R157) -/

def hdrFrame (u : List Byte) : Nat := u32 u 8
def hdrActive (u : List Byte) : Nat := u16 u 12
def hdrChange (u : List Byte) : Nat := u16 u 14
def hdrRap (u : List Byte) : Bool := bitOf (u8 u 16) 0
def hdrBackground (u : List Byte) : Nat := u32 u 20
def descSlot (u : List Byte) : Nat := u8 u 8
def descKeep (u : List Byte) : Bool := bitOf (u8 u 10) 1

/-- The layer descriptor breaks R156 or R157 for its slot record. -/
def descBad (r u : List Byte) : Bool :=
  let relief := bitOf (slotPlanes r) 2
  let finite := (span 0 15).all fun i => (f32 (u32 u (16 + 4 * i))).isSome
  let au := vecAt u 28
  let av := vecAt u 40
  let nrm := vecAt u 52
  let x := au.cross av
  let lo := f32At u 64
  let hi := f32At u 68
  let res := f32At u 72
  let lenOk (v : Vec) : Bool := (1 / 100000000 : Rat) ≤ v.sq && v.sq ≤ 1000000
  u.length != 80 || !allZero u 11 16 || !allZero u 76 80 || 4 ≤ u8 u 10 || !finite ||
  (if relief then u8 u 9 != 1 else u8 u 9 != 0) || !lenOk au || !lenOk av ||
  x.sq < (1 / 10000 : Rat) * au.sq * av.sq ||
  nrm.sq < (999 / 1000 : Rat) ^ 2 || (1001 / 1000 : Rat) ^ 2 < nrm.sq ||
  (relief && (nrm.dot x) ^ 2 < (1 / 100 : Rat) * x.sq) ||
  lo < -1000 || 1000 < lo || hi < -1000 || 1000 < hi ||
  (if relief then hi ≤ lo else lo != 0 || hi != 0) ||
  (if bitOf (slotPlanes r) 4 then res ≤ 0 || 4 < res else res != 0)

/-- The slots of a mask, rising. -/
def slotsOf (mask : Nat) : List Nat := (List.range 16).filter (bitOf mask)

/-- What the checks of a frame's control units need of the stream: the sequence in force, the previous frame's ACTIVE_MASK,
the slots' previous descriptors, the texel share. -/
structure LrsCtx where
  seq : List Byte
  prevActive : Nat
  prevDesc : List (Nat × List Byte)
  texels : Nat
  /-- `prevActive` and `prevDesc` are those of the frame before this one. -/
  prevKnown : Bool := true
deriving DecidableEq, Repr

/-- Where the parse of a frame's control units stands (R149): its sequence header, its scene-frame header, its layer descriptors. -/
structure Parse where
  seq : List Byte := []
  hdr : List Byte := []
  descs : List (List Byte) := []
deriving DecidableEq, Repr

/-- The sequence in force for the units of a frame (R145, R164). -/
def LrsCtx.inForce (c : LrsCtx) (rap : Bool) (p : Parse) : List Byte := if rap then p.seq else c.seq

/-- A scene-frame header breaks R153 or R154; what R154 says of the previous frame is judged where that was parsed (DEDUCED, log entry 34). -/
def headerBad (c : LrsCtx) (frame : Nat) (rap : Bool) (seq u : List Byte) : Bool :=
  let act := hdrActive u
  let chg := hdrChange u
  let prev := if rap then 0 else c.prevActive
  u.length != 32 || !allZero u 17 20 || !allZero u 24 32 || 2 ≤ u8 u 16 || 0x40000000 ≤ hdrBackground u ||
  hdrFrame u != frame || hdrRap u != rap || 2 ^ seqSlots seq ≤ act || act ||| chg != act || (rap && act != chg) ||
  ((rap || c.prevKnown) && (slotsOf act).any fun i => !bitOf prev i && !bitOf chg i)

/-- A layer descriptor breaks R154, R156 or R157 under the scene-frame header before it. -/
def layerBad (c : LrsCtx) (rap : Bool) (seq hdr u : List Byte) : Bool :=
  let chg := hdrChange hdr
  descBad (slotRec seq (descSlot u)) u || (descKeep u && (!bitOf chg (descSlot u) || rap)) ||
  (c.prevKnown && !bitOf chg (descSlot u) && lookupD c.prevDesc (descSlot u) [] != u)

/-- Parses one control unit: what stands parsed after it, or the decode cause it gives (R166).  The first faulty unit decides the
cause; within a unit the checks run type, reserved bytes, VERSION, order, content (DESIGN CHOICE, log entry 120). -/
def parseUnit (c : LrsCtx) (frame : Nat) (rap : Bool) (p : Parse) (u : List Byte) : Except Nat Parse :=
  let ty := unitType u
  if 0x80 ≤ ty then (if p.hdr = [] then .error 1 else .ok p)      -- private: only after the scene-frame header (R148)
  else if ty = 0 ∨ 4 ≤ ty ∨ !allZero u 2 4 then .error 1
  else if u8 u 1 ≠ 2 then .error 2
  else match ty with
    | 1 =>
      if !rap ∨ p.seq ≠ [] ∨ p.hdr ≠ [] then .error 1 else
      match seqCheck c.texels u with
      | some e => .error e
      | none => .ok { p with seq := u }
    | 2 =>
      if p.hdr ≠ [] ∨ (rap ∧ p.seq = []) ∨ headerBad c frame rap (c.inForce rap p) u then .error 1 else .ok { p with hdr := u }
    | _ =>
      if p.hdr = [] ∨ (slotsOf (hdrActive p.hdr))[p.descs.length]? ≠ some (descSlot u) ∨
          layerBad c rap (c.inForce rap p) p.hdr u then .error 1
      else .ok { p with descs := p.descs ++ [u] }

/-- Parses control units in order until one is at fault. -/
def parseUnits (c : LrsCtx) (frame : Nat) (rap : Bool) : List (List Byte) → Parse → Except Nat Parse
  | [], p => .ok p
  | u :: us, p => match parseUnit c frame rap p u with
    | .error e => .error e
    | .ok q => parseUnits c frame rap us q

/-- Decode cause of the control units placed so far (R166), none where they conform; `frame` and `rap` are the descriptors', `last`
says that the frame's last byte is placed, so that a unit still missing is a fault. -/
def controlCheck (c : LrsCtx) (frame : Nat) (rap last : Bool) (control : List Byte) : Option Nat :=
  if 16384 < control.length then some 1 else
  match units control with
  | none => some 1
  | some us =>
    match parseUnits c frame rap us {} with
    | .error e => some e
    | .ok p => if last && (p.hdr == [] || p.descs.length != (slotsOf (hdrActive p.hdr)).length) then some 1 else none

/-- The plane substreams that must carry one access unit in a frame (R146): declared planes of slots changed without
KEEP_PLANES. -/
def planesDue (seq : List Byte) (chg : Nat) (descs : List (List Byte)) : List Nat :=
  ((slotsOf chg).filter fun i => !(descs.any fun u => descSlot u == i && descKeep u)).flatMap fun i =>
    ((List.range 5).filter (planeDeclared seq i)).map fun k => 0x100 * (i + 1) + k

/-- The access units of a frame (one entry each, its SUBSTREAM) are those R146 asks for. -/
def accessUnitsOk (seq : List Byte) (chg : Nat) (descs : List (List Byte)) (aus : List Nat) : Bool :=
  let due := planesDue seq chg descs
  due.all (fun p => aus.count p == 1) && aus.all due.contains

/-- The scene-frame header of a control substream, empty where there is none. -/
def frameHeader (control : List Byte) : List Byte :=
  (((units control).getD []).find? fun u => unitType u == 2).getD []

/-- The layer descriptors of a control substream. -/
def layerDescs (control : List Byte) : List (List Byte) := ((units control).getD []).filter fun u => unitType u == 3

/-- The sequence header of a control substream, empty where there is none. -/
def seqHeader (control : List Byte) : List Byte :=
  (((units control).getD []).find? fun u => unitType u == 1).getD []

/-! ### What samples stand for (R159 to R162) -/

/-- 8-bit samples as 10-bit values (R159). -/
def widen8 (v8 : Nat) : Nat := v8 * 4 + v8 / 64

/-- Alpha (R159). -/
def alphaOf (v10 : Nat) : Rat := (v10 : Rat) / 1023

/-- Depth value Z of a coarse sample and, where the plane exists, a fine one (R160). -/
def depthZ (c : Nat) : Option Nat → Nat
  | some f => (clampI 0 65535 ((c : Int) * 64 + f - 512)).toNat
  | none => c * 64 + 32

/-- Offset along NORMAL of a depth value (R160). -/
def reliefOffset (z : Nat) (lo hi : Rat) : Rat := lo + (z : Rat) / 65535 * (hi - lo)

/-- Centre of texel (i, j) on the layer surface (R159). -/
def texelCentre (origin au av : Vec) (w h i j : Nat) : Vec :=
  (origin.add (au.scale (((i : Rat) + 1 / 2) / w))).add (av.scale (((j : Rat) + 1 / 2) / h))

/-- Coefficient of a residual sample (R161). -/
def residualCoef (v10 : Nat) (scale : Rat) : Rat := ((v10 : Rat) - 512) / 512 * scale

/-- Column and row of residual tile (k, c) in the mosaic (R161). -/
def residualTile (arrange k c : Nat) : Nat × Nat := if arrange = 0 then (k, c) else (c, k)

/-- The basis functions on a direction of the layer frame (R162). -/
def basis (k : Nat) (d : Vec) : Rat :=
  match k with
  | 0 => 282095 / 1000000
  | 1 => 488603 / 1000000 * d.y
  | 2 => 488603 / 1000000 * d.z
  | 3 => 488603 / 1000000 * d.x
  | 4 => 1092548 / 1000000 * d.x * d.y
  | 5 => 1092548 / 1000000 * d.y * d.z
  | 6 => 315392 / 1000000 * (3 * d.z ^ 2 - 1)
  | 7 => 1092548 / 1000000 * d.x * d.z
  | _ => 546274 / 1000000 * (d.x ^ 2 - d.y ^ 2)

end Sys2Proof.Machine
end

