-- ==== Sys2Proof/Machine/Geometry.lean ====
section
/-! DEFINITION. The ray of every emitter (R167, R168), its footprint (R169), the placement of the scene (R170, R171), and the
exact tests by which a kerf's rays meet layers, clip boxes and compose rectangles (R176, R182, R206, R211). -/

namespace Sys2Proof.Machine

/-- A line of wall space: the rays of one emitter and steering state, both ways from the hogel centre (R168). -/
structure RayLine where
  o : Vec
  d : Vec
deriving DecidableEq, Repr

/-- Centre of hogel (hx, hy) of a stand with offset (x0, y0), pitch p in metres (R167). -/
def hogelCentre (p : Rat) (x0 y0 hx hy : Nat) : Vec :=
  ⟨((x0 : Rat) + hx + 1 / 2) * p, -(((y0 : Rat) + hy + 1 / 2) * p), 0⟩

/-- Deflection of a steering state (R168). -/
def deflection : Nat → Rat × Rat
  | 0 => (0, 0)
  | 1 => (1 / 2, 0)
  | 2 => (0, 1 / 2)
  | _ => (1 / 2, 1 / 2)

/-- Direction of emitter (i, j) in state s before it is normalised (R168): (−ex, −ey, N·p). -/
def rayDir (p n : Rat) (i j s : Nat) : Vec :=
  let ex := (((i : Rat) + 1 / 2) / 16 - 1 / 2) * p - (deflection s).1 * p / 16
  let ey := -(((j : Rat) + 1 / 2) / 16 - 1 / 2) * p + (deflection s).2 * p / 16
  ⟨-ex, -ey, n * p⟩

/-- Footprint of a ray at parameter t (R169). -/
def footprint (p n t : Rat) : Rat := p + |t| / (32 * n)

/-- Hogel pitch of a configuration in metres. -/
def Settings.pitch (c : Settings) : Rat := (c.pitchUm : Rat) / 1000000

/-- Focal ratio of a stand: its field is N in thousandths (R332). -/
def StandCfg.ratio (t : StandCfg) : Rat := (t.focal : Rat) / 1000

/-- The 2,048 rays of kerf k of a stand (R182): hogels 2c and 2c + 1 of row k / 64, c = k mod 64. -/
def kerfRays (c : Settings) (t : StandCfg) (k : Nat) : List RayLine :=
  [2 * (k % 64), 2 * (k % 64) + 1].flatMap fun hx =>
    let o := hogelCentre c.pitch t.x0 t.y0 hx (k / 64)
    (List.range 4).flatMap fun s => (List.range 16).flatMap fun j => (List.range 16).map fun i =>
      ⟨o, rayDir c.pitch t.ratio i j s⟩

/-- A placement (R170). -/
structure Placing where
  scale : Rat := 1
  qw : Rat := 1
  q : Vec := ⟨0, 0, 0⟩
  trans : Vec := ⟨0, 0, 0⟩
  clip : Option (Vec × Vec) := none
deriving DecidableEq, Repr

/-- The placement a SCENE.PLACE payload sets; the empty payload is the reset placement (R170). -/
def placingOf (p : List Byte) : Placing :=
  if p = [] then {} else
  { scale := f32At p 4, qw := f32At p 8, q := vecAt p 12, trans := vecAt p 24
    clip := if bitOf (u8 p 1) 0 then some (vecAt p 36, vecAt p 48) else none }

/-- R(ROTATION) × v: the rotation of the normalised quaternion (R171) (DEDUCED, log entry 22). -/
def Placing.rot (a : Placing) (v : Vec) : Vec :=
  let n := a.qw * a.qw + a.q.sq
  let u := a.q.cross v
  let w := a.q.cross u
  v.add (Vec.scale (2 / n) ((u.scale a.qw).add w))

/-- R(ROTATION)^−1 × v. -/
def Placing.unrot (a : Placing) (v : Vec) : Vec := { a with q := a.q.scale (-1) }.rot v

/-- Scene point to wall point (R171). -/
def Placing.point (a : Placing) (q : Vec) : Vec := a.trans.add ((a.rot q).scale a.scale)

/-- A wall line in scene space. -/
def Placing.toScene (a : Placing) (r : RayLine) : RayLine :=
  ⟨((a.unrot (r.o.sub a.trans))).scale (1 / a.scale), (a.unrot r.d).scale (1 / a.scale)⟩

/-- Layer coordinates (u, v, offset along the normal of the span, in units of the given sweep vector) of a point. -/
def coords (au av sweep : Vec) (v : Vec) : Rat × Rat × Rat :=
  let det := (au.cross av).dot sweep
  ((av.cross sweep).dot v / det, (sweep.cross au).dot v / det, (au.cross av).dot v / det)

/-- Interval of parameters in which a + b·t lies in [lo, hi]; none where it is empty, `some none` where it is unbounded. -/
def slab (a b lo hi : Rat) : Option (Option (Rat × Rat)) :=
  if b = 0 then (if lo ≤ a ∧ a ≤ hi then some none else none)
  else
    let t0 := (lo - a) / b
    let t1 := (hi - a) / b
    some (some (min t0 t1, max t0 t1))

/-- Intersection of parameter intervals. -/
def meet (x y : Option (Option (Rat × Rat))) : Option (Option (Rat × Rat)) :=
  match x, y with
  | none, _ | _, none => none
  | some none, z | z, some none => z
  | some (some (a, b)), some (some (c, d)) => if max a c ≤ min b d then some (some (max a c, min b d)) else none

/-- A line meets a plane layer (R176): it is not within 10^−6 of parallel, and 0 ≤ u < 1, 0 ≤ v < 1 at the crossing. -/
def meetsPlane (r : RayLine) (origin au av : Vec) : Bool :=
  let n := au.cross av
  let dn := r.d.dot n
  if dn * dn * 1000000000000 < r.d.sq * n.sq ∨ dn = 0 then false else
  let t := (origin.sub r.o).dot n / dn
  let x := (r.o.add (r.d.scale t)).sub origin
  let (u, v, _) := coords au av n x
  0 ≤ u && u < 1 && 0 ≤ v && v < 1

/-- A line meets the volume of a depth map (R182): its parallelogram swept along NORMAL between two offsets. -/
def meetsVolume (r : RayLine) (origin au av normal : Vec) (lo hi : Rat) : Bool :=
  let a := coords au av normal (r.o.sub origin)
  let b := coords au av normal r.d
  (meet (slab a.1 b.1 0 1) (meet (slab a.2.1 b.2.1 0 1) (slab a.2.2 b.2.2 lo hi))).isSome

/-- A line meets a box. -/
def meetsBox (r : RayLine) (lo hi : Vec) : Bool :=
  (meet (slab r.o.x r.d.x lo.x hi.x) (meet (slab r.o.y r.d.y lo.y hi.y) (slab r.o.z r.d.z lo.z hi.z))).isSome

/-- A parallelogram of wall or scene space: corner and two extents. -/
structure Para where
  o : Vec
  u : Vec
  v : Vec
deriving DecidableEq, Repr

/-- The part of a compose layer's rectangle that a texel rectangle covers. -/
def Para.part (a : Para) (w h x y rw rh : Nat) : Para :=
  ⟨(a.o.add (a.u.scale ((x : Rat) / w))).add (a.v.scale ((y : Rat) / h)), a.u.scale ((rw : Rat) / w), a.v.scale ((rh : Rat) / h)⟩

/-- Placed rectangle of a COMPOSE.LAYER payload under placement 0 (R205). -/
def layerPara (place : Placing) (p : List Byte) : Para :=
  let o := vecAt p 24
  let u := vecAt p 36
  let v := vecAt p 48
  if bitOf (u8 p 1) 2 then ⟨o, u, v⟩ else ⟨place.point o, (place.rot u).scale place.scale, (place.rot v).scale place.scale⟩

/-- Kerfs of a stand whose bundle meets a placed rectangle (R182, R206, R211). -/
def kerfsMeeting (c : Settings) (t : StandCfg) (hit : RayLine → Bool) : List Nat :=
  (List.range 8192).filter fun k => (kerfRays c t k).any hit

end Sys2Proof.Machine
end

