-- ==== Sys2Proof/Machine/Compose.lean ====
section
/-! DEFINITION. Placing and binding the scene, lift parameters, compose layers, updates, watermarks and the 2D engine
(R170, R172, R173, R197, R199, R203 to R221): SCENE.* and COMPOSE.*. -/

namespace Sys2Proof.Machine

/-! ### Scene placement, binding, lift -/

/-- The first payload offset of a list whose binary32 is not finite. -/
def notFinite (p : List Byte) (offs : List Nat) : List Err :=
  match offs.find? fun o => (f32 (u32 p o)).isNone with
  | some o => [{ status := stBadField, field := 16 + o }]
  | none => []

/-- A binary32 field outside a range. -/
def f32Out (p : List Byte) (o : Nat) (lo hi : Rat) : Bool := f32At p o < lo || hi < f32At p o

/-- SCENE.PLACE (R170) (DEDUCED, log entry 53). -/
def scenePlace : CmdDef where
  opcode := 0x0502
  kind := .stageable
  lenOk := lenIs 96
  checks _ c :=
    let p := c.payload
    let qn := f32At p 8 ^ 2 + (vecAt p 12).sq
    let above (a b : Vec) : Bool := a.x < b.x && a.y < b.y && a.z < b.z
    let dflt := vecAt p 60 == ⟨0, 0, 0⟩ && vecAt p 72 == ⟨0, 0, 0⟩
    chkP (3 < u8 p 0) stBadField 0 ++ rsvBits p 1 0xFE ++ chkP (u8 p 0 != 0 && !bitOf (u8 p 1) 0) stBadField 1 ++
    rsvBytes p 2 4 ++
    notFinite p ((List.range (if u8 p 0 = 0 then 21 else 20)).map fun i => 4 + 4 * i) ++
    chkP (f32Out p 4 (1 / 1000) 1000) stBadField 4 ++
    chkP (qn < (999 / 1000 : Rat) ^ 2 || (1001 / 1000 : Rat) ^ 2 < qn) stBadField 8 ++
    chkP (bitOf (u8 p 1) 0 && !above (vecAt p 36) (vecAt p 48)) stBadField 48 ++
    chkP (!dflt && f32At p 68 ≤ 0) stBadField 60 ++
    chkP (!dflt && !above (vecAt p 60) (vecAt p 72)) stBadField 72 ++
    chkP (u8 p 0 = 0 && f32At p 84 != 0 && f32Out p 84 1 10000) stBadField 84 ++ rsvBytes p 88 96
  apply p c := { c with places := upd c.places (u8 p 0) fun _ => p }

/-- The roles a SCENE.BIND names: payload offset, stream, formats that may fill it, placement it needs. -/
def bindRoles (p : List Byte) : List (Nat × Nat × List Nat × Option Nat) :=
  [(0, u8 p 0, [1], none), (1, u8 p 1, [2], none), (2, u8 p 2, [3, 4, 5], none),
   (4, u8 p 4, [1], some 1), (8, u8 p 8, [1], some 2), (12, u8 p 12, [1], some 3)]

/-- SCENE.BIND (R172, R173). -/
def sceneBind : CmdDef where
  opcode := 0x0501
  kind := .stageable
  lenOk := lenIs 32
  checks _ c :=
    let p := c.payload
    (bindRoles p).flatMap (fun r => chkP (7 < r.2.1 && r.2.1 != 0xFF) stBadField r.1) ++
    rsvBytes p 3 4 ++ rsvBytes p 5 8 ++ rsvBytes p 9 12 ++ rsvBytes p 13 32
  validate _ _ _ _ fin p :=
    let roles := (bindRoles p).filter fun r => r.2.1 != 0xFF
    roles.flatMap fun r =>
      match fin.streams.getD r.2.1 none with
      | none => chkP true stNoResource r.1
      | some o =>
        chkP (!r.2.2.1.contains o.format) stBadField r.1 ++
        chkP ((roles.filter fun q => q.2.1 == r.2.1 && q.1 < r.1).length != 0) stBadField r.1 ++
        chkP (r.2.2.2.any fun i => fin.places.getD i [] == []) stBadField r.1
  apply p c := { c with bind := p }
  -- the roles name the streams that are open now, whatever closed before (R173)
  effect _ _ _ _ s := { s with ingest := { s.ingest with unbind := [] } }

/-- Role bytes of SCENE.BIND: offsets of NATIVE, VIEW, LIFT and the insets. -/
def bindOffs : List Nat := [0, 1, 2, 4, 8, 12]

/-- Roles of streams that closed, and of slots that are not open, read 0xFF (R173). -/
def Settings.unbind (c : Settings) (closed : List Nat) : Settings :=
  { c with bind := bindOffs.foldl (fun b o =>
      let n := u8 b o
      if n ≠ 0xFF ∧ ((c.streams.getD n none).isNone ∨ closed.contains n) then b.set o 0xFF else b) c.bind }

/-- Stream of the primary scene in a mode, where one is bound (R174). -/
def Settings.primary (c : Settings) (mode : Nat) : Option Nat :=
  let n := match mode with | 2 => u8 c.bind 0 | 3 => u8 c.bind 1 | 4 => u8 c.bind 2 | _ => 0xFF
  if n = 0xFF then none else some n

/-- Stream of inset `i`, 0 to 2, where one is bound. -/
def Settings.inset (c : Settings) (i : Nat) : Option Nat :=
  let n := u8 c.bind (4 + 4 * i)
  if n = 0xFF then none else some n

/-- SCENE.LIFT (R197). -/
def sceneLift : CmdDef where
  opcode := 0x0503
  kind := .stageable
  lenOk := lenIs 32
  checks _ c :=
    let p := c.payload
    let dfltOr (o : Nat) (lo hi : Rat) : Bool := f32At p o != 0 && f32Out p o lo hi
    rsvBits p 0 0xF8 ++ chkP (8 < u8 p 1) stBadField 1 ++
    chkP (u16 p 2 != 0 && (u16 p 2 < 16 || 512 < u16 p 2)) stBadField 2 ++
    notFinite p [4, 8, 12, 16, 20, 24] ++
    chkP (f32Out p 4 (1 / 10) 100) stBadField 4 ++ chkP (dfltOr 8 (1 / 2) 50) stBadField 8 ++
    chkP (dfltOr 12 (1 / 20) (2 / 25)) stBadField 12 ++
    chkP (f32Out p 16 0 4) stBadField 16 ++ chkP (f32Out p 20 0 100) stBadField 20 ++
    chkP (f32Out p 24 0 100) stBadField 24 ++ chkP (f32At p 20 + f32At p 24 < 1 / 1000) stBadField 20 ++
    chkP (u16 p 28 != 0 && 64 < u16 p 28) stBadField 28 ++ rsvBytes p 30 32
  apply p c := { c with lift := p }

/-- Relief offset of a disparity (R199), every quantity in scene metres but d, in pixels. -/
def liftOffset (d eyeWidth screenW viewDist eyeSep gain near far : Rat) : Rat :=
  let x := d * screenW / eyeWidth
  let o := if x < eyeSep then -(gain * viewDist * x / (eyeSep - x)) else -far
  max (-far) (min near o)

/-! ### Surfaces -/

/-- Bytes per texel of a format (R215). -/
def bpp : Nat → Nat
  | 2 => 8
  | 3 => 1
  | _ => 4

/-- The bytes [lo, hi) lie in the compose surface region or the free region of one die (R46, R204, R217). -/
def drawable (lo hi : Nat) : Bool :=
  let gib := 0x40000000
  let off := lo % (64 * gib)
  let n := hi - lo
  hi ≤ 128 * gib && ((43 * gib ≤ off && off + n ≤ 47 * gib) || (52 * gib ≤ off && off + n ≤ 64 * gib))

/-- PITCH rule (R215). -/
def pitchBad (pitch : Nat) : Bool := pitch = 0 || pitch % 256 != 0 || 262144 < pitch

/-! ### Compose layers (R203, R204) -/

/-- Last byte plus one of a surface. -/
def surfaceEnd (base pitch w h bytes : Nat) : Nat := base + pitch * (h - 1) + w * bytes

/-- COMPOSE.LAYER (R203, R204, R206). -/
def composeLayer : CmdDef where
  opcode := 0x0601
  kind := .stageable
  lenOk := lenIs 64
  checks _ c :=
    let p := c.payload
    let on := bitOf (u8 p 1) 0
    let w := u16 p 4
    let h := u16 p 6
    let au := vecAt p 36
    let av := vecAt p 48
    let x := au.cross av
    let lenBad (v : Vec) : Bool := v.sq < 1 / 100000000 || 1000000 < v.sq
    chkP (7 < u8 p 0) stBadField 0 ++ rsvBits p 1 0xF8 ++ rsvBytes p 62 64 ++
    (if !on then [] else
      chkP (3 < u8 p 2) stBadField 2 ++ chkP (2 < u8 p 3 || ((u8 p 3 == 2) != (u8 p 2 == 2))) stBadField 3 ++
      chkP (w = 0 || 16384 < w) stBadField 4 ++ chkP (h = 0 || 16384 < h) stBadField 6 ++
      chkP (u64 p 8 % 256 != 0 || !drawable (u64 p 8) (surfaceEnd (u64 p 8) (u32 p 16) w h (bpp (u8 p 2)))) stBadField 8 ++
      chkP (pitchBad (u32 p 16) || u32 p 16 < w * bpp (u8 p 2)) stBadField 16 ++
      chkP (u8 p 2 = 3 && bitsOf (u32 p 20) 31 30 != 0) stReserved 23 ++
      chkP (u8 p 2 != 3 && u32 p 20 != 0) stBadField 20 ++
      notFinite p ((List.range 9).map fun i => 24 + 4 * i) ++
      chkP (lenBad au) stBadField 36 ++ chkP (lenBad av) stBadField 48 ++
      chkP (x.sq < (1 / 10000 : Rat) * au.sq * av.sq) stBadField 48 ++ chkP (4096 < u16 p 60) stBadField 60)
  apply p c := { c with layers := upd c.layers (u8 p 0) fun _ => if bitOf (u8 p 1) 0 then p else [] }
  effect old p _ _ s :=
    let n := u8 p 0
    let seq := if s.compose.updateSeq = 0xFFFFFFFF then 1 else s.compose.updateSeq + 1
    let u : Update := { seq := seq, layer := n, region := 15, whole := true, oldRect := old.layers.getD n [] }
    { s with compose := { s.compose with
        updates := s.compose.updates ++ [u], updateSeq := seq
        layers := upd s.compose.layers n fun _ =>
          { payload := if bitOf (u8 p 1) 0 then p else [], base := u64 p 8 } } }

/-! ### Updates (R207 to R211) -/

/-- Surface size of a layer. -/
def LayerState.w (l : LayerState) : Nat := u16 l.payload 4
def LayerState.h (l : LayerState) : Nat := u16 l.payload 6

/-- NEW_BASE or WHOLE. -/
def updWhole (p : List Byte) : Bool := u8 p 2 % 4 != 0

/-- Rectangle of an update on a surface of a size: the whole of it under WHOLE or NEW_BASE (R207). -/
def Update.rect (u : Update) (w h : Nat) : Nat × Nat × Nat × Nat := if u.whole then (0, 0, w, h) else (u.x, u.y, u.w, u.h)

/-- The new rectangle contains an earlier update's, or the new update is WHOLE or NEW_BASE (R210). -/
def Update.contains (new old : Update) (w h : Nat) : Bool :=
  let a := new.rect w h
  let b := old.rect w h
  new.whole || (a.1 ≤ b.1 && a.2.1 ≤ b.2.1 && b.1 + b.2.2.1 ≤ a.1 + a.2.2.1 && b.2.1 + b.2.2.2 ≤ a.2.1 + a.2.2.2)

/-- The update a COMPOSE.UPDATE payload makes. -/
def updateOf (p : List Byte) (seq behind : Nat) : Update :=
  { seq := seq, layer := u8 p 0, region := u8 p 1, whole := updWhole p, newBase := if bitOf (u8 p 2) 0 then some (u64 p 16) else none,
    x := u16 p 4, y := u16 p 6, w := u16 p 8, h := u16 p 10, afterBlit := u32 p 12, behind := behind }

/-- Updates pending or running: those complete by now, every kerf they touch written, no more (R209). -/
def State.openUpdates (s : State) : List Update :=
  s.compose.updates.filter fun u => !(u.running && u.kerfs.all s.synth.window.done.contains)

/-- SEQ of the latest running update of the same layer and region, or 0 (R210). -/
def State.runningSeq (s : State) (layer region : Nat) : Nat :=
  (((s.openUpdates.filter fun u => u.running && u.layer == layer && u.region == region).map (·.seq)).getLast?).getD 0

/-- COMPOSE.UPDATE (R207, R208, R210). -/
def composeUpdate : CmdDef where
  opcode := 0x0602
  kind := .immediate
  lenOk := lenIs 32
  checks s c :=
    let p := c.payload
    let whole := updWhole p
    let rect := u16 p 4 != 0 || u16 p 6 != 0 || u16 p 8 != 0 || u16 p 10 != 0
    let l := s.compose.layers.getD (u8 p 0) {}
    let lp := s.settings.layers.getD (u8 p 0) []
    chkP (7 < u8 p 0) stBadField 0 ++ chkP (14 < u8 p 1) stBadField 1 ++ rsvBits p 2 0xFC ++ rsvBytes p 3 4 ++
    chkP (whole && rect) stBadField 4 ++
    chkP (!whole && (u16 p 8 = 0 || 16384 < u16 p 8)) stBadField 8 ++
    chkP (!whole && (u16 p 10 = 0 || 16384 < u16 p 10)) stBadField 10 ++
    chkP (!whole && lp != [] && (l.w < u16 p 4 + u16 p 8 || l.h < u16 p 6 + u16 p 10)) stBadField 4 ++
    chkP (s.compose.blitSeq < u32 p 12) stBadField 12 ++
    chkP (if bitOf (u8 p 2) 0 then
        lp != [] && (u64 p 16 % 256 != 0 || !drawable (u64 p 16) (surfaceEnd (u64 p 16) (u32 lp 16) l.w l.h (bpp (u8 lp 2))))
      else u64 p 16 != 0) stBadField 16 ++
    rsvBytes p 24 32 ++
    chkP (lp = []) stNoResource 0 ++ chk (256 ≤ s.openUpdates.length) stBusy
  run s c :=
    let p := c.payload
    let seq := if s.compose.updateSeq = 0xFFFFFFFF then 1 else s.compose.updateSeq + 1
    let new := updateOf p seq (s.runningSeq (u8 p 0) (u8 p 1))
    let l := s.compose.layers.getD (u8 p 0) {}
    let old := s.compose.updates.filter fun u => !u.running && u.layer == new.layer && u.region == new.region && new.contains u l.w l.h
    let keep := s.compose.updates.filter fun u => !(old.any fun o => o.seq == u.seq)
    let s := { s with compose := { s.compose with updates := keep ++ [new], updateSeq := seq } }
    let s := old.foldl (fun s _ => s.raise evUpdateSuperseded new.layer [new.region] c.tag) s
    .done s (le 4 seq ++ le 4 new.behind) 0

/-! ### Watermarks (R213, R214) -/

/-- A watermark is past: the front of its window exceeds ROW, or its window has ended. -/
def State.watermarkDue (s : State) (w : Watermark) : Bool :=
  let win := s.synth.window
  w.window < win.num || (w.window == win.num && (win.beyond || w.row < win.front))

/-- Fires every watermark that is due: EV_WATERMARK with ROW and the arming command's TAG (DEDUCED, log entry 95). -/
def State.fireWatermarks (s : State) : State :=
  let due := s.compose.watermarks.filter s.watermarkDue
  let s' := { s with compose := { s.compose with watermarks := s.compose.watermarks.filter fun w => !s.watermarkDue w } }
  due.foldl (fun s w => s.raise evWatermark noUnit [w.row] w.tag) s'

/-- COMPOSE.WATERMARK (R213, R214). -/
def composeWatermark : CmdDef where
  opcode := 0x0604
  kind := .immediate
  lenOk := lenIs 8
  checks s c :=
    rsvBits c.payload 4 0xFE ++ rsvBytes c.payload 5 8 ++ chk (16 ≤ s.compose.watermarks.length) stBusy
  run s c :=
    let w : Watermark := { row := u32 c.payload 0, tag := c.tag, window := s.synth.window.num + b2n (bitOf (u8 c.payload 4) 0) }
    let s := { s with compose := { s.compose with watermarks := s.compose.watermarks ++ [w] } }
    .done s.fireWatermarks [] 0

/-! ### The 2D engine (R215 to R221) -/

/-- One rectangle of an operation. -/
structure Rect where
  base : Nat
  pitch : Nat
  x : Nat
  y : Nat
  w : Nat
  h : Nat
  bytes : Nat
deriving DecidableEq, Repr

def blitOp (p : List Byte) : Nat := u8 p 0
def blitDst (p : List Byte) : Rect := ⟨u64 p 8, u32 p 16, u16 p 20, u16 p 22, u16 p 4, u16 p 6, bpp (u8 p 2)⟩
def blitSrc (p : List Byte) : Rect := ⟨u64 p 24, u32 p 32, u16 p 36, u16 p 38, u16 p 4, u16 p 6, bpp (u8 p 3)⟩

/-- Address of texel (i, j) of a rectangle. -/
def Rect.addr (r : Rect) (i j : Nat) : Nat := r.base + (r.y + j) * r.pitch + (r.x + i) * r.bytes
/-- First byte, and last byte plus one. -/
def Rect.lo (r : Rect) : Nat := r.addr 0 0
def Rect.hi (r : Rect) : Nat := r.addr (r.w - 1) (r.h - 1) + r.bytes

/-- The rectangle, measured from the lower base, stays within one pitch per row (R219). -/
def Rect.inPitchFrom (r : Rect) (low : Nat) : Bool := (r.base - low) % r.pitch + (r.x + r.w) * r.bytes ≤ r.pitch

/-- The byte spans overlap: one surface, the only case in which R219's rule on one surface named through different bases is judged (R219)
(DEDUCED, log entry 160). -/
def overlaps (a b : Rect) : Bool := a.lo < b.hi && b.lo < a.hi

/-- An aliased pair R219 refuses. -/
def aliasBad (d s : Rect) (df sf : Nat) : Bool :=
  overlaps d s && (d.pitch != s.pitch || df != sf || (max d.base s.base - min d.base s.base) % d.bytes != 0 ||
    !(d.inPitchFrom (min d.base s.base)) || !(s.inPitchFrom (min d.base s.base)))

/-- Checks of one rectangle at payload offsets (base, pitch, x). -/
def rectErrs (r : Rect) (ob op ox : Nat) : List Err :=
  chkP (r.base % 256 != 0 || !drawable r.lo r.hi) stBadField ob ++ chkP (pitchBad r.pitch) stBadField op ++
  chkP (r.pitch < (r.x + r.w) * r.bytes) stBadField ox

/-- COMPOSE.BLIT (R216, R217); the operation in progress counts among the 64 and in QUEUE_FREE (DEDUCED, log entry 159). -/
def composeBlit : CmdDef where
  opcode := 0x0603
  kind := .immediate
  lenOk := lenIs 64
  checks s c :=
    let p := c.payload
    let op := blitOp p
    let d := blitDst p
    let r := blitSrc p
    chkP (op = 0 || 3 < op) stBadField 0 ++ rsvBits p 1 0xFC ++ chkP (3 < u8 p 2) stBadField 2 ++
    chkP (if op = 2 then u8 p 3 != 0 else 3 < u8 p 3 || (op = 1 && u8 p 3 != u8 p 2) || (op = 3 && u8 p 2 = 3 && u8 p 3 != 3)) stBadField 3 ++
    chkP (d.w = 0 || 16384 < d.w) stBadField 4 ++ chkP (d.h = 0 || 16384 < d.h) stBadField 6 ++
    rectErrs d 8 16 20 ++
    (if op = 2 then chkP (u64 p 24 != 0) stBadField 24 ++ chkP (u32 p 32 != 0) stBadField 32
     else rectErrs r 24 32 36 ++ chkP (aliasBad d r (u8 p 2) (u8 p 3)) stBadField 24) ++
    chkP (4096 < u16 p 48) stBadField 48 ++ rsvBytes p 50 64 ++
    chk (s.modes.mode = 0 || s.modes.mode = 1) stBadMode ++ chk (64 ≤ s.compose.blits.length) stBusy ++
    chk (s.regionRetired 7 0) stNoResource ++ chk (s.regionOut 7 0 && !s.regionRetired 7 0) stFenced
  run s c :=
    let seq := if s.compose.blitSeq = 0xFFFFFFFF then 1 else s.compose.blitSeq + 1
    let start := if s.compose.blits = [] then s.clock.up else s.compose.blitStart
    let s := { s with compose := { s.compose with
        blits := s.compose.blits ++ [{ seq := seq, payload := c.payload, tag := c.tag }], blitSeq := seq, blitStart := start, blitFrom := if s.compose.blits = [] then 0 else s.compose.blitFrom } }
    .done s (le 4 seq ++ le 2 (64 - s.compose.blits.length) ++ zeros 2) 0

/-- Time that moving some bytes of an operation takes, in 1/3 ns (R221). -/
def blitMove (p : List Byte) (bytes : Nat) : Nat :=
  let east := 64 * 0x40000000 ≤ (blitDst p).base || (blitOp p != 2 && 64 * 0x40000000 ≤ (blitSrc p).base)
  let move := if east then 3 * bytes / 32 else bytes / 16
  if blitOp p = 3 then 2 * move else move

/-- Bursts of a destination row: at most 4 KiB each (R221). -/
def blitRowBursts (p : List Byte) : Nat := ((blitDst p).w * (blitDst p).bytes + 4095) / 4096

/-- Bursts of an operation. -/
def blitBursts (p : List Byte) : Nat := (blitDst p).h * blitRowBursts p

/-- Destination bytes of the first `n` bursts. -/
def blitBytes (p : List Byte) (n : Nat) : Nat :=
  let row := (blitDst p).w * (blitDst p).bytes
  let per := max 1 (blitRowBursts p)
  n / per * row + min row (n % per * 4096)

/-- Time of the bursts from one on up to another, each followed by the dead time (R221) (DEDUCED, log entry 27). -/
def blitSpan (p : List Byte) (deadNs a b : Nat) : Nat := blitMove p (blitBytes p b) - blitMove p (blitBytes p a) + (b - a) * ns deadNs

/-- Time of the bursts of one operation that are left from one on. -/
def blitTime (p : List Byte) (deadNs : Nat) (first : Nat := 0) : Nat := blitSpan p deadNs first (blitBursts p)

/-- A new dead time (R221): the burst under way finishes, and the engine idles for the new time after it. -/
def Compose.newDeadtime (c : Compose) (deadNs now : Nat) : Compose :=
  let c' := { c with deadtimeNs := deadNs }
  match c.blits with
  | [] => c'
  | b :: _ =>
    let p := b.payload
    -- bursts that have started: those counted whose start lies no later than now
    let n := ((span (c.blitFrom + 1) (blitBursts p)).filter fun k => c.blitStart + blitSpan p c.deadtimeNs c.blitFrom k ≤ now).length
    let next := c.blitFrom + n + 1
    let over' := c.blitStart + blitSpan p c.deadtimeNs c.blitFrom next - ns c.deadtimeNs
    { c' with blitFrom := next, blitStart := max now (over' + ns deadNs) }

/-- COMPOSE.DEADTIME (R221). -/
def composeDeadtime : CmdDef where
  opcode := 0x0605
  kind := .stageable
  lenOk := lenIs 8
  checks _ c := chkP (4095 < u16 c.payload 0) stBadField 0 ++ rsvBytes c.payload 2 8
  apply p c := { c with deadtimeNs := u16 p 0 }
  effect _ p _ _ s := { s with compose := s.compose.newDeadtime (u16 p 0) s.clock.up }

/-- Bytes of a rectangle, row by row. -/
def readRect (m : List Host.Cell) (r : Rect) : List (List Byte) :=
  (List.range r.h).map fun j => Mem.reads m (r.addr 0 j) (r.w * r.bytes)

/-- Writes rows into a rectangle. -/
def writeRect (m : List Host.Cell) (r : Rect) (rows : List (List Byte)) : List Host.Cell :=
  (rows.zipIdx).foldl (fun m e => Mem.writes m (r.addr 0 e.2) e.1) m

/-- The value of a binary16; none for an infinity or not a number. -/
def f16 (v : Nat) : Option Rat :=
  let e := bitsOf v 14 10
  let m := v % 1024
  let mag : Rat := if e = 0 then (m : Rat) / 2 ^ 24 else ((m + 1024 : Nat) : Rat) * 2 ^ e / 2 ^ 25
  if e = 31 then none else some (if bitOf v 15 then -mag else mag)

/-- Nearest integer to a non-negative rational, ties to even. -/
def roundEven (x : Rat) : Nat :=
  let f := x.floor.toNat
  let r := x - f
  if r < 1 / 2 then f else if 1 / 2 < r then f + 1 else if f % 2 = 0 then f else f + 1

/-- Exponent of the binary16 that holds a magnitude: the least e from 1 with x < 2^(e − 14). -/
def f16Exp (x : Rat) : Nat := ((List.range 30).find? fun e => x < (2 : Rat) ^ (e + 1) / 2 ^ 14).getD 30

/-- A rational rounded to binary16, nearest even (R218); beyond the largest value, infinity. -/
def toF16 (x : Rat) : Nat :=
  let mag := |x|
  let e := f16Exp mag      -- 0: below 2^-13, one binade of step 2^-24
  let bits := if e = 0 then roundEven (mag * 2 ^ 24) else
    (e * 1024 + roundEven (mag * 2 ^ 24 / 2 ^ e) )
  (if x < 0 then 0x8000 else 0) + min bits 0x7C00

/-- Rounds to an unorm of a maximum, halves up, clamped (R218). -/
def toUnorm (maxv : Nat) (x : Rat) : Nat := (clampI 0 maxv ((x * maxv + 1 / 2).floor)).toNat

/-- A channel value: exact, or a binary16 pattern without a finite value. -/
inductive Chan where
  | val (x : Rat)
  | special (bits : Nat)
deriving DecidableEq, Repr

/-- Channels R, G, B, A of a texel of a format (R215), normalised. -/
def texel (format : Nat) (b : List Byte) : List Chan :=
  let v := u32 b 0
  match format with
  | 0 => [.val (bitsOf v 23 16 / 255), .val (bitsOf v 15 8 / 255), .val (bitsOf v 7 0 / 255), .val (bitsOf v 31 24 / 255)]
  | 1 => [.val (bitsOf v 29 20 / 1023), .val (bitsOf v 19 10 / 1023), .val (bitsOf v 9 0 / 1023), .val (bitsOf v 31 30 / 3)]
  | 2 => (List.range 4).map fun i => match f16 (u16 b (2 * i)) with | some x => .val x | none => .special (u16 b (2 * i))
  | _ => [.val 0, .val 0, .val 0, .val (u8 b 0 / 255)]

/-- A channel value as binary16 arithmetic has it: exact, an infinity by its sign, not a number. -/
inductive Ext where
  | fin (x : Rat)
  | inf (neg : Bool)
  | nan
deriving DecidableEq, Repr

def Chan.ext : Chan → Ext
  | .val x => .fin x
  | .special b => if b % 0x400 = 0 then .inf (bitOf b 15) else .nan

def Ext.mul : Ext → Ext → Ext
  | .fin x, .fin y => .fin (x * y)
  | .inf n, .fin x | .fin x, .inf n => if x = 0 then .nan else .inf (n != decide (x < 0))
  | .inf n, .inf m => .inf (n != m)
  | _, _ => .nan

def Ext.add : Ext → Ext → Ext
  | .fin x, .fin y => .fin (x + y)
  | .inf n, .fin _ | .fin _, .inf n => .inf n
  | .inf n, .inf m => if n = m then .inf n else .nan
  | _, _ => .nan

/-- One blended channel: D′ = S × g + D × (1 − Sα × g) (R218); infinities by the arithmetic of IEEE 754, and what is not a number is free
(DESIGN CHOICE, log entry 26). -/
def blendChan (g : Rat) (sa s d : Chan) : Chan :=
  let k := (Ext.fin 1).add ((Ext.fin (-1)).mul (sa.ext.mul (.fin g)))
  match (s.ext.mul (.fin g)).add (d.ext.mul k) with
  | .fin x => .val x
  | .inf n => .special (0x7C00 + 0x8000 * b2n n)
  | .nan =>
    let bits (c : Chan) : Nat := match c with | .val x => toF16 x | .special b => b
    .special (0x7C00 + Config.blendSpecial (bits s) (bits d) (toF16 g) % 0x3FF + 1)

/-- Code of a channel in a unorm of a maximum (R218): halves up, clamped; what is not a number is free (DESIGN CHOICE, log entry 26). -/
def Chan.unorm (c : Chan) (maxv : Nat) : Nat :=
  match c.ext, c with
  | .fin x, _ => toUnorm maxv x
  | .inf n, _ => if n then 0 else maxv
  | .nan, .special b => Config.unormNan b maxv % (maxv + 1)
  | .nan, .val _ => 0

/-- Bytes of a texel of a format from its channels. -/
def fromChans (format : Nat) (c : List Chan) : List Byte :=
  let ch (i maxv : Nat) : Nat := (c.getD i (.val 0)).unorm maxv
  match format with
  | 0 => le 4 (ch 3 255 * 0x1000000 + ch 0 255 * 0x10000 + ch 1 255 * 0x100 + ch 2 255)
  | 1 => le 4 (ch 3 3 * 0x40000000 + ch 0 1023 * 0x100000 + ch 1 1023 * 0x400 + ch 2 1023)
  | 2 => (List.range 4).flatMap fun i => le 2 (match c.getD i (.val 0) with | .val x => toF16 x | .special b => b)
  | _ => le 1 (ch 3 255)

/-- Source texel of a BLEND: an A8 source is COLOUR × Sα with alpha Sα. -/
def blendSource (p src : List Byte) : List Chan :=
  if u8 p 3 = 3 then
    let a : Rat := u8 src 0 / 255
    let col := texel (u8 p 2) (slice p 40 8)
    (col.take 3).map (fun c => blendChan a (.val 0) c (.val 0)) ++ [.val a]
  else texel (u8 p 3) src

/-- GLOBAL_ALPHA as a factor. -/
def blitGain (p : List Byte) : Rat := if bitOf (u8 p 1) 1 then (u16 p 48 : Rat) / 4096 else 1

/-- One blended texel (DESIGN CHOICE, log entry 26). -/
def blendTexel (p src dst : List Byte) : List Byte :=
  let s := blendSource p src
  let d := texel (u8 p 2) dst
  let sa := s.getD 3 (.val 0)
  fromChans (u8 p 2) ((List.range 4).map fun i => blendChan (blitGain p) sa (s.getD i (.val 0)) (d.getD i (.val 0)))

/-- One blended row. -/
def blendRow (p src dst : List Byte) : List Byte :=
  (List.range (u16 p 4)).flatMap fun i =>
    blendTexel p (slice src (i * bpp (u8 p 3)) (bpp (u8 p 3))) (slice dst (i * bpp (u8 p 2)) (bpp (u8 p 2)))

/-- The frame store after one whole operation (R218, R219): the result equals reading the whole source first. -/
def blitMem (m : List Host.Cell) (p : List Byte) : List Host.Cell :=
  let d := blitDst p
  match blitOp p with
  | 1 => writeRect m d (readRect m (blitSrc p))
  | 2 => writeRect m d (List.replicate d.h ((List.range d.w).flatMap fun _ => slice p 40 d.bytes))
  | _ => writeRect m d (((readRect m (blitSrc p)).zip (readRect m d)).map fun e => blendRow p e.1 e.2)

/-- The running operation completes (R220): its writes, which appear with its end alone, so that a discarded one has written nothing
(DEDUCED, log entry 161), the sequence numbers, EV_BLIT_DONE for NOTIFY; the next starts. -/
def State.blitComplete (s : State) : State :=
  match s.compose.blits with
  | [] => s
  | b :: rest =>
    let n := s.compose.blitsSince + 1
    let notify := bitOf (u8 b.payload 1) 0
    let s := { s with
      fs := { s.fs with mem := blitMem s.fs.mem b.payload }
      compose := { s.compose with blits := rest, blitDone := b.seq, blitStart := s.clock.up, blitFrom := 0, blitsSince := if notify then 0 else n } }
    if notify then s.raise evBlitDone noUnit [n] b.tag else s

/-- A fenced engine discards its queue; updates that wait on a discarded blit may latch (R220). -/
def State.blitDiscard (s : State) : State :=
  { s with compose := { s.compose with blits := [], blitDone := s.compose.blitSeq } }

end Sys2Proof.Machine
end

