-- ==== Sys2Proof/Machine/Reals.lean ====
section
/-! DEFINITION. Roots, logarithms and powers as rationals: the spec's geometry and curves use them, and R179 lets a written code
differ by 1 from the exact one.  Each value is cut to 48 binary places (DESIGN CHOICE, log entry 118). -/

namespace Sys2Proof.Machine

/-- Largest r' ≥ r with r'² ≤ x that adds powers of two below 2^b to r. -/
def sqrtBits : Nat → Nat → Nat → Nat
  | 0, _, r => r
  | b + 1, x, r => sqrtBits b x (if (r + 2 ^ b) * (r + 2 ^ b) ≤ x then r + 2 ^ b else r)

/-- Square root of a natural number, rounded down. -/
def sqrtNat (x : Nat) : Nat := sqrtBits (x.log2 / 2 + 1) x 0

/-- A rational cut to 48 binary places. -/
def cut48 (x : Rat) : Rat := ((x * 2 ^ 48).floor : Rat) / 2 ^ 48

/-- Square root; 0 below 0 (DESIGN CHOICE, log entry 118). -/
def sqrtR (x : Rat) : Rat := (sqrtNat (x * 2 ^ 96).floor.toNat : Rat) / 2 ^ 48

/-- A whole power of two. -/
def pow2 (n : Int) : Rat := if 0 ≤ n then 2 ^ n.toNat else 1 / 2 ^ (-n).toNat

/-- floor(log2 x) for 0 < x, between −128 and 127. -/
def log2Floor (x : Rat) : Int :=
  let n : Nat := (List.range 256).foldl (fun (best k : Nat) => if pow2 ((k : Int) - 128) ≤ x then k else best) 0
  (n : Int) - 128

/-- Binary places of log2 m for 1 ≤ m < 2, by squaring. -/
def log2Frac : Nat → Rat → Rat → Rat
  | 0, _, _ => 0
  | n + 1, bit, m =>
    let q := cut48 (m * m)
    if 2 ≤ q then bit + log2Frac n (bit / 2) (q / 2) else log2Frac n (bit / 2) q

/-- log2 of a positive rational, to 40 binary places (DESIGN CHOICE, log entry 118). -/
def log2R (x : Rat) : Rat := let e := log2Floor x; (e : Rat) + log2Frac 40 (1 / 2) (x / pow2 e)

/-- ln 2. -/
def ln2 : Rat := 6931471805599453 / 10000000000000000

/-- Σ yⁿ/n! from a term on, `n` terms more. -/
def expTerms : Nat → Rat → Rat → Rat → Rat
  | 0, _, _, _ => 0
  | n + 1, y, k, term => term + expTerms n y (k + 1) (cut48 (term * y / (k + 1)))

/-- 2^y (DESIGN CHOICE, log entry 118). -/
def exp2R (y : Rat) : Rat := expTerms 18 ((y - y.floor) * ln2) 0 1 * pow2 y.floor

/-- x^y for 0 < x; 0 where x is not positive. -/
def powR (x y : Rat) : Rat := if x ≤ 0 then 0 else exp2R (y * log2R x)

/-- arctan of a ratio below 1, by its series (DESIGN CHOICE, log entry 118). -/
def atanR (r : Rat) : Rat :=
  ((List.range 40).foldl (fun (acc : Rat × Rat) (n : Nat) =>
    (cut48 (acc.1 + (if n % 2 = 0 then acc.2 else -acc.2) / (2 * (n : Rat) + 1)), cut48 (acc.2 * r * r))) (0, r)).1

end Sys2Proof.Machine
end

