-- ==== Sys2Proof/Machine/Scene.lean ====
section
/-! DEFINITION. What a ray meets and takes from the scene (R158 to R162, R176, R177, R180, R196 to R200, R205): colour, depth and
residual planes with their levels, the search in a relief, the curves, compose texels, the lifted scene and the source views.  These are
views of what the decoders and the surfaces hold; the host reads none of them. -/

namespace Sys2Proof.Machine

/-! ### Filtering (R177) -/

/-- A premultiplied colour with its opacity. -/
structure Rgba where
  c : Vec := ⟨0, 0, 0⟩
  a : Rat := 0
deriving DecidableEq, Repr

def Rgba.add (x y : Rgba) : Rgba := ⟨x.c.add y.c, x.a + y.a⟩
def Rgba.scale (k : Rat) (x : Rgba) : Rgba := ⟨x.c.scale k, k * x.a⟩

/-- The two neighbours of a position among `n` samples whose centres lie at i + 1/2, with their weights; beyond the edge the edge
sample stands for both (DESIGN CHOICE, log entry 118). -/
def taps (x : Rat) (n : Nat) : List (Rat × Nat) :=
  let y := x - 1 / 2
  let f := y.floor
  let at' (k : Int) : Nat := (clampI 0 ((n : Int) - 1) k).toNat
  [(1 - (y - f), at' f), (y - f, at' (f + 1))]

/-- Bilinear taps at a position of a w × h picture. -/
def taps2 (x y : Rat) (w h : Nat) : List (Rat × Nat × Nat) :=
  (taps y h).flatMap fun v => (taps x w).map fun u => (u.1 * v.1, u.2, v.2)

/-- Bilinear sample of a number. -/
def bilinear (f : Nat → Nat → Rat) (x y : Rat) (w h : Nat) : Rat :=
  ((taps2 x y w h).map fun t => t.1 * f t.2.1 t.2.2).foldl (· + ·) 0

/-- Bilinear sample of a premultiplied colour. -/
def bilinearC (f : Nat → Nat → Rgba) (x y : Rat) (w h : Nat) : Rgba :=
  (taps2 x y w h).foldl (fun acc t => acc.add ((f t.2.1 t.2.2).scale t.1)) {}

/-- Extent of a level of a picture. -/
def levelDim (n l : Nat) : Nat := max 1 (n / 2 ^ l)

/-- The top level built of a picture: the one of a single texel (DESIGN CHOICE, log entry 118). -/
def topLevel (w h : Nat) : Nat := Nat.log2 (max w h)

/-- Level of detail clamped to 0 and the top level. -/
def clampLevel (lam : Rat) (top : Nat) : Rat := max 0 (min (top : Rat) lam)

/-- Trilinear sample between levels floor(λ) and floor(λ) + 1 of a number; `f` is told the level, `x` and `y` count level-0 samples. -/
def trilinear (f : Nat → Nat → Nat → Rat) (lam x y : Rat) (w h : Nat) : Rat :=
  let l0 := lam.floor.toNat
  let l1 := min (l0 + 1) (topLevel w h)
  let level (l : Nat) : Rat := bilinear (f l) (x / 2 ^ l) (y / 2 ^ l) (levelDim w l) (levelDim h l)
  (1 - (lam - l0)) * level l0 + (lam - l0) * level l1

/-- As `trilinear`, of a premultiplied colour. -/
def trilinearC (f : Nat → Nat → Nat → Rgba) (lam x y : Rat) (w h : Nat) : Rgba :=
  let l0 := lam.floor.toNat
  let l1 := min (l0 + 1) (topLevel w h)
  let level (l : Nat) : Rgba := bilinearC (f l) (x / 2 ^ l) (y / 2 ^ l) (levelDim w l) (levelDim h l)
  ((level l0).scale (1 - (lam - l0))).add ((level l1).scale (lam - l0))

/-! ### Colour (R159, R177) -/

/-- Every component within 0 to 1. -/
def clamp01 (v : Vec) : Vec := ⟨max 0 (min 1 v.x), max 0 (min 1 v.y), max 0 (min 1 v.z)⟩

/-- R'G'B' of a 10-bit Y'CbCr colour under MATRIX and FULL_RANGE (R159), by ITU-R BT.709, BT.2020 and H.273 (PRESUMED, log entry 110). -/
def yccRgb (matrix : Nat) (full : Bool) (y cb cr : Rat) : Vec :=
  let k : Rat × Rat := if matrix = 1 then (2126 / 10000, 722 / 10000) else (2627 / 10000, 593 / 10000)
  let l := if full then y / 1023 else (y - 64) / 876
  let b := if full then (cb - 512) / 1023 else (cb - 512) / 896
  let r := if full then (cr - 512) / 1023 else (cr - 512) / 896
  let red := l + 2 * (1 - k.1) * r
  let blue := l + 2 * (1 - k.2) * b
  clamp01 ⟨red, (l - k.1 * red - k.2 * blue) / (1 - k.1 - k.2), blue⟩

/-- The PQ curve of SMPTE ST 2084, in cd/m² (PRESUMED, log entry 110); above 1, where the curve has no value, the light is free (DESIGN CHOICE, log
entry 118). -/
def pqLight (v : Rat) : Rat :=
  if 1 < v then Config.pqOver v else
  let m1 : Rat := 2610 / 16384
  let m2 : Rat := 2523 / 32
  let c1 : Rat := 3424 / 4096
  let c2 : Rat := 2413 / 128
  let c3 : Rat := 2392 / 128
  let p := powR v (1 / m2)
  10000 * powR (max 0 (p - c1) / (c2 - c3 * p)) (1 / m1)

/-- The inverse HLG OETF of ITU-R BT.2100 (PRESUMED, log entry 110). -/
def hlgScene (v : Rat) : Rat :=
  let a : Rat := 17883277 / 100000000
  let b : Rat := 28466892 / 100000000
  let c : Rat := 55991073 / 100000000
  if v ≤ 1 / 2 then v * v / 3 else (exp2R ((v - c) / a / ln2) + b) / 12

/-- BT.709 primaries to BT.2020 (R177, ITU-R BT.2087) (PRESUMED, log entry 110). -/
def to2020 (v : Vec) : Vec :=
  ⟨(6274 * v.x + 3293 * v.y + 433 * v.z) / 10000, (691 * v.x + 9195 * v.y + 114 * v.z) / 10000, (164 * v.x + 880 * v.y + 8956 * v.z) / 10000⟩

/-- Linearisation under TRANSFER and PRIMARIES (R177): working space, in cd/m².  The OOTF of HLG takes its luminance with the weights of BT.2020,
before BT.709 primaries are converted (DESIGN CHOICE, log entry 155). -/
def linearise (primaries transfer : Nat) (white : Rat) (v : Vec) : Vec :=
  let light : Vec :=
    match transfer with
    | 16 => ⟨pqLight v.x, pqLight v.y, pqLight v.z⟩
    | 18 =>
      let s : Vec := ⟨hlgScene v.x, hlgScene v.y, hlgScene v.z⟩
      let ys := (2627 * s.x + 6780 * s.y + 593 * s.z) / 10000
      s.scale (white * 1000 / 203 * powR ys (1 / 5))
    | _ => ⟨white * powR v.x (12 / 5), white * powR v.y (12 / 5), white * powR v.z (12 / 5)⟩
  if primaries = 1 then to2020 light else light

/-- REF_WHITE of placement 0 (R170, R177). -/
def refWhite (c : Settings) : Rat :=
  let p := c.places.getD 0 []
  if p = [] ∨ f32At p 84 = 0 then 203 else f32At p 84

/-- Premultiplied non-linear colour is divided by α, linearised and multiplied by α again; α = 0 gives 0 (R177). -/
def linearRgba (lin : Vec → Vec) (x : Rgba) : Rgba :=
  if x.a ≤ 0 then {} else ⟨(lin (x.c.scale (1 / x.a))).scale x.a, x.a⟩

/-! ### Planes (R158 to R161) -/

/-- A decoded sample as a 10-bit value (R159). -/
def Plane.sample (p : Plane) (view comp i j : Nat) : Nat :=
  let v := Config.decodedSample p.codec p.aus view comp i j
  if p.bits = 8 then widen8 (v % 256) else v % 1024

/-- A sample of a level of a plane. -/
def Plane.at (p : Plane) (comp l i j : Nat) : Rat :=
  if l = 0 then (p.sample 0 comp i j : Rat) else Config.mipSample p.codec p.aus 0 comp l i j

/-- The plane of a substream; one of no pictures where none was decoded. -/
def Scene.plane (sc : Scene) (sub : Nat) : Plane := (sc.planes.find? fun p => p.sub == sub).getD {}

/-- Slot record of a slot of a scene. -/
def Scene.slot (sc : Scene) (slot : Nat) : List Byte := slotRec sc.seq slot

/-- Substream of plane kind `k` of a slot (R145). -/
def planeSub (slot k : Nat) : Nat := 0x100 * (slot + 1) + k

/-- Colour and alpha of a texel of a level of a slot, premultiplied (R159, R177); without an alpha plane α is 1 and PREMULTIPLIED is
ignored. -/
def Scene.texel (sc : Scene) (slot : Nat) (premultiplied : Bool) (l i j : Nat) : Rgba :=
  let p := sc.plane (planeSub slot 0)
  let rgb := yccRgb (u8 sc.seq 12) (u8 sc.seq 13 == 1) (p.at 0 l i j) (p.at 1 l i j) (p.at 2 l i j)
  if bitOf (slotPlanes (sc.slot slot)) 1 then
    let a := (sc.plane (planeSub slot 1)).at 0 l i j / 1023
    ⟨if premultiplied then rgb else rgb.scale a, a⟩
  else ⟨rgb, 1⟩

/-- Residual coefficient k of colour c at texel coordinates of a slot (R161, R177): the tile of the mosaic, a quarter of the layer each
way, sampled at λ − 2. -/
def Scene.coef (sc : Scene) (slot : Nat) (scale lam x y : Rat) (k c : Nat) : Rat :=
  let r := sc.slot slot
  let p := sc.plane (planeSub slot 4)
  let w := slotW r / 4
  let h := slotH r / 4
  let tile := residualTile (slotArrange r) k c
  let f (l i j : Nat) : Rat :=
    if l = 0 then (p.sample 0 0 (tile.1 * w + i) (tile.2 * h + j) : Rat) else Config.mipSample p.codec p.aus 0 (16 + 3 * k + c) l i j
  (trilinear f (clampLevel (lam - 2) (topLevel w h)) (x / 4) (y / 4) w h - 512) / 512 * scale

/-- Unit vector along a vector (R168, R162). -/
def Vec.unit (v : Vec) : Vec := v.scale (1 / sqrtR v.sq)

/-- A direction in the layer frame e1, e2, e3 (R162). -/
def inLayerFrame (au av normal d : Vec) : Vec :=
  let x := au.cross av
  let e3 := if x.dot normal < 0 then (x.scale (-1)).unit else x.unit
  let e1 := au.unit
  ⟨d.dot e1, d.dot (e3.cross e1), d.dot e3⟩

/-- What the view residual adds to a colour of a slot (R162): Σ a(k, c) × basis(k). -/
def Scene.residual (sc : Scene) (slot : Nat) (desc : List Byte) (leave : Vec) (lam x y : Rat) : Vec :=
  if !bitOf (slotPlanes (sc.slot slot)) 4 then ⟨0, 0, 0⟩ else
  let d := inLayerFrame (vecAt desc 28) (vecAt desc 40) (vecAt desc 52) leave
  let part (c : Nat) : Rat := ((List.range 9).map fun k => sc.coef slot (f32At desc 72) lam x y k c * basis k d).foldl (· + ·) 0
  ⟨part 0, part 1, part 2⟩

/-- sample() of an LRS slot at layer coordinates (u, v) and level λ (R177): linear working space, premultiplied. -/
def Scene.sampleSlot (sc : Scene) (slot : Nat) (desc : List Byte) (white : Rat) (leave : Vec) (lam u v : Rat) : Rgba :=
  let r := sc.slot slot
  let w := slotW r
  let h := slotH r
  let lam := clampLevel lam (topLevel w h)
  let x := u * w
  let y := v * h
  let t := trilinearC (sc.texel slot (bitOf (u8 desc 10) 0)) lam x y w h
  let t : Rgba := ⟨clamp01 (t.c.add ((sc.residual slot desc leave lam x y).scale t.a)), t.a⟩
  linearRgba (linearise (u8 sc.seq 10) (u8 sc.seq 11) white) t

/-- Depth value of a sample of a relief slot (R160). -/
def Scene.depth (sc : Scene) (slot i j : Nat) : Nat :=
  depthZ ((sc.plane (planeSub slot 2)).sample 0 0 i j)
    (if bitOf (slotPlanes (sc.slot slot)) 3 then some ((sc.plane (planeSub slot 3)).sample 0 0 i j) else none)

/-! ### Crossings (R176) -/

/-- A ray of a kerf in wall space: a unit direction, so that t is in wall metres (R168). -/
structure Ray where
  line : RayLine
  pitch : Rat
  ratio : Rat
deriving DecidableEq, Repr

/-- The ray of an emitter in a steering state: hogel centre and normalised direction (R168). -/
def rayAlong (c : Settings) (t : StandCfg) (hx hy i j s : Nat) : Ray :=
  ⟨⟨hogelCentre c.pitch t.x0 t.y0 hx hy, (rayDir c.pitch t.ratio i j s).unit⟩, c.pitch, t.ratio⟩

/-- Level of detail at a parameter: log2(w(t) / τ) (R169, R177). -/
def Ray.lod (r : Ray) (t tau : Rat) : Rat := log2R (footprint r.pitch r.ratio t / tau)

/-- τ of a layer: the larger texel pitch, in wall metres (R171, R177). -/
def texelPitch (scale : Rat) (au av : Vec) (w h : Nat) : Rat := scale * max (sqrtR au.sq / w) (sqrtR av.sq / h)

/-- The crossing of a line with a plane layer (R176): t, u, v. -/
def crossPlane (r : RayLine) (origin au av : Vec) : Option (Rat × Rat × Rat) :=
  if !meetsPlane r origin au av then none else
  let n := au.cross av
  let t := (origin.sub r.o).dot n / r.d.dot n
  let x := coords au av n ((r.o.add (r.d.scale t)).sub origin)
  some (t, x.1, x.2.1)

/-- A relief to search: its sample counts, its depth values, and where it stands. -/
structure Relief where
  w : Nat
  h : Nat
  origin : Vec
  au : Vec
  av : Vec
  normal : Vec
  lo : Rat
  hi : Rat
deriving DecidableEq, Repr

/-- Smallest and largest depth value of a node of the pyramid over samples `z`: level l, column a, row b.  The surface over a node takes the
samples next to it as well, so they count (DESIGN CHOICE, log entry 118). -/
def Relief.span (rl : Relief) (z : Nat → Nat → Nat) (l a b : Nat) : Nat × Nat :=
  let cells := (Machine.span (b * 2 ^ l - 1) (min rl.h ((b + 1) * 2 ^ l + 1))).flatMap fun j =>
    (Machine.span (a * 2 ^ l - 1) (min rl.w ((a + 1) * 2 ^ l + 1))).map fun i => z i j
  (cells.foldl min 65535, cells.foldl max 0)

/-- Top level of the pyramid: one node covers every sample. -/
def Relief.top (rl : Relief) : Nat := Nat.clog 2 (max rl.w rl.h)

/-- The parameters at which a line is inside a node's box; none where it misses it. -/
def Relief.inNode (rl : Relief) (z : Nat → Nat → Nat) (r : RayLine) (l a b : Nat) : Option (Rat × Rat) :=
  let p := coords rl.au rl.av rl.normal (r.o.sub rl.origin)
  let d := coords rl.au rl.av rl.normal r.d
  let m := rl.span z l a b
  let edge (k n : Nat) : Rat := min 1 ((k * 2 ^ l : Nat) / (n : Rat))
  match meet (slab p.1 d.1 (edge a rl.w) (edge (a + 1) rl.w)) (meet (slab p.2.1 d.2.1 (edge b rl.h) (edge (b + 1) rl.h))
      (slab p.2.2 d.2.2 (reliefOffset m.1 rl.lo rl.hi) (reliefOffset m.2 rl.lo rl.hi))) with
  | some (some x) => some x
  | _ => none

/-- Height of a line above the relief's surface at a parameter: the surface runs bilinearly between the sample centres (DESIGN
CHOICE, log entry 118). -/
def Relief.above (rl : Relief) (z : Nat → Nat → Nat) (r : RayLine) (t : Rat) : Rat :=
  let x := coords rl.au rl.av rl.normal ((r.o.add (r.d.scale t)).sub rl.origin)
  x.2.2 - bilinear (fun i j => reliefOffset (z i j) rl.lo rl.hi) (x.1 * rl.w) (x.2.1 * rl.h) rl.w rl.h

/-- A node waiting to be visited: the parameters inside it, nearest the viewer first, its level, column and row. -/
abbrev Node := Rat × Rat × Nat × Nat × Nat

/-- A node in its place: front to back, the largest parameter first. -/
def insertNode (n : Node) : List Node → List Node
  | [] => [n]
  | x :: l => if x.2.1 < n.2.1 then n :: x :: l else x :: insertNode n l

/-- The front-most bracket of the surface (R176): nodes are visited front to back, at most `fuel` of them, down to level `floor`. -/
def Relief.bracket (rl : Relief) (z : Nat → Nat → Nat) (r : RayLine) (floor : Nat) : (fuel : Nat) → List Node → Option (Rat × Rat)
  | 0, _ | _, [] => none
  | n + 1, (t0, t1, l, a, b) :: rest =>
    if l ≤ floor then
      if (0 ≤ rl.above z r t1) = (0 ≤ rl.above z r t0) ∧ rl.above z r t1 ≠ 0 then rl.bracket z r floor n rest else some (t0, t1)
    else
      let kids := [(2 * a, 2 * b), (2 * a + 1, 2 * b), (2 * a, 2 * b + 1), (2 * a + 1, 2 * b + 1)].filterMap fun k =>
        (rl.inNode z r (l - 1) k.1 k.2).map fun t => (t.1, t.2, l - 1, k.1, k.2)
      rl.bracket z r floor n (kids.foldl (fun q k => insertNode k q) rest)

/-- Secant steps on a bracket [t0, t1] of a function (R176, R180), each keeping the end of the other sign (DESIGN CHOICE, log entry 118). -/
def secant (f : Rat → Rat) : (steps : Nat) → (t0 t1 : Rat) → Rat
  | 0, _, t1 => t1
  | n + 1, t0, t1 =>
    let f0 := f t0
    let f1 := f t1
    if f0 = f1 then t1 else
    let t := cut48 (t1 - f1 * (t1 - t0) / (f1 - f0))
    if n = 0 then t else if (0 ≤ f t) = (0 ≤ f1) then secant f n t0 t else secant f n t t1

/-- The crossing of a line with a relief with the largest t (R176): t, u, v.  `lod` gives λ at a parameter, `div` is DEPTH_DIV.  The slab entry at
which λ is taken is the entry into the box of the top node (DESIGN CHOICE, log entry 154). -/
def Relief.cross (rl : Relief) (z : Nat → Nat → Nat) (r : RayLine) (lod : Rat → Rat) (div : Nat) : Option (Rat × Rat × Rat) :=
  match rl.inNode z r rl.top 0 0 with
  | none => none
  | some (a, b) =>
    let floor := ((lod b).floor - (Nat.log2 div : Int)).toNat
    (rl.bracket z r floor 96 [(a, b, rl.top, 0, 0)]).map fun q =>
      let t := secant (rl.above z r) 4 q.1 q.2
      let x := coords rl.au rl.av rl.normal ((r.o.add (r.d.scale t)).sub rl.origin)
      (t, x.1, x.2.1)

/-- The relief of a slot under its layer descriptor (R160). -/
def Scene.relief (sc : Scene) (slot : Nat) (desc : List Byte) : Relief :=
  let r := sc.slot slot
  { w := slotW r / max 1 (slotDiv r), h := slotH r / max 1 (slotDiv r), origin := vecAt desc 16, au := vecAt desc 28, av := vecAt desc 40
    normal := vecAt desc 52, lo := f32At desc 64, hi := f32At desc 68 }

/-- Smallest and largest depth value of a relief slot: the top of its pyramid (R182). -/
def Scene.depthSpan (sc : Scene) (slot : Nat) (desc : List Byte) : Nat × Nat :=
  let rl := sc.relief slot desc
  rl.span (sc.depth slot) rl.top 0 0

/-- A crossing of a ray with a layer: parameter, class (0 compose, 1 inset, 2 primary), layer, colour premultiplied, opacity. -/
structure Hit where
  t : Rat := 0
  cls : Nat := 0
  layer : Nat := 0
  colour : Vec := ⟨0, 0, 0⟩
  alpha : Rat := 0
deriving DecidableEq, Repr

/-- A point of a ray lies inside the clip box of a placement, where it has one (R175). -/
def Placing.admits (a : Placing) (r : RayLine) (t : Rat) : Bool :=
  match a.clip with
  | none => true
  | some (lo, hi) =>
    let q := (a.toScene r).o.add ((a.toScene r).d.scale t)
    lo.x ≤ q.x && q.x ≤ hi.x && lo.y ≤ q.y && q.y ≤ hi.y && lo.z ≤ q.z && q.z ≤ hi.z

/-- What a ray takes from a slot of an LRS scene (R176, R177): the crossing inside the clip box, and its sample. -/
def Scene.hit (sc : Scene) (place : Placing) (white : Rat) (r : Ray) (cls layer slot : Nat) : Option Hit :=
  match sc.descs.find? fun e => e.1 == slot with
  | none => none
  | some (_, desc) =>
    let rec' := sc.slot slot
    let line := place.toScene r.line
    let tau := texelPitch place.scale (vecAt desc 28) (vecAt desc 40) (slotW rec') (slotH rec')
    let x := if u8 desc 9 = 0 then crossPlane line (vecAt desc 16) (vecAt desc 28) (vecAt desc 40)
      else (sc.relief slot desc).cross (sc.depth slot) line (fun t => clampLevel (r.lod t tau) (topLevel (slotW rec') (slotH rec')))
        (slotDiv rec')
    match x with
    | none => none
    | some (t, u, v) =>
      if !place.admits r.line t then none else
      let s := sc.sampleSlot slot desc white (place.unrot r.line.d) (r.lod t tau) u v
      some { t := t, cls := cls, layer := layer, colour := s.c, alpha := s.a }

/-! ### Compose texels (R205) -/

/-- A channel of a compose texel: an exact value, or that of a binary16 pattern without a finite one: below 0 for −∞, above 1 for +∞ where the channel
is clamped to 1 (R205), free for +∞ elsewhere and for what is not a number (DESIGN CHOICE, log entry 118). -/
def chanLight (top : Bool) : Chan → Rat
  | .val x => x
  | .special b => if b = 0xFC00 then -1 else if top ∧ b = 0x7C00 then 2 else Config.halfLight b

/-- A texel of a compose surface, premultiplied and not yet linearised (R205); what lies outside the surface is not asked for. -/
def LayerState.texel (l : LayerState) (m : List Host.Cell) (i j : Nat) : Rgba :=
  let p := l.payload
  let f := u8 p 2
  let ch := Machine.texel f (Mem.reads m (l.base + u32 p 16 * j + bpp f * i) (bpp f))
  let v (k : Nat) : Rat := chanLight (k == 3) (ch.getD k (.val 0))
  let a := max 0 (min 1 (v 3))
  let c8 := u32 p 20
  let rgb : Vec := match f with
    | 3 => ⟨bitsOf c8 29 20 / 1023, bitsOf c8 19 10 / 1023, bitsOf c8 9 0 / 1023⟩
    | _ => ⟨max 0 (v 0), max 0 (v 1), max 0 (v 2)⟩
  ⟨if bitOf (u8 p 1) 1 then rgb else rgb.scale a, a⟩

/-- Linearisation of a compose layer under COLOUR (R205). -/
def composeLight (colour : Nat) (white : Rat) (v : Vec) : Vec :=
  match colour with
  | 0 => linearise 1 1 white v
  | 1 => linearise 9 16 white v
  | _ => v.scale white

/-- What a ray takes from a compose layer (R205): its crossing, sampled bilinearly at full resolution, under OPACITY. -/
def LayerState.hit (l : LayerState) (m : List Host.Cell) (place : Placing) (white : Rat) (r : RayLine) (n : Nat) : Option Hit :=
  if l.payload = [] then none else
  let q := layerPara place l.payload
  (crossPlane r q.o q.u q.v).map fun x =>
    let w := u16 l.payload 4
    let h := u16 l.payload 6
    let s := linearRgba (composeLight (u8 l.payload 3) white) (bilinearC (l.texel m) (x.2.1 * w) (x.2.2 * h) w h)
    let o : Rat := (u16 l.payload 60 : Rat) / 4096
    { t := x.1, cls := 0, layer := n, colour := s.c.scale o, alpha := o * s.a }

/-! ### Lift (R196 to R200) -/

/-- Lift parameters in force, each 0 replaced by its default (R197). -/
structure LiftParams where
  refRight : Bool := false
  swapEyes : Bool := false
  noFill : Bool := false
  smooth : Nat := 2
  dispRange : Nat := 192
  screenW : Rat := 1
  viewDist : Rat := 3
  eyeSep : Rat := 63 / 1000
  depthGain : Rat := 1
  nearLimit : Rat := 1 / 4
  farLimit : Rat := 1 / 2
  edgePx : Nat := 4
deriving DecidableEq, Repr

/-- The parameters a SCENE.LIFT payload sets; the empty payload is the reset. -/
def liftParams (p : List Byte) : LiftParams :=
  if p = [] then {} else
  { refRight := bitOf (u8 p 0) 0, swapEyes := bitOf (u8 p 0) 1, noFill := bitOf (u8 p 0) 2, smooth := u8 p 1
    dispRange := if u16 p 2 = 0 then 192 else u16 p 2, screenW := f32At p 4
    viewDist := if f32At p 8 = 0 then 3 else f32At p 8, eyeSep := if f32At p 12 = 0 then 63 / 1000 else f32At p 12
    depthGain := f32At p 16, nearLimit := f32At p 20, farLimit := f32At p 24
    edgePx := if u16 p 28 = 0 then 4 else u16 p 28 }

/-- Parameters a frame was lifted under; its scene keeps them until the next new frame is lifted (DESIGN CHOICE, log entry 156). -/
def LiftFrame.lp (f : LiftFrame) : LiftParams := liftParams f.params

/-- The reference eye: 0 left, 1 right (R196, R197). -/
def LiftFrame.ref (f : LiftFrame) : Nat := if f.lp.refRight then 1 else 0

/-- A sample of an eye, 0 left, 1 right; SWAP_EYES exchanges them before anything else (R138, R200). -/
def LiftFrame.eye (f : LiftFrame) (eye comp i j : Nat) : Nat :=
  let e := if f.lp.swapEyes then 1 - eye else eye
  match f.format with
  | 3 => f.plane.sample 0 comp (i + e * f.w) j
  | 4 => f.plane.sample 0 comp i (j + e * f.h)
  | _ => f.plane.sample e comp i j

/-- Samples of the disparity estimate: half the per-eye resolution each way (R198). -/
def LiftFrame.cols (f : LiftFrame) : Nat := f.w / 2
def LiftFrame.rows (f : LiftFrame) : Nat := f.h / 2

/-- Luma of an eye at a level of its pyramid (R196, R198); level 0 has the samples of the estimate (DESIGN CHOICE, log entry 119). -/
def LiftFrame.luma (f : LiftFrame) (eye lev i j : Nat) : Rat :=
  Config.stereoLuma f.plane.codec f.plane.aus f.plane.bits f.format (if f.lp.swapEyes then 1 - eye else eye) lev i j

/-- Rows that the die which lifts a row has to work on (R201): its half of the rows, both halves with 32 rows in common (DEDUCED, log entry 139). -/
def LiftFrame.share (f : LiftFrame) (j : Nat) : Nat × Nat :=
  let mid := f.rows / 2
  if j < mid then (0, min f.rows (mid + 16)) else (mid - 16, f.rows)

/-- Census of a 7 × 7 window about a sample of a level (R198): which of its samples are darker than the middle.  Rows end with those the die works
on, columns with the picture (DESIGN CHOICE, log entry 119). -/
def LiftFrame.census (f : LiftFrame) (rows : Nat × Nat) (eye lev : Nat) (i : Int) (j : Nat) : List Bool :=
  let col (x : Int) : Nat := (clampI 0 ((max 1 (f.cols / 2 ^ lev) : Nat) - 1 : Int) x).toNat
  let row (y : Int) : Nat := (clampI ((rows.1 / 2 ^ lev : Nat) : Int) ((max 1 ((rows.2 + 2 ^ lev - 1) / 2 ^ lev) : Nat) - 1 : Int) y).toNat
  (List.range 7).flatMap fun b => (List.range 7).map fun a =>
    f.luma eye lev (col (i + a - 3)) (row ((j : Int) + b - 3)) < f.luma eye lev (col i) (row j)

/-- Census cost of a disparity, in samples of a level, of a sample of an eye: the places at which the two windows differ (R198). -/
def LiftFrame.cost (f : LiftFrame) (rows : Nat × Nat) (eye lev i j : Nat) (d : Int) : Nat :=
  let a := f.census rows eye lev i j
  let b := f.census rows (1 - eye) lev (if eye = 0 then (i : Int) + d else (i : Int) - d) j
  ((a.zip b).filter fun e => e.1 != e.2).length

/-- The first disparity of least cost (DESIGN CHOICE, log entry 119). -/
def leastCost (cost : Int → Nat) : List Int → Int
  | [] => 0
  | d :: ds => ds.foldl (fun best x => if cost x < cost best then x else best) d

/-- The horizontal search starting from an eye, coarse to fine over four levels (R198), `k` levels down from the coarsest: within ±DISP_RANGE there,
and about twice what the level above found below it. -/
def LiftFrame.search (f : LiftFrame) (rows : Nat × Nat) (eye : Nat) : (k i j : Nat) → Int
  | 0, i, j =>
    let r := (f.lp.dispRange + 15) / 16
    leastCost (f.cost rows eye 3 i j) ((List.range (2 * r + 1)).map fun n => (n : Int) - r)
  | k + 1, i, j =>
    let lev := 2 - k
    let r := (f.lp.dispRange + 2 * 2 ^ lev - 1) / (2 * 2 ^ lev)
    let mid := 2 * f.search rows eye k (i / 2) (j / 2)
    let reach := Config.searchReach lev
    leastCost (f.cost rows eye lev i j)
      (((List.range (2 * reach + 1)).map fun n => mid + n - reach).map fun d => clampI (-(r : Int)) r d)

/-- What the search from an eye finds at a sample, in pixels of the eye (R198, step 1). -/
def LiftFrame.raw (f : LiftFrame) (eye i j : Nat) : Rat :=
  let x := 2 * (f.search (f.share j) eye 3 i j : Rat)
  max (-(f.lp.dispRange : Rat)) (min (f.lp.dispRange : Rat) x)

/-- The estimate of a sample, refined to 1/8 pixel and within ±DISP_RANGE (R198 step 3, R202 cause 2); the refinement, less than a sample either
way, is free (DESIGN CHOICE, log entry 119). -/
def LiftFrame.found (f : LiftFrame) (eye i j : Nat) : Rat :=
  let n := Config.subPixel f.plane.codec f.plane.aus f.format (if f.lp.swapEyes then 1 - eye else eye) i j % 31
  max (-(f.lp.dispRange : Rat)) (min (f.lp.dispRange : Rat) (f.raw eye i j + ((n : Rat) - 15) / 8))

/-- Column of the other eye's sample that shows what a reference sample of disparity d shows; none outside the picture. -/
def LiftFrame.otherCol (f : LiftFrame) (i : Nat) (d : Rat) : Option Nat :=
  let c := (i : Int) + ((if f.lp.refRight then -d else d) / 2 + 1 / 2).floor
  if c < 0 ∨ (f.cols : Int) ≤ c then none else some c.toNat

/-- The left–right check (R198, step 2), before the refinement: the two estimates differ by more than 1 pixel, or there is no other one. -/
def LiftFrame.occluded (f : LiftFrame) (i j : Nat) : Bool :=
  let d := f.raw f.ref i j
  match f.otherCol i d with
  | none => true
  | some c => 1 < |f.raw (1 - f.ref) c j - d|

/-- Disparity of a sample after temporal smoothing (R198), over the lifted frames since the last cut, newest first; an occluded sample
takes the estimate of the farther side of its row (DESIGN CHOICE, log entry 119). -/
def liftDisparity : List LiftFrame → (i j : Nat) → Rat
  | [], _, _ => 0
  | f :: older, i, j =>
    let seen (k : Nat) : Option Rat := if f.occluded k j then none else some (f.found f.ref k j)
    let fill : Rat :=
      let left := ((List.range i).reverse.filterMap seen).head?
      let right := ((span (i + 1) f.cols).filterMap seen).head?
      match left, right with
      | some a, some b => max a b
      | some a, none => a
      | none, some b => b
      | none, none => 0
    let new := (seen i).getD fill
    match older with
    | [] => new
    | _ :: _ =>
      let prev := liftDisparity older i j
      if (f.lp.edgePx : Rat) < |new - prev| then new else (new + f.lp.smooth * prev) / (f.lp.smooth + 1)

/-- The scene changes between two lifted frames (R198): the mean luma difference of the reference eye exceeds 12 % of full scale, or the
frames are of another stream or size (DEDUCED, log entry 139). -/
def liftCut (f g : LiftFrame) : Bool :=
  let sum := ((List.range f.h).map fun j => ((List.range f.w).map fun i =>
    ((f.eye f.ref 0 i j : Int) - g.eye g.ref 0 i j).natAbs).foldl (· + ·) 0).foldl (· + ·) 0
  f.stream != g.stream || f.w != g.w || f.h != g.h || 12 * 1023 * (f.w * f.h) < 100 * sum

/-- The disparity history once a frame is lifted (R198). -/
def liftHistory (f : LiftFrame) (old : List LiftFrame) : List LiftFrame :=
  match old with
  | [] => [f]
  | g :: _ => if liftCut f g then [f] else f :: old

/-- Samples of a frame that satisfy a condition. -/
def LiftFrame.count (f : LiftFrame) (p : Nat → Nat → Bool) : Nat :=
  ((List.range f.rows).map fun j => ((List.range f.cols).filter fun i => p i j).length).foldl (· + ·) 0

/-- More than 5 % of the samples lie at ±DISP_RANGE (R202 cause 2). -/
def LiftFrame.saturated (f : LiftFrame) : Bool :=
  f.cols * f.rows < 20 * f.count fun i j => (f.lp.dispRange : Rat) ≤ |f.found f.ref i j|

/-- The eyes are misaligned by more than 2 pixels (R202 cause 3). -/
def LiftFrame.misaligned (f : LiftFrame) : Bool := 2 < |Config.verticalShift f.plane.codec f.plane.aus|

/-- Disparity below 0.25 pixel at 99 % of the samples (R202 cause 4). -/
def liftIsFlat (l : List LiftFrame) : Bool :=
  match l with
  | [] => false
  | f :: _ => 99 * (f.cols * f.rows) ≤ 100 * f.count fun i j => |liftDisparity l i j| < 1 / 4

/-- The nearest occlusion edge from a sample in one direction (R200): of two neighbouring samples the one farther along is farther away by more
than EDGE_PX, within 16 samples (32 texels).  The far sample and how many samples away it is. -/
def liftEdge (l : List LiftFrame) (edge cols rows i j : Nat) (dx dy : Int) : Option (Nat × Nat × Nat) :=
  (List.range 16).findSome? fun (k : Nat) =>
    let at' (n : Nat) : Int × Int := ((i : Int) + n * dx, (j : Int) + n * dy)
    let p := at' k
    let q := at' (k + 1)
    if q.1 < 0 ∨ (cols : Int) ≤ q.1 ∨ q.2 < 0 ∨ (rows : Int) ≤ q.2 then none
    else if (edge : Rat) < liftDisparity l q.1.toNat q.2.toNat - liftDisparity l p.1.toNat p.2.toNat then some (q.1.toNat, q.2.toNat, k)
    else none

/-- Alpha of slot 0 at a texel (R200): it falls to 0 over 2 texels on the nearer side of an occlusion edge, that is, within the sample next
to it (DEDUCED, log entry 139). -/
def liftAlpha (l : List LiftFrame) (edge cols rows x y : Nat) : Rat :=
  let i := x / 2
  let j := y / 2
  let d := liftDisparity l i j
  let far (a b : Nat) : Bool := (edge : Rat) < liftDisparity l a b - d
  let near (first : Bool) (v : Nat) : Rat := if first then ((v % 2 : Nat) + 1 / 2 : Rat) / 2 else (3 / 2 - (v % 2 : Nat) : Rat) / 2
  let one (on : Bool) (a : Rat) : Rat := if on then a else 1
  min (min (one (0 < i && far (i - 1) j) (near true x)) (one (i + 1 < cols && far (i + 1) j) (near false x)))
    (min (one (0 < j && far i (j - 1)) (near true y)) (one (j + 1 < rows && far i (j + 1)) (near false y)))

/-- Depth value of a disparity (R199, R200): 16 bits between −FAR_LIMIT and NEAR_LIMIT. -/
def LiftFrame.depthOf (f : LiftFrame) (d : Rat) : Nat :=
  let p := f.lp
  let o := liftOffset d f.w p.screenW p.viewDist p.eyeSep p.depthGain p.nearLimit p.farLimit
  (clampI 0 65535 ((o + p.farLimit) / (p.nearLimit + p.farLimit) * 65535 + 1 / 2).floor).toNat

/-- The far side of the edge that a sample of slot 1 fills behind (R200): of the edges to the left, right, top and bottom the nearest, the first
of equals (DEDUCED, log entry 139). -/
def liftBehind (l : List LiftFrame) (f : LiftFrame) (i j : Nat) : Option (Nat × Nat) :=
  let edges := ([(-1, 0), (1, 0), (0, -1), (0, 1)] : List (Int × Int)).filterMap fun d => liftEdge l f.lp.edgePx f.cols f.rows i j d.1 d.2
  match edges with
  | [] => none
  | e :: es => let n := es.foldl (fun a b => if b.2.2 < a.2.2 then b else a) e; some (n.1, n.2.1)

/-- Depth value of a sample of a slot of the lifted scene (R200). -/
def liftDepth (l : List LiftFrame) (slot i j : Nat) : Nat :=
  match l with
  | [] => 0
  | f :: _ =>
    let own := liftDisparity l i j
    f.depthOf (if slot = 0 then own else match liftBehind l f i j with
      | some (a, b) => liftDisparity l a b
      | none => own)

/-- R'G'B' of a pixel of an eye. -/
def LiftFrame.rgb (f : LiftFrame) (eye x y : Nat) : Vec :=
  let cs := Config.stereoColour f.plane.codec f.plane.aus
  yccRgb cs.2.2.1 cs.2.2.2 (f.eye eye 0 x y) (f.eye eye 1 x y) (f.eye eye 2 x y)

/-- A texel of slot 1 (R200): the other eye's pixel where that eye sees the far side, else the far side extended (DEDUCED, log entry 139).  The fill is
the lifted frame's own, also under the colour of a frame whose lift was abandoned (R201, R202). -/
def liftFill (l : List LiftFrame) (x y : Nat) : Rgba :=
  match l with
  | [] => {}
  | f :: _ =>
    let i := x / 2
    let j := y / 2
    match liftBehind l f i j with
    | none => {}
    | some (a, b) =>
      let d := liftDisparity l a b
      -- the texel of the far sample next to the edge
      let near (c k t : Nat) : Nat := 2 * c + if c < k then 1 else if k < c then 0 else t % 2
      let far : Rgba := ⟨f.rgb f.ref (near a i x) (near b j y), 1⟩
      match f.otherCol i d with
      | some o => if |f.found (1 - f.ref) o j - d| ≤ 1 then ⟨f.rgb (1 - f.ref) (2 * o + x % 2) y, 1⟩ else far
      | none => far

/-- A texel of a level of a slot of the lifted scene, premultiplied (R200). -/
def liftTexel (colour : LiftFrame) (l : List LiftFrame) (noFill : Bool) (slot lev x y : Nat) : Rgba :=
  match l with
  | [] => {}
  | f :: _ =>
    if lev ≠ 0 then
      let aus := if slot = 1 then f.plane.aus else colour.plane.aus
      let v (comp : Nat) : Rat := Config.liftMip f.plane.codec aus f.plane.aus slot comp lev x y
      ⟨⟨v 0, v 1, v 2⟩, v 3⟩
    else if slot = 1 then liftFill l x y
    else
      -- the shape of a frame of another size is taken at the same place of the picture
      let a := if noFill then 1 else liftAlpha l f.lp.edgePx f.cols f.rows (x * f.w / max 1 colour.w) (y * f.h / max 1 colour.h)
      ⟨(colour.rgb colour.ref x y).scale a, a⟩

/-- The relief of the lifted scene's slots (R200). -/
def LiftFrame.relief (f : LiftFrame) : Relief :=
  let p := f.lp
  let sh := p.screenW * (f.h : Rat) / (f.w : Rat)
  { w := f.cols, h := f.rows, origin := ⟨-(p.screenW / 2), sh / 2, 0⟩, au := ⟨p.screenW, 0, 0⟩, av := ⟨0, -sh, 0⟩, normal := ⟨0, 0, 1⟩
    lo := -p.farLimit, hi := p.nearLimit }

/-- What a ray takes from a slot of the lifted scene. -/
def liftHit (colour : LiftFrame) (l : List LiftFrame) (place : Placing) (white : Rat) (r : Ray) (slot : Nat) : Option Hit :=
  match l with
  | [] => none
  | f :: _ =>
    let rl := f.relief
    let pic := if slot = 1 then f else colour
    let tau := texelPitch place.scale rl.au rl.av pic.w pic.h
    let top := topLevel pic.w pic.h
    match rl.cross (liftDepth l slot) (place.toScene r.line) (fun t => clampLevel (r.lod t tau) top) 2 with
    | none => none
    | some (t, u, v) =>
      if !place.admits r.line t then none else
      let cs := Config.stereoColour pic.plane.codec pic.plane.aus
      let s := linearRgba (linearise cs.1 cs.2.1 white)
        (trilinearC (liftTexel colour l f.lp.noFill slot) (clampLevel (r.lod t tau) top) (u * pic.w) (v * pic.h) pic.w pic.h)
      some { t := t, cls := 2, layer := slot, colour := s.c, alpha := s.a }

/-! ### View play (R180) -/

/-- What firmware has of a MIV stream: the access units of each substream. -/
def Scene.atlas (sc : Scene) : List (List (List Byte)) := sc.planes.map (·.aus)

/-- A candidate view of a ray, with the cosine of its angle to it. -/
structure ViewCand where
  view : Nat
  cos : Rat
deriving DecidableEq, Repr

/-- A candidate in its place: the smallest angle first. -/
def insertView (v : ViewCand) : List ViewCand → List ViewCand
  | [] => [v]
  | x :: l => if x.cos < v.cos then v :: x :: l else x :: insertView v l

/-- Candidates of a ray about a wall point m (R180, step 1): up to 4 views within 30° whose frustum contains m. -/
def Scene.viewCands (sc : Scene) (place : Placing) (r : Ray) (m : Vec) : List ViewCand :=
  let q := (place.unrot (m.sub place.trans)).scale (1 / place.scale)
  let all := (List.range (min 32 (Config.viewCount sc.atlas))).filterMap fun v =>
    let c := Config.viewCentre sc.atlas v
    let to' := (place.point ⟨c.1, c.2.1, c.2.2⟩).sub m
    let cos := r.line.d.dot to'.unit
    if 3 / 4 < cos * cos ∧ 0 < cos ∧ (Config.viewProject sc.atlas v q.x q.y q.z).isSome then some ⟨v, cos⟩ else none
  (all.foldl (fun l v => insertView v l) []).take 4

/-- Depth of a ray in a view past the view's decoded depth at a parameter; none in a hole or outside the frustum. -/
def Scene.viewPast (sc : Scene) (place : Placing) (r : Ray) (v : Nat) (t : Rat) : Option Rat :=
  let l := place.toScene r.line
  let q := l.o.add (l.d.scale t)
  (Config.viewProject sc.atlas v q.x q.y q.z).bind fun p => (Config.viewDepth sc.atlas v p.1 p.2.1).map fun d => p.2.2 - d

/-- Level of detail of a ray in a view at a parameter. -/
def Scene.viewLod (sc : Scene) (place : Placing) (r : Ray) (v : Nat) (t : Rat) : Rat :=
  let l := place.toScene r.line
  let q := l.o.add (l.d.scale t)
  max 0 (r.lod t (place.scale * Config.viewPixel sc.atlas v q.x q.y q.z))

/-- Position of a ray in a view at a parameter; none outside its frustum. -/
def Scene.viewPos (sc : Scene) (place : Placing) (r : Ray) (v : Nat) (t : Rat) : Option (Rat × Rat) :=
  let l := place.toScene r.line
  let q := l.o.add (l.d.scale t)
  (Config.viewProject sc.atlas v q.x q.y q.z).map fun p => (p.1, p.2.1)

/-- The last of `n` halvings of [lo, hi] at which a step is still within reach. -/
def lastWithin (ok : Rat → Bool) : (n : Nat) → (lo hi : Rat) → Rat
  | 0, lo, _ => lo
  | n + 1, lo, hi => let m := cut48 ((lo + hi) / 2); if ok m then lastWithin ok n m hi else lastWithin ok n lo m

/-- The next parameter of the walk along the epipolar line (R180, step 2): one view pixel, of the view's level of detail, farther on.  Where the ray is
outside the frustum the walk goes on by 1/64 of the segment (DESIGN CHOICE, log entry 118). -/
def Scene.viewStep (sc : Scene) (place : Placing) (r : Ray) (v : Nat) (near far t : Rat) : Rat :=
  match sc.viewPos place r v t with
  | none => max far (t + (far - near) / 64)
  | some a =>
    let step := pow2 (sc.viewLod place r v t).floor
    let within (x : Rat) : Bool := (sc.viewPos place r v x).any fun b => (a.1 - b.1) ^ 2 + (a.2 - b.2) ^ 2 ≤ step ^ 2
    if within far then far else lastWithin within 40 t far

/-- The walk of a ray in a view from a parameter on, front to back, for at most `n` steps: the first step that reaches the view's decoded depth, with
the step before it. -/
def Scene.viewWalk (sc : Scene) (place : Placing) (r : Ray) (v : Nat) (near far : Rat) : (n : Nat) → (t : Rat) → Option (Rat × Rat)
  | 0, _ => none
  | n + 1, t =>
    if t ≤ far then none else
    let t' := sc.viewStep place r v near far t
    if (sc.viewPast place r v t').any (0 ≤ ·) then some (t, t') else sc.viewWalk place r v near far n t'

/-- The crossing that a view gives a ray between two parameters, front to back in at most 64 steps (R180, step 2). -/
def Scene.viewCross (sc : Scene) (place : Placing) (r : Ray) (v : Nat) (near far : Rat) : Option Rat :=
  if (sc.viewPast place r v near).any (0 ≤ ·) then some near else
  (sc.viewWalk place r v near far 64 near).map fun q => secant (fun t => (sc.viewPast place r v t).getD 0) 3 q.1 q.2

/-- Trilinear texture sample of a view at a position and level (R180). -/
def Scene.viewColour (sc : Scene) (v : Nat) (lam x y : Rat) : Vec :=
  let size := Config.viewSize sc.atlas v
  let f (l i j : Nat) : Rgba := let c := Config.viewTexel sc.atlas v l i j; ⟨⟨c.1, c.2.1, c.2.2⟩, 1⟩
  (trilinearC f (clampLevel lam (topLevel size.1 size.2)) x y size.1 size.2).c

/-- Angle of a candidate, in radians. -/
def ViewCand.angle (v : ViewCand) : Rat := atanR (sqrtR (max 0 (1 - v.cos * v.cos)) / v.cos)

/-- The view hit of a ray between the parameters of a kerf's bounds (R180). -/
def Scene.viewHit (sc : Scene) (place : Placing) (r : Ray) (near far : Rat) : Option Hit :=
  let m := r.line.o.add (r.line.d.scale ((near + far) / 2))
  let found := (sc.viewCands place r m).filterMap fun v => (sc.viewCross place r v.view near far).map fun t => (v, t)
  match found.map (·.2) with
  | [] => none
  | t :: ts =>
    let tf := ts.foldl max t
    let kept := found.filter fun e => 50 * |e.2 - tf| ≤ |tf|
    let weight (v : ViewCand) : Rat := 1 / (v.angle + 1 / 100) ^ 2
    let sum := (kept.map fun e => weight e.1).foldl (· + ·) 0
    let l := place.toScene r.line
    let colour := kept.foldl (fun acc e =>
      let q := l.o.add (l.d.scale e.2)
      let p := (Config.viewProject sc.atlas e.1.view q.x q.y q.z).getD (0, 0, 0)
      acc.add ((sc.viewColour e.1.view (sc.viewLod place r e.1.view e.2) p.1 p.2.1).scale (weight e.1 / sum))) (⟨0, 0, 0⟩ : Vec)
    some { t := tf, cls := 2, layer := 0, colour := colour, alpha := 1 }

end Sys2Proof.Machine
end

