-- ==== Sys2Proof/Machine/StandCmd.lean ====
section
/-! DEFINITION. The stand map, links and tables (R330 to R333) and swapping a stand (R437, R439): STAND.*. -/

namespace Sys2Proof.Machine

/-! ### Kerf contexts of a stand -/

/-- Changes every kerf context of a stand. -/
def Stand.mapKerfs (st : Stand) (f : Kerf → Kerf) : Stand :=
  { st with kerfBase := f st.kerfBase, kerfs := st.kerfs.map fun e => (e.1, f e.2) }

/-- Contexts as a stand-map commit rebuilds them (R185): VALID 0, no owner, invalid. -/
def Stand.freshKerfs (st : Stand) : Stand :=
  { st with kerfBase := { st.kerfBase with valid := false, invalid := true, late := false, lateRun := 0, owner := 0xFFFF }, kerfs := [] }

/-- Where a stand of an earlier map stands in the map in force; none where it is there no more (R24). -/
def placeNow (moved : List (Option Nat)) (i : Nat) : Option Nat := if moved = [] then some i else moved.getD i none

/-- Where a stand of the map that the window latched stands now. -/
def Window.cur (w : Window) (i : Nat) : Option Nat := placeNow w.moved i

/-! ### STAND.MAP (R332, R233, R290) -/

/-- Records of a STAND.MAP payload. -/
def mapCount (p : List Byte) : Nat := u16 p 0
/-- Payload offset of record i. -/
def recOff (i : Nat) : Nat := 16 + 24 * i

/-- One record as the stand of a map. -/
def mapStand (p : List Byte) (i : Nat) : StandCfg :=
  let o := recOff i
  { link := u8 p o, stype := u8 p (o + 1), focal := u16 p (o + 2), x0 := u32 p (o + 4), y0 := u32 p (o + 8), serial := u64 p (o + 12) }

/-- The map a payload describes, with the settings of a new stand throughout. -/
def mapStands (p : List Byte) : List StandCfg := (List.range (mapCount p)).map (mapStand p)

/-- The hogel squares of two stands overlap. -/
def squaresOverlap (a b : StandCfg) : Bool :=
  a.x0 < b.x0 + 128 && b.x0 < a.x0 + 128 && a.y0 < b.y0 + 128 && b.y0 < a.y0 + 128

/-- Checks of one record when staged (DEDUCED, log entry 45). -/
def mapRecErrs (p : List Byte) (i : Nat) : List Err :=
  let o := recOff i
  let t := mapStand p i
  let before := (List.range i).map (mapStand p)
  chkP (15 < t.link || 8 ≤ (before.filter fun b => b.link == t.link).length) stBadField o ++
  chkP (t.focal < 350 || 1000 < t.focal) stBadField (o + 2) ++
  chkP (2 ^ 24 - 128 < t.x0 || before.any (squaresOverlap t)) stBadField (o + 4) ++
  chkP (2 ^ 24 - 128 < t.y0) stBadField (o + 8) ++
  chkP (t.serial != 0 && before.any fun b => b.serial == t.serial) stBadField (o + 12) ++ rsvBytes p (o + 20) (o + 24)

/-- Settings a stand keeps when it stays in the map: all but its record. -/
def StandCfg.withRecord (old new : StandCfg) : StandCfg :=
  { old with link := new.link, focal := new.focal, x0 := new.x0, y0 := new.y0, serial := new.serial
             stype := if new.stype = 0 then old.stype else new.stype }

/-- The map of a payload over a configuration; `serials` are the serials its records have at the blank, 0 for none. -/
def Settings.withMap (c : Settings) (p : List Byte) (serials : List Nat) : Settings :=
  { c with
    mapped := true
    pitchUm := if u16 p 2 = 0 then 1000 else u16 p 2
    stands := (mapStands p).mapIdx fun i t =>
      let sn := serials.getD i 0
      match c.stands.find? fun o => sn ≠ 0 && o.serial == sn with
      | some o => o.withRecord { t with serial := sn }
      | none => { t with serial := sn } }

/-- The map of a payload at its blank: a stand that stays, by the serial it has recorded or reported, keeps its settings (R233). -/
def Settings.withMapFrom (c : Settings) (p : List Byte) (serials : List Nat) (from' : List (Option Nat)) : Settings :=
  { c.withMap p serials with
    stands := (mapStands p).mapIdx fun j t =>
      let t := { t with serial := serials.getD j 0 }
      match from'.getD j none with
      | some i => (c.stands.getD i {}).withRecord t
      | none => t }

/-- Serials of the records at the blank (R332): the record's, or the one last reported at its link and position since the link came up. -/
def State.mapSerials (s : State) (p : List Byte) : List Nat :=
  let l := mapStands p
  l.mapIdx fun i t =>
    if t.serial ≠ 0 then t.serial else
    let pos := ((l.take i).filter fun b => b.link == t.link).length
    match s.standAt t.link pos with
    | some j => if (s.stand j).reported then (s.stand j).serialSeen else 0
    | none => 0

/-- For each stand of a new map, the index of the same stand before. -/
def State.mapFrom (s : State) (serials : List Nat) : List (Option Nat) :=
  serials.map fun sn => if sn = 0 then none else (List.range s.stands.length).find? fun i => s.serialOf i == sn

/-- A stand at its place in a new map: what stays with the stand is kept, what was reported at another place is not. -/
def Stand.moved (st : Stand) (stays : Bool) : Stand :=
  let st := { st with cal := { st.cal with samples := [] } }
  if stays then st else { st with seen := false, reported := false, statusBytes := [], loaded := false }

/-- The stand map applies: run-time state, calibration data and the journal follow the stands by serial; an
operation of a stand that leaves ends with EV_CAL_DONE, P1 6 (R232) (DEDUCED, log entry 32). -/
def State.applyMap (s : State) (old : Settings) (p : List Byte) : State :=
  let before := { s with settings := old }
  let serials := before.mapSerials p
  let from' := before.mapFrom serials
  let new := old.withMapFrom p serials from'
  let place (c : Settings) (i : Nat) : Nat × Nat := ((c.stands.getD i {}).link, c.position i)
  let n := s.stands.length
  let lost := (List.range n).filter fun i => !from'.contains (some i)
  let past (l : List (Option (Nat × Nat))) : List (Option (Nat × Nat)) :=
    from'.map (fun f => f.bind fun i => l.getD i none) ++ l.drop n ++ lost.map fun i => l.getD i none
  let stays := from'.length + s.synth.left.length
  let stands := from'.mapIdx fun j f =>
    match f with
    | some i => (s.stand i).moved (place old i == place new j)
    | none => ({} : Stand)
  let reindex (l : List Nat) : List Nat := l.filterMap fun i => from'.findIdx? (· == some i)
  let follow (c : Settings) (moved : List (Option Nat)) : List (Option Nat) :=
    (List.range c.stands.length).map fun i => (placeNow moved i).bind fun j => from'.findIdx? (· == some j)
  let shown (c : Settings) (moved : List (Option Nat)) : List (Option Nat) :=
    (List.range c.stands.length).map fun i => (placeNow moved i).bind fun j =>
      if n ≤ j then some (from'.length + (j - n))
      else ((from'.findIdx? (· == some j)).orElse fun _ => (lost.findIdx? (· == j)).map (stays + ·))
  let stands := if methodFor old.stands.length = methodFor new.stands.length then stands
    else stands.map fun st => { st with cal := { st.cal with cand := [] } }
  let gone := (List.range s.stands.length).filter fun i => (s.stand i).cal.op != 0 && !from'.contains (some i)
  let s := gone.foldl (fun s i => (s.updCal i fun c => { c with reload := false }).calDone i 6) s
  { s with
    settings := { s.settings with mapped := true, pitchUm := new.pitchUm, stands := new.stands }
    tb := { s.tb with blankCfg := s.tb.blankCfg.map fun b =>
      { b with stands := from'.mapIdx fun j f => (f.map fun i => b.stands.getD i {}).getD (new.stands.getD j {}) } }
    stands := stands
    bakeQueue := reindex s.bakeQueue
    bellows := { s.bellows with oldJournal := if serials.contains 0 then s.bellows.oldJournal
                                              else s.bellows.oldJournal.filter fun e => serials.contains e.1 }
    links := s.links.map fun k => { k with measSlots := k.measSlots.filterMap fun e =>
      (from'.findIdx? (· == some e.2.2.1)).map fun j => (e.1, e.2.1, j, e.2.2.2) }
    fs := { s.fs with mem := moveCal s.fs.mem old new from'
                      lateKerfs := s.fs.lateKerfs.filterMap fun e => (from'.findIdx? (· == some e.2.1)).map fun j => (e.1, j, e.2.2) }
    synth := { s.synth with
      mapChange := true, mapTick := s.clock.tick + 1
      places := (s.synth.places.map fun e => (e.1, past e.2)) ++
        [(s.clock.tick + 3, from'.map (fun f => f.map (place old)) ++ s.synth.left.map (fun _ => none) ++ lost.map fun i => some (place old i))]
      left := s.synth.left ++ lost.map fun i => { cfg := old.stands.getD i {}, st := s.stand i }
      scanMoved := shown s.synth.scanCfg s.synth.scanMoved
      window := { s.synth.window with moved := follow s.synth.cfg s.synth.window.moved } } }

/-- STAND.MAP (R332). -/
def standMap : CmdDef where
  opcode := 0x0801
  kind := .stageable
  lenOk p := 16 ≤ p.length && p.length == 16 + 24 * u16 p 0
  checks _ c :=
    let p := c.payload
    chkP (mapCount p = 0 || 128 < mapCount p) stBadField 0 ++
    chkP (u16 p 2 != 0 && (u16 p 2 < 500 || 2000 < u16 p 2)) stBadField 2 ++ rsvBytes p 4 16 ++
    (List.range (mapCount p)).flatMap (mapRecErrs p)
  apply p c := c.withMap p ((mapStands p).map (·.serial))
  effect old p _ _ s := s.applyMap old p

/-! ### STAND.LINK and STAND.LUT (R330, R331) -/

/-- A link goes down for its bring-up with new settings (R330): STAND_SAFE until it starts, the stands dark; one whose RATE is 0 stays down. -/
def State.retrain (s : State) (l : Nat) : State :=
  let s := (s.assertSafe l).onLink l fun st => { st.unknownInFlight with seen := false, reported := false, kss := 0, dark := true }
  let s := (s.dropCmds l).updLink l fun k => { k.wake with attempts := 0, state := 0, recovering := none }
  if (s.settings.links.getD l {}).rate = 0 then s else s.startBringup l

/-- STAND.LINK (R330). -/
def standLink : CmdDef where
  opcode := 0x0806
  kind := .stageable
  lenOk := lenIs 16
  checks _ c :=
    let p := c.payload
    chkP (15 < u8 p 0) stBadField 0 ++ chkP (4 < u8 p 1) stBadField 1 ++ chkP (1 < u8 p 2) stBadField 2 ++ rsvBits p 3 0xFE ++
    chkP (10 < u8 p 4 && u8 p 4 != 0xFF) stBadField 4 ++ rsvBytes p 5 16
  apply p c := { c with links := upd c.links (u8 p 0) fun _ => { rate := u8 p 1, clocking := u8 p 2, preset := u8 p 4 } }
  effect old p _ _ s :=
    let o := old.links.getD (u8 p 0) {}
    if s.modes.mode ≠ 0 ∧ (o.rate ≠ u8 p 1 ∨ o.clocking ≠ u8 p 2 ∨ bitOf (u8 p 3) 0) then s.retrain (u8 p 0) else s

/-- The table a STAND.LUT payload selects for a stand; what follows the 16 bytes is the copy made at the commit instant. -/
def lutOf (p : List Byte) : Option (List Byte) := if u8 p 2 = 1 then some (p.drop 16) else none

/-- STAND.LUT (R331). -/
def standLut : CmdDef where
  opcode := 0x0802
  kind := .stageable
  lenOk := lenIs 16
  checks _ c :=
    let p := c.payload
    chkP (1 < u8 p 2) stBadField 2 ++ rsvBytes p 3 8 ++
    chkP (if u8 p 2 = 0 then u64 p 8 != 0 else u64 p 8 % 256 != 0 || !inFree (u64 p 8) 6144) stBadField 8
  validate s _ _ _ fin p :=
    let bad := (fin.named p).any fun i =>
      let t := fin.stands.getD i {}
      let tb := if u8 p 2 = 1 then (if p.length = 16 then Mem.reads s.fs.mem (u64 p 8) 6144 else p.drop 16) else s.bundleWidths t.stype
      (u8 p 2 == 1 || t.stype != 0) && !widthsOk fin.rate tb
    standMissing fin p ++ chk bad stBadField
  prepare s p := if u8 p 2 = 1 then slice p 0 16 ++ Mem.reads s.fs.mem (u64 p 8) 6144 else p
  apply p c := c.updStands p fun t => { t with lut := lutOf p }
  effect _ p _ _ s := forEach (s.settings.named p) s fun i s => s.wantLut i (s.clock.tick + 1)

/-! ### STAND.STATUS (R333) -/

/-- The response of STAND.STATUS. -/
def State.standStatus (s : State) (l pos : Nat) : List Byte :=
  let k := s.link l
  let c := s.settings.links.getD l {}
  le 1 k.state ++ le 1 c.rate ++ le 1 c.clocking ++ le 1 k.spared ++ le 1 k.narrowed ++
  le 1 (maskOf [k.dataSpare || k.spared != 0xFF, k.retSpare || k.retOnSpare, k.retOnSpare]) ++ le 1 (s.settings.standsOn l).length ++ [0] ++
  (List.range 12).flatMap (fun n => le 2 (k.eye.getD n 0)) ++ le 8 k.frames ++ le 4 k.naked ++ le 4 k.rxCrc ++ le 4 k.timeouts ++
  le 4 k.recoveries ++ le 4 k.skips ++ le 4 k.heldSubs ++ zeros 64 ++
  (match s.standAt l pos with
   | some i => padTo 40 (s.stand i).statusBytes ++ leI 2 ((s.stand i).temp.getD (-32768))
   | none => zeros 40 ++ zeros 2) ++ zeros 86

/-- STAND.STATUS (R333). -/
def standStatusCmd : CmdDef where
  opcode := 0x0803
  kind := .immediate
  lenOk := lenIs 8
  checks s c :=
    let p := c.payload
    chkP (15 < u8 p 0) stBadField 0 ++ chkP (7 < u8 p 1 && u8 p 1 != 0xFF) stBadField 1 ++ rsvBytes p 2 8 ++
    chkP (u8 p 1 != 0xFF && (s.standAt (u8 p 0) (u8 p 1)).isNone) stNoResource 1
  run s c := .done s (s.standStatus (u8 c.payload 0) (u8 c.payload 1)) 0

/-! ### Release and admission (R437, R439) -/

/-- STAND.RELEASE (R437). -/
def standRelease : CmdDef where
  opcode := 0x0804
  kind := .immediate
  lenOk := lenIs 8
  checks s c := rsvBytes c.payload 2 8 ++ chk (s.modes.mode = 0) stBadMode ++ s.noStand c.payload false
  run s c :=
    let i := u16 c.payload 0
    .done (s.updStand i fun st => { st.mapKerfs (fun k => { k with valid := false }) with
      released := true, releaseDone := false, parking := false, admission := 0, kss := 0, kssDue := false }) [] 0

/-- An admission ends without admitting the stand: it stays dark (DEDUCED, log entry 47). -/
def State.admitFails (s : State) (i : Nat) : State :=
  (s.updStand i fun st => { st with admission := 0 }).raise evStandStatus i [(s.stand i).flags.toNat] (s.stand i).admitTag

/-- Step 1 of an admission, on the STATUS that answers IDENTIFY (R439). -/
def State.admitIdentify (s : State) (i : Nat) : State :=
  let st := s.stand i
  let c := s.standCfg i
  if c.stype ≠ 0 ∧ c.stype ≠ st.stypeSeen then s.admitFails i else
  let same := c.serial == st.serialSeen
  let s := { s with settings := { s.settings with stands := upd s.settings.stands i fun t =>
    { t with stype := st.stypeSeen, serial := st.serialSeen, lut := none, steer := none } } }
  if s.clock.rate = 120 ∧ widthsWide (s.widthsOf (s.standCfg i)) then s.admitFails i else
  let s := if same then s else (s.updCal i fun k => { k with faults := [] }).needRebuild i
  let reset := !(st.admitKeep && same)
  let s := s.updStand i fun st => { st with admission := 2, loaded := false, dark := true }
  let s := s.updCal i fun k => { k with op := 5, opParams := [BitVec.ofNat 8 (1 + 2 * b2n reset)], opTag := st.admitTag }
  s.askMemory i

/-- An admission goes on as far as it can (R439): the load, the tables, the known-state sequence, the first lit frame (DEDUCED, log entry 47). -/
def State.admitStep (s : State) (i : Nat) : State :=
  let st := s.stand i
  match st.admission with
  | 2 =>
    if st.cal.op ≠ 0 then s
    else if !st.loaded then s.updStand i fun st => { st with admission := 0 }
    else
      let c := s.standCfg i
      let s := (s.loadLut i (s.widthsOf c)).sendCmd i 2 0 (s.tableOf c)
      s.updStand i fun st => { st with admission := 3, lutWant := true, lutNext := [], steerDue := false }
  | 3 =>
    if st.lutPending then s
    else if !st.lutAcked then s.admitFails i
    else
    let s := s.updStand i fun st => { st.unknownAll with
      admission := 4, released := false, releaseDone := false, removed := false, excluded := false, railFault := st.railFault && st.railBad, kssDue := true, dark := true }
    s.releaseSafe (s.standCfg i).link
  | 4 =>
    if st.kss ≠ 0 ∨ st.kssDue then s
    else s.updStand i fun st => { st.mapKerfs (fun k => { k with invalid := true, valid := false }) with admission := 5 }
  | _ => s

/-- Admissions go on as far as they can. -/
def State.admitSettle (s : State) : State :=
  forEach ((List.range s.stands.length).filter fun i => 2 ≤ (s.stand i).admission) s fun i s => (s.admitStep i).admitStep i

/-- STAND.ADMIT (R439, R95). -/
def standAdmit : CmdDef where
  opcode := 0x0805
  kind := .immediate
  lenOk := lenIs 8
  checks s c :=
    let p := c.payload
    let st := s.stand (u16 p 0)
    rsvBits p 2 0xFE ++ rsvBytes p 3 8 ++ chk (s.modes.mode = 0 || (s.modes.mode = 1 && !s.modes.ready)) stBadMode ++
    s.noStand p false ++ chkP (!st.seen) stNoResource 0 ++ chk (st.admission != 0 || st.calRuns) stBusy
  run s c :=
    let i := u16 c.payload 0
    let s := s.updStand i fun st => { st with admission := 1, admitKeep := bitOf (u8 c.payload 2) 0, admitTag := c.tag }
    .done (s.sendCmd i 4 0 []) [] 0

end Sys2Proof.Machine
end

