-- ==== Sys2Proof/Machine/Crypto.lean ====
section
/-! DEFINITION. Signed messages (R464), and the steps by which the security domain unwraps a content key (R132, R476): HMAC and HKDF with SHA-384 (RFC 2104,
RFC 5869), GHASH and AES-256-GCM (NIST SP 800-38D), over the primitives that `Config` leaves to their standards. -/

namespace Sys2Proof.Machine

/-- Bitwise exclusive or of two byte strings, over the length of the first. -/
def xorBytes (a b : List Byte) : List Byte := a.mapIdx fun i x => x ^^^ byteAt b i

/-! ### Signed messages (R464) -/

/-- "RILEC-MANIFEST-1" in ASCII. -/
def manifestLabel : List Byte :=
  [0x52, 0x49, 0x4C, 0x45, 0x43, 0x2D, 0x4D, 0x41, 0x4E, 0x49, 0x46, 0x45, 0x53, 0x54, 0x2D, 0x31]
/-- "RILEC-LIFECYCLE-1" in ASCII. -/
def lifecycleLabel : List Byte :=
  [0x52, 0x49, 0x4C, 0x45, 0x43, 0x2D, 0x4C, 0x49, 0x46, 0x45, 0x43, 0x59, 0x43, 0x4C, 0x45, 0x2D, 0x31]
/-- "RILEC-ATTEST-1" in ASCII. -/
def attestLabel : List Byte :=
  [0x52, 0x49, 0x4C, 0x45, 0x43, 0x2D, 0x41, 0x54, 0x54, 0x45, 0x53, 0x54, 0x2D, 0x31]
/-- "RILEC-MGMT-1" in ASCII. -/
def mgmtLabel : List Byte := [0x52, 0x49, 0x4C, 0x45, 0x43, 0x2D, 0x4D, 0x47, 0x4D, 0x54, 0x2D, 0x31]

/-- What Ed25519 signs: the label, a byte 0x00, the body. -/
def edMessage (label body : List Byte) : List Byte := label ++ 0 :: body

/-- Which of the two signatures fail over a body under a label: bit 0 Ed25519, which comes first, bit 1 ML-DSA-65, whose context is the label. -/
def sigFailure (keys label body sigs : List Byte) : Nat :=
  (if Config.ed25519Ok (keys.take 32) (edMessage label body) (sigs.take 64) then 0 else 1) +
  (if Config.mldsaOk (slice keys 32 1952) label body (slice sigs 64 3309) then 0 else 2)

/-- Both signatures of the identity keys over a body under a label. -/
def signatures (label body : List Byte) : List Byte :=
  padTo 64 (Config.ed25519Sign (edMessage label body)) ++ padTo 3309 (Config.mldsaSign label body)

/-! ### HKDF-SHA-384 -/

/-- HMAC-SHA-384 of a message under a key of at most the hash's block of 128 bytes. -/
def hmac384 (key msg : List Byte) : List Byte :=
  let k := padTo 128 key
  let pad (b : Byte) : List Byte := k.map fun x => x ^^^ b
  Config.sha384 (pad 0x5C ++ Config.sha384 (pad 0x36 ++ msg))

/-- HKDF of at most 48 bytes: one block of output. -/
def hkdf384 (salt ikm info : List Byte) (n : Nat) : List Byte := (hmac384 (hmac384 salt ikm) (info ++ [1])).take n

/-! ### AES-256-GCM -/

/-- A block of 16 bytes as GCM reads it: the first bit is the most significant. -/
def blockNat (b : List Byte) : Nat := uN (padTo 16 b).reverse 0 16

/-- Product of two blocks in the field of GCM: `n` bits of `x` are still to come, the most significant first. -/
def gmulStep : (n x v z : Nat) → Nat
  | 0, _, _, z => z
  | n + 1, x, v, z =>
    gmulStep n x (if v % 2 = 1 then (v / 2) ^^^ (0xE1 * 2 ^ 120) else v / 2) (if bitOf x n then z ^^^ v else z)

/-- Product of two blocks in the field of GCM. -/
def gmul (x y : Nat) : Nat := gmulStep 128 x y 0

/-- A byte string in blocks, the last filled with zeros. -/
def gcmBlocks (b : List Byte) : List (List Byte) := (List.range ((b.length + 15) / 16)).map fun n => slice b (16 * n) 16

/-- GHASH of the additional data and the ciphertext under the hash key `h`. -/
def ghash (h : Nat) (aad cipher : List Byte) : Nat :=
  let len (b : List Byte) : List Byte := be 8 (8 * b.length)
  (gcmBlocks aad ++ gcmBlocks cipher ++ [len aad ++ len cipher]).foldl (fun y b => gmul (y ^^^ blockNat b) h) 0

/-- Counter block number `i` of a nonce of 12 bytes; block 1 covers the tag. -/
def gcmCounter (nonce : List Byte) (i : Nat) : List Byte := nonce.take 12 ++ be 4 i

/-- AES-256-GCM decryption: none where the tag does not match. -/
def gcmOpen (key nonce aad cipher tag : List Byte) : Option (List Byte) :=
  let h := blockNat (Config.aes256 key (zeros 16))
  let own := be 16 (ghash h aad cipher ^^^ blockNat (Config.aes256 key (gcmCounter nonce 1)))
  if own = tag then
    some (cipher.mapIdx fun i x => x ^^^ byteAt (Config.aes256 key (gcmCounter nonce (2 + i / 16))) (i % 16))
  else none

/-! ### Unwrapping (R132, R476) -/

/-- "RILEC-CK-1" in ASCII. -/
def ckLabel : List Byte := [0x52, 0x49, 0x4C, 0x45, 0x43, 0x2D, 0x43, 0x4B, 0x2D, 0x31]

/-- The content key of a STREAM.KEY payload under a generation of the content-key pairs; none where a step fails (R132, R476): the ML-KEM
secret, which a bad ciphertext makes another one, the X25519 secret, which is not all zeros, the AES-256 key and nonce derived
from both, and the tag over bytes 0 to 31 and the wrapped key. -/
def unwrapKey (kemGen : Nat) (p : List Byte) : Option (List Byte) :=
  let ct := slice p 32 1088
  let pub := slice p 1120 32
  let shared := Config.x25519 kemGen pub
  if shared = zeros 32 then none else
  let okm := hkdf384 (le 8 Config.serial) (Config.kemDecapsulate kemGen ct ++ shared)
    (ckLabel ++ ct ++ pub ++ slice (Config.kemPublic kemGen) 1184 32) 44
  gcmOpen (okm.take 32) (okm.drop 32) (slice p 0 32) (slice p 1152 16) (slice p 1168 16)

end Sys2Proof.Machine
end

