-- ==== Sys2Proof/Machine/Stream.lean ====
section
/-! DEFINITION. Streams (R116 to R144): submission queues and descriptors, keys, assignment of decoders, presentation times
and the lead deadline; STREAM.QUEUES, OPEN, CLOSE, KEY and STATS. -/

namespace Sys2Proof.Machine

/-! ### Fields of a stream -/

def SceneStream.isLrs (st : SceneStream) : Bool := st.format == 1

/-- Complete scene frames held, not yet decoded (R127, R144). -/
def SceneStream.heldFrames (st : SceneStream) : Nat := (st.frames.filter fun f => f.complete && !f.decoded && !(f.bad && f.released)).length

/-- Bytes of the stream's share in use (R127). -/
def SceneStream.used (st : SceneStream) : Nat := ((st.frames.filter fun f => !f.decoded).map (·.placed)).foldl (· + ·) 0

/-- Bytes of the stream's share in each die. -/
def SceneStream.share (st : SceneStream) : Nat := st.bufferMib * 1048576

/-- Changes the frame with a number. -/
def SceneStream.updFrame (st : SceneStream) (num : Nat) (f : SceneFrame → SceneFrame) : SceneStream :=
  { st with frames := st.frames.map fun x => if x.num = num then f x else x }

/-- The frame with a number. -/
def SceneStream.frame? (st : SceneStream) (num : Nat) : Option SceneFrame := st.frames.find? (·.num == num)

/-- A scene frame not released yet is discarded (R122): its remaining descriptors are skipped and the stream waits for a
random-access point. -/
def SceneStream.discard (st : SceneStream) (num : Nat) : SceneStream :=
  { st with frames := st.frames.filter (fun x => x.num != num || x.released), discarding := some num, awaitRap := true }

/-- The frames up to the newest one due at or before a tick, in the order they were fetched (R142). -/
def SceneStream.upTo (st : SceneStream) (t : Nat) : List SceneFrame := (st.frames.reverse.dropWhile fun f => t < f.due).reverse

/-! ### From presentation time to tick (R140, R141) -/

/-- round(a / b) with halves up, for b > 0. -/
def roundDiv (a : Int) (b : Nat) : Int := (2 * a + b).fdiv (2 * b)

/-- The tick at which a presentation time is due (R140); the period is in 1/3 ns. -/
def dueTick (originPts : Int) (originTick period pts : Nat) : Nat :=
  ((originTick : Int) + roundDiv (3 * (pts : Int) - originPts) period).toNat

/-- Due tick under the stream's present anchor. -/
def SceneStream.due (st : SceneStream) (period pts : Nat) : Nat := dueTick st.ptsOrigin st.tickOrigin period pts

/-- Content period in 1/3 ns: RATE_DEN / RATE_NUM seconds (R141), rounded down. -/
def SceneStream.contentPeriod (st : SceneStream) : Nat := st.rateDen * 3000000000 / max 1 st.rateNum

/-- The stream re-anchored at tick N, where the period changes (R140): what is due from N on falls due under the new period (DEDUCED, log entry 38). -/
def SceneStream.reanchor (st : SceneStream) (n pOld pNew : Nat) : SceneStream :=
  let po := st.ptsOrigin + ((n : Int) - st.tickOrigin) * pOld
  let again (due pts : Nat) : Nat := if n ≤ due then dueTick po n pNew pts else due
  { st with ptsOrigin := po, tickOrigin := n,
            frames := st.frames.map fun f => { f with due := again f.due f.pts }
            lastDue := match st.lastDue, st.lastFrame with
              | some t, some (_, p) => some (again t p)
              | t, _ => t
            lastDueTick := again st.lastDueTick st.lastPts }

/-- The panel frame period that goes with the anchors of the streams, in 1/3 ns (R140). -/
def State.streamPeriod (s : State) : Nat :=
  match s.tb.change with
  | some c => if c.anchored then framePeriod c.newRate else s.period
  | none => s.period

/-- Streams opened before tick N = `n` are re-anchored for it and the ticks after it (R140, R265). -/
def State.reanchorAll (s : State) (n rate : Nat) : State :=
  if s.period = framePeriod rate then s else
  { s with ingest := { s.ingest with streams := s.ingest.streams.map (Option.map fun st =>
      if st.openedFor < n then st.reanchor n s.period (framePeriod rate) else st) } }

/-! ### Keys (R131 to R133) -/

/-- Mask of loaded slots. -/
def keyMask (keys : List (Option KeySlot)) : Nat := maskOf (keys.map Option.isSome)

/-- Key slots of a stream, or of its armed open. -/
def State.keysOf (s : State) (n : Nat) : List (Option KeySlot) :=
  match s.stream n with
  | some st => st.keys
  | none => lookupD s.ingest.armedKeys n (List.replicate 4 none)

/-- Stores one slot. -/
def State.setKey (s : State) (n slot : Nat) (v : Option KeySlot) : State :=
  match s.stream n with
  | some _ => s.updStream n fun st => { st with keys := upd st.keys slot fun _ => v }
  | none => { s with ingest := { s.ingest with armedKeys := insertKey s.ingest.armedKeys n (upd (s.keysOf n) slot fun _ => v) } }

/-- Every slot of every stream and armed open is erased: reset of the security domain (R132). -/
def State.eraseAllKeys (s : State) : State :=
  { s with ingest := { s.ingest with
      streams := s.ingest.streams.map (Option.map fun st => { st with keys := List.replicate 4 none }), armedKeys := [] } }

/-! ### Descriptors (R119 to R122) -/

def dKind (d : List Byte) : Nat := u8 d 0
def dLast (d : List Byte) : Bool := bitOf (u8 d 1) 0
def dRap (d : List Byte) : Bool := bitOf (u8 d 1) 1
def dEncrypted (d : List Byte) : Bool := bitOf (u8 d 1) 2
def dDiscont (d : List Byte) : Bool := bitOf (u8 d 1) 3
def dIv8 (d : List Byte) : Bool := bitOf (u8 d 1) 4
def dSub (d : List Byte) : Nat := u16 d 2
def dSize (d : List Byte) : Nat := u32 d 4
def dPts (d : List Byte) : Nat := u64 d 16
def dFrame (d : List Byte) : Nat := u32 d 24
def dSlot (d : List Byte) : Nat := u8 d 28
def dSubsamples (d : List Byte) : Nat := u16 d 30

/-- SUBSTREAM is valid for a format other than LRS (R121). -/
def subOk (format sub : Nat) : Bool :=
  if format = 2 then sub / 256 ≤ 3 && sub % 256 ≤ 2 else sub == 0

/-- The next frame number. -/
def nextFrame (f : Nat) : Nat := (f + 1) % 0x100000000

/-- The newest frame is still open: its LAST has not been fetched. -/
def SceneStream.openFrame (st : SceneStream) : Option SceneFrame :=
  match st.lastFrame with
  | none => none
  | some (n, _) => st.frames.find? fun f => f.num == n && !f.lastSeen

/-- The descriptor continues the newest frame. -/
def SceneStream.continues (st : SceneStream) (d : List Byte) : Bool :=
  match st.openFrame with
  | none => false
  | some f => f.num == dFrame d

/-- FRAME is neither the open frame's nor one above the previous (cause 4) (DEDUCED, log entry 36). -/
def SceneStream.badSequence (st : SceneStream) (d : List Byte) : Bool :=
  match st.lastFrame with
  | none => false
  | some (n, _) => !st.continues d && dFrame d != nextFrame n

/-- PTS differs within a frame, or does not rise (cause 5). -/
def SceneStream.badPts (st : SceneStream) (d : List Byte) : Bool :=
  match st.lastFrame with
  | none => false
  | some (_, p) => if st.continues d then dPts d != p else !dDiscont d && dPts d ≤ p

/-- The sequence that a descriptor's SUBSTREAM is judged by (R145): that of the frame it continues, else the one in force where it
does not start a random-access frame; empty while there is none. -/
def SceneStream.seqFor (st : SceneStream) (d : List Byte) : List Byte :=
  if st.continues d then ((st.frame? (dFrame d)).getD {}).seq else if dRap d then [] else st.seqHdr

/-- SUBSTREAM is wrong (R121, R145, R166): an LRS frame starts with SUBSTREAM 0 and names planes that its sequence declares. -/
def SceneStream.subBad (st : SceneStream) (d : List Byte) : Bool :=
  if !st.isLrs then !subOk st.format (dSub d)
  else (!st.continues d && dSub d != 0) || (st.seqFor d != [] && !substreamOk (st.seqFor d) (dSub d))

/-- The first check of R122 beside that of FRAME which a descriptor fails as it is fetched, by cause; 0 where none fails (DEDUCED, log
entry 36); the alignment of SUBSAMPLE_ADDR is judged whatever SUBSAMPLES is (DESIGN CHOICE, log entry 153). -/
def SceneStream.descCause (st : SceneStream) (d : List Byte) : Nat :=
  if dKind d = 0 ∨ 3 < dKind d then 1
  else if 32 ≤ u8 d 1 ∨ u8 d 29 ≠ 0 ∨ !allZero d 56 64 then 2
  else if dKind d = 3 then (if dSize d ≠ 0 then 3 else 0)
  else if dSize d = 0 ∨ 16777216 < dSize d then 3
  else if st.badPts d then 5
  else if u64 d 32 % 8 ≠ 0 ∨ 1024 < dSubsamples d then 6
  else if (dEncrypted d ∧ st.protect = 0) ∨ (dIv8 d ∧ st.protect = 2) then 7
  else if st.subBad d then 9
  else if dEncrypted d ∧ 3 < dSlot d then 12
  else 0

/-- Reports a queue error (R122); UNIT 0xFFFF for a relayed stream (DESIGN CHOICE, log entry 33). -/
def State.queueError (s : State) (n idx cause : Nat) : State :=
  match s.stream n with
  | none => s
  | some st =>
    (s.updStream n fun st => { st with queueErrors := (st.queueErrors + 1) % 0x100000000 }).raise evQueueError
      (if st.queue = 0xFF then noUnit else st.queue) [idx, cause]

/-- The first descriptor of a scene frame is fetched, whether the frame is kept or not: it carries the newest FRAME and PTS, and
its due tick is the last one, under the anchor it sets where it carries DISCONTINUITY (R141). -/
def SceneStream.anchor (st : SceneStream) (period : Nat) (d : List Byte) : SceneStream :=
  let st := { st with frames := st.frames.map (fun (f : SceneFrame) => { f with lastSeen := true })
                      lastFrame := some (dFrame d, dPts d), expGone := 0 }
  let st := match dDiscont d, st.lastDue with
    | true, some t =>
      { st with ptsOrigin := 3 * (dPts d : Int), tickOrigin := t + max 1 (roundDiv st.contentPeriod period).toNat }
    | _, _ => st
  { st with lastDue := some (st.due period (dPts d)) }

/-- A descriptor starts a new scene frame: its anchor, its due tick, its place among the frames, the sequence in force for it. -/
def SceneStream.startFrame (st : SceneStream) (period : Nat) (d : List Byte) : SceneStream :=
  let st := st.anchor period d
  { st with discarding := none
            frames := st.frames ++ [{ num := dFrame d, pts := dPts d, due := st.lastDue.getD 0, rap := dRap d, seen := true
                                      seq := if dRap d then [] else st.seqHdr, seqNo := st.seqNo }] }

/-- The descriptor starts a frame that was abandoned while it was only expected (R142). -/
def SceneStream.startsGone (st : SceneStream) (d : List Byte) : Bool :=
  st.expGone != 0 && !st.continues d && !st.badSequence d

/-- Due tick of the frame a descriptor belongs to: of the open frame it continues, else under the anchor it would set. -/
def SceneStream.dueOf (st : SceneStream) (period : Nat) (d : List Byte) : Nat :=
  if st.continues d then ((st.frame? (dFrame d)).getD {}).due else (st.anchor period d).lastDue.getD 0

/-- As ingest resumes, the frame of a descriptor has passed (R93): it is discarded, once in DISCARDED_LATE also where a part of it was
held, and the stream waits for a random-access point. -/
def SceneStream.resumeDrop (st : SceneStream) (period : Nat) (d : List Byte) : SceneStream :=
  let st := if st.continues d then { st with frames := st.frames.filter (·.num != dFrame d) } else st.anchor period d
  { st with discarding := some (dFrame d), awaitRap := true, discardedLate := (st.discardedLate + 1) % 0x100000000 }

/-- A descriptor fails a check that leaves nothing of its frame (R122): the frame is discarded; its FRAME and PTS still are the
newest fetched, which the next descriptor is compared with, and the first descriptor of a frame sets the anchor that it carries (R141)
(DESIGN CHOICE, log entry 121). -/
def SceneStream.rejectDesc (st : SceneStream) (period : Nat) (d : List Byte) : SceneStream :=
  (if st.continues d then { st with lastFrame := some (dFrame d, dPts d) } else st.anchor period d).discard (dFrame d)

/-- FRAME is not the next one (cause 4): the open frame is discarded, or a frame of the same FRAME that is complete and not released;
where neither is held, nothing is discarded and the stream does not wait (DESIGN CHOICE, log entry 121). -/
def SceneStream.breakSequence (st : SceneStream) (d : List Byte) : SceneStream :=
  match st.openFrame with
  | some f => { st.discard f.num with discarding := none }
  | none =>
    let same : Bool := (st.frame? (dFrame d)).any fun f => !f.released
    { (if same then st.discard (dFrame d) else st) with discarding := none }

/-- A descriptor whose reading failed twice (R122, cause 8): it names no frame, so the open frame is discarded, and without one
the stream waits for a random-access point (DESIGN CHOICE, log entry 122). -/
def SceneStream.unreadDesc (st : SceneStream) : SceneStream :=
  match st.openFrame with
  | some f => st.discard f.num
  | none => { st with awaitRap := true }

/-- One descriptor is fetched and checked (R118, R122); true where it waits for its turn: for its data to be placed, or as an
END. -/
def State.fetchDesc (s : State) (n : Nat) (e : Desc) : State × Bool :=
  let d := e.bytes
  let idx := e.index
  match s.stream n with
  | none => (s, false)
  | some st =>
    let count := fun (st : SceneStream) => { st with descriptors := st.descriptors + 1 }
    if st.ended then (s, false)
    else if e.failed then ((s.queueError n idx 8).updStream n fun st => (count st).unreadDesc, false)
    else if dKind d = 2 ∨ (dKind d = 1 ∧ st.discarding = some (dFrame d)) then (s.updStream n count, false)
    else if dKind d = 1 ∧ st.startsGone d then
      -- R142: descriptors of an abandoned frame are skipped
      (s.updStream n fun st => { (count st).anchor s.streamPeriod d with expGone := st.expGone - 1, discarding := some (dFrame d) }, false)
    else if st.resuming ∧ dKind d = 1 ∧ st.dueOf s.streamPeriod d ≤ s.clock.tick then
      -- R93: the descriptors of every scene frame whose presentation time has passed
      (s.updStream n fun st => (count st).resumeDrop s.streamPeriod d, false)
    else
      let s := s.updStream n fun st => { count st with resuming := false }
      let c := st.descCause d
      if 1 ≤ c ∧ c ≤ 3 then ((s.queueError n idx c).updStream n (·.rejectDesc s.streamPeriod d), false)
      else if dKind d = 3 then
        -- R126: nothing more is fetched, so a frame still without its last descriptor never completes
        (s.updStream n fun st => { st with ended := true, frames := st.frames.filter (·.lastSeen) }, true)
      else
        -- cause 4: the descriptor starts a new frame, whose other checks follow
        let s := if st.badSequence d then (s.queueError n idx 4).updStream n (·.breakSequence d) else s
        let st := (s.stream n).getD st
        let c := st.descCause d
        if c ≠ 0 then ((s.queueError n idx c).updStream n (·.rejectDesc s.streamPeriod d), false)
        else
          let s := if st.continues d then s else s.updStream n fun st => st.startFrame s.streamPeriod d
          (s.updStream n fun st => st.updFrame (dFrame d) fun f => { f with lastSeen := dLast d }, true)

/-- The consumer index of a queue: the first entry whose data is still to be placed, else all that was read (R118). -/
def Queue.consumed (q : Queue) : Nat := match q.fetched with | [] => q.read | d :: _ => d.index

/-- Mirrors an advanced consumer index to CIDX_ADDR as 4 bytes (R118). -/
def State.mirrorCidx (s : State) (q : Nat) : State :=
  let c := (s.queue q).consumed
  if c = (s.queue q).cidx then s else
  (s.updQueue q fun x => { x with cidx := c, mirrored := c }).emit (.hostWrite (s.queue q).cidxAddr (le 4 c))

/-- The stream an open queue serves. -/
def State.streamOfQueue (s : State) (q : Nat) : Option Nat :=
  (List.range 8).find? fun n => (s.stream n).any fun st => st.queue == q

/-- Puts descriptors read from a queue behind those it still has to fetch (R118) (DESIGN CHOICE, log entry 33). -/
def Queue.readDescs (x : Queue) : List (Option (List Byte)) → Queue
  | [] => x
  | d :: ds =>
    Queue.readDescs { x with read := (x.read + 1) % 2 ^ x.log2
                             fetched := x.fetched ++ [{ index := x.read, bytes := d.getD [], failed := d.isNone }] } ds

/-- A decode error (R139): counted and reported.  The stream waits for a random-access point from the frame's turn on. -/
def State.decodeError (s : State) (n decoder cause : Nat) : State :=
  (s.updStream n fun st => { st with decodeErrors := (st.decodeErrors + 1) % 0x100000000 }).raise evDecodeError decoder [n, cause]

/-- A frame that is not used leaves, and the stream waits for a random-access point (R139, R166). -/
def SceneStream.unused (st : SceneStream) (num : Nat) : SceneStream :=
  { st with frames := st.frames.filter (·.num != num), awaitRap := true }

/-- A key refusal (R133): the descriptor's scene frame is discarded (DEDUCED, log entry 35). -/
def State.keyRefused (s : State) (n frame cause : Nat) : State :=
  (s.updStream n fun st => { st.discard frame with keyRefusals := (st.keyRefusals + 1) % 0x100000000 }).raise evKeyRefused n [cause]

/-! ### Decryption (R130) -/

/-- The initialisation vector of a descriptor (R130): 16 bytes, or 8 in the high half under IV8. -/
def dIv (d : List Byte) : List Byte := if dIv8 d then slice d 40 8 ++ zeros 8 else slice d 40 16

/-- Counter block number `i` of a sample (R130): the high half of the IV stays, the low half counts up, big-endian, modulo 2^64
(PRESUMED, log entry 109). -/
def ctrBlock (iv : List Byte) (i : Nat) : List Byte :=
  iv.take 8 ++ (le 8 ((uN (iv.drop 8).reverse 0 8 + i) % 0x10000000000000000)).reverse

/-- 'cenc': a protected range whose first byte is protected byte `done` of its sample. -/
def cencRange (key iv : List Byte) (done : Nat) (bs : List Byte) : List Byte :=
  bs.mapIdx fun i x => x ^^^ byteAt (Config.aesEncrypt key (ctrBlock iv ((done + i) / 16))) ((done + i) % 16)

/-- 'cbcs': the blocks of a protected range, `i` the number of the first; `prev` is the chaining value.  A trailing partial block stays
clear. -/
def cbcsRange (key : List Byte) (crypt skip : Nat) : (blocks i : Nat) → (prev bs : List Byte) → List Byte
  | 0, _, _, bs => bs
  | n + 1, i, prev, bs =>
    if i % (crypt + skip) < crypt then
      xorBytes (Config.aesDecrypt key (bs.take 16)) prev ++ cbcsRange key crypt skip n (i + 1) (bs.take 16) (bs.drop 16)
    else bs.take 16 ++ cbcsRange key crypt skip n (i + 1) prev (bs.drop 16)

/-- A sample by its subsample table: each entry's clear bytes, then its protected bytes under `f`, which is told how many protected
bytes came before. -/
def decryptRanges (f : Nat → List Byte → List Byte) : List (Nat × Nat) → (done : Nat) → List Byte → List Byte
  | [], _, bs => bs
  | (clear, prot) :: l, done, bs =>
    bs.take clear ++ f done ((bs.drop clear).take prot) ++ decryptRanges f l (done + prot) (bs.drop (clear + prot))

/-- The SIZE bytes of a descriptor as fetched. -/
def placedBytes (d : List Byte) (p : Placed) : List Byte := p.data.take (dSize d) ++ zeros (dSize d - p.data.length)

/-- The data of a descriptor as it is placed (R130): a clear one as fetched, SUBSAMPLES 0 as one protected range. -/
def SceneStream.decrypt (st : SceneStream) (d : List Byte) (key : Option KeySlot) (p : Placed) : List Byte :=
  let bs := placedBytes d p
  match key with
  | none => bs
  | some k =>
    let ranges := if dSubsamples d = 0 then [(0, dSize d)] else p.subs
    let range (done : Nat) (r : List Byte) : List Byte :=
      if st.protect = 2 then cbcsRange k.key st.crypt st.skip (r.length / 16) 0 (dIv d) r else cencRange k.key (dIv d) done r
    decryptRanges range ranges 0 bs

/-- The subsample table does not sum to SIZE (cause 6). -/
def subsBad (d : List Byte) (p : Placed) : Bool :=
  dSubsamples d != 0 && (p.subs.length != dSubsamples d || (p.subs.map fun x => x.1 + x.2).foldl (· + ·) 0 != dSize d)

/-! ### Placing data (R127, R133, R146, R166) -/

/-- What the checks of a frame's control units need of its stream. -/
def SceneStream.lrsCtx (st : SceneStream) (f : SceneFrame) : LrsCtx :=
  { seq := f.seq, prevActive := st.prevActive.toNat, prevDesc := st.layerDesc, texels := st.texels
    prevKnown := st.prevFrame.any fun n => nextFrame n == f.num }

/-- A random-access frame's sequence header is in force from its first unit on (R145, R164): it starts a new sequence where it differs
from the one before (DEDUCED, log entry 34). -/
def SceneStream.takeHeader (st : SceneStream) (num : Nat) : SceneStream :=
  match st.frame? num with
  | none => st
  | some f =>
    if !f.rap || f.seq != [] then st else
    match (units f.control).bind List.head? with
    | none => st
    | some u =>
      match parseUnit (st.lrsCtx f) num true {} u with
      | .ok p =>
        if p.seq = [] then st else
        let no := if p.seq = st.seqHdr then st.seqNo else st.seqNo + 1
        { st.updFrame num (fun f => { f with seq := p.seq, seqNo := no }) with seqHdr := p.seq, seqNo := no }
      | .error _ => st

/-- The control units placed so far of a frame are judged (R166), once: a fault is reported and the frame is not used.  A frame of no
sequence is not judged. -/
def State.judgeControl (s : State) (n num : Nat) (last : Bool) : State :=
  match s.stream n with
  | none => s
  | some st =>
    match st.frame? num with
    | none => s
    | some f =>
      if !st.isLrs || f.bad || (!f.rap && f.seq == []) then s else
      match controlCheck (st.lrsCtx f) f.num f.rap last f.control with
      | some c => (s.updStream n fun st => st.updFrame num fun f => { f with bad := true }).decodeError n noUnit c
      | none => s

/-- What follows the last byte of a scene frame: it is complete, and its ACTIVE_MASK and layer descriptors are the previous ones for
the frame that follows it (DEDUCED, log entry 34). -/
def State.frameComplete (s : State) (n num : Nat) : State :=
  let s := s.judgeControl n num true
  s.updStream n fun st =>
    let st := st.updFrame num fun f => { f with complete := true, completeAt := s.clock.up }
    match st.frame? num with
    | none => st
    | some f =>
      if !st.isLrs || f.bad || f.seq == [] then st else
      { st with prevFrame := some num, prevActive := BitVec.ofNat 16 (hdrActive (frameHeader f.control))
                layerDesc := (layerDescs f.control).foldl (fun m u => insertKey m (descSlot u) u) (if f.rap then [] else st.layerDesc) }

/-- A stream stops fetching (R127); the time it stands is no fetching time (R125). -/
def State.stopFetch (s : State) (n : Nat) : State :=
  match s.stream n with
  | none => s
  | some st => (s.updStream n fun st => { st with stopped := true }).updQueue st.queue fun q => { q with polled := none }

/-- What the engine does as it turns to a descriptor whose data is to be read (R127, R133). -/
inductive Turn where
  /-- It starts reading, with this key. -/
  | reads (key : Option KeySlot)
  /-- The frame is gone: the descriptor is skipped. -/
  | gone
  /-- The frame is beyond the share (cause 11). -/
  | tooLarge
  /-- The data does not fit now. -/
  | full
  /-- The key slot is empty. -/
  | waits
  /-- The key's NOT_AFTER has passed. -/
  | expired
deriving DecidableEq, Repr

/-- The turn of a descriptor of a stream. -/
def State.turn (s : State) (n : Nat) (d : List Byte) : Turn :=
  match s.stream n with
  | none => .gone
  | some st =>
    match st.frame? (dFrame d) with
    | none => .gone
    | some f =>
      if st.share < f.placed + dSize d then .tooLarge
      else if st.share < st.used + dSize d then .full
      else if !dEncrypted d then .reads none
      else match st.keys.getD (dSlot d) none with
        | none => .waits
        | some k => if k.notAfter ≠ 0 ∧ k.notAfter < s.nowNs then .expired else .reads (some k)

/-- A descriptor's frame is too large for the share (R122, R127). -/
def State.tooLarge (s : State) (n idx : Nat) (d : List Byte) : State := (s.queueError n idx 11).updStream n (·.discard (dFrame d))

/-- The data of one descriptor that was read is decrypted and placed (R127, R130); its frame may be gone by then (DEDUCED, log entry 36). -/
def State.placeDesc (s : State) (n idx : Nat) (d : List Byte) (key : Option KeySlot) (p : Placed) : State :=
  match s.stream n with
  | none => s
  | some st =>
    match st.frame? (dFrame d) with
    | none => s
    | some f =>
      let bad (c : Nat) : State := (s.queueError n idx c).updStream n (·.discard f.num)
      if p.failed || p.subsFailed then bad 8
      else if subsBad d p then bad 6
      else
        let clear := st.decrypt d key p
        let ctl := st.isLrs && dSub d == 0
        let s := s.updStream n fun st => { (st.updFrame f.num fun f => { f with
            placed := f.placed + dSize d
            parts := f.parts ++ [(dSub d, clear)]
            control := if ctl then f.control ++ clear else f.control
            subs := if ctl then f.subs else f.subs ++ List.replicate p.aus (dSub d) }) with bytes := st.bytes + dSize d }
        let s := if ctl then (s.updStream n (·.takeHeader f.num)).judgeControl n f.num false else s
        let s := if dLast d then s.frameComplete n f.num else s
        if (s.stream n).any fun st => st.high ≤ st.heldFrames then s.stopFetch n else s

/-! ### Decoders (R135, R136) -/

/-- Throughput of one decoder, luma samples per second (R135). -/
def decoderRate : Nat := 1990656000

/-- Load of a picture size at a stream's rate, in luma samples per second times RATE_DEN (R136). -/
def SceneStream.load (st : SceneStream) (w h : Nat) : Nat := w * h * st.rateNum

/-- Load other streams put on decoder `k`, in luma samples per second. -/
def State.decoderLoad (s : State) (not k : Nat) : Rat :=
  ((List.range 8).flatMap fun n => if n = not then [] else
    ((s.stream n).map fun st => (st.decoders.filter fun e => e.2.1 == k).map fun e => (e.2.2 : Rat) / st.rateDen).getD []).foldl (· + ·) 0

/-- Substreams ordered by falling load, ties by SUBSTREAM (R136): insertion of one. -/
def insertLoad (e : Nat × Nat) : List (Nat × Nat) → List (Nat × Nat)
  | [] => [e]
  | x :: xs => if x.2 < e.2 ∨ (x.2 = e.2 ∧ e.1 < x.1) then e :: x :: xs else x :: insertLoad e xs

/-- First fit (R136): each substream on the decoder of lowest index that serves and has enough left, in luma samples per second times
RATE_DEN; none where one does not fit. -/
def firstFit (ok : Nat → Bool) (free : List Rat) : List (Nat × Nat) → Option (List (Nat × Nat × Nat))
  | [] => some []
  | (sub, load) :: rest =>
    match (List.range 8).find? fun k => ok k && (load : Rat) ≤ free.getD k 0 with
    | none => none
    | some k => (firstFit ok (upd free k (· - load)) rest).map ((sub, k, load) :: ·)

/-- Assigns a stream's substreams with their picture sizes, all or none (R136). -/
def State.assign (s : State) (n : Nat) (sizes : List (Nat × Nat × Nat)) : Option (List (Nat × Nat × Nat)) :=
  match s.stream n with
  | none => none
  | some st =>
    let loads := (sizes.map fun e => (e.1, st.load e.2.1 e.2.2)).foldl (fun l e => insertLoad e l) []
    firstFit (fun k => s.ingest.decState.getD k 0 < 2) ((List.range 8).map fun k => (st.rateDen : Rat) * (decoderRate - s.decoderLoad n k)) loads

/-- Luma samples that count against a stream's texel share (R165). -/
def sizeTexels (sizes : List (Nat × Nat × Nat)) : Nat := (sizes.map fun e => e.2.1 * e.2.2).foldl (· + ·) 0

/-- The picture sizes of a stream's video substreams at a random-access point: from its sequence header (R158) or from the
STREAM.OPEN fields (R138), else as firmware reads them from the parameter sets. -/
def SceneStream.sizesFor (st : SceneStream) (f : SceneFrame) (read : List (Nat × Nat × Nat)) : List (Nat × Nat × Nat) :=
  match st.format with
  | 1 => seqPlanes f.seq
  | 3 => [(0, 2 * st.eyeW, st.eyeH)]
  | 4 => [(0, st.eyeW, 2 * st.eyeH)]
  | _ => read

/-- Texel places a stream's pictures need (R165): a stereo stream 2 × W × H, MIV its atlas samples, MV-HEVC two views. -/
def SceneStream.places (st : SceneStream) (sizes : List (Nat × Nat × Nat)) : Nat :=
  match st.format with
  | 1 => 0
  | 5 => 2 * sizeTexels sizes
  | _ => sizeTexels sizes

/-! ### The lead deadline (R142, R143) -/

/-- How many frames are expected, by tick t, after the newest fetched (R142): the largest k with due(p + floor(k·D)) ≤ t. -/
def SceneStream.expected (st : SceneStream) (period t : Nat) : Nat :=
  match st.lastFrame with
  | none => 0
  | some (_, p) =>
    if st.ended ∨ st.rateNum = 0 then 0 else
    -- largest PTS in ns due at or before t: 3·PTS − origin < (t − T0 + 1/2)·period
    let bound : Int := st.ptsOrigin + (((t : Int) - st.tickOrigin) * 2 + 1) * period / 2
    let lim : Int := (bound - 1).fdiv 3 - p        -- floor(k·D) ≤ lim
    if lim < 0 then 0 else (((lim.toNat + 1) * st.rateNum - 1) / (st.rateDen * 1000000000))

/-- A tick is missed (R143): counted, and EV_SCENE_REPEAT; none after END (DEDUCED, log entry 35). -/
def State.miss (s : State) (n t : Nat) : State :=
  match s.stream n with
  | none => s
  | some st =>
    if st.endRaised ∨ st.missTick = some t then s else
    let run := if st.missTick = some (t - 1) ∧ t ≠ 0 then st.missRun + 1 else 1
    let m := (st.misses + 1) % 0x100000000
    (s.updStream n fun st => { st with missRun := run, missTick := some t, misses := m }).raise evSceneRepeat n [run, m]

/-- The access units of a frame are those R146 asks for. -/
def SceneFrame.unitsOk (f : SceneFrame) : Bool := accessUnitsOk f.seq (hdrChange (frameHeader f.control)) (layerDescs f.control) f.subs

/-- A frame is released to its decoders; at a random-access point substreams are assigned (R136) and access units are judged
(R146, R166); a missing or extra access unit is no single decoder's: UNIT 0xFFFF (DESIGN CHOICE, log entry 123). -/
def State.release (s : State) (n : Nat) (f : SceneFrame) (read : List (Nat × Nat × Nat)) (t : Nat) : State :=
  match s.stream n with
  | none => s
  | some st =>
    let refuse (cause : Nat) : State :=
      ((s.decodeError n noUnit cause).updStream n (·.unused f.num)).miss n t
    -- margin from completion to the lead deadline of the frame's due tick (R144)
    let margin : Int := (s.clock.up : Int) - ((t : Int) - f.due) * s.streamPeriod - f.completeAt
    let go (st : SceneStream) : SceneStream :=
      { (st.updFrame f.num fun f => { f with released := true, margin := margin }) with
        awaitRap := false, seqReleased := if st.isLrs then f.seqNo else st.seqReleased }
    if st.isLrs && !f.unitsOk then refuse 1
    else
      let sizes := st.sizesFor f read
      if f.rap ∧ (st.reassign ∨ sizes ≠ st.sizes ∨ (st.isLrs ∧ f.seqNo ≠ st.seqReleased)) then
        if st.texels * 2 ^ 20 < st.places sizes then refuse 3
        else match s.assign n sizes with
          | none => refuse 4
          | some a => s.updStream n fun st => { go st with decoders := a, reassign := false, sizes := sizes }
      else s.updStream n go

/-- Decoders that carry released frames show STATE 1, idle ones 0 (R43). -/
def State.decoderStates (s : State) : State :=
  let busy (k : Nat) : Bool := (List.range 8).any fun n => (s.stream n).any fun st =>
    (st.frames.any fun f => f.released && !f.decoded && !f.bad) && st.decoders.any fun e => e.2.1 == k
  { s with ingest := { s.ingest with decState := s.ingest.decState.mapIdx fun k v => if 2 ≤ v then v else b2n (busy k) } }

/-- Older frames never released are abandoned (R142): fetched ones leave, expected ones are skipped when they come (DEDUCED, log entry 34). -/
def SceneStream.abandonOlder (st : SceneStream) (older : List Nat) (expOlder : Nat) : SceneStream :=
  let gone := (st.frames.filter fun f => older.contains f.num && !f.released).length
  let k := gone + (expOlder - st.expGone)
  { st with frames := st.frames.filter (fun f => !(older.contains f.num && (!f.released || f.bad))),
            discarding := if (st.openFrame.any fun f => older.contains f.num && !f.released) then st.lastFrame.map (·.1) else st.discarding,
            expGone := max st.expGone expOlder,
            discardedLate := (st.discardedLate + k) % 0x100000000, awaitRap := st.awaitRap || k != 0 }

/-- The first descriptor of a stream that has its data still to be read: of its queue, or relayed. -/
def State.headDesc (s : State) (n : Nat) : Option (List Byte) :=
  (s.stream n).bind fun st =>
    if st.queue = 0xFF then st.relayQ.head?.map (·.1) else ((s.queue st.queue).fetched.head?.filter (·.checked)).map (·.bytes)

/-- A descriptor waits on an empty key slot for the frame due now: it is refused at the lead deadline (R133), but for one whose reading
has started, which took its key then. -/
def State.refuseWaiting (s : State) (n t : Nat) : State :=
  match s.stream n, s.headDesc n with
  | some st, some d =>
    match st.frame? (dFrame d) with
    | none => s
    | some f =>
      if s.ingest.serving.any fun v => v.stream == n && st.queue != 0xFF then s
      else if dEncrypted d ∧ (st.keys.getD (dSlot d) none).isNone ∧ f.due ≤ t then s.keyRefused n f.num 1 else s
  | _, _ => s

/-- The lead deadline of tick t for one stream (R142) (DEDUCED, log entry 34). -/
def State.leadJudge (s : State) (t period n : Nat) (read : List (Nat × Nat × Nat)) : State :=
  match s.stream n with
  | none => s
  | some st =>
    let s := s.updStream n fun st => { st with minHeld := min st.minHeld (min 255 st.heldFrames) }
    let k := st.expected period t
    if st.expGone < k then
      -- the candidate is the k-th expected frame: incomplete
      (s.updStream n fun st => st.abandonOlder (st.frames.map (·.num)) (k - 1)).miss n t
    else
      match (st.upTo t).getLast? with
      | none => s
      | some f =>
        let s := s.updStream n fun st => { st.abandonOlder ((st.upTo t).dropLast.map (·.num)) st.expGone with cand := some (t, f.num) }
        if f.decoded then s
        else if f.complete ∧ !f.bad ∧ (((s.stream n).any fun st => !st.awaitRap) ∨ f.rap ∨ f.released) then
          -- R142: a frame that the synthesis start for t, already past, did not find decoded misses t
          let s := if f.released then s else s.release n f read t
          if t < s.clock.synthTick then s.miss n t else s
        else if f.complete ∧ f.bad ∧ !f.released ∧ (f.rap ∨ ((s.stream n).any fun st => !st.awaitRap)) then
          (s.updStream n (·.unused f.num)).miss n t
        else
          let s := if ((s.stream n).any (·.awaitRap)) && f.complete && !f.released then
              s.updStream n fun st => { st with frames := st.frames.filter (·.num != f.num),
                                                discardedRap := (st.discardedRap + 1) % 0x100000000 } else s
          s.miss n t

/-! ### Decoding (R135, R138, R139, R147, R154, R156, R163) -/

/-- Substreams of which a frame carries an access unit to decode, rising: of an LRS frame the planes R146 asks for, else every
substream that carried data. -/
def SceneStream.dueSubs (st : SceneStream) (f : SceneFrame) : List Nat :=
  if st.isLrs then planesDue f.seq (hdrChange (frameHeader f.control)) (layerDescs f.control)
  else (f.parts.map (·.1)).foldl (fun l k => if l.contains k then l else l.filter (· < k) ++ k :: l.filter (k < ·)) []

/-- The substream is video: every one of an LRS or stereo stream, of a MIV stream its geometry and texture (R121). -/
def SceneStream.isVideo (st : SceneStream) (sub : Nat) : Bool := st.format != 2 || sub % 256 != 0

/-- Substreams whose first picture since their slot became active has been decoded: none in a new sequence (R163, R164). -/
def SceneStream.startedFor (st : SceneStream) (f : SceneFrame) : List Nat := if f.seqNo = st.seqDecoded then st.started else []

/-- The picture size a substream of a frame is declared to have (R138, R158), or was read to have at its random-access point. -/
def SceneStream.declared (st : SceneStream) (f : SceneFrame) (sub : Nat) : Nat × Nat :=
  if st.isLrs then planeSize (slotRec f.seq (sub / 0x100 - 1)) (sub % 0x100)
  else ((st.sizes.find? fun e => e.1 == sub).map (·.2)).getD (0, 0)

/-- The picture of a substream as the decoder finds it; one that is not told of is as it should be. -/
def SceneStream.picture (st : SceneStream) (f : SceneFrame) (found : List Picture) (sub : Nat) : Picture :=
  (found.find? fun p => p.sub == sub).getD
    { sub := sub, width := (st.declared f sub).1, height := (st.declared f sub).2
      codec := if st.format = 5 then 3 else if st.isLrs then u8 (slotRec f.seq (sub / 0x100 - 1)) 5 else st.codec
      starts := f.rap || !(st.startedFor f).contains sub
      views := if st.format = 5 then [st.declared f sub] else [] }

/-- The chroma format and bit depth are outside R135, or outside R147 for the plane kind `k` of an LRS slot. -/
def pictureFormatBad (p : Picture) (lrs : Bool) (k : Nat) : Bool :=
  (p.depth != 8 && p.depth != 10) || 1 < p.chroma || (p.codec != 1 && p.chroma != 1) ||
  (lrs && ((k == 0 && p.chroma != 1) || (2 ≤ k && p.depth != 10) || p.pictures != 1 || p.reorder != 0))

/-- The decode cause that a picture gives (R139), 0 where it conforms; of several the first of 1, 2, 3, 5 (DESIGN CHOICE, log entry 123). -/
def SceneStream.pictureCause (st : SceneStream) (f : SceneFrame) (p : Picture) : Nat :=
  let want := if st.format = 5 then 3 else if st.isLrs then u8 (slotRec f.seq (p.sub / 0x100 - 1)) 5 else st.codec
  let size := (p.width, p.height)
  if !p.syntaxOk then 1
  else if !p.supported ∨ p.codec ≠ want ∨ pictureFormatBad p st.isLrs (p.sub % 0x100) ∨ (st.format = 5 ∧ p.views.length ≠ 1) then 2
  else if 7680 < p.width ∨ 4320 < p.height ∨ (st.format ≠ 5 ∧ st.format ≠ 2 ∧ size ≠ st.declared f p.sub) ∨
      (st.format = 5 ∧ p.views ≠ [size]) then 3
  else if !p.refs ∨ ((f.rap ∨ (st.isLrs ∧ !(st.startedFor f).contains p.sub)) ∧ !(p.starts && p.carries)) then 5
  else 0

/-- The data of a substream in a frame: its access unit (R146). -/
def SceneFrame.unit (f : SceneFrame) (sub : Nat) : List Byte := (f.parts.filter fun e => e.1 == sub).flatMap (·.2)

/-- What the decoders hold of a stream once a frame is decoded: the access units since each substream's last random-access picture; a slot
without pictures keeps what it has (R156), a new sequence keeps nothing (R164). -/
def SceneStream.decodedPlanes (st : SceneStream) (f : SceneFrame) (found : List Picture) : List Plane :=
  let old := if f.seqNo = st.seqDecoded then st.planes else []
  let subs := st.dueSubs f
  (old.filter fun p => !subs.contains p.sub) ++ subs.map fun sub =>
    let p := st.picture f found sub
    let kept := if p.starts then [] else ((old.find? fun q => q.sub == sub).map (·.aus)).getD []
    { sub := sub, codec := p.codec, bits := p.depth, w := p.width, h := p.height, aus := kept ++ [f.unit sub] }

/-- A frame has been decoded (R142, R144): its planes are there, the counters and the margin follow. -/
def SceneStream.decodedFrame (st : SceneStream) (f : SceneFrame) (found : List Picture) : SceneStream :=
  let planes := st.decodedPlanes f found
  let active := hdrActive (frameHeader f.control)
  let started := (st.startedFor f).filter (fun k => !st.isLrs || bitOf active (k / 0x100 - 1)) ++ st.dueSubs f
  { (st.updFrame f.num fun f => { f with decoded := true, planes := planes }) with
    planes := planes, started := started.dedup, seqDecoded := f.seqNo
    decoded := (st.decoded + 1) % 0x100000000, lastPts := f.pts, lastDueTick := f.due
    minMargin := min st.minMargin (f.margin.fdiv 3000) }

/-- The released frame that is decoded next: frames decode in bitstream order (R142). -/
def SceneStream.decoding (st : SceneStream) : Option SceneFrame := st.frames.find? fun f => f.released && !f.decoded && !f.bad

/-- A still frame costs no decoder time (R154): it carries no picture. -/
def SceneStream.isStill (st : SceneStream) (f : SceneFrame) : Bool := st.isLrs && st.dueSubs f == []

/-- Still frames at the head of the frames to decode are decoded at once (R154). -/
def SceneStream.finishStills (st : SceneStream) : (fuel : Nat) → SceneStream
  | 0 => st
  | n + 1 =>
    match st.decoding with
    | some f => if st.isStill f then SceneStream.finishStills (st.decodedFrame f []) n else st
    | none => st

/-- The lead deadline of tick t for one stream: its candidate is judged, then a descriptor that waits for a key is refused (DEDUCED, log entry 35). -/
def State.leadStream (s : State) (t period n : Nat) (read : List (Nat × Nat × Nat)) : State :=
  ((s.leadJudge t period n read).updStream n fun st => st.finishStills st.frames.length).refuseWaiting n t

/-! ### Closing (R125, R126, R132) -/

/-- A stream closes: fetching stops, undecoded data and keys go, slot and queue are free; it leaves its roles at the next synthesis
start (R173). -/
def State.closeStream (s : State) (n : Nat) : State :=
  match s.stream n with
  | none => s
  | some st =>
    let s := s.setStream n none
    let s := { s with ingest := { s.ingest with
        serving := s.ingest.serving.filter fun v => v.stream != n
        unbind := if s.ingest.unbind.contains n then s.ingest.unbind else s.ingest.unbind ++ [n] } }
    (if st.queue = 0xFF then s else
      s.updQueue st.queue fun q => { q with read := q.consumed, fetched := [], polled := none }).decoderStates

/-- EV_STREAM_END, once per stream (DEDUCED, log entry 37). -/
def State.streamEnd (s : State) (n : Nat) : State :=
  match s.stream n with
  | none => s
  | some st => if st.endRaised then s else (s.updStream n fun st => { st with endRaised := true }).raise evStreamEnd n []

/-- After END, once no frame is left to decode: EV_STREAM_END, and a drain ends (R125, R126). -/
def State.checkEnd (s : State) (n : Nat) : State :=
  match s.stream n with
  | none => s
  | some st =>
    if st.ended ∧ (st.frames.all fun f => f.decoded || (f.bad && f.released)) then
      (s.updStream n fun st => { st with drainDue := st.drainDue || st.draining }).streamEnd n
    else s

/-- Ingest resumes on a return to a play mode or to D0 (R29, R93). -/
def State.resumeIngest (s : State) : State :=
  { s with ingest := { s.ingest with streams := s.ingest.streams.map (Option.map fun st => { st with resuming := true }) } }

/-- Every stream is paused: no poll counts toward a drain's empty second (R93, R125). -/
def State.pauseIngest (s : State) : State :=
  { s with ingest := { s.ingest with queues := s.ingest.queues.map fun q => { q with polled := none } } }

/-- Streams fetch: a play mode is in force and the host can be reached (R29, R93). -/
def State.ingestOn (s : State) : Bool := isPlay s.modes.mode && s.hostReach

/-- A stream fetches, from the tick that ends the blank at which it opened (R124). -/
def State.fetches (s : State) (n : Nat) : Bool :=
  s.ingestOn && (s.stream n).any fun st => st.queue != 0xFF && !st.ended && !st.stopped && st.openedFor ≤ s.clock.tick

/-! ### STREAM.STATS (R144) -/

/-- STATE of a stream. -/
def State.streamState (s : State) (n : Nat) : Nat :=
  match s.stream n with
  | none => 0
  | some st =>
    if st.endRaised then 3 else if !isPlay s.modes.mode then 4 else if st.awaitRap then 1 else 2

/-- The response payload of STREAM.STATS; a closed slot answers zeros, and BUFFER_USED_KIB is rounded up (DESIGN CHOICE, log entry 124). -/
def State.streamStats (s : State) (n : Nat) : List Byte :=
  match s.stream n with
  | none => zeros 128
  | some st =>
    le 1 (s.streamState n) ++ le 1 st.format ++ le 1 st.queue ++
    le 1 (maskOf ((List.range 8).map fun k => st.decoders.any fun e => e.2.1 == k)) ++ le 1 (keyMask st.keys) ++
    le 1 (sat 255 st.heldFrames) ++ le 1 st.minHeld ++ [0] ++ le 8 st.descriptors ++ le 8 st.bytes ++ le 4 st.decoded ++
    le 4 st.misses ++ le 4 st.discardedLate ++ le 4 st.discardedRap ++ le 4 st.queueErrors ++ le 4 st.decodeErrors ++
    le 4 st.keyRefusals ++ leI 4 st.minMargin ++ le 8 st.lastPts ++ le 8 st.lastDueTick ++ leI 8 (st.ptsOrigin.fdiv 3) ++
    le 8 st.tickOrigin ++ le 4 ((st.used + 1023) / 1024) ++ zeros 36

/-- Counters of STREAM.STATS cleared by RESET; MIN_HELD and MIN_MARGIN_US start at the largest values they hold (DESIGN CHOICE, log entry 124). -/
def SceneStream.clearStats (st : SceneStream) : SceneStream :=
  { st with descriptors := 0, bytes := 0, decoded := 0, misses := 0, discardedLate := 0, discardedRap := 0, queueErrors := 0,
            decodeErrors := 0, keyRefusals := 0, minHeld := 255, minMargin := 2147483647 }

/-! ### Commands -/

/-- A transaction is armed and stages a command (R131, R117). -/
def State.armedStages (s : State) (p : Staged → Bool) : Bool := s.txns.any fun t => t.state == 1 && t.staged.any p

/-- An armed transaction opens stream `n`. -/
def State.armedOpens (s : State) (n : Nat) : Bool := s.armedStages fun c => c.opcode == 0x0402 && u8 c.payload 0 == n

/-- A queue is bound to an open stream or to one opened by an armed transaction (R117). -/
def State.queueBound (s : State) (q : Nat) : Bool :=
  (s.streamOfQueue q).isSome || s.armedStages fun c => c.opcode == 0x0402 && u8 c.payload 1 == q

/-- Checks of one STREAM.QUEUES record at payload offset `o`. -/
def State.queueRecErrs (s : State) (p : List Byte) (o : Nat) : List Err :=
  rsvBytes p (o + 2) (o + 8) ++
  chkP (15 < u8 p o || s.queueBound (u8 p o)) stBadField o ++
  chkP (u8 p (o + 1) != 0 && (u8 p (o + 1) < 6 || 16 < u8 p (o + 1))) stBadField (o + 1) ++
  chkP (u64 p (o + 8) % 4096 != 0) stBadField (o + 8) ++
  chkP (u64 p (o + 16) % 8 != 0) stBadField (o + 16) ++
  chkP (u64 p (o + 24) % 8 != 0) stBadField (o + 24)

/-- Offsets of the records of a STREAM.QUEUES payload. -/
def queueRecs (p : List Byte) : List Nat := (List.range (u8 p 0)).map fun i => 16 + 32 * i

/-- Configures one queue: consumer index 0, written to CIDX_ADDR. -/
def State.setQueue (s : State) (p : List Byte) (o : Nat) : State :=
  let s := s.updQueue (u8 p o) fun _ =>
    { log2 := u8 p (o + 1), base := u64 p (o + 8), pidxAddr := u64 p (o + 16), cidxAddr := u64 p (o + 24) }
  if u8 p (o + 1) = 0 ∨ !s.hostReach then s else s.emit (.hostWrite (u64 p (o + 24)) (le 4 0))

/-- STREAM.QUEUES (R117). -/
def streamQueues : CmdDef where
  opcode := 0x0401
  kind := .immediate
  lenOk p := 16 ≤ p.length && p.length == 16 + 32 * u8 p 0
  checks s c :=
    let p := c.payload
    chkP (u8 p 0 = 0 || 16 < u8 p 0) stBadField 0 ++ rsvBytes p 1 2 ++
    chkP (u16 p 2 != 0 && (u16 p 2 < 10 || 1000 < u16 p 2)) stBadField 2 ++ rsvBytes p 4 16 ++
    (queueRecs p).flatMap (s.queueRecErrs p)
  run s c :=
    let p := c.payload
    let s := { s with ingest := { s.ingest with pollUs := if u16 p 2 = 0 then 50 else u16 p 2 } }
    .done ((queueRecs p).foldl (fun s o => s.setQueue p o) s) [] 0

/-- TEXELS with its default (R123). -/
def openTexels (p : List Byte) : Nat := if u16 p 30 = 0 then 32 else u16 p 30
/-- HIGH_FRAMES with its default. -/
def openHigh (p : List Byte) : Nat := if u8 p 28 = 0 then 4 else u8 p 28
/-- LOW_FRAMES with its default. -/
def openLow (p : List Byte) : Nat := if u8 p 29 = 0 then min 2 (openHigh p - 1) else u8 p 29

/-- The configuration a STREAM.OPEN makes. -/
def openCfg (p : List Byte) : StreamCfg :=
  { payload := p, queue := u8 p 1, format := u8 p 2, bufferMib := u32 p 24, texels := openTexels p, rateNum := u16 p 36, rateDen := u16 p 38 }

/-- Open streams of a configuration. -/
def Settings.openStreams (c : Settings) : List StreamCfg := c.streams.filterMap id

/-- The stream a STREAM.OPEN starts (R123, R124); `t` is the tick that ends its blank. -/
def openStream (p : List Byte) (t : Nat) : SceneStream :=
  { queue := u8 p 1, format := u8 p 2, codec := u8 p 3, protect := u8 p 4, crypt := u8 p 5, skip := u8 p 6,
    ptsOrigin := 3 * (u64 p 8 : Int), tickOrigin := if u64 p 16 = 0 then t + 3 else u64 p 16, openedFor := t, bufferMib := u32 p 24,
    high := openHigh p, low := openLow p, texels := openTexels p, eyeW := u16 p 32, eyeH := u16 p 34, rateNum := u16 p 36, rateDen := u16 p 38 }

/-- An eye dimension is outside its range for the format (R123). -/
def eyeBad (format v lo hi : Nat) : Bool :=
  if format = 3 ∨ format = 4 then v % 2 != 0 || v < lo || hi < v else v != 0

/-- STREAM.OPEN (R123, R124). -/
def streamOpen : CmdDef where
  opcode := 0x0402
  kind := .stageable
  lenOk := lenIs 64
  checks _ c :=
    let p := c.payload
    let f := u8 p 2
    chkP (7 < u8 p 0) stBadField 0 ++ chkP (15 < u8 p 1 && u8 p 1 != 0xFF) stBadField 1 ++
    chkP (f = 0 || 5 < f) stBadField 2 ++
    chkP (if f = 1 ∨ f = 5 then u8 p 3 != 0 else u8 p 3 != 1 && u8 p 3 != 2) stBadField 3 ++
    chkP (2 < u8 p 4) stBadField 4 ++
    chkP (if u8 p 4 = 2 then u8 p 5 = 0 || 15 < u8 p 5 else u8 p 5 != 0) stBadField 5 ++
    chkP (if u8 p 4 = 2 then 15 < u8 p 6 else u8 p 6 != 0) stBadField 6 ++ rsvBytes p 7 8 ++
    chkP (u32 p 24 < 16 || 4096 < u32 p 24) stBadField 24 ++
    chkP (u8 p 28 != 0 && (u8 p 28 < 2 || 16 < u8 p 28)) stBadField 28 ++
    chkP (u8 p 29 != 0 && openHigh p - 1 < u8 p 29) stBadField 29 ++
    chkP (128 < u16 p 30) stBadField 30 ++ chkP (eyeBad f (u16 p 32) 640 3840) stBadField 32 ++
    chkP (eyeBad f (u16 p 34) 360 2160) stBadField 34 ++
    chkP (u16 p 36 < u16 p 38 || 60 * u16 p 38 < u16 p 36) stBadField 36 ++ chkP (u16 p 38 = 0) stBadField 38 ++
    rsvBytes p 40 64
  validate s _ _ cur fin p :=
    chkP ((cur.streams.getD (u8 p 0) none).isSome) stNoResource 0 ++
    chkP (u8 p 1 != 0xFF && ((s.queue (u8 p 1)).log2 = 0 || cur.openStreams.any fun o => o.queue == u8 p 1)) stNoResource 1 ++
    chkP (u8 p 1 = 0xFF && fin.chainRoot) stNoResource 1 ++
    chkP (fin.rate * u16 p 38 < u16 p 36) stBadField 36
  apply p c := { c with streams := upd c.streams (u8 p 0) fun _ => some (openCfg p) }
  effect _ p _ _ s :=
    let n := u8 p 0
    let st := { openStream p (s.clock.tick + 1) with keys := lookupD s.ingest.armedKeys n (List.replicate 4 none) }
    let st := match s.tb.change with
      | some c => if c.anchored ∧ st.openedFor < c.loadTick + 2 then st.reanchor (c.loadTick + 2) s.period (framePeriod c.newRate) else st
      | none => st
    let s := s.setStream n (some st)
    { s with ingest := { s.ingest with armedKeys := removeKey s.ingest.armedKeys n } }

/-- STREAM.CLOSE (R125); with DRAIN on a stream that has ended there is nothing left to drain, and it closes at the same blank (DESIGN CHOICE,
log entry 152). -/
def streamClose : CmdDef where
  opcode := 0x0403
  kind := .stageable
  lenOk := lenIs 8
  checks _ c :=
    chkP (7 < u8 c.payload 0) stBadField 0 ++ rsvBits c.payload 1 0xFE ++ rsvBytes c.payload 2 8
  validate _ _ _ cur _ p := chkP ((cur.streams.getD (u8 p 0) none).isNone) stNoResource 0
  apply p c := if bitOf (u8 p 1) 0 then c else { c with streams := upd c.streams (u8 p 0) fun _ => none }
  effect _ p _ _ s :=
    let n := u8 p 0
    if bitOf (u8 p 1) 0 then
      (s.updStream n fun st => { st with draining := true, drainDue := st.drainDue || st.endRaised })
    else s.closeStream n

/-- STREAM.KEY (R131, R132, R476); with CLEAR no slot takes a key, and LOADED_TIME is the device time of the command (DESIGN CHOICE, log
entry 151). -/
def streamKey : CmdDef where
  opcode := 0x0404
  kind := .immediate
  lenOk p := if bitOf (u8 p 2) 0 then p.length == 32 else p.length == 1184
  checks s c :=
    let p := c.payload
    let clear := bitOf (u8 p 2) 0
    chkP (7 < u8 p 0) stBadField 0 ++ chkP (3 < u8 p 1) stBadField 1 ++ rsvBits p 2 0xFE ++ rsvBytes p 3 4 ++ rsvBytes p 4 8 ++
    chkP (!clear && u64 p 24 != 0 && u64 p 24 ≤ s.nowNs) stBadField 24 ++
    chkP ((s.stream (u8 p 0)).isNone && !s.armedOpens (u8 p 0)) stNoResource 0 ++
    chk (s.security.lifecycle = 2) stLifecycle ++
    chk (!clear && (!s.security.kemValid || (unwrapKey s.security.kemGen p).isNone)) stAuth
  run s c :=
    let p := c.payload
    let n := u8 p 0
    let v : Option KeySlot := if bitOf (u8 p 2) 0 then none else
      (unwrapKey s.security.kemGen p).map fun k => { kid := slice p 8 16, notAfter := u64 p 24, key := k }
    let s := s.setKey n (u8 p 1) v
    .done s (le 1 (u8 p 1) ++ le 1 (keyMask (s.keysOf n)) ++ zeros 6 ++ le 8 s.nowNs) 0

/-- STREAM.STATS (R144). -/
def streamStatsCmd : CmdDef where
  opcode := 0x0405
  kind := .immediate
  lenOk := lenIs 8
  checks _ c :=
    chkP (7 < u8 c.payload 0) stBadField 0 ++ rsvBits c.payload 1 0xFE ++ rsvBytes c.payload 2 8
  run s c :=
    let n := u8 c.payload 0
    .done (if bitOf (u8 c.payload 1) 0 then s.updStream n (·.clearStats) else s) (s.streamStats n) 0

end Sys2Proof.Machine
end

