-- ==== Sys2Proof/Machine/Synth.lean ====
section
/-! DEFINITION. Emitter-order ray synthesis (R15, R20 to R24, R155, R173, R174, R181 to R190, R193, R201, R209, R211): the instants of a
frame, what a synthesis start latches, which kerfs it synthesises and in which order, and how the window ends. -/

namespace Sys2Proof.Machine

/-! ### The instants of a display tick (R18, R264, R265) -/

/-- Tick from which the timing of a running change applies, with its period and sub-frame period; the timing in force otherwise (DEDUCED, log entry 104). -/
def State.newTiming (s : State) : Option (Nat × Nat) :=
  s.tb.change.map fun c => (if c.direct then c.loadTick else c.loadTick + 2, c.newRate)

/-- The instant of a future tick on the model's own clock. -/
def State.tickTime (s : State) (t : Nat) : Nat :=
  match s.newTiming with
  | none => s.clock.nextUp + (t - s.clock.tick - 1) * s.period
  | some (n, rate) => s.clock.nextUp + (min t n - s.clock.tick - 1) * s.period + (t - n) * framePeriod rate

/-- Frame rate that the phases of tick `t` follow; `first` is the first offset from N that has the new timing. -/
def State.rateFor (s : State) (t first : Nat) : Nat :=
  match s.newTiming with
  | none => s.clock.rate
  | some (n, rate) => if t < n + first then s.clock.rate else rate

/-- Synthesis start of a tick: P + S + B before it; the first under a new timing serves the tick after N. -/
def State.synthAt (s : State) (t : Nat) : Nat :=
  let r := s.rateFor t 1
  s.tickTime t - (framePeriod r + subPeriod r + blankTime)

/-- Kerf deadline of a tick: S + B + G before it; that of N is the earlier of both timings. -/
def State.kerfAtTime (s : State) (t : Nat) : Nat :=
  s.tickTime t - (max (subPeriod (s.rateFor t 0)) (subPeriod (s.rateFor t 1)) + blankTime + guardTime)

/-- Scan-out start of a tick: S + B before it. -/
def State.scanAt (s : State) (t : Nat) : Nat := s.tickTime t - (subPeriod (s.rateFor t 0) + blankTime)

/-! ### Sections and their kerfs (R17, R193) -/

/-- Section that serves a stand: the stands of a die are dealt to its eight sections in turn, in map order (R17) (DEDUCED, log entry 24). -/
def Settings.sectionOf (c : Settings) (i : Nat) : Nat := 8 * dieOfLink (c.stands.getD i {}).link + c.dieSlot i % 8

/-- Active reeds of a section (R41): of reeds 34 × section on, those in state 0. -/
def Faults.reedsOf (f : Faults) (sec : Nat) : List Nat := ((List.range 34).map (34 * sec + ·)).filter fun r => f.reeds.getD r 0 == 0

/-- How many reeds of a section are active. -/
def Faults.activeReeds (f : Faults) (sec : Nat) : Nat := (f.reedsOf sec).length

/-- A section works: its die is powered, it is neither fenced nor retired, and it has an active reed. -/
def State.sectionWorks (s : State) (sec : Nat) : Bool :=
  (s.bellows.dieOff.getD (sec / 8) none).isNone && !s.regionOut 3 sec && s.faults.activeReeds sec != 0

/-- Die-order kerf row of a kerf: 128 rows per stand in die stand order. -/
def Settings.dieRow (c : Settings) (i k : Nat) : Nat := 128 * c.dieSlot i + k / 64

/-- The section in whose order a kerf stands: its own, or the one that carries its row (R193). -/
def State.carrier (s : State) (c : Settings) (i k : Nat) : Nat :=
  let home := c.sectionOf i
  match s.faults.shares.find? fun e => e.1 == c.dieRow i k && e.2.1 == home with
  | some e => e.2.2
  | none => home

/-- Quadrant of a section (R41) (DEDUCED, log entry 94). -/
def quadrant (sec : Nat) : Nat := sec / 4

/-- Die-order kerf rows that a section's own stands bring, under a map. -/
def Settings.rowsOf (c : Settings) (sec : Nat) : List Nat :=
  (List.range c.stands.length).flatMap fun i => if c.sectionOf i = sec then (List.range 128).map (c.dieRow i 0 + ·) else []

/-- Rows divided in order among sections, as evenly as possible: row, home, carrier (DEDUCED, log entry 24). -/
def divideRows (rows : List (Nat × Nat)) (secs : List Nat) : List (Nat × Nat × Nat) :=
  let w := secs.length
  let n := rows.length
  if w = 0 then [] else
  rows.mapIdx fun k e => (e.1, e.2, secs.getD (if k < n % w * (n / w + 1) then k / (n / w + 1) else n % w + (k - n % w * (n / w + 1)) / max 1 (n / w)) 0)

/-- Shares of one quadrant under R193. -/
def State.quadrantShares (s : State) (q : Nat) : List (Nat × Nat × Nat) :=
  let secs := span (4 * q) (4 * q + 4)
  let failed := secs.filter fun k => s.faults.spread.any fun e => e.1 == k
  let works := secs.filter fun k => s.sectionWorks k && !failed.contains k
  let dieWorks := (span (8 * (q / 2)) (8 * (q / 2) + 8)).filter fun k => s.sectionWorks k && !s.faults.spread.any fun e => e.1 == k
  let rows := fun (k : Nat) => (s.synth.cfg.rowsOf k).map fun r => (r, k)
  if failed = [] then []
  else match works with
    | [] => divideRows (failed.flatMap rows) dieWorks
    | [one] => divideRows ((secs.filter fun k => failed.contains k || k == one).flatMap rows) dieWorks
    | _ => failed.flatMap fun k => divideRows (rows k) works

/-- The shares that follow from the failed sections and the map in synthesis (R194). -/
def State.reshare (s : State) : State :=
  if s.faults.spread = [] ∧ s.faults.shares = [] then s else
  { s with faults := { s.faults with shares := (List.range 4).flatMap s.quadrantShares } }

/-- Sections seen working at a tick take their kerfs back at a synthesis start; lanes that passed are unmasked (R193). -/
def State.takeBack (s : State) : State :=
  let back := s.faults.backSeen
  let s := { s with faults := { s.faults with
    spread := s.faults.spread.filter fun e => !back.contains e.1, backSeen := []
    lanes := s.faults.lanes.filter (s.regionOut 1) } }
  s.reshare

/-! ### Kerf contexts -/

/-- Context of a stand-local kerf. -/
def Stand.kerf (st : Stand) (k : Nat) : Kerf := lookupD st.kerfs k st.kerfBase

/-- The contexts of a stand given by kerf: kerf 0 stands for every kerf that equals it. -/
def Stand.withKerfs (st : Stand) (f : Nat → Kerf) : Stand :=
  let base := f 0
  { st with kerfBase := base, kerfs := (List.range 8192).filterMap fun k => if f k = base then none else some (k, f k) }

/-- SPREAD_PHASE of a kerf (R181): (kerf column + 3 × hogel row) mod 32. -/
def spreadPhase (k : Nat) : Nat := (k % 64 + 3 * (k / 64)) % 32

/-- Wall kerf row of a stand-local kerf (R167). -/
def Settings.kerfRow (c : Settings) (i k : Nat) : Nat := (c.stands.getD i {}).y0 + k / 64

/-- Context of a kerf of the window, wherever its stand now stands. -/
def State.windowKerf (s : State) (i k : Nat) : Kerf :=
  match s.synth.window.cur i with
  | some j => (s.stand j).kerf k
  | none => {}

/-! ### Scene frames come into use (R142, R155, R164) -/

/-- The candidate of a stream for a tick (R142): the frame that its lead deadline found; none where that was an expected frame. -/
def SceneStream.candidate (st : SceneStream) (w : Nat) : Option SceneFrame :=
  st.cand.bind fun c => if c.1 = w then st.frame? c.2 else none

/-- Slots whose generation a frame advances. -/
def frameChange (f : SceneFrame) : Nat := hdrChange (frameHeader f.control)

/-- One LRS frame takes effect on what the stream keeps per slot; `g` is the scene generation it brings (DEDUCED, log entry 23). -/
def SceneStream.takeSlots (st : SceneStream) (f : SceneFrame) (fresh : Bool) (g : Nat) : SceneStream :=
  let slots := if fresh then List.range 16 else slotsOf (frameChange f)
  { st with
    slotGens := slots.foldl (fun m k => insertKey m k (((lookupD m k (0, 0)).1 + 1) % 0x100000000, g)) st.slotGens
    descUsed := (layerDescs f.control).foldl (fun m u => insertKey m (descSlot u) u) (if f.rap then [] else st.descUsed) }

/-- A scene frame is first used (R155): generations, the descriptors in use, ACTIVE_MASK and BACKGROUND.  Frames decoded and passed over
take effect with it, in bitstream order (DEDUCED, log entry 23). -/
def SceneStream.take (st : SceneStream) (f : SceneFrame) : SceneStream :=
  let older := st.frames.takeWhile fun e => e.num != f.num
  let between := (older.filter fun e => e.decoded && !(st.inUse.any fun u => u.num == e.num)) ++ [f]
  let keep := (older.filter fun e => !e.decoded) ++ st.frames.drop older.length
  if !st.isLrs then
    let g := (st.sceneGen + 1) % 0x100000000
    { st with sceneGen := g, activeGen := g, inUse := some f, frames := keep }
  else
    let hdr := frameHeader f.control
    let active := BitVec.ofNat 16 (hdrActive hdr)
    let bg := BitVec.ofNat 32 (hdrBackground hdr)
    let moved := f.seqNo != st.seqTaken || active != st.activeUsed || bg != st.background
    let any := moved || between.any fun e => frameChange e != 0
    let g := if any then (st.sceneGen + 1) % 0x100000000 else st.sceneGen
    let taken := between.foldl (fun (x : SceneStream × Nat) e => (x.1.takeSlots e (e.seqNo != x.2) g, e.seqNo)) (st, st.seqTaken)
    { taken.1 with sceneGen := g, activeGen := if moved then g else st.activeGen, activeUsed := active, background := bg,
                   seqUsed := f.seq, seqTaken := f.seqNo, inUse := some f, frames := keep }

/-- Per-eye size of a stereo stream (R138): as declared, or that of the decoded base view. -/
def SceneStream.eye (st : SceneStream) (f : SceneFrame) : Nat × Nat :=
  if st.eyeW ≠ 0 then (st.eyeW, st.eyeH) else match f.planes with | p :: _ => (p.w, p.h) | [] => (1, 1)

/-- EV_LIFT_DEGRADED; causes 2 to 4 at most once per second, each by itself and whatever the stream (R202) (DESIGN CHOICE, log entry 158). -/
def State.liftDegraded (s : State) (n cause : Nat) : State :=
  if 2 ≤ cause ∧ cause ≤ 4 then
    if s.ingest.liftEvents.any fun e => e.1 == cause && !s.since e.2 (sec 1) then s
    else ({ s with ingest := { s.ingest with liftEvents := insertKey s.ingest.liftEvents cause s.clock.up } }).raise evLiftDegraded n [cause]
  else s.raise evLiftDegraded n [cause]

/-- A stream at the synthesis start for tick w: its candidate comes into use; a released frame not decoded is a miss, and so is a frame
whose eyes lift does not take (R142, R202 cause 5). -/
def State.useFrame (s : State) (c : Settings) (n w : Nat) : State :=
  match s.stream n with
  | none => s
  | some st =>
    match st.candidate w with
    | none => s
    | some f =>
      if st.inUse.any fun u => u.num == f.num then s
      else if f.decoded ∧ !f.bad then
        let e := st.eye f
        if c.primary 4 = some n ∧ (3840 < e.1 ∨ 2160 < e.2) then
          (((s.updStream n fun st => { st with frames := st.frames.filter (·.num != f.num) }).liftDegraded n 5).miss n w)
        else s.updStream n fun st => st.take f
      else if f.released ∧ !f.decoded then s.miss n w
      else s

/-- What a window reads of an open stream (R183). -/
def SceneStream.scene (st : SceneStream) : Scene :=
  let f := st.inUse.getD {}
  { format := st.format, gen := st.sceneGen, activeGen := st.activeGen, slotGens := st.slotGens, shown := st.inUse.isSome
    active := st.activeUsed, background := st.background, seq := st.seqUsed, descs := st.descUsed, planes := f.planes
    eyeW := (st.eye f).1, eyeH := (st.eye f).2 }

/-- The scene of a stream in the window. -/
def State.scene (s : State) (n : Nat) : Option Scene := s.synth.scenes.getD n none

/-- The primary scene of a mode in the window. -/
def State.primaryScene (s : State) (c : Settings) (mode : Nat) : Option Scene := (c.primary mode).bind s.scene

/-! ### What a kerf can meet (R176, R182) -/

/-- Masks and depth bounds of a kerf (R182): LAYER_MASK, INSET_MASK, COMPOSE_MASK, NEAR_Z and FAR_Z. -/
structure Masks where
  layer : Nat := 0
  inset : Nat := 0
  compose : Nat := 0
  near : Rat := 0
  far : Rat := 0
deriving DecidableEq, Repr

/-- Part of a line that lies in a plane layer: its one crossing. -/
def planePart (r : RayLine) (origin au av : Vec) : Option (Rat × Rat) := (crossPlane r origin au av).map fun x => (x.1, x.1)

/-- Part of a line inside the volume of a relief between two depth values (R182). -/
def Relief.part (rl : Relief) (span : Nat × Nat) (r : RayLine) : Option (Rat × Rat) :=
  let a := coords rl.au rl.av rl.normal (r.o.sub rl.origin)
  let b := coords rl.au rl.av rl.normal r.d
  (meet (slab a.1 b.1 0 1) (meet (slab a.2.1 b.2.1 0 1)
    (slab a.2.2 b.2.2 (reliefOffset span.1 rl.lo rl.hi) (reliefOffset span.2 rl.lo rl.hi)))).bind id

/-- Part of a line inside a box. -/
def boxPart (r : RayLine) (lo hi : Vec) : Option (Rat × Rat) :=
  (meet (slab r.o.x r.d.x lo.x hi.x) (meet (slab r.o.y r.d.y lo.y hi.y) (slab r.o.z r.d.z lo.z hi.z))).bind id

/-- The lifted scene as the die of a stand holds it (R196). -/
def State.liftCopy (s : State) (c : Settings) (i : Nat) : LiftCopy := s.synth.lifts.getD (dieOfLink (c.stands.getD i {}).link) {}

/-- Part of a wall line inside a primary slot's bounding volume (R182, R200), as stand `i` marches it; none where the slot is not active. -/
def State.slotPart (s : State) (c : Settings) (mode i slot : Nat) (r : RayLine) : Option (Rat × Rat) :=
  let line := (placingOf (c.places.getD 0 [])).toScene r
  match s.primaryScene c mode, mode with
  | some sc, 2 =>
    if !sc.active.getLsbD slot then none else
    match sc.descs.find? fun e => e.1 == slot with
    | some (_, u) =>
      if u8 u 9 = 0 then planePart line (vecAt u 16) (vecAt u 28) (vecAt u 40) else (sc.relief slot u).part (sc.depthSpan slot u) line
    | none => none
  | some _, 4 =>
    let lifted := (s.liftCopy c i).frames
    match lifted with
    | f :: _ =>
      if slot = 0 ∨ (slot = 1 ∧ !f.lp.noFill) then
        f.relief.part (f.relief.span (liftDepth lifted slot) f.relief.top 0 0) line
      else none
    | [] => none
  | _, _ => none

/-- Part of a wall line inside an inset's clip box, placed in wall space. -/
def State.insetPart (s : State) (c : Settings) (i : Nat) (r : RayLine) : Option (Rat × Rat) :=
  if ((c.inset i).bind s.scene).isNone then none else
  let place := placingOf (c.places.getD (i + 1) [])
  place.clip.bind fun b => boxPart (place.toScene r) b.1 b.2

/-- Part of a wall line in a compose layer's placed rectangle. -/
def layerPart (c : Settings) (p : List Byte) (r : RayLine) : Option (Rat × Rat) :=
  if p = [] then none else
  let q := layerPara (placingOf (c.places.getD 0 [])) p
  planePart r q.o q.u q.v

/-- Wall-space z at both ends of the parts of a bundle's lines. -/
def partZs (rays : List RayLine) (f : RayLine → Option (Rat × Rat)) : List Rat :=
  rays.flatMap fun r => match f r with | some (a, b) => [r.o.z + a * r.d.z, r.o.z + b * r.d.z] | none => []

/-- Largest and smallest of a list of z; 0 where there is none (DESIGN CHOICE, log entry 21). -/
def zSpan (l : List Rat) : Rat × Rat := match l with | [] => (0, 0) | z :: zs => (zs.foldl max z, zs.foldl min z)

/-- Near and far z of the source views of a MIV scene, in wall space (R182): of the points at a view's near and far depth along its axis, placed as
the scene is (DESIGN CHOICE, log entry 138). -/
def Scene.viewZs (sc : Scene) (place : Placing) : List Rat :=
  (List.range (min 32 (Config.viewCount sc.atlas))).flatMap fun v =>
    let o := Config.viewCentre sc.atlas v
    let d := Config.viewAxis sc.atlas v
    let e := Config.viewRange sc.atlas v
    let z (depth : Rat) : Rat := (place.point ((⟨o.1, o.2.1, o.2.2⟩ : Vec).add ((⟨d.1, d.2.1, d.2.2⟩ : Vec).scale depth))).z
    [z e.1, z e.2]

/-- bound() of R175 for a kerf in a window of a mode: every list holds a candidate's number and the z of its volume inside the bundle. -/
def State.bound (s : State) (c : Settings) (mode i k : Nat) : Masks :=
  let rays := kerfRays c (c.stands.getD i {}) k
  let found (n : Nat) (f : Nat → RayLine → Option (Rat × Rat)) : List (Nat × List Rat) :=
    ((List.range n).map fun l => (l, partZs rays (f l))).filter fun e => e.2 != []
  let slots := found 16 fun l => s.slotPart c mode i l
  let insets := if isPlay mode then found 3 fun l => s.insetPart c l else []
  let layers := if isPlay mode ∨ mode = 5 then found 8 fun l => layerPart c (s.synth.layers.getD l {}).payload else []
  let mask (l : List (Nat × List Rat)) : Nat := (l.map fun e => 2 ^ e.1).foldl (· + ·) 0
  let z := zSpan (match mode, s.primaryScene c mode with
    | 3, some sc => sc.viewZs (placingOf (c.places.getD 0 []))
    | _, _ => (slots ++ insets ++ layers).flatMap (·.2))
  { layer := mask slots, inset := mask insets, compose := mask layers, near := z.1, far := z.2 }

/-- A rational as a binary32, nearest even (R181). -/
def toF32 (x : Rat) : Nat :=
  if x = 0 then 0 else
  let e := max (log2Floor |x|) (-126)
  (if x < 0 then 0x80000000 else 0) + min 0x7F800000 ((e + 126).toNat * 0x800000 + roundEven (|x| / pow2 (e - 23)))

/-! ### Skipping (R21, R183, R184) -/

/-- Scene generation `g` was set after `base`: fewer than 2^31 generations ahead. -/
def genAfter (base g : Nat) : Bool := g != base && (g + 0x100000000 - base) % 0x100000000 < 0x80000000

/-- The scene conditions of R184 for a kerf whose SCENE_GEN is behind. -/
def State.sceneSkip (s : State) (c : Settings) (mode i k : Nat) (x : Kerf) : Bool :=
  match if mode = 2 then s.primaryScene c mode else none with
  | none => false
  | some sc =>
    let moved := (sc.slotGens.filter fun e => genAfter x.sceneGen e.2.2).map (·.1)
    genAfter x.sceneGen s.synth.window.latchScene && !genAfter x.sceneGen sc.activeGen &&
    moved.all fun slot => !bitOf x.layerMask slot &&
      !((kerfRays c (c.stands.getD i {}) k).any fun r => (s.slotPart c mode i slot r).isSome)

/-- Insets in a mask have unchanged generations. -/
def insetSame (x : Kerf) (latched : List Nat) : Bool :=
  (List.range 3).all fun i => !bitOf x.insetMask i || x.insetGen.getD i 0 == latched.getD i 0

/-- Conditions of R21 other than the scene's. -/
def State.restSame (s : State) (i : Nat) (x : Kerf) : Bool :=
  let w := s.synth.window
  insetSame x w.latchInset && x.calGen == w.latchCal.getD i 0 && x.concealGen == w.latchConceal.getD i 0 && x.composeWant == x.composeDone

/-- 0 synthesise; 1 skip with the generation it has (R21); 2 skip taking the latched generation (R184). -/
def State.skip (s : State) (i k : Nat) (x : Kerf) : Nat :=
  let w := s.synth.window
  let c := s.synth.cfg
  if !w.writes then 1
  else if x.invalid ∨ !s.restSame i x then 0
  else if x.sceneGen = w.latchScene then 1
  else if s.sceneSkip c w.mode i k x then 2 else 0

/-! ### Compose updates latch (R209, R211) -/

/-- Rectangle an update covers on its layer, placed in wall space. -/
def updatePara (c : Settings) (p : List Byte) (u : Update) : Para :=
  let q := layerPara (placingOf (c.places.getD 0 [])) p
  if u.whole then q else q.part (u16 p 4) (u16 p 6) u.x u.y u.w u.h

/-- Kerfs an update touches on a stand. -/
def State.touches (s : State) (c : Settings) (u : Update) (i k : Nat) : Bool :=
  let rays := kerfRays c (c.stands.getD i {}) k
  let hit (p : List Byte) : Bool := p != [] && (let q := updatePara c p u; rays.any fun r => meetsPlane r q.o q.u q.v)
  hit (s.compose.layers.getD u.layer {}).payload || (u.region == 15 && hit u.oldRect)

/-- The update may latch: its blit is done, nothing it queues behind runs (DEDUCED, log entry 25). -/
def Compose.mayLatch (c : Compose) (u : Update) : Bool :=
  !u.running && (u.afterBlit == 0 || u.afterBlit ≤ c.blitDone) && !(c.updates.any fun v => v.running && v.seq == u.behind)

/-- One update latches: the touched kerfs take COMPOSE_WANT and COMPOSE_REGION; NEW_BASE is read from now on. -/
def State.latchUpdate (s : State) (u : Update) : State :=
  let c := s.synth.cfg
  let hit : List (Nat × Nat) := (List.range s.stands.length).flatMap fun i => ((List.range 8192).filter (s.touches c u i)).map fun k => (i, k)
  let s := { s with stands := s.stands.mapIdx fun i st =>
    let ks : List Nat := (hit.filter fun (e : Nat × Nat) => e.1 == i).map Prod.snd
    if ks = [] then st else st.withKerfs fun k =>
      let x := st.kerf k
      if ks.contains k then { x with composeWant := u.seq, composeRegion := u.layer * 16 + u.region } else x }
  { s with compose := { s.compose with
    latchedSeq := max s.compose.latchedSeq u.seq
    updates := s.compose.updates.map fun (v : Update) => if v.seq = u.seq then { v with running := true, kerfs := hit } else v
    layers := match u.newBase with
      | some b => upd s.compose.layers u.layer fun (l : LayerState) => { l with base := b }
      | none => s.compose.layers } }

/-- Every update that may latch does, in SEQ order, where the mode marches compose layers; complete ones leave (DEDUCED, log entry 25). -/
def State.latchUpdates (s : State) (mode : Nat) : State :=
  if isPlay mode ∨ mode = 5 then
    (s.compose.updates.filter s.compose.mayLatch).foldl (fun s u => s.latchUpdate u) s
  else s

/-- Running updates all of whose kerfs are written are complete (R209). -/
def Compose.settleUpdates (c : Compose) (written : Nat × Nat → Bool) : Compose :=
  let us := c.updates.map fun u => if u.running then { u with kerfs := u.kerfs.filter fun e => !written e } else u
  { c with updates := us.filter fun u => !(u.running && u.kerfs == []) }

/-! ### Dispatch order (R186, R193) -/

/-- Wall kerf rows of some stands, rising. -/
def Settings.wallRows (c : Settings) (on : List Nat) : List Nat :=
  on.foldr (fun i l => (List.range 128).foldr (fun r l => insertNat l ((c.stands.getD i {}).y0 + r)) l) []

/-- Stands by their column. -/
def Settings.byColumn (c : Settings) (on : List Nat) : List Nat :=
  let x0 (i : Nat) : Nat := (c.stands.getD i {}).x0
  on.foldr (fun i l => l.filter (fun j => x0 j < x0 i) ++ i :: l.filter fun j => x0 i ≤ x0 j) []

/-- The kerfs of some stands by kerf row, from the top, and then by wall kerf column (R186). -/
def Settings.wallOrder (c : Settings) (on : List Nat) : List (Nat × Nat) :=
  let across := c.byColumn on
  (c.wallRows on).flatMap fun r => across.flatMap fun i =>
    let y := (c.stands.getD i {}).y0
    if y ≤ r ∧ r < y + 128 then (List.range 64).map fun col => (i, 64 * (r - y) + col) else []

/-- Sections whose kerfs a section carries a share of, each with the kerfs of the share in row order (R193). -/
def State.sharesOf (s : State) (c : Settings) (sec : Nat) : List (Nat × Nat) :=
  let mine := s.faults.shares.filter fun e => e.2.2 == sec && e.2.1 != sec
  let homes := (mine.map fun e => e.2.1).eraseDups
  homes.flatMap fun h => (mine.filter fun e => e.2.1 == h).flatMap fun e =>
    ((List.range c.stands.length).filter fun i => c.sectionOf i == h && c.dieSlot i == e.1 / 128).flatMap fun i =>
      (List.range 64).map fun col => (i, 64 * (e.1 % 128) + col)

/-- A section's order (R193): LATE kerfs, its own and the shares', by row and column; its own others so; the shares' others. -/
def State.orderOf (s : State) (c : Settings) (sec : Nat) : List (Nat × Nat) :=
  let late (e : Nat × Nat) : Bool := (s.windowKerf e.1 e.2).late
  let held := (c.wallOrder (List.range c.stands.length)).filter fun e => s.carrier c e.1 e.2 == sec
  held.filter late ++ held.filter (fun e => !late e && c.sectionOf e.1 == sec) ++ (s.sharesOf c sec).filter fun e => !late e

/-- The order with skipped kerfs passed over: stand, kerf, kerfs passed over before it (R186). -/
def passOver (todo : Nat × Nat → Bool) (order : List (Nat × Nat)) : List (Nat × Nat × Nat) :=
  (order.foldl (fun (acc : List (Nat × Nat × Nat) × Nat) e =>
    if todo e then (acc.1 ++ [(e.1, e.2, acc.2)], 0) else (acc.1, acc.2 + 1)) ([], 0)).1

/-- The dispatchers of a window: one for each section, its queue in order. -/
def State.dispatchers (s : State) (c : Settings) (todo : List (Nat × Nat)) (start : Nat) : List Dispatcher :=
  (List.range 16).map fun sec => { sec := sec, queue := passOver todo.contains (s.orderOf c sec), next := start }

/-- The bounding rectangle of the stand map: first column and row, columns, rows. -/
def Settings.bounds (c : Settings) : Nat × Nat × Nat × Nat :=
  let lo (l : List Nat) : Nat := match l with | [] => 0 | a :: r => r.foldl min a
  let x := lo (c.stands.map (·.x0))
  let y := lo (c.stands.map (·.y0))
  (x, y, (c.stands.map fun t => t.x0 + 128).foldl max 0 - x, (c.stands.map fun t => t.y0 + 128).foldl max 0 - y)

/-- The region in force (R380). -/
def Settings.regionOrBounds (c : Settings) : WallRegion :=
  match c.region with
  | some r => r
  | none =>
    let (x, y, w, h) := c.bounds
    { gridW := w, gridH := h, x0 := x, y0 := y, w := w, h := h }

/-- The synthesis front of the A9 (R189): the lowest kerf row with a kerf not yet written; past the last row of its region where none is left
(R214, R380). -/
def State.frontOf (s : State) (w : Window) : Nat :=
  let c := s.synth.cfg
  match (w.todo.filter fun e => !w.done.contains e).map fun e => c.kerfRow e.1 e.2 with
  | [] => c.regionOrBounds.y0 + c.regionOrBounds.h
  | r :: l => l.foldl min r

/-- The window with its front as it stands. -/
def State.withFront (s : State) (w : Window) : Window := { w with front := s.frontOf w }

/-! ### Synthesis start (R183, R185, R186, R201) -/

/-- Generation a stream's use contributes, 0 where none is bound. -/
def State.genOf (s : State) (n : Option Nat) : Nat := match n.bind s.scene with | some sc => sc.gen | none => 0

/-- A committed change invalidates every kerf (R185). -/
def State.mustInvalidate (s : State) (c : Settings) : Bool :=
  let o := s.synth.cfg
  s.synth.invalidate || s.synth.mapChange || o.bind != c.bind || o.places != c.places || o.lift != c.lift ||
  s.synth.window.mode != s.modes.mode

/-- A new stereo frame is used in this window (R201). -/
def State.newStereo (before after : State) (c : Settings) : Bool :=
  match c.primary 4 with
  | none => false
  | some n =>
    match before.stream n, after.stream n with
    | some a, some b => b.inUse != a.inUse && b.inUse.isSome
    | _, _ => false

/-- The window of a tick at which each kerf repeats its previous rays (R100): T + 2P after play is entered from another mode, or where
the scene of the new mode has nothing in use yet. -/
def State.repeats (s : State) (c : Settings) (w : Nat) : Bool :=
  isPlay s.modes.mode && w == s.modes.enteredAt + 2 &&
    (!isPlay s.modes.prevMode || ((c.primary s.modes.mode).bind s.scene).any fun sc => !sc.shown)

/-- Streams closed since the last synthesis start leave their roles (R173). -/
def State.unbindClosed (s : State) : State :=
  { s with settings := s.settings.unbind s.ingest.unbind, ingest := { s.ingest with unbind := [] } }

/-- CONCEAL_PTR of every kerf of a stand, as its concealment entries now lie (R243) (DESIGN CHOICE, log entry 14). -/
def Stand.placeConceal (st : Stand) (i : Nat) : Stand :=
  st.withKerfs fun k =>
    { st.kerf k with concealPtr :=
        if st.cal.entries.any fun e => kerfOfEmitter e.1 == k then Config.concealPtr i k st.cal.concealGen % 0x100000000
        else 0 }

/-- Concealment entries due take effect, and the contexts' CONCEAL_PTR follows (R243). -/
def State.switchConceal (s : State) (rebuilt : Bool) (i : Nat) : State :=
  let gen := (s.stand i).cal.concealGen
  let s := s.concealSwitch i
  if rebuilt ∨ (s.stand i).cal.concealGen ≠ gen then s.updStand i fun st => st.placeConceal i else s

/-- Touched kerfs of updates, by the numbers their stands have in the map in force (R24). -/
def State.moveUpdates (s : State) : State :=
  { s with compose := { s.compose with updates := s.compose.updates.map fun (u : Update) =>
      { u with kerfs := u.kerfs.filterMap fun e => (s.synth.window.cur e.1).map fun j => (j, e.2) } } }

/-- Settings, frames, contexts and concealment as a synthesis start takes them. -/
def State.synthLatch (s : State) (w : Nat) : State :=
  let s := s.unbindClosed
  let c := s.settings
  let mode := s.modes.mode
  let inval := s.mustInvalidate c
  let map := s.synth.mapChange
  let s := if map then
      { s.moveUpdates with stands := s.stands.map Stand.freshKerfs, synth := { s.synth with mapGen := s.synth.mapGen + 1 } }
    else s
  let s := if inval then { s with stands := s.stands.map fun st => st.mapKerfs fun k => { k with invalid := true } } else s
  let before := s
  let s := if isPlay mode then forEach (List.range 8) s fun n s => s.useFrame c n w else s
  let runs := isPlay mode || mode == 5
  let s := if runs then forEach (List.range s.stands.length) s fun i s => s.switchConceal map i else s
  let s := { s with synth := { s.synth with scenes := s.ingest.streams.map fun o => o.map SceneStream.scene } }
  let win : Window :=
    { num := s.synth.window.num + 1, active := runs, tick := w, mode := mode, writes := runs && !s.repeats c w
      latchScene := s.genOf (c.primary mode)
      latchInset := (List.range 3).map fun i => s.genOf (c.inset i) % 65536
      latchCal := s.stands.map fun st => st.cal.liveGen
      latchConceal := s.stands.map fun st => st.cal.concealGen
      latchLum := s.stands.map fun st => st.cal.lumFull
      latchFaults := s.stands.map fun st => st.cal.faults
      liftWait := mode == 4 && State.newStereo before s c
      startAt := s.clock.up, front := 0, beyond := !runs }
  { s with synth := { s.synth with cfg := c, invalidate := false, mapChange := false, window := win } }

/-- Layers as the window reads them; a removed one leaves every COMPOSE_MASK (R206). -/
def State.latchLayers (s : State) : State :=
  let gone := (List.range 8).filter fun l => (s.synth.layers.getD l {}).payload != [] && (s.compose.layers.getD l {}).payload == []
  let cleared (m : Nat) : Nat := maskOf ((List.range 8).map fun l => bitOf m l && !gone.contains l)
  let s := if gone = [] then s else
    { s with stands := s.stands.map fun st => st.mapKerfs fun x => { x with composeMask := cleared x.composeMask } }
  { s with synth := { s.synth with layers := s.compose.layers } }

/-- A kerf read a granule of a surface that is poisoned still: it is late in every window until that granule is written whole (R358). -/
def State.keptLate (s : State) (i k : Nat) : Bool := s.fs.lateKerfs.any fun e => e.2 == (i, k) && s.fs.poisoned.contains e.1

/-- Kerfs of a stand are dispatched: the stand is not released. -/
def State.dispatched (s : State) (i : Nat) : Bool := !(s.stand i).released

/-- Synthesis start for display tick `w`; `costs` are the reed cycles that kerfs take (DESIGN CHOICE, log entry 145). -/
def State.synthStart (s : State) (w : Nat) (costs : List (Nat × Nat × Nat)) : State :=
  let s := (s.synthLatch w).takeBack
  if !s.synth.window.active then s.fireWatermarks else
  let s := (s.latchUpdates s.synth.window.mode).latchLayers
  let c := s.synth.cfg
  let plan := (List.range s.stands.length).flatMap fun i =>
    if s.dispatched i then (List.range 8192).map fun k => (i, k, s.skip i k ((s.stand i).kerf k)) else []
  let todo := (plan.filter fun e => e.2.2 == 0).map fun e => (e.1, e.2.1)
  let taken := (plan.filter fun e => e.2.2 == 2).map fun e => (e.1, e.2.1)
  let g := s.synth.window.latchScene
  let s := if taken = [] then s else
    { s with stands := s.stands.mapIdx fun i st => st.withKerfs fun k =>
        if taken.contains (i, k) then { st.kerf k with sceneGen := g } else st.kerf k }
  let win := { s.synth.window with latchCompose := s.compose.latchedSeq, todo := todo, costs := costs
                                   secs := s.dispatchers c (todo.filter fun e => !s.keptLate e.1 e.2) s.clock.up }
  let s := { s with synth := { s.synth with window := s.withFront win }
                    compose := if win.writes then s.compose.settleUpdates fun e => !(todo.contains e) && s.dispatched e.1 else s.compose }
  s.fireWatermarks

/-! ### Reeds at work (R186, R187, R191) -/

/-- What a run of a dispatcher brings about: the dispatcher, kerfs written, kerfs handed out with the reed that took each. -/
structure Reeling where
  d : Dispatcher
  done : List (Nat × Nat) := []
  taken : List (Nat × Nat × Nat) := []
deriving DecidableEq, Repr

/-- Kerfs whose last write completes by an instant are written, and their reeds are free. -/
def Reeling.finish (x : Reeling) (t : Nat) : Reeling :=
  let over' := x.d.held.filter fun h => h.2.2.2 ≤ t
  { x with d := { x.d with held := x.d.held.filter fun h => t < h.2.2.2 }, done := x.done ++ over'.map fun h => (h.2.1, h.2.2.1) }

/-- A dispatcher runs up to, and not including, an instant (R186): it passes over skipped kerfs at a cycle each and hands the next kerf to
its owner if that reed is free, else to the free reed with the lowest number; with none free it waits for the first to finish.
`time` is the time some reed cycles take; a hand-out itself takes none (DESIGN CHOICE, log entry 145). -/
def Reeling.run (reeds : List Nat) (owner : Nat → Nat → Nat) (cost : Nat → Nat → Nat → Nat) (time : Nat → Nat) (limit : Nat) : (fuel : Nat) → Reeling → Reeling
  | 0, x => x
  | fuel + 1, x =>
    match x.d.queue with
    | [] => x.finish (limit - 1)
    | (i, k, pass) :: rest =>
      let t := x.d.next + time pass
      if limit ≤ t then x.finish (limit - 1) else
      let x := x.finish t
      let free := reeds.filter fun r => !(x.d.held.any fun h => h.1 == r)
      match if free.contains (owner i k) then some (owner i k) else free.head? with
      | some r =>
        Reeling.run reeds owner cost time limit fuel
          { x with d := { x.d with queue := rest, next := t, held := x.d.held ++ [(r, i, k, t + time (cost r i k))] }
                   taken := x.taken ++ [(i, k, r)] }
      | none =>
        match x.d.held.map fun h => h.2.2.2 with
        | [] => x
        | f :: fs =>
          Reeling.run reeds owner cost time limit fuel
            { x with d := { x.d with queue := (i, k, 0) :: rest, next := max t (fs.foldl min f) } }

/-- Time of some reed cycles of a die, rounded up to 1/3 ns (R186). -/
def State.reedTime (s : State) (die cycles : Nat) : Nat :=
  let mhz := max 1 (s.power.reedMhz.getD die 1500)
  (3000 * cycles + mhz - 1) / mhz

/-- Reed cycles the synthesis of a kerf takes. -/
def Window.cost (w : Window) (i k : Nat) : Nat := ((w.costs.find? fun e => e.1 == i && e.2.1 == k).map (·.2.2)).getD 0

/-- A lane of the reed is masked: it works each kerf as 67 groups of at most 31 rays (R408). -/
def Faults.masked (f : Faults) (reed : Nat) : Bool := f.lanes.any fun l => l / 32 == reed

/-- Reed cycles that a kerf of 64 groups takes, on a reed with a masked lane 67 of the same groups (DEDUCED, log entry 167). -/
def Faults.cycles (f : Faults) (reed n : Nat) : Nat := if f.masked reed then (67 * n + 63) / 64 else n

/-- One dispatcher up to an instant; that of a section that does not work hands out nothing (R193). -/
def State.runSection (s : State) (limit : Nat) (d : Dispatcher) : Reeling :=
  if !s.sectionWorks d.sec then { d := d } else
  Reeling.run (s.faults.reedsOf d.sec) (fun i k => (s.windowKerf i k).owner) (fun r i k => s.faults.cycles r (s.synth.window.cost i k)) (s.reedTime (d.sec / 8)) limit
    (2 * d.queue.length + d.held.length + 1) { d := d }

/-- The window as an instant finds it: nothing runs before the lift phase ends, nor from the kerf deadline on. -/
def State.reelTo (s : State) (now : Nat) : Window :=
  let w := s.synth.window
  if !w.active ∨ w.liftWait then w else
  let xs := w.secs.map (s.runSection (min (now + 1) (s.kerfAtTime w.tick)))
  let again := xs.flatMap (·.taken)
  s.withFront { w with
    secs := xs.map (·.d), done := w.done ++ xs.flatMap (·.done)
    taken := (w.taken.filter fun e => !(again.any fun a => a.1 == e.1 && a.2.1 == e.2.1)) ++ again }

/-- A dispatcher that waited, for a kerf or for a reed, goes on from an instant; one that passes over skipped kerfs goes on with those left.  `cycle`
is the time of a cycle. -/
def Dispatcher.resume (d : Dispatcher) (now cycle : Nat) : Dispatcher :=
  match d.queue with
  | [] => { d with next := max d.next now }
  | (i, k, pass) :: rest =>
    if now < d.next then { d with next := now } else { d with next := now, queue := (i, k, pass - (now - d.next) / max 1 cycle) :: rest }

/-- A failed reed leaves the pool; the kerf it holds goes to the head of its dispatcher's order, from that instant on (R191). -/
def Window.dropReeds (w : Window) (gone : Nat → Bool) (now : Nat) (cycle : Nat → Nat) : Window :=
  { w with secs := w.secs.map fun d =>
      let lost := d.held.filter fun h => gone h.1
      if lost = [] then d else
      let d := d.resume now (cycle d.sec)
      { d with queue := (lost.map fun h => (h.2.1, h.2.2.1, 0)) ++ d.queue, held := d.held.filter fun h => !gone h.1 } }

/-- Reeds leave the pools of the window in progress (R191). -/
def State.dropReeds (s : State) (gone : Nat → Bool) : State :=
  { s with synth := { s.synth with window := s.synth.window.dropReeds gone s.clock.up fun sec => s.reedTime (sec / 8) 1 } }

/-- A lane of a reed fails (R408): the lane is masked, and the kerf that the reed holds loses its group in flight, which is issued again, and goes on
in groups of 31 rays (DEDUCED, log entry 167). -/
def State.maskLane (s : State) (lane : Nat) : State :=
  let reed := lane / 32
  let w := s.synth.window
  let now := s.clock.up
  let late (sec : Nat) (h : Nat × Nat × Nat × Nat) : Nat := h.2.2.2 + (if s.faults.masked reed then 0 else 3 * (h.2.2.2 - now) / 64) + s.reedTime (sec / 8) (w.cost h.2.1 h.2.2.1 / 64)
  { s with
    faults := { s.faults with lanes := addOnce s.faults.lanes lane }
    synth := { s.synth with window := { w with secs := w.secs.map fun d =>
      { d with held := d.held.map fun h => if h.1 = reed ∧ now < h.2.2.2 then (h.1, h.2.1, h.2.2.1, late d.sec h) else h } } } }

/-- A reed joins the pool of a section in the window in progress (R191). -/
def State.joinReed (s : State) (sec : Nat) : State :=
  let w := s.synth.window
  if !w.active ∨ w.liftWait then s else
  { s with synth := { s.synth with window := { w with
      secs := w.secs.map fun d => if d.sec = sec then d.resume s.clock.up (s.reedTime (sec / 8) 1) else d } } }

/-- Kerfs not yet handed out move to the sections that now carry them, in row order (R193). -/
def State.moveShares (s : State) : State :=
  let w := s.synth.window
  if !w.active then s else
  let c := s.synth.cfg
  let leaves (d : Dispatcher) (e : Nat × Nat × Nat) : Bool := s.carrier c e.1 e.2.1 != d.sec
  let out := (w.secs.flatMap fun d => d.queue.filter (leaves d)).map fun e => (e.1, e.2.1)
  let secs := w.secs.map fun d =>
    let more := ((s.sharesOf c d.sec).filter out.contains).map fun e => (e.1, e.2, 0)
    let d := if more = [] ∨ w.liftWait then d else d.resume s.clock.up (s.reedTime (d.sec / 8) 1)
    { d with queue := d.queue.filter (fun e => !leaves d e) ++ more }
  { s with synth := { s.synth with window := { w with secs := secs } } }

/-! ### The window ends (R20, R187, R190) -/

/-- What the start of a kerf's synthesis records (R182, R186): its reed, its masks and its bounds. -/
def Kerf.started (x : Kerf) (m : Masks) (reed : Nat) : Kerf :=
  { x with owner := reed, layerMask := m.layer, insetMask := m.inset, composeMask := m.compose, nearZ := toF32 m.near, farZ := toF32 m.far }

/-- A written kerf's context (R187). -/
def State.writtenKerf (s : State) (i k : Nat) (x : Kerf) : Kerf :=
  let w := s.synth.window
  { x with
    late := false, lateRun := 0, valid := true, invalid := false, sceneGen := w.latchScene, insetGen := w.latchInset
    calGen := w.latchCal.getD i 0, concealGen := w.latchConceal.getD i 0, composeDone := x.composeWant
    cost := sat 0xFFFFFFFF (w.cost i k), lastTick := w.tick % 0x100000000, select := 1 - x.select }

/-- A late kerf's context. -/
def Kerf.lateKerf (x : Kerf) : Kerf := { x with late := true, lateRun := sat 0xFFFF (x.lateRun + 1) }

/-- The contexts of a kerf's stand follow the reeds that took it in the window (R182, R186). -/
def State.takenKerf (s : State) (i k : Nat) (x : Kerf) : Kerf :=
  let w := s.synth.window
  match w.taken.find? fun e => e.1 == i && e.2.1 == k with
  | some e => x.started (s.bound s.synth.cfg w.mode i k) e.2.2
  | none => x

/-- Contexts changed, by the numbers the window has for the stands. -/
def State.windowContexts (s : State) (touched : List (Nat × Nat)) (f : Nat → Nat → Kerf → Kerf) : State :=
  (touched.map (·.1)).eraseDups.foldl (fun s i =>
    match s.synth.window.cur i with
    | some j => s.updStand j fun st => st.withKerfs fun k => if touched.contains (i, k) then f i k (st.kerf k) else st.kerf k
    | none => s) s

/-- The kerf deadline: kerfs whose last write did not complete before it are late. -/
def State.kerfDeadline (s : State) : State :=
  let w := s.synth.window
  if !w.active then { s with synth := { s.synth with window := { w with beyond := true } } } else
  let lates := w.todo.filter fun e => !w.done.contains e
  let s := s.windowContexts w.todo fun i k x =>
    let x := s.takenKerf i k x
    if w.done.contains (i, k) then s.writtenKerf i k x else x.lateKerf
  let s := { s with stands := s.stands.mapIdx fun j (st : Stand) => { st with wrote := st.wrote || w.done.any fun e => w.cur e.1 == some j } }
  let west := (lates.filter fun e => dieOfLink (s.synth.cfg.stands.getD e.1 {}).link == 0).length
  let s := { s with
    compose := s.compose.settleUpdates w.done.contains
    synth := { s.synth with window :=
      { w with active := false, writes := false, todo := lates, liftWait := false, beyond := true
               lateW := west, lateE := lates.length - west, secs := [], taken := [] } } }
  let s := if lates = [] then s else s.raise evKerfLate noUnit [lates.length, west, lates.length - west]
  s.fireWatermarks

/-- Hold, Standby or Bring-up stops a window: no kerf of it is written (R101). -/
def State.stopWindow (s : State) : State :=
  let w := s.synth.window
  if !w.active then s else
  let s := s.windowContexts (w.taken.map fun e => (e.1, e.2.1)) s.takenKerf
  ({ s with synth := { s.synth with window := { w with
      active := false, writes := false, todo := [], done := [], taken := [], secs := [], liftWait := false, beyond := true } } }).fireWatermarks

/-! ### The lift phase (R201, R202) -/

/-- Stream bound to the lift role of the window. -/
def State.liftStream (s : State) : Nat := (s.synth.cfg.primary 4).getD 0xFF

/-- The stereo frame that the window lifts. -/
def State.liftFrame (s : State) : LiftFrame :=
  let sc := (s.scene s.liftStream).getD {}
  { stream := s.liftStream, plane := sc.planes.headD {}, format := sc.format, w := sc.eyeW, h := sc.eyeH, params := s.synth.cfg.lift }

/-- The lift phase is over at an instant: what each die's stacks hold of the lifted scene, under the colour of the new frame, and dispatch starts
(R201).  `lifted` says what a copy of the history becomes; the stacks of a die that is not up keep theirs. -/
def State.liftOver (s : State) (lifted : List LiftFrame → List LiftFrame) (at' : Nat) : State :=
  { s with synth := { s.synth with
      lifts := s.synth.lifts.mapIdx fun die (c : LiftCopy) =>
        if s.fs.avail.getD die false then { frames := lifted c.frames, colour := some s.liftFrame } else c
      window := { s.synth.window with liftWait := false, secs := s.synth.window.secs.map fun d => { d with next := at' } } } }

/-- Both dies have lifted the new frame: the disparity history takes it, and what the estimate found is reported (R202). -/
def State.liftEnd (s : State) : State :=
  if !s.synth.window.liftWait then s else
  let n := s.liftStream
  let f := s.liftFrame
  let flat := liftIsFlat (liftHistory f (s.synth.lifts.getD (if s.fs.avail.getD 0 false then 0 else 1) {}).frames)
  let run := if flat then min 60 (s.ingest.liftFlat + 1) else 0
  let s := s.liftOver (liftHistory f) s.clock.up
  let s := { s with ingest := { s.ingest with liftFlat := run } }
  let s := if f.saturated then s.liftDegraded n 2 else s
  let s := if f.misaligned then s.liftDegraded n 3 else s
  if flat ∧ run = 60 then s.liftDegraded n 4 else s

/-- The lift phase reaches 2,000 µs (R201): the frame is marched with its own colour and what the frame before it gave; where there is none, it has
no shape and no ray meets it (DESIGN CHOICE, log entry 157). -/
def State.liftTimeout (s : State) : State :=
  let w := s.synth.window
  if w.liftWait ∧ s.since w.startAt (us 2000) then (s.liftOver id (w.startAt + us 2000)).liftDegraded s.liftStream 1
  else s

/-! ### Scan-out start (R22, R188, R257, R439) -/

/-- VALID and select bit of the kerfs of a stand that the map in scan-out has at an index. -/
def State.latchedBits (s : State) (i : Nat) : List (Nat × Bool × Nat) :=
  match s.synth.window.cur i with
  | some j => (s.stand j).kerfs.map (fun e => (e.1, e.2.valid, e.2.select)) ++ [(8192, (s.stand j).kerfBase.valid, (s.stand j).kerfBase.select)]
  | none => [(8192, false, 0)]

/-- The scan sequencers latch VALID and the select bits, under the map that the ray frames were synthesised for (R24); in held Compose a
stand with a written kerf is given a loading frame; an admitted stand lights once one of its kerfs is valid (DESIGN CHOICE, log entry 19; DEDUCED, log entries 28, 47). -/
def State.scanOutStart (s : State) : State :=
  { s with
    scanLatch := (List.range s.synth.cfg.stands.length).map s.latchedBits
    synth := { s.synth with scanCfg := s.synth.cfg, scanMoved := s.synth.window.moved }
    stands := s.stands.map fun st => { st with
      loadNext := st.wrote
      firstLit := st.firstLit || (st.admission == 5 && (s.modes.mode == 7 || st.kerfBase.valid || st.kerfs.any fun e => e.2.valid)) } }

/-- At the tick of its first lit frame an admitted stand is ready (R439). -/
def State.firstLight (s : State) : State :=
  forEach (List.range s.stands.length) s fun i s =>
    if (s.stand i).firstLit ∧ (s.stand i).kind ≤ 1 ∧ !(s.link (s.standCfg i).link).blanked then
      (s.updStand i fun st => { st with firstLit := false, admission := 0, ready := true }).raise evStandReady i [(s.standCfg i).link] (s.stand i).admitTag
    else s

end Sys2Proof.Machine
end

