-- ==== Sys2Proof/Machine/Mem.lean ====
section
/-! DEFINITION. The frame store (R336 to R362): where an address lies, ordering, refresh, training and set points, corrected
errors, row sparing and page retirement, the host aperture's view of a granule; MEM.*. -/

namespace Sys2Proof.Machine

/-! ### Where an address lies (R336, R337, R46) -/

/-- Granule of a frame-store address. -/
def granuleOf (a : Nat) : Nat := a / 256

/-- Die-local pseudo-channel of a die-local granule index (R337). -/
def pcOfGranule (g : Nat) : Nat :=
  bitsOf g 5 0 ^^^ bitsOf g 11 6 ^^^ bitsOf g 17 12 ^^^ bitsOf g 23 18 ^^^ bitsOf g 27 24

/-- A9-wide pseudo-channel of a frame-store address. -/
def pcOf (a : Nat) : Nat := 64 * (a / (64 * gib)) + pcOfGranule (a % (64 * gib) / 256)

/-- Location in a pseudo-channel (R337): column granule, bank, stack ID, row. -/
structure Loc where
  col : Nat
  bank : Nat
  sid : Nat
  row : Nat
deriving DecidableEq, Repr

/-- Location of a frame-store address. -/
def locOf (a : Nat) : Loc :=
  let l := bitsOf (a % (64 * gib) / 256) 27 6
  { col := bitsOf l 1 0, bank := bitsOf l 5 2 ^^^ bitsOf l 11 8, sid := bitsOf l 7 6, row := bitsOf l 21 8 }

/-- P0 of EV_ROW_SPARED (R359). -/
def Loc.rowCode (l : Loc) : Nat := l.sid * 0x100000 + l.bank * 0x10000 + l.row

/-- Bank of a row code: stack ID × 16 + bank. -/
def bankOfRow (r : Nat) : Nat := r / 0x10000

/-- Region of a frame-store address (R46), 1 to 11. -/
def regionOf (a : Nat) : Nat :=
  let g := a % (64 * gib) / gib
  if g < 8 then 1 else if g < 20 then 2 else if g < 23 then 3 else if g < 35 then 4 else if g < 39 then 5 else if g < 43 then 6
  else if g < 47 then 7 else if g < 49 then 8 else if g < 50 then 9 else if g < 52 then 10 else 11

/-- ACCESS of a region (R46): bit 0 read, bit 1 write, bit 2 replicated.  R222 names CAL.READ as the host's way to the records of regions 2
and 3, and R46 lets BAR2 read them: R46 is followed (DEDUCED, log entry 137). -/
def regionAccess : Nat → Nat
  | 2 | 3 | 9 => 1
  | 4 => 4
  | 7 | 11 => 3
  | _ => 0

/-- First MiB and size in MiB of a region, per die (R46). -/
def regionSpan (u : Nat) : Nat × Nat :=
  let cuts := [0, 8, 20, 23, 35, 39, 43, 47, 49, 50, 52, 64]
  (1024 * cuts.getD (u - 1) 0, 1024 * (cuts.getD u 0 - cuts.getD (u - 1) 0))

/-- Ray-frame page of a frame-store address: die and page number (R338). -/
def pageOf (a : Nat) : Nat × Nat := (a / (64 * gib), a % (64 * gib) / 0x10000)

/-! ### Scheduling and ordering (R340, R342 to R344) -/

/-- A request in a pseudo-channel's queue: its port, address, kind, instant of admission and the mode of MEM.ORDERING then. -/
structure MemReq where
  port : Nat
  addr : Nat
  write : Bool
  at' : Nat
  linub : Bool
deriving DecidableEq, Repr

/-- Native ordering (R342): a read waits for an earlier write to its row, an access for an earlier one of its port to its granule. -/
def MemReq.nativeAfter (r e : MemReq) : Bool :=
  let same := pcOf r.addr == pcOf e.addr && (locOf r.addr).bank == (locOf e.addr).bank && (locOf r.addr).sid == (locOf e.addr).sid &&
    (locOf r.addr).row == (locOf e.addr).row
  (!r.write && e.write && same) || (r.port == e.port && granuleOf r.addr == granuleOf e.addr)

/-- Linub compatibility mode (R343): the requests of a port are issued in admission order. -/
def MemReq.linubAfter (r e : MemReq) : Bool := r.port == e.port

/-- A request waits for an earlier one: under the mode both were admitted in, or under both modes where it changed between them (R344). -/
def MemReq.waitsFor (r e : MemReq) : Bool :=
  if r.linub != e.linub then r.nativeAfter e || r.linubAfter e else if r.linub then r.linubAfter e else r.nativeAfter e

/-- Priority of a request at an instant, 2 to 5 (R340); 1 is a forced refresh or training step.  `openRow` tells a hit of the open row. -/
def MemReq.level (r : MemReq) (now : Nat) (panic : List Nat) (openRow : Nat → Bool) : Nat :=
  if r.port < 16 && panic.contains r.port then 2 else if r.at' + us 2 ≤ now then 3 else if openRow r.addr then 4 else 5

/-- The request of a queue, oldest first, that the controller issues next (R340): of those that no earlier one holds back the first of the
lowest level; of the same age the real-time one. -/
def nextRequest (now : Nat) (panic : List Nat) (openRow : Nat → Bool) (q : List MemReq) : Option MemReq :=
  let free := (q.zipIdx.filter fun e => !(q.take e.2).any e.1.waitsFor).map (·.1)
  let rank (r : MemReq) : Nat × Nat × Nat := (r.level now panic openRow, r.at', if r.port < 16 then 0 else 1)
  let before (a b : Nat × Nat × Nat) : Bool := a.1 < b.1 || (a.1 == b.1 && (a.2.1 < b.2.1 || (a.2.1 == b.2.1 && a.2.2 < b.2.2)))
  free.foldl (fun best r => match best with
    | none => some r
    | some b => if before (rank r) (rank b) then some r else some b) none

/-- Refresh interval of a stack (R346): 3.9 µs at 85 °C or below, 1.95 µs above. -/
def refreshInterval (temp : Int) : Nat := if temp ≤ 850 then us 39 / 10 else us 39 / 20

/-! ### Pseudo-channels -/

/-- State of a pseudo-channel. -/
def FrameStore.pc (f : FrameStore) (n : Nat) : PseudoChannel := (f.pcs.find? fun c => c.pc == n).getD { pc := n }

/-- Puts a pseudo-channel's state in its place. -/
def putPc (c : PseudoChannel) : List PseudoChannel → List PseudoChannel
  | [] => [c]
  | d :: l => if c.pc < d.pc then c :: d :: l else if c.pc = d.pc then c :: l else d :: putPc c l

/-- Changes a pseudo-channel. -/
def State.updPc (s : State) (n : Nat) (f : PseudoChannel → PseudoChannel) : State :=
  { s with fs := { s.fs with pcs := putPc (f (s.fs.pc n)) s.fs.pcs } }

/-- Row repair resources a bank still has. -/
def PseudoChannel.bankLeft (c : PseudoChannel) (bank : Nat) : Nat := Config.rowRepairs c.pc bank - lookupD c.bankUsed bank 0

/-- REPAIR_LEFT of a pseudo-channel: the lowest of any bank; 0 where its reserve is in use (R415). -/
def PseudoChannel.repairLeft (c : PseudoChannel) : Nat :=
  if c.reserve then 0 else (List.range 64).foldl (fun m b => min m (c.bankLeft b)) (c.bankLeft 0)

/-- The frame store of a die answers (R349). -/
def State.storeUp (s : State) (die : Nat) : Bool := s.fs.avail.getD die false

/-- SET_POINTS: the set points both dies hold training data for (DEDUCED, log entry 60). -/
def FrameStore.setPoints (f : FrameStore) : Nat := f.trained.getD 0 0 &&& f.trained.getD 1 0

/-- Kinds of live passes: 2 automatic, 7 of a MEM.TRAIN. -/
def livePass (kind : Nat) : Bool := kind == 2 || kind == 7

/-- A pass of a MEM.TRAIN runs or waits (R66). -/
def FrameStore.commanded (f : FrameStore) : Bool := (f.trainQueue ++ f.trainAfter).any fun e => e.2.1 == 6 || e.2.1 == 7

/-- The kind of the training pass that runs: 0 none, 1 full, 2 live. -/
def FrameStore.passKind (f : FrameStore) : Nat :=
  match f.trainQueue with | [] => 0 | e :: _ => if livePass e.2.1 then 2 else 1

/-- TRAIN of MEM.STATUS. -/
def FrameStore.train (f : FrameStore) : Nat := if f.changing then 3 else f.passKind

/-- A full pass owns the interface of a die. -/
def FrameStore.fullPass (f : FrameStore) (die : Nat) : Bool :=
  match f.trainQueue with | [] => false | e :: _ => e.2.1 == 1 || e.2.1 == 3 || e.2.1 == 6 || e.2.1 == 4 + die

/-! ### Refresh and power-down (R346 to R348) -/

/-- Instant at which a pseudo-channel's next refresh falls due (R346): the interval of its stack's temperature after the last one, the first ones
61 ns apart (R347) (DEDUCED, log entry 102). -/
def State.refreshAt (s : State) (n : Nat) : Nat :=
  let c := s.fs.pc n
  c.refAt + refreshInterval ((s.fs.stackTemp.getD (n / 32) none).getD 0) + if c.refAt = 0 then 183 * (n % 64) else 0

/-- A refresh falls due; `rt`: the pseudo-channel holds an admitted real-time read; a stack ID in power-down wakes for it (R348) (DESIGN CHOICE, log entry 100; DEDUCED, log entry 102). -/
def State.refreshDue (s : State) (n : Nat) (rt : Bool) : State :=
  if !s.storeUp (n / 64) || s.fs.selfRefresh || s.clock.up < s.refreshAt n then s else
  s.updPc n fun c =>
    let c := { c with inRt := rt, refAt := s.clock.up, powered := []
                      woke := (c.woke.filter fun e => !c.powered.contains e.1) ++ c.powered.map fun k => (k, s.clock.up) }
    if !rt then c
    else if c.debt < 4 then { c with debt := c.debt + 1, maxDebt := max c.maxDebt (c.debt + 1) }
    else { c with forced := c.forced + 1 }

/-- The pseudo-channel holds no real-time read and repays up to `k` of its debt (DEDUCED, log entry 102). -/
def State.refreshRepay (s : State) (n k : Nat) : State :=
  let c := s.fs.pc n
  if c.debt = 0 then s else s.updPc n fun c => { c with inRt := false, debt := c.debt - k }

/-- IDLE_NS in force; 0 under PD_OFF. -/
def Settings.idle (c : Settings) : Nat := if c.pdOff then 0 else if c.idleNs = 0 then 1000 else c.idleNs

/-- A span of addresses has a granule in a stack ID of a pseudo-channel. -/
def spanTouches (lo bytes pc sid : Nat) : Bool :=
  (List.range ((lo % 256 + bytes + 255) / 256)).any fun k => pcOf (lo + 256 * k) == pc && (locOf (lo + 256 * k)).sid == sid

/-- A stack ID had a request in the last IDLE_NS, or a refresh woke it in them. -/
def State.busyId (s : State) (n sid : Nat) : Bool :=
  let after (t : Nat) : Bool := s.clock.up < t + 3 * s.settings.idle
  (s.fs.asked.any fun e => after e.2.2 && spanTouches e.1 e.2.1 n sid) || (s.fs.pc n).woke.any fun e => e.1 == sid && after e.2

/-- A stack ID without a request for IDLE_NS enters power-down (DEDUCED, log entry 102). -/
def State.powerDown (s : State) (n sid : Nat) : State :=
  if s.settings.pdOff || 3 < sid || !s.storeUp (n / 64) || s.fs.selfRefresh || s.busyId n sid then s else
  s.updPc n fun c => { c with powered := addOnce c.powered sid }

/-- Requests for spans of addresses wake the stack IDs they fall on (R348). -/
def State.request (s : State) (spans : List (Nat × Nat)) : State :=
  { s with fs := { s.fs with
      asked := (s.fs.asked.filter fun e => s.clock.up < e.2.2 + us 60) ++ spans.map fun e => (e.1, e.2, s.clock.up)
      pcs := s.fs.pcs.map fun c =>
        if c.powered = [] then c else { c with powered := c.powered.filter fun k => !spans.any fun e => spanTouches e.1 e.2 c.pc k } } }

/-! ### Real-time panic (R341) -/

/-- The FIFO of a real-time port stands at `fill` bytes (R339, R341): below 24 KiB it enters panic, at 48 KiB it leaves it; one that empties while
it owes reads for a sub-frame underruns. -/
def State.rtPanicChange (s : State) (port fill : Nat) (owes : Bool) : State :=
  if 15 < port then s else
  let enter : Bool := fill < 24576
  let inNow := lookupD s.fs.rtPanic port false
  let f := { s.fs with rtFill := upd s.fs.rtFill port fun _ => fill }
  let f := if fill = 0 ∧ owes ∧ s.fs.rtFill.getD port 0 ≠ 0 then { f with underruns := upd f.underruns (dieOfPort port) fun n => (n + 1) % 0x100000000 } else f
  let f := if enter && !inNow then
      { f with rtPanic := insertKey f.rtPanic port true
               panicsFrame := insertKey f.panicsFrame port (lookupD f.panicsFrame port 0 + 1)
               panics := upd f.panics (dieOfPort port) fun n => (n + 1) % 0x100000000 }
    else if 49152 ≤ fill then { f with rtPanic := removeKey f.rtPanic port } else f
  { s with fs := f }

/-- EV_RT_PANIC for the frame that ends at a tick (DESIGN CHOICE, log entry 100). -/
def State.panicEvents (s : State) : State :=
  let l := s.fs.panicsFrame
  l.foldl (fun s e => s.raise evRtPanic e.1 [e.2]) { s with fs := { s.fs with panicsFrame := [] } }

/-! ### Scan-out gap (R354) -/

/-- The scan-out gap of the frame opens: 0.95 × S after the start of sub-frame 3. -/
def State.gapAt (s : State) : Nat := s.clock.tickUp + 79 * subPeriod s.clock.rate / 20

/-- The instant lies in the scan-out gap, which lasts to the tick. -/
def State.inGap (s : State) : Bool := s.gapAt ≤ s.clock.up && s.clock.up < s.clock.nextUp

/-- Standby, Bring-up and Hold need no gap. -/
def State.needsNoGap (s : State) : Bool := s.modes.mode == 0 || s.modes.mode == 1 || s.modes.mode == 6

/-! ### Set-point changes and training (R349 to R354) -/

/-- The change starts where nothing stands in its way: in a scan-out gap that opened with it already requested and every pass before it over, or
at once where none is needed (R354). -/
def State.changeStart (s : State) : State :=
  if s.fs.pending.isSome && s.fs.trainQueue == [] && !s.fs.changing && (s.needsNoGap || (s.inGap && s.fs.changeFrom ≤ s.gapAt)) then
    { s with fs := { s.fs with changing := true } }
  else s

/-- In Standby, Bring-up and Hold it starts at once. -/
def State.changeAtOnce (s : State) : State := if s.needsNoGap then s.changeStart else s

/-- A change comes to its end with nothing in its way any more (DEDUCED, log entry 60). -/
def State.changeOver (s : State) (old now : Nat) : State :=
  let tag := s.fs.pendingTag
  let s := { s with fs := { s.fs with pending := none, changing := false, trainQueue := s.fs.trainQueue ++ s.fs.trainAfter, trainAfter := [] } }
  (s.cruiseTouch 7 0).raise evSetPoint noUnit [old, now] tag

/-- The steps of a change end: verified, or returned to the old set point. -/
def State.changeEnd (s : State) (ok : Bool) : State :=
  match s.fs.pending with
  | none => s
  | some t =>
    if !s.fs.changing then s else
    let old := s.fs.setPoint
    let s := if ok then { s with fs := { s.fs with setPoint := t } }
      else { s with fs := { s.fs with trained := s.fs.trained.map fun m => m &&& (15 ^^^ 2 ^ t) } }
    s.changeOver old (if ok then t else old)

/-- Queues a pass: behind a pending change where there is one. -/
def State.queuePass (s : State) (sp kind : Nat) (tag : Word) : State :=
  if s.fs.pending.isSome then { s with fs := { s.fs with trainAfter := s.fs.trainAfter ++ [(sp, kind, tag)] } }
  else { s with fs := { s.fs with trainQueue := s.fs.trainQueue ++ [(sp, kind, tag)] } }

/-- A stack's temperature has moved 5 °C since its last pass; a die whose store is not up has no pass. -/
def FrameStore.moved (f : FrameStore) : Bool :=
  (List.range 4).any fun k => f.avail.getD (k / 2) false && match f.stackTemp.getD k none with
    | some t => 50 ≤ (t - f.lastTrainTemp.getD k 0).natAbs
    | none => false

/-- Firmware starts a live pass by itself (R351), on the dies whose stores are up. -/
def State.liveAuto (s : State) : State :=
  let f := s.fs
  if (s.storeUp 0 || s.storeUp 1) && !f.selfRefresh && f.trainQueue == [] && f.trainAfter == [] && !f.changing &&
      (s.since f.lastTrainUp (sec 10) || f.moved) then s.queuePass 0xFF 2 0
  else s

/-- Dies a pass trains: those it is for that have power, a live one those whose stores are up. -/
def State.passDies (s : State) (kind : Nat) : List Nat :=
  (if kind = 4 then [0] else if kind = 5 then [1] else [0, 1]).filter fun d =>
    (s.bellows.dieOff.getD d none).isNone && (!livePass kind || s.storeUp d)

/-- Refilling of a die that rejoins (R417): every scene layer plane set is copied from the other die; its ray frames were left at code 0 and its
kerfs invalid as it went off. -/
def FrameStore.refill (f : FrameStore) (d : Nat) : FrameStore :=
  let r := regionSpan 4
  let lo (die : Nat) : Nat := dieBase die + r.1 * 0x100000
  { f with mem := Mem.splice f.mem (lo d) (r.2 * 0x100000) (Mem.spanOf f.mem (lo (otherDie d)) (r.2 * 0x100000)) }

/-- The running pass ends (R350 to R352): result 0, 1 for a failed live pass, 2 for a failed full pass (DEDUCED, log entry 60). -/
def State.passEnd (s : State) (ok : Bool) : State :=
  match s.fs.trainQueue with
  | [] => s
  | (sp, kind, tag) :: rest =>
    if s.fs.changing then s else
    let sp := if sp = 0xFF then s.fs.setPoint else sp
    let dies := s.passDies kind
    let each (l : List Nat) (on : Bool) : List Nat := l.mapIdx fun d n => if on && dies.contains d then (n + 1) % 0x100000000 else n
    let f := { s.fs with
      trainQueue := rest, lastTrainUp := s.clock.up, changeFrom := s.clock.up
      lastTrainAt := s.fs.lastTrainAt.mapIdx fun d t => if dies.contains d then s.nowNs else t
      lastTrainTemp := (List.range 4).map fun k =>
        if dies.contains (k / 2) then (s.fs.stackTemp.getD k none).getD (s.fs.lastTrainTemp.getD k 0) else s.fs.lastTrainTemp.getD k 0
      trainPasses := each s.fs.trainPasses ok, trainFails := each s.fs.trainFails (!ok) }
    let f := if livePass kind then f else
      { f with trained := f.trained.mapIdx fun d m => if dies.contains d then (if ok then m ||| 2 ^ sp else m &&& (15 ^^^ 2 ^ sp)) else m
               avail := f.avail.mapIdx fun d a => a || (ok && dies.contains d)
               scrubAt := f.scrubAt.mapIdx fun d t => if ok && dies.contains d && !f.avail.getD d false then s.clock.up else t
               -- at Bring-up step 2 the soft repairs become permanent (R359)
               pcs := if ok && kind == 3 then f.pcs.map fun (c : PseudoChannel) => if dies.contains (c.pc / 64) then { c with bankSoft := [] } else c
                      else f.pcs }
    let f := if kind = 4 ∨ kind = 5 then (if ok then f.refill (kind - 4) else f) else f
    let s := ({ s with fs := f }).raise evTrainDone noUnit [sp, if ok then 0 else if livePass kind then 1 else 2] tag
    -- a change whose target the pass left untrained comes to nothing
    if !ok && !livePass kind && s.fs.pending == some sp then s.changeOver s.fs.setPoint s.fs.setPoint else s.changeAtOnce

/-- MEM.TRAIN (R352); a second one while the pass of another runs or waits is BUSY (R66). -/
def memTrain : CmdDef where
  opcode := 0x0B03
  kind := .immediate
  lenOk := lenIs 8
  checks s c :=
    let p := c.payload
    chkP (3 < u8 p 0 && u8 p 0 != 0xFF) stBadField 0 ++ chkP (1 < u8 p 1) stBadField 1 ++ rsvBytes p 2 8 ++
    chkP (u8 p 1 == 0 && u8 p 0 != 0xFF && u8 p 0 != s.fs.setPoint) stBadField 0 ++ chk (u8 p 1 == 1 && 1 < s.modes.mode) stBadMode ++
    chk s.fs.commanded stBusy
  run s c :=
    let p := c.payload
    .done (if u8 p 1 = 0 then s.queuePass 0xFF 7 c.tag else s.queuePass (u8 p 0) 6 c.tag) [] 0

/-- MEM.SET_POINT (R353). -/
def memSetPoint : CmdDef where
  opcode := 0x0B01
  kind := .immediate
  lenOk := lenIs 8
  checks s c :=
    let p := c.payload
    rsvBytes p 1 8 ++ chkP (3 < u8 p 0 || (1 < s.modes.mode && !bitOf s.fs.setPoints (u8 p 0))) stBadField 0 ++
    chk s.fs.pending.isSome stBusy
  run s c :=
    let t := u8 c.payload 0
    if t = s.fs.setPoint then .done (s.raise evSetPoint noUnit [t, t] c.tag) [] 0
    else
      let s := if bitOf s.fs.setPoints t then s else s.queuePass t 1 c.tag
      .done ({ s with fs := { s.fs with pending := some t, pendingTag := c.tag, changeFrom := s.clock.up } }).changeAtOnce [] 0

/-- MEM.ORDERING (R344). -/
def memOrdering : CmdDef where
  opcode := 0x0B02
  kind := .stageable
  lenOk := lenIs 8
  checks _ c :=
    let p := c.payload
    chkP (1 < u8 p 0) stBadField 0 ++ rsvBits p 1 0xFE ++
    chkP (u16 p 2 != 0 && (u16 p 2 < 100 || 60000 < u16 p 2)) stBadField 2 ++ rsvBytes p 4 8
  apply p c := { c with ordering := u8 p 0, pdOff := bitOf (u8 p 1) 0, idleNs := if u16 p 2 = 0 then 1000 else u16 p 2 }

/-! ### Corrected errors, rows and pages (R357, R359, R360) -/

/-- Instants of the last 24 h. -/
def State.recent24 (s : State) (l : List Nat) : List Nat := l.filter fun t => s.clock.up < t + hours 24

/-- Adds an instant to the list two keys name. -/
def addAt (l : List (Nat × Nat × List Nat)) (a b : Nat) (keep : List Nat → List Nat) (t : Nat) : List (Nat × Nat × List Nat) :=
  if l.any fun e => e.1 == a && e.2.1 == b then l.map fun e => if e.1 == a && e.2.1 == b then (a, b, keep e.2.2 ++ [t]) else e
  else l ++ [(a, b, [t])]

/-- How many instants two keys name. -/
def countAt (l : List (Nat × Nat × List Nat)) (a b : Nat) : Nat :=
  match l.find? fun e => e.1 == a && e.2.1 == b with | some e => e.2.2.length | none => 0

/-- A pseudo-channel as its stack loses power or is reset: the soft repairs that no full pass made permanent are gone (R349, R359). -/
def PseudoChannel.lostPower (c : PseudoChannel) : PseudoChannel :=
  { c with bankUsed := (c.bankUsed.map fun e => (e.1, e.2 - lookupD c.bankSoft e.1 0)).filter (·.2 != 0), bankSoft := [] }

/-- Firmware applies soft repair to a row that awaits it. -/
def State.spareRow (s : State) (n row : Nat) : State :=
  if !s.fs.rowsDue.contains (n, row) then s else
  let s := { s with fs := { s.fs with rowsDue := s.fs.rowsDue.filter (· != (n, row)) } }
  if (s.fs.pc n).bankLeft (bankOfRow row) = 0 then s else
  let s := s.updPc n fun c => { c with
    bankUsed := insertKey c.bankUsed (bankOfRow row) (lookupD c.bankUsed (bankOfRow row) 0 + 1)
    bankSoft := insertKey c.bankSoft (bankOfRow row) (lookupD c.bankSoft (bankOfRow row) 0 + 1)
    rowsSpared := (c.rowsSpared + 1) % 0x100000000 }
  let s := { s with fs := { s.fs with rowErrs := s.fs.rowErrs.filter fun e => !(e.1 == n && e.2.1 == row) } }
  s.raise evRowSpared n [row]

/-- A row is to be spared: at once where no gap is needed. -/
def State.dueRow (s : State) (n row : Nat) : State :=
  if s.fs.rowsDue.contains (n, row) then s else
  let s := { s with fs := { s.fs with rowsDue := s.fs.rowsDue ++ [(n, row)] } }
  if s.needsNoGap then s.spareRow n row else s

/-- ROW_SPARE: in the scan-out gap, or at once in Standby, Bring-up and Hold (DEDUCED, log entry 61). -/
def State.rowSpare (s : State) (n row : Nat) : State := if s.needsNoGap || s.inGap then s.spareRow n row else s

/-- A ray-frame page starts its retirement where the pool holds a replacement (DEDUCED, log entry 61). -/
def State.retirePage (s : State) (die page : Nat) : State :=
  let f := s.fs
  if f.retired.contains (die, page) || f.retiring.any (fun e => e.1 == die && e.2.1 == page) || f.poolLeft.getD die 0 = 0 then s else
  { s with fs := { f with retiring := f.retiring ++ [(die, page, false)], poolLeft := upd f.poolLeft die (· - 1) } }

/-- The copy of a retiring page ends (DEDUCED, log entry 61). -/
def State.pageCopied (s : State) (die page : Nat) : State :=
  { s with fs := { s.fs with retiring := s.fs.retiring.map fun e => if e.1 == die && e.2.1 == page then (die, page, true) else e } }

/-- One page is remapped to its replacement. -/
def State.remapPage (s : State) (die page : Nat) : State :=
  let lo := (dieBase die + page * 0x10000) / 256
  let s := { s with fs := { s.fs with
    retiring := s.fs.retiring.filter fun e => !(e.1 == die && e.2.1 == page), retired := s.fs.retired ++ [(die, page)]
    pageErrs := s.fs.pageErrs.filter fun e => !(e.1 == die && e.2.1 == page)
    poisoned := s.fs.poisoned.filter fun g => g < lo || lo + 256 ≤ g } }
  s.raise evPageRetired noUnit [page, (s.fs.retired.filter fun e => e.1 == die).length]

/-- At a frame blank every page whose copy has ended is remapped. -/
def State.remapPages (s : State) : State :=
  (s.fs.retiring.filter fun e => e.2.2).foldl (fun s e => s.remapPage e.1 e.2.1) s

/-- EV_MEM_CORRECTED, at most once per second per pseudo-channel. -/
def State.correctedEvent (s : State) (n : Nat) : State :=
  let c := s.fs.pc n
  if c.corrSince = 0 ∨ (c.corrAt.any fun t => !s.since t (sec 1)) then s else
  (s.updPc n fun c => { c with corrSince := 0, corrAt := some s.clock.up }).raise evMemCorrected n [c.corrSince]

/-- Where an address is served from (R415): of a pseudo-channel whose reserve is in use, the other die's reserve at 50 GiB; granules keep the order
they have in the pseudo-channel (DESIGN CHOICE, log entry 166). -/
def State.servedAt (s : State) (a : Nat) : Nat :=
  if !(s.fs.pc (pcOf a)).reserve then a
  else dieBase (otherDie (a / (64 * gib))) + 50 * gib + a % (64 * gib) / 0x4000 * 256 + a % 256

/-- A read corrects an error (R357): the counters, the row's and the page's errors in the last 24 h. -/
def State.corrected (s : State) (a : Nat) : State :=
  if 128 * gib ≤ a then s else
  let b := s.servedAt a
  let n := pcOf b
  let row := (locOf b).rowCode
  let s := s.updPc n fun c => { c with corrected := c.corrected + 1, corrSince := c.corrSince + 1 }
  let s := s.correctedEvent n
  let s := { s with fs := { s.fs with rowErrs := addAt s.fs.rowErrs n row s.recent24 s.clock.up } }
  let s := if 4 ≤ countAt s.fs.rowErrs n row then s.dueRow n row else s
  if regionOf a ≠ 1 then s else
  let pg := pageOf a
  let s := { s with fs := { s.fs with pageErrs := addAt s.fs.pageErrs pg.1 pg.2 s.recent24 s.clock.up } }
  if 8 ≤ countAt s.fs.pageErrs pg.1 pg.2 then s.retirePage pg.1 pg.2 else s

/-- A patrol scrub of a die completes, once per 24 h (R357): corrections held back by the one-second limit are reported. -/
def State.scrubEnd (s : State) (die : Nat) : State :=
  if !s.since (s.fs.scrubAt.getD die 0) (hours 24) then s else
  let s := { s with fs := { s.fs with
    scrubPasses := upd s.fs.scrubPasses die fun n => (n + 1) % 0x100000000, scrubAt := upd s.fs.scrubAt die fun _ => s.clock.up } }
  forEach (span (64 * die) (64 * die + 64)) s fun n s => s.correctedEvent n

/-! ### Poison (R358) -/

/-- A write of `n` bytes at `a` clears the poison of the granules it covers whole (DEDUCED, log entry 99). -/
def clearPoison (l : List Nat) (a n : Nat) : List Nat := l.filter fun g => !(decide (a ≤ 256 * g) && decide (256 * g + 256 ≤ a + n))

/-- The granule of an address is poisoned. -/
def State.isPoisoned (s : State) (a : Nat) : Bool := s.fs.poisoned.contains (granuleOf a)

/-- First byte of a kerf's codes in a ray frame (R338), for one steering state. -/
def Settings.rayAddr (c : Settings) (i frame state k : Nat) : Nat :=
  let die := dieOfLink (c.stands.getD i {}).link
  dieBase die + (c.frameBase.getD die 0 + frame * c.frameMib die + 64 * c.dieSlot i + 16 * state) * 0x100000 + 2048 * k

/-- The kerf of a ray-frame address: stand and kerf, where one has its codes there. -/
def State.kerfAt (s : State) (a : Nat) : Option (Nat × Nat) :=
  let c := s.settings
  let die := a / (64 * gib)
  let off := a % (64 * gib) / 0x100000 - c.frameBase.getD die 0
  let r := c.frameMib die
  if regionOf a ≠ 1 ∨ a % (64 * gib) / 0x100000 < c.frameBase.getD die 0 ∨ r = 0 ∨ 2 * r ≤ off then none else
  let slot := off % r / 64
  ((List.range s.stands.length).find? fun i => s.dieOfStand i == die && c.dieSlot i == slot).map fun i =>
    (i, a % 0x1000000 / 2048)

/-! ### MEM.STATUS (R362) -/

/-- The pseudo-channels a payload names, A9-wide. -/
def statusPcs (p : List Byte) : List Nat := if u8 p 1 = 0xFF then span (64 * u8 p 0) (64 * u8 p 0 + 64) else [64 * u8 p 0 + u8 p 1]

/-- The page of a die with the most corrected reads in the last 24 h, and those reads. -/
def State.worstPage (s : State) (die : Nat) : Nat × Nat :=
  (s.fs.pageErrs.filter fun e => e.1 == die).foldl (fun w e =>
    if w.2 < (s.recent24 e.2.2).length then (e.2.1, (s.recent24 e.2.2).length) else w) (0, 0)

/-- The response. -/
def State.memStatusBytes (s : State) (p : List Byte) : List Byte :=
  let f := s.fs
  let d := u8 p 0
  let pcs := (statusPcs p).map f.pc
  let sum (g : PseudoChannel → Nat) : Nat := (pcs.map g).foldl (· + ·) 0
  let low := match pcs.map PseudoChannel.repairLeft with | [] => 0 | a :: l => l.foldl min a
  le 1 f.setPoint ++ le 1 f.setPoints ++ le 1 (f.pending.getD 0xFF) ++ le 1 s.settings.ordering ++ le 1 f.train ++ [0] ++
  le 2 s.settings.idle ++ ([2 * d, 2 * d + 1].flatMap fun k => leI 2 ((f.stackTemp.getD k none).getD (-32768))) ++ zeros 4 ++
  le 8 (sum (·.corrected)) ++ le 4 (sum (·.uncorrected)) ++ le 4 (sum (·.poisonReads)) ++ le 4 (sum (·.rowsSpared)) ++ le 4 low ++
  le 4 (f.retired.filter fun e => e.1 == d).length ++ le 4 (f.poolLeft.getD d 0) ++ le 8 (sum (·.forced)) ++
  le 1 ((pcs.map (·.maxDebt)).foldl max 0) ++ zeros 3 ++ le 4 (f.panics.getD d 0) ++ le 4 (f.underruns.getD d 0) ++
  le 4 (f.trainPasses.getD d 0) ++ le 4 (f.trainFails.getD d 0) ++ zeros 4 ++ le 8 (f.lastTrainAt.getD d 0) ++ le 4 (f.scrubPasses.getD d 0) ++
  le 4 (s.worstPage d).1 ++ le 2 (s.worstPage d).2 ++ zeros 30

/-- RESET clears the counters the payload covers. -/
def State.memReset (s : State) (p : List Byte) : State :=
  let d := u8 p 0
  let s := forEach (statusPcs p) s fun n s =>
    if s.fs.pcs.any fun c => c.pc == n then
      s.updPc n fun c => { c with corrected := 0, uncorrected := 0, poisonReads := 0, rowsSpared := 0, forced := 0, maxDebt := 0 }
    else s
  if u8 p 1 ≠ 0xFF then s else
  { s with fs := { s.fs with panics := upd s.fs.panics d fun _ => 0, underruns := upd s.fs.underruns d fun _ => 0
                             trainPasses := upd s.fs.trainPasses d fun _ => 0, trainFails := upd s.fs.trainFails d fun _ => 0
                             scrubPasses := upd s.fs.scrubPasses d fun _ => 0 } }

/-- MEM.STATUS (R362). -/
def memStatus : CmdDef where
  opcode := 0x0B04
  kind := .immediate
  lenOk := lenIs 8
  checks _ c :=
    let p := c.payload
    chkP (1 < u8 p 0) stBadField 0 ++ chkP (63 < u8 p 1 && u8 p 1 != 0xFF) stBadField 1 ++ rsvBits p 2 0xFE ++ rsvBytes p 3 8
  run s c := .done (if bitOf (u8 c.payload 2) 0 then s.memReset c.payload else s) (s.memStatusBytes c.payload) 0

/-! ### Stack temperatures (R346) -/

/-- The stacks' own sensors are read; none where a stack has no valid reading. -/
def State.stackSample (s : State) (temps : List (Option Int)) : State :=
  { s with fs := { s.fs with stackTemp := (List.range 4).map fun k => (temps.getD k none).map (clampI (-32767) 32767) } }

end Sys2Proof.Machine
end

