-- ==== Sys2Proof/Machine/Time.lean ====
section
/-! DEFINITION. The time base (R387 to R404): device time and the tick under a source, steps and jumps, PTP, FSYNC_IN and the
timed pulse outputs; TIME.*. -/

namespace Sys2Proof.Machine

/-! ### Device time and the tick -/

/-- 1/3 ns units of an integer number of ns. -/
def nsI (v : Int) : Int := 3 * v

/-- A natural number moved by an integer, not below 0. -/
def shiftNat (n : Nat) (d : Int) : Nat := ((n : Int) + d).toNat

/-- Device time moves by `d` ns while the model's own clock stands: tick and grid keep their device times. -/
def State.stepDev (s : State) (d : Int) : State := { s with clock := { s.clock with dev := shiftNat s.clock.dev (nsI d) } }

/-- First instant of a grid `g + k × p` at or after `t`. -/
def gridFrom (g p t : Nat) : Nat := if t ≤ g then g - (g - t) / p * p else g + (t - g + p - 1) / p * p

/-- The next tick moved to the first grid instant of source 1 at least 2.0 µs from now (R391, R395). -/
def State.toGrid (s : State) : State :=
  let c := s.clock
  { s with clock := { c with nextUp := c.up + (gridFrom s.tb.gridN0 s.period (c.dev + us 2) - c.dev) } }

/-- A phase in 1/3 ns reduced modulo P into −P/2 to P/2 (R394). -/
def phase (p : Nat) (d : Int) : Int :=
  let r := d % (p : Int)
  if (p : Int) < 2 * r then r - p else r

/-- A step of tick phase, ns: the next tick moves, and lies at least 2.0 µs ahead. -/
def State.stepTick (s : State) (d : Int) : State :=
  let n := shiftNat s.clock.nextUp (nsI d)
  { s with clock := { s.clock with nextUp := if n < s.clock.up + us 2 then n + s.period else n } }

/-- A step of the source in force is made at once (R394, R395). -/
def State.applyStep (s : State) (d : Int) : State :=
  if s.tb.source = 1 then (s.stepDev d).toGrid else if s.tb.source = 0 then s else s.stepTick d

/-- The record of an accepted time step, 0x0081 (R451): N is the next tick. -/
def State.timeStepRecord (s : State) (d : Int) : State :=
  s.recFixed 0x0081 [lo32 (wrapInt 64 d), hi32 (wrapInt 64 d), lo32 (s.clock.tick + 1)]

/-- The rate correction averaged over the last 64 s of lock, the one in force where there was none (R393). -/
def State.meanRate (s : State) : Int :=
  if s.tb.rateLog = [] then s.tb.rateNow else (s.tb.rateLog.map (·.2)).foldl (· + ·) 0 / (s.tb.rateLog.length : Int)

/-- A source that disciplines device time steers its rate by at most ±100 ppm against TBREF (R388): how far is free.  The model's own clock counts
device time as it is steered (DESIGN CHOICE, log entry 165). -/
def State.steerRate (s : State) : State :=
  if s.tb.source = 0 ∨ (s.tb.state ≠ 1 ∧ s.tb.state ≠ 2) then s else
  let r : Int := (Config.freeValue s.security.free % 200001 : Nat) - 100000
  { s with
    security := { s.security with free := s.security.free + 1 }
    tb := { s.tb with
      rateNow := r
      rateLog := if s.tb.state = 2 then (s.tb.rateLog.filter fun e => !s.since e.1 (sec 64)) ++ [(s.clock.up, r)] else s.tb.rateLog } }

/-- A source enters holdover (R393): a locked or acquiring one with EV_HOLDOVER. -/
def State.holdover (s : State) (cause : Nat) : State :=
  if s.tb.source = 0 then s else
  let was := s.tb.state
  let s := { s with tb := { s.tb with rateNow := s.meanRate, state := 3, slewNs := 0, lockRun := 0, needStep := true, pendingStep := none, reportedStep := none } }
  if was = 1 ∨ was = 2 then s.raise evHoldover noUnit [cause] else s

/-- JUMP_US in ns. -/
def State.jumpNs (s : State) : Nat := 1000 * s.tb.jumpUs

/-- A step beyond the threshold is refused (R394): the event again only where it moved by more than the threshold (DEDUCED, log entry 72). -/
def State.refuseStep (s : State) (d : Int) : State :=
  let s := if s.tb.state = 1 ∨ s.tb.state = 2 then s.raise evHoldover noUnit [6] else s
  let again := match s.tb.reportedStep with | none => true | some r => decide (s.jumpNs < (d - r).natAbs)
  let s := { s with tb := { s.tb with state := 4, pendingStep := some d, slewNs := 0, lockRun := 0
                                      reportedStep := if again then some d else s.tb.reportedStep } }
  if again then s.raise evJumpRefused noUnit [lo32 (wrapInt 64 d), hi32 (wrapInt 64 d)] else s

/-- Measurements a source needs to lock, and how close each must be, ns (R392). -/
def lockNeed (source : Nat) : Nat × Nat := if source = 1 then (8, 1000) else (16, 100)

/-- The source meets its criterion (R392); source 1 fixes its grid at its first lock (R391). -/
def State.lock (s : State) : State :=
  let s := { s with tb := { s.tb with state := 2 } }
  let s := if s.tb.source = 1 ∧ !s.tb.everLocked then
      let s := { s with tb := { s.tb with everLocked := true, gridN0 := if s.modes.mode = 0 then 0 else s.clock.tickAt } }
      if s.modes.mode = 0 then
        let c := s.clock
        { s with clock := { c with nextUp := c.up + (gridFrom 0 s.period (c.dev + (c.nextUp - c.up)) - c.dev) } }
      else s
    else { s with tb := { s.tb with everLocked := true } }
  s.raise evTimeLocked noUnit [s.tb.source]

/-- A measurement counts toward the lock; `ok`: what the criterion asks beside the offset. -/
def State.countLock (s : State) (off : Int) (ok : Bool) : State :=
  let need := lockNeed s.tb.source
  let close := ok && (s.tb.source == 3 || off.natAbs ≤ need.2)
  let run := if close then s.tb.lockRun + 1 else 0
  let s := { s with tb := { s.tb with lockRun := run } }
  if s.tb.state = 1 ∧ need.1 ≤ run then s.lock else s

/-- The source measures its offset from device time, or of its tick from the tick in force, in ns (R392, R394). -/
def State.measured (s : State) (off : Int) (ok : Bool := true) : State :=
  let s := { s with tb := { s.tb with offsetNs := clampI (-2147483648) 2147483647 off } }
  if s.tb.acceptedJump.isSome ∨ (s.tb.change.any fun c => c.jump.isSome) then s
  else if s.tb.needStep then
    if s.modes.mode = 0 then
      let s := s.applyStep off
      State.steerRate { s with tb := { s.tb with state := 1, needStep := false, pendingStep := none, reportedStep := none, lockRun := 0, slewNs := 0 } }
    else if off.natAbs ≤ s.jumpNs then
      let s := { s with tb := { s.tb with state := 1, needStep := false, pendingStep := none, reportedStep := none, slewNs := off } }
      (s.countLock off ok).steerRate
    else s.refuseStep off
  else (({ s with tb := { s.tb with slewNs := off } }).countLock off ok).steerRate

/-- At a frame blank a disciplined time base slews by at most 1.0 µs (R388) (DEDUCED, log entry 71). -/
def State.slewBlank (s : State) : State :=
  if s.tb.source = 0 ∨ (s.tb.state ≠ 1 ∧ s.tb.state ≠ 2) ∨ s.tb.slewNs = 0 then s else
  let d := clampI (-1000) 1000 s.tb.slewNs
  let s := { s with tb := { s.tb with slewNs := s.tb.slewNs - d } }
  if s.tb.source = 1 then
    let s := s.stepDev d
    { s with clock := { s.clock with nextUp := shiftNat s.clock.nextUp (-(nsI d)) } }
  else { s with clock := { s.clock with nextUp := shiftNat s.clock.nextUp (nsI d) } }

/-! ### TIME.SOURCE, TIME.GET, TIME.ACCEPT_JUMP (R389, R390, R395) -/

/-- A source applies: acquiring, with a step to measure (R392, R394); source 0 continues the phase in force (DEDUCED, log entry 71). -/
def State.takeSource (s : State) (source jumpUs : Nat) : State :=
  let j := if jumpUs = 0 then 50 else jumpUs
  if source = s.tb.source then { s with tb := { s.tb with jumpUs := j } } else
  { s with tb := { s.tb with
    source := source, jumpUs := j, state := if source = 0 then 0 else 1, offsetNs := 0, lockRun := 0, everLocked := false,
    needStep := source != 0, pendingStep := none, reportedStep := none, slewNs := 0, acceptedJump := none, appliedAt := s.clock.up
    rateNow := if source = 0 then 0 else s.tb.rateNow, rateLog := [], follow := false } }

/-- TIME.SOURCE (R390). -/
def timeSource : CmdDef where
  opcode := 0x0D01
  kind := .stageable
  lenOk := lenIs 8
  checks _ c :=
    let p := c.payload
    chkP (3 < u8 p 0) stBadField 0 ++ rsvBytes p 1 4 ++ chkP (1000000 < u32 p 4) stBadField 4
  validate s _ _ _ fin p :=
    chkP (u8 p 0 == 1 && s.tb.ptp.all fun q => q.mode == 0) stNoResource 0 ++
    chkP (u8 p 0 == 3 && (fin.chainRoot || fin.roles.all fun r => r != 1 && r != 2)) stNoResource 0
  apply p c := { c with source := u8 p 0, jumpUs := if u32 p 4 = 0 then 50 else u32 p 4 }
  effect _ p _ _ s := s.takeSource (u8 p 0) (u32 p 4)

/-- FRACTION: the 16-bit binary fraction of device time. -/
def State.fraction (s : State) : Nat := s.clock.dev % 3 * 65536 / 3

/-- TIME.GET (R389). -/
def timeGet : CmdDef where
  opcode := 0x0D03
  kind := .immediate
  lenOk := lenIs 0
  checks := noChecks
  run s _ := .done s (le 8 s.nowNs ++ le 2 s.fraction ++ le 1 s.tb.source ++ le 1 s.tb.state ++
    leI 4 (if s.tb.source = 0 then 0 else s.tb.offsetNs) ++ le 8 s.clock.tick ++ le 8 (s.clock.tickAt / 3)) 0

/-- Outputs recomputed in 64 bits after an accepted jump from the device time `before` (R404). -/
def State.pulsesAfterJump (s : State) (before : Nat) : State :=
  let now := s.nowNs
  { s with tb := { s.tb with tpulse := s.tb.tpulse.map fun t =>
    if !t.enable then t else
    let old := shiftNat before (signedOf 48 (wrapInt 48 ((t.next : Int) - before)))
    let next := if now ≤ old then old else if t.periodic then old + (now - old + t.periodNs - 1) / max 1 t.periodNs * t.periodNs else now
    if now + 2 ^ 47 < next then { t with enable := false } else { t with next := next } } }

/-- TIME.ACCEPT_JUMP (R395). -/
def timeAcceptJump : CmdDef where
  opcode := 0x0D04
  kind := .immediate
  lenOk := lenIs 8
  checks s c :=
    match s.tb.pendingStep with
    | none => chk true stNoResource
    | some d => chkP (s.jumpNs < (s64 c.payload 0 - d).natAbs) stBadField 0
  run s _ :=
    let d := s.tb.pendingStep.getD 0
    if s.modes.mode = 0 then
      let s := ((s.applyStep d).pulsesAfterJump s.nowNs).timeStepRecord d
      .done { s with tb := { s.tb with state := 1, needStep := false, pendingStep := none, reportedStep := none, lockRun := 0 } } [] 0
    else .done { s with tb := { s.tb with acceptedJump := some d, acceptedUp := s.clock.up } } [] 0

/-! ### Timed pulse outputs (R403, R404) -/

/-- The device time difference, low 48 bits as a signed value, is 0 or above. -/
def pulseDue (nowNs next : Nat) : Bool := 0 ≤ signedOf 48 (wrapInt 48 ((nowNs : Int) - next))

/-- TIME.PULSE (R403). -/
def timePulse : CmdDef where
  opcode := 0x0D05
  kind := .immediate
  lenOk := lenIs 32
  checks s c :=
    let p := c.payload
    let periodic := bitOf (u8 p 1) 1
    chkP (3 < u8 p 0) stBadField 0 ++ rsvBits p 1 0xF8 ++ rsvBytes p 2 4 ++
    chkP (u32 p 4 < 8 || 1000000000 < u32 p 4) stBadField 4 ++
    chkP (if periodic then u64 p 8 < u32 p 4 + 8 || 2 ^ 46 ≤ u64 p 8 else u64 p 8 != 0) stBadField 8 ++
    chkP (u64 p 16 + 1000000000 < s.nowNs || s.nowNs + 2 ^ 47 < u64 p 16 + 1000000000) stBadField 16 ++
    chkP (!periodic && u32 p 24 != 0) stBadField 24 ++ rsvBytes p 28 32
  run s c :=
    let p := c.payload
    let f := u8 p 1
    .done { s with tb := { s.tb with tpulse := upd s.tb.tpulse (u8 p 0) fun t => { t with
      enable := bitOf f 0, periodic := bitOf f 1, activeLow := bitOf f 2, widthNs := u32 p 4, periodNs := u64 p 8,
      next := u64 p 16, left := u32 p 24 } } } [] 0

/-- An output's next instant is reached: it drives its edge (R404). -/
def State.pulseFire (s : State) (n : Nat) : State :=
  match s.tb.tpulse[n]? with
  | none => s
  | some t =>
    if !t.enable || !pulseDue s.nowNs t.next then s else
    let on := t.periodic && t.left != 1
    let s := { s with tb := { s.tb with tpulse := upd s.tb.tpulse n fun t => { t with
      enable := on, next := (t.next + t.periodNs) % 2 ^ 48, left := t.left - 1, fired := t.fired + 1 } } }
    s.emit (.pulse (1 + n) t.widthNs t.activeLow)

/-! ### FSYNC_IN (R400, R401) -/

/-- TIME.FSYNC_ARM (R400). -/
def timeFsyncArm : CmdDef where
  opcode := 0x0D06
  kind := .immediate
  lenOk := lenIs 8
  checks s c :=
    rsvBits c.payload 0 0xFE ++ rsvBytes c.payload 1 4 ++
    chkP (s.period < 6 * (s32 c.payload 4).natAbs) stBadField 4
  run s c := .done { s with tb := { s.tb with fsync := { s.tb.fsync with
    armed := true, falling := bitOf (u8 c.payload 0) 0, delayNs := s32 c.payload 4, ignored := [] } } } [] 0

/-- The input in force for source 2 loses its source. -/
def State.fsyncHoldover (s : State) (cause : Nat) : State := if s.tb.source = 2 then s.holdover cause else s

/-- An accepted edge measures the tick's phase (R392, R394); after a holdover of cause 4 only in-rate edges do, and 16 in a row lock again (R401). -/
def State.fsyncMeasure (s : State) (fresh : Bool) : State :=
  let f := s.tb.fsync
  if s.tb.source ≠ 2 ∨ (f.recover && f.inrate == 0) then s
  else
    let s := if fresh then { s with tb := { s.tb with needStep := true } } else s
    let d := phase s.period ((s.clock.up : Int) + nsI f.delayNs - s.clock.tickUp)
    let s := s.measured (d.fdiv 3) (!f.recover || f.inrate ≠ 0)
    if s.tb.state = 2 then { s with tb := { s.tb with fsync := { s.tb.fsync with recover := false } } } else s

/-- An edge arrives, `falling` or rising, of a pulse of some width (R401): pulses shorter than 20 ns are rejected and not counted, and edges of the
polarity that is not armed are none of the input's (R400). -/
def State.fsyncEdge (s : State) (falling : Bool) (widthNs : Nat) : State :=
  let f := s.tb.fsync
  let p := s.period
  let e := s.clock.up
  if widthNs < 20 ∨ falling ≠ f.falling ∨ !f.armed then s
  else if f.last.any fun l => 4 * (e - l) < 3 * p then
    let ign := (f.ignored.filter fun t => e < t + sec 1) ++ [e]
    if 8 < ign.length then
      let s := { s with tb := { s.tb with fsync := { f with armed := false, ignored := ign } } }
      (s.raise evFsyncUnusable noUnit [ign.length]).fsyncHoldover 3
    else { s with tb := { s.tb with fsync := { f with ignored := ign } } }
  else
    let near := f.last.any fun l => 2 * (e - l) ≤ 5 * p
    let off := f.last.any fun l => near && p < 1000 * ((e : Int) - l - p).natAbs
    let n := if off then f.offrate + 1 else 0
    let m := if near ∧ !off then f.inrate + 1 else 0
    let s := { s with tb := { s.tb with fsync := { f with
      last := some e, offrate := n, inrate := m, recover := f.recover || 8 ≤ n } } }
    if 8 ≤ n then s.fsyncHoldover 4 else s.fsyncMeasure (!near)

/-- No accepted edge within 2.5 × P (R401). -/
def State.fsyncStuck (s : State) : State :=
  if s.tb.source = 2 ∧ 2 * s.clock.up > 2 * max (s.tb.fsync.last.getD 0) s.tb.appliedAt + 5 * s.period then s.holdover 2 else s

/-! ### PTP (R397 to R399) -/

/-- A PTP port. -/
def State.ptpPort (s : State) (n : Nat) : PtpPort := s.tb.ptp.getD n {}
/-- Changes one. -/
def State.updPtp (s : State) (n : Nat) (f : PtpPort → PtpPort) : State := { s with tb := { s.tb with ptp := upd s.tb.ptp n f } }

/-- No port has a master any more: a loss under source 1 (R393). -/
def State.masterLost (s : State) : State :=
  if s.tb.source = 1 ∧ s.tb.ptp.all (fun q => q.master.isNone) then s.holdover 1 else s

/-- TIME.PTP (R398). -/
def timePtp : CmdDef where
  opcode := 0x0D02
  kind := .immediate
  lenOk := lenIs 64
  checks s c :=
    let p := c.payload
    let o := s.ptpPort (1 - u8 p 0)
    let clash (bad : Bool) (off : Nat) : List Err := chkP (o.mode != 0 && bad) stBadField off
    chkP (1 < u8 p 0) stBadField 0 ++ chkP (2 < u8 p 1) stBadField 1 ++ rsvBits p 2 0xF8 ++
    chkP (1 < u8 p 3 || (u8 p 3 == 1 && bitOf (u8 p 2) 1)) stBadField 3 ++ chkP (127 < u8 p 4) stBadField 4 ++
    chkP (2 < u8 p 5) stBadField 5 ++ chkP (s8 p 6 < -3 || 4 < s8 p 6) stBadField 6 ++
    chkP (s8 p 7 < -7 || 1 < s8 p 7) stBadField 7 ++ chkP (s8 p 8 < -7 || 5 < s8 p 8) stBadField 8 ++
    chkP (u8 p 9 < 2 || 10 < u8 p 9) stBadField 9 ++ chkP (4094 < u16 p 12) stBadField 12 ++ rsvBytes p 14 16 ++
    chkP (s32 p 28 < -100000 || 100000 < s32 p 28) stBadField 28 ++ rsvBytes p 40 64 ++
    clash (o.profile != u8 p 3) 3 ++ clash (o.domain != u8 p 4) 4 ++ clash (o.priority1 != u8 p 10) 10 ++
    clash (o.priority2 != u8 p 11) 11 ++ clash (o.offsetS != s64 p 32) 32
  run s c :=
    let p := c.payload
    let had := (s.ptpPort (u8 p 0)).master.isSome
    let s := s.updPtp (u8 p 0) fun _ => {
      mode := u8 p 1, flags := BitVec.ofNat 8 (u8 p 2), profile := u8 p 3, domain := u8 p 4, phy := u8 p 5, logAnnounce := s8 p 6,
      logSync := s8 p 7, logDelay := s8 p 8, announceTimeout := u8 p 9, priority1 := u8 p 10, priority2 := u8 p 11, vlan := u16 p 12,
      ipv4 := BitVec.ofNat 32 (u32 p 16), mask := BitVec.ofNat 32 (u32 p 20), gateway := BitVec.ofNat 32 (u32 p 24),
      asymNs := s32 p 28, offsetS := s64 p 32, sentAt := List.replicate 3 s.clock.up }
    .done (if had then s.masterLost else s) [] 0

/-- A PTP timestamp with its correction field, as device time in 2^-16 ns (R397). -/
def PtpPort.toDev (q : PtpPort) (secs nanos : Nat) (corr : Int) : Int :=
  65536 * (((secs : Int) - q.offsetS) * 1000000000 + nanos) + corr

/-- Device time in 2^-16 ns. -/
def State.dev16 (s : State) : Int := (s.clock.dev * 65536 / 3 : Nat)

/-- PTP time that a port serves (R397): device time plus OFFSET_S. -/
def State.ptpTime (s : State) (q : PtpPort) : Int := (s.nowNs : Int) + q.offsetS * 1000000000

/-- The grandmaster whose data a master port passes on, the A9 itself where no port has one (R398). -/
def State.grandmaster (s : State) : Nat := ((s.tb.ptp.findSome? fun q => q.master).map (·.toNat)).getD Config.clockIdentity

/-- A Sync measurement on the port with the selected master (R392, R397): origin timestamp and correction field as they arrive; the source stands at
the origin plus path delay and asymmetry (DESIGN CHOICE, log entry 73). -/
def State.ptpSync (s : State) (n secs nanos : Nat) (corr : Int) : State :=
  let q := s.ptpPort n
  if q.mode = 0 ∨ q.master.isNone then s else
  let t1 := q.toDev secs nanos corr
  let s := s.updPtp n fun q => { q with syncT1 := t1, syncT2 := s.dev16 }
  if s.tb.source = 1 then s.measured ((t1 + 65536 * (q.pathDelayNs + q.asymNs) - s.dev16).fdiv 65536) else s

/-- An Announce message (R399): EV_PTP_MASTER for an identity that differs from the previous one, or returns; `selects`: the best master clock algorithm selects its grandmaster (DESIGN CHOICE, log entry 73). -/
def State.ptpAnnounce (s : State) (n : Nat) (identity : BitVec 64) (selects : Bool) : State :=
  let q := s.ptpPort n
  if q.mode = 0 ∨ 1 < n then s else
  let s := if q.master = some identity then s.updPtp n fun q => { q with lastAnnounce := s.clock.up } else s
  if !selects ∨ q.master = some identity then s else
  let same : Bool := s.tb.ptp.any fun x => x.master == some identity
  let s := { s with tb := { s.tb with
    ptp := s.tb.ptp.mapIdx fun k (x : PtpPort) => if k = n then { x with master := some identity, lastAnnounce := s.clock.up } else { x with master := none }
    needStep := s.tb.needStep || s.tb.source == 1, lockRun := 0 } }
  if same then s else s.raise evPtpMaster n [lo32 identity.toNat, hi32 identity.toNat]

/-- 2^k seconds in 1/3 ns. -/
def logInterval (k : Int) : Nat := if k < 0 then sec 1 / 2 ^ k.natAbs else sec 1 * 2 ^ k.natAbs

/-- The announce receipt timeout expires (R393). -/
def State.announceTimeout (s : State) (n : Nat) : State :=
  let q := s.ptpPort n
  if q.master.isSome ∧ s.since q.lastAnnounce (q.announceTimeout * logInterval q.logAnnounce) then
    (s.updPtp n fun q => { q with master := none }).masterLost
  else s

/-- The port serves as master: full BMCA and no master of its own (R397). -/
def PtpPort.serves (q : PtpPort) : Bool := q.mode == 2 && q.master.isNone

/-- P2P of a port: the peer-to-peer delay mechanism (R398). -/
def PtpPort.p2p (q : PtpPort) : Bool := q.flags.getLsbD 1

/-- Interval of a message kind (R398): LOG_SYNC, LOG_ANNOUNCE, LOG_DELAY. -/
def PtpPort.interval (q : PtpPort) (kind : Nat) : Nat := logInterval ([q.logSync, q.logAnnounce, q.logDelay].getD kind 0)

/-- A message interval passes (R398): 0 Sync, followed under TWO_STEP by Follow_Up, 1 Announce, 2 delay request, which under P2P goes to the peer
whatever the port's role (DESIGN CHOICE, log entry 73). -/
def State.ptpInterval (s : State) (n kind : Nat) : State :=
  let q := s.ptpPort n
  let sends := if kind ≤ 1 then q.serves else q.mode != 0 && (q.p2p || q.master.isSome)
  if 1 < n ∨ 2 < kind ∨ !sends ∨ !s.since (q.sentAt.getD kind 0) (q.interval kind) then s else
  let two : Bool := kind == 0 && q.flags.getLsbD 0
  let time := s.ptpTime q
  let s := (s.updPtp n fun q => { q with
    sent := q.sent + 1, sentAt := upd q.sentAt kind fun _ => s.clock.up, lastDelayReq := if kind = 2 then s.clock.dev else q.lastDelayReq }).emit
    (.ptpSend n kind (if two then 0 else time) s.grandmaster)
  if two then s.emit (.ptpSend n 4 time s.grandmaster) else s

/-- A delay message arrives (R397): a request (kind 0) is answered with its time of arrival; a response (kind 1) gives the path delay: half of
Sync's and the request's travel end to end, whose arrival at the master it carries, or half of the peer's round trip less the turnaround in its
correction field (DESIGN CHOICE, log entry 73). -/
def State.ptpDelay (s : State) (n kind secs nanos : Nat) (corr : Int) : State :=
  let q := s.ptpPort n
  if q.mode = 0 ∨ 1 < n then s
  else if kind = 0 then (if q.p2p || q.serves then s.emit (.ptpSend n 3 (s.ptpTime q) s.grandmaster) else s)
  else
    let asked : Int := (q.lastDelayReq * 65536 / 3 : Nat)
    let twice := if q.p2p then s.dev16 - asked - corr else q.syncT2 - q.syncT1 + (q.toDev secs nanos (-corr) - asked)
    s.updPtp n fun q => { q with pathDelayNs := twice.fdiv 131072 }

/-- PTP restarts on every port (R418). -/
def State.ptpRestart (s : State) (n : Nat) : State :=
  let had := (s.ptpPort n).master.isSome
  let s := s.updPtp n fun q => { q with master := none, syncT1 := 0, syncT2 := 0 }
  if had then s.masterLost else s

/-! ### Timing-mode changes and accepted jumps at blanks and ticks (R264, R395) -/

/-- The blank that ends at the next tick carries the step of a jump: the transition frame's, or the first one where nothing is
shown. -/
def TimingChange.stepsAt (c : TimingChange) (t : Nat) : Bool := c.jump.isSome && !c.stepped && (if c.direct then t == c.loadTick else t == c.loadTick + 2)

/-- At the start of a blank a jump accepted before the blank's cut-off, 2.0 µs earlier (R81), becomes a timing-mode change. -/
def State.jumpBegins (s : State) : State :=
  if s.clock.tickUp + 4 * subPeriod s.clock.rate < s.tb.acceptedUp + us 2 then s else
  match s.tb.acceptedJump, s.tb.change with
  | some d, none =>
    { s with tb := { s.tb with acceptedJump := none, change := some {
        loadTick := s.clock.tick + 1, newRate := s.clock.rate, newSpread := s.clock.spread, jump := some d, direct := s.modes.mode ≤ 1 } } }
  | some d, some c =>
    if c.loadTick = s.clock.tick + 1 then { s with tb := { s.tb with acceptedJump := none, change := some { c with jump := some d } } } else s
  | none, _ => s

/-- Device time, or the tick's phase, steps at the start of the blank that carries the step. -/
def State.jumpSteps (s : State) : State :=
  match s.tb.change with
  | none => s
  | some c =>
    if !c.stepsAt (s.clock.tick + 1) then s else
    let d := c.jump.getD 0
    let s := { s with tb := { s.tb with change := some { c with stepped := true }, pendingStep := none, reportedStep := none } }
    ((s.applyStep d).pulsesAfterJump s.nowNs).timeStepRecord d

/-- The new timing starts at the tick just reached (DEDUCED, log entry 104). -/
def State.timingStarts (s : State) : State :=
  match s.tb.change with
  | none => s
  | some c =>
    if s.clock.tick ≠ (if c.direct then c.loadTick else c.loadTick + 2) then s else
    let moved := c.newRate != s.clock.rate || c.newSpread != s.clock.spread
    let s := if c.anchored then s else s.reanchorAll s.clock.tick c.newRate
    let s := { s with
      clock := { s.clock with rate := c.newRate, spread := c.newSpread, nextUp := s.clock.tickUp + framePeriod c.newRate }
      tb := { s.tb with change := none, gridN0 := if s.tb.source = 1 then s.clock.tickAt else s.tb.gridN0 } }
    let s := if c.jump.isSome then
        { s with tb := { s.tb with state := if s.tb.source = 0 then 0 else 1, lockRun := 0, needStep := false, slewNs := 0 } } else s
    if moved || c.jump.isNone then s.raise evTimingChanged noUnit [c.newRate, c.newSpread] c.tag c.txn else s

end Sys2Proof.Machine
end

