-- ==== Sys2Proof/Machine/Chain.lean ====
section
/-! DEFINITION. The skyline (R363 to R386): ports and roles, beacons and the selected parent, the tick over the chain, ready,
relay, tunnelled commands and events, regions; CHAIN.*. -/

namespace Sys2Proof.Machine

/-! ### Addresses and ports -/

/-- ROLE of a port (R364). -/
def State.role (s : State) (p : Nat) : Nat := s.settings.roles.getD p 0

/-- Ports fed by this A9: up, not the selected parent, and selected by the neighbour (R371, R374, R377). -/
def State.fedPorts (s : State) : List Nat :=
  (List.range 4).filter fun p => (s.port p).joined && (s.port p).inAnd && s.chain.parent != some p

/-- Ports a command goes down on toward its target (R379): those that lead to the A9 of the address, or where it has not been heard every port that
this A9 feeds (DEDUCED, log entry 64). -/
def State.downPorts (s : State) (target : Nat) : List Nat :=
  let l := (s.chain.claims.filter fun c => c.address == target).map (·.port)
  s.fedPorts.filter fun p => l == [] || l.contains p

/-- The lanes carry beacons and relay (R383): the A9 has power and is out of reset, and not both its compute dies are wedged. -/
def State.lanesRun (s : State) : Bool :=
  s.bellows.running && !s.bellows.powerLost && !s.modes.rst &&
    !(List.range 2).all fun d => (s.complex d).fenced || (s.complex d).inReset || (s.bellows.dieOff.getD d none).isSome

/-- Root this A9 hears, or 0 (DEDUCED, log entry 64). -/
def State.rootAddr (s : State) : Nat :=
  if s.settings.chainRoot then s.ownAddress else match s.chain.parent with | some p => (s.port p).heard.root | none => 0

/-- DEPTH (R368). -/
def State.depth (s : State) : Nat :=
  if s.settings.chainRoot then 0 else match s.chain.parent with | some p => min 0xFF ((s.port p).heard.depth + 1) | none => 0xFF

/-- Tick delay D in ps (R371). -/
def State.dCum (s : State) : Nat :=
  if s.settings.chainRoot then 0 else
  match s.chain.parent with
  | some p => (s.port p).heard.dCum + (s.port p).heard.fwd + (s.port p).hopPs
  | none => s.chain.dCum

/-- TICK_LOCKED: free-running by choice, or locked (DEDUCED, log entry 72). -/
def State.tickLocked (s : State) : Bool := s.tb.source == 0 || s.tb.state == 2

/-! ### Ready (R374, R375) -/

/-- Own ready. -/
def State.ownReady (s : State) : Bool :=
  let m := s.settings.readyMask
  let bound := ((s.settings.primary s.modes.mode).toList ++ (List.range 3).filterMap s.settings.inset)
  s.modes.mode != 0 && !((List.range 2).all fun d => (s.complex d).fenced || (s.complex d).inReset) &&
  (!m.getLsbD 0 || s.modes.ready) &&
  (!m.getLsbD 1 || s.settings.linksUsed.all fun l => (s.link l).state == 2 || (s.link l).state == 3) &&
  (!m.getLsbD 2 || bound.all fun n => s.streamState n == 2)

/-- A port's contribution to the AND: its level where it is fed, false in its grace period. -/
def Port.readyBit (p : Port) : Bool := p.grace.isNone && (!p.inAnd || p.readyIn)

/-- The AND. -/
def State.readyAnd (s : State) : Bool := s.ownReady && (List.range 4).all fun p => s.chain.parent == some p || (s.port p).readyBit

/-- READY follows the AND: the output of the selected parent port, the chain-wide ready at the root.  As the parent changes the pair of the old one
is left undriven, and the new one is driven 1 µs later (R370). -/
def State.settleReady (s : State) : State :=
  let r := s.readyAnd
  let turned : Bool := s.chain.parent != s.chain.readyPort
  if r = s.chain.readyOut ∧ !turned then s else
  let s := match turned, s.chain.readyPort with | true, some o => s.emit (.readyOff o) | _, _ => s
  let s := { s with chain := { s.chain with readyOut := r, readyPort := s.chain.parent } }
  match s.chain.parent with | some p => s.emit (.ready p r (s.clock.up + if turned then us 1 else 0)) | none => s

/-- A READY input changes (R374); while a measurement holds the input its level waits (R372). -/
def State.readyInput (s : State) (p : Nat) (level : Bool) : State :=
  s.updPort p fun q => if s.clock.up < q.holdUntil then { q with readyRaw := level } else { q with readyIn := level, readyRaw := level }

/-- The grace period of a dead port ends (R376). -/
def State.graceEnd (s : State) (p : Nat) : State :=
  match (s.port p).grace with
  | none => s
  | some t =>
    if !s.since t (us s.settings.graceUs) then s else
    (s.updPort p fun q => { q with grace := none, inAnd := false, leftOut := true }).raise evReadyGrace p [s.settings.graceUs]

/-! ### Relay (R377, R378) -/

/-- Bytes a relayed packet keeps in the buffer. -/
def RelayPkt.size (k : RelayPkt) : Nat := 72 + 8 * k.placed.subs.length + dSize k.desc

/-- A packet joins those kept of a port; one whose RELAY_SEQ does not rise starts its stream anew. -/
def joinRelay (l : List RelayPkt) (k : RelayPkt) : List RelayPkt :=
  (if l.any fun e => e.stream == k.stream && k.seq ≤ e.seq then l.filter fun e => e.stream != k.stream else l) ++ [k]

/-- The last packets of a list that fit 16 MiB (DEDUCED, log entry 37). -/
def keepRelay (l : List RelayPkt) : List RelayPkt :=
  (l.foldr (fun k acc => let n := acc.1 + k.size
                         if acc.2.2 && n ≤ 16777216 then (n, k :: acc.2.1, true) else (acc.1, acc.2.1, false)) (0, [], true)).2.1

/-- The subsample table as it lies in host memory (R130). -/
def placedTable (p : Placed) : List Byte := p.subs.flatMap fun e => le 4 e.1 ++ le 4 e.2

/-- A descriptor, its subsample table and its data go out on every fed port (R367, R377) (DEDUCED, log entry 37). -/
def State.relayOut (s : State) (n seq : Nat) (d : List Byte) (p : Placed) : State :=
  let l := s.fedPorts
  if l = [] then s else
  let s := forEach l s fun q s => s.sendPort q 0x10 (le 1 n ++ zeros 3 ++ le 4 seq ++ d ++ placedTable p ++ placedBytes d p)
  { s with chain := { s.chain with relayBytes := s.chain.relayBytes + dSize d } }

/-- A root relays a descriptor that it fetched, under the stream's next RELAY_SEQ (R129, R367). -/
def State.relayFetched (s : State) (n : Nat) (d : List Byte) (p : Placed) : State :=
  match s.stream n with
  | none => s
  | some st => (s.relayOut n st.relaySeq d p).updStream n fun st => { st with relaySeq := (st.relaySeq + 1) % 0x100000000 }

/-- Scene frames that lose descriptors where `lost` of them are gone before `d` (R378): those from the open one, or from the one after the newest, to
the one before that of `d`, and that of `d` too unless no more descriptors are gone than there are such frames (DEDUCED, log entry 68). -/
def SceneStream.lostFrames (st : SceneStream) (lost : Nat) (d : List Byte) : Nat × Bool :=
  let first := match st.openFrame, st.lastFrame with
    | some f, _ => f.num
    | none, some l => nextFrame l.1
    | none, none => dFrame d
  let n := (dFrame d + 0x100000000 - first) % 0x100000000
  (min n lost, n = 0 || n < lost)

/-- Relayed descriptors of a stream were lost: the scene frames concerned are discarded, each reported as cause 8 (R122, R378). -/
def State.spliceLoss (s : State) (n seq : Nat) (d : List Byte) : State :=
  match s.stream n with
  | none => s
  | some st =>
    let (before, its) := st.lostFrames (seq - st.relaySeq) d
    let count := before + b2n its
    let s := forEach (List.range count) s fun _ s => s.queueError n 0 8
    let s := s.updStream n fun st =>
      let st := match st.openFrame with | some f => st.discard f.num | none => { st with awaitRap := true }
      let last := st.lastFrame.map fun l => ((dFrame d + 0xFFFFFFFF) % 0x100000000, l.2)
      let st := { st with frames := st.frames.map fun (f : SceneFrame) => { f with lastSeen := true } }
      { (if its then st.rejectDesc s.streamPeriod d else { st with lastFrame := last, discarding := none }) with relaySeq := seq }
    { s with chain := { s.chain with spliceLost := (s.chain.spliceLost + count) % 0x100000000 } }

/-- Relayed descriptors are fetched, checked and placed in order (R129); `checked` says that the first one was fetched before.  One that
waits for a key slot holds up those behind it; a frame this A9 cannot place is cause 11 here alone.  A
relayed descriptor has no index in a queue, so P0 of its EV_QUEUE_ERROR is 0 (DESIGN CHOICE, log entry 150). -/
def State.relayRun (s : State) (n : Nat) : (checked : Bool) → List (List Byte × Placed) → State
  | _, [] => s.updStream n fun st => { st with relayQ := [] }
  | checked, (d, p) :: rest =>
    let r := if checked then (s, true) else s.fetchDesc n { bytes := d }
    let next (s : State) : State := s.relayRun n false rest
    if !r.2 then next r.1
    else if dKind d = 3 then next (r.1.checkEnd n)
    else match r.1.turn n d with
      | .reads key => next (r.1.placeDesc n 0 d key p)
      | .gone => next r.1
      | .tooLarge | .full => next (r.1.tooLarge n 0 d)
      | .waits => r.1.updStream n fun st => { st with relayQ := (d, p) :: rest }
      | .expired => next (r.1.keyRefused n (dFrame d) 2)

/-- A relayed descriptor is taken and its data placed (R129, R378); `relaySeq` is the RELAY_SEQ of the next one (DEDUCED, log entry 68). -/
def State.relayTake (s : State) (n seq : Nat) (d : List Byte) (p : Placed) : State :=
  match s.stream n with
  | none => s
  | some st =>
    if st.queue ≠ 0xFF ∨ !isPlay s.modes.mode ∨ seq < st.relaySeq then s else
    let s := if st.relaySeq < seq then s.spliceLoss n seq d else s
    let s := s.updStream n fun st => { st with relaySeq := (seq + 1) % 0x100000000 }
    s.relayRun n (st.relayQ != []) (st.relayQ ++ [(d, p)])

/-- Relayed descriptors that waited for a key go on once it is there, or their frame is gone (R129, R133). -/
def State.relayServe (s : State) : State :=
  if !isPlay s.modes.mode then s else
  forEach (List.range 8) s fun n s =>
    match s.stream n with
    | some st => if st.relayQ = [] then s else s.relayRun n true st.relayQ
    | none => s

/-- A packet of the parent's is relayed on (R377); where its stream would be resumed is noted. -/
def State.relayOn (s : State) (n seq : Nat) (d : List Byte) (p : Placed) : State :=
  let s := s.relayOut n seq d p
  { s with chain := { s.chain with relayNext := upd s.chain.relayNext n fun _ => (seq + 1) % 0x100000000 } }

/-- RELAY_SEQ at which a stream resumes: after the last descriptor taken here, or where the stream is not open the last one relayed on. -/
def State.resumeSeq (s : State) (n : Nat) : Nat :=
  match s.stream n with
  | some st => if st.queue = 0xFF then st.relaySeq else s.chain.relayNext.getD n 0
  | none => s.chain.relayNext.getD n 0

/-- A RELAY packet arrives: from the parent it is relayed on and placed, on a parent-side port that is not selected it is kept; none does where both
compute dies are wedged (R383). -/
def State.relayReceived (s : State) (port n seq : Nat) (d : List Byte) (p : Placed) : State :=
  if !(s.port port).up ∨ !s.lanesRun then s
  else if s.chain.parent = some port then (s.relayOn n seq d p).relayTake n seq d p
  else if s.role port = 1 ∨ s.role port = 2 then
    s.updPort port fun q => { q with buffer := keepRelay (joinRelay q.buffer { stream := n, seq := seq, desc := d, placed := p }) }
  else s

/-- On a new parent every stream resumes after the last descriptor placed whole, from the buffer of its port. -/
def State.splice (s : State) (port : Nat) : State :=
  let l := (s.port port).buffer
  let s := s.updPort port fun q => { q with buffer := [] }
  l.foldl (fun s k => if k.seq < s.resumeSeq k.stream then s
    else (s.relayOn k.stream k.seq k.desc k.placed).relayTake k.stream k.seq k.desc k.placed) s

/-! ### The selected parent (R370, R382) -/

/-- Rank of a role among equal depths: parent, parent-skip, child, child-skip. -/
def roleRank : Nat → Nat
  | 1 => 0
  | 2 => 1
  | 3 => 2
  | _ => 3

/-- A port can be selected (R370, R384): up, with a path to a root, and not one whose neighbour has selected this A9, which has no other path. -/
def Port.offers (q : Port) : Bool := q.up && q.goodSince.isSome && decide (q.heard.depth < 0xFF) && !q.heard.flags.getLsbD 2

/-- The port R370 selects among those up with a path to a root (DEDUCED, log entry 66). -/
def State.bestPort (s : State) : Option Nat :=
  ((List.range 4).filter fun p => (s.port p).offers).foldl (fun b p =>
    match b with
    | none => some p
    | some q =>
      let a := ((s.port p).heard.depth, roleRank (s.role p))
      let c := ((s.port q).heard.depth, roleRank (s.role q))
      if a.1 < c.1 ∨ (a.1 = c.1 ∧ a.2 < c.2) then some p else b) none

/-- Records held while there was no parent go up (R379). -/
def State.flushHeld (s : State) (p : Nat) : State :=
  s.chain.heldEvents.foldl (fun s e => (s.emit (.portEvent p (e.body ++ zeros 4))).portStream p 0x13 (e.body ++ zeros 4))
    { s with chain := { s.chain with heldEvents := [] } }

/-- Ports on which a DEPTH no greater than the selected parent's is heard, and since when (R370). -/
def State.noteDepths (s : State) : State :=
  let limit := match s.chain.parent with | some o => (s.port o).heard.depth | none => 0xFE
  { s with chain := { s.chain with ports := s.chain.ports.mapIdx fun n (q : Port) =>
      { q with depthSince := if q.goodSince.isSome ∧ q.heard.depth ≤ limit ∧ q.heard.depth < 0xFF ∧ s.chain.parent ≠ some n
                             then some (q.depthSince.getD s.clock.up) else none } } }

/-- What this A9 hears of one farther down goes up toward the root (R366) (DESIGN CHOICE, log entry 67). -/
def State.announce (s : State) (c : Claim) : State :=
  match s.chain.parent with
  | some q => s.sendPort q 0x12 ([5] ++ le 1 c.address ++ le 8 c.serial ++ c.path.flatMap (le 1))
  | none => s

/-- A port becomes the selected parent. -/
def State.setParent (s : State) (p : Nat) : State :=
  let s := { s with chain := { s.chain with parent := some p, hadParent := true }
                    tb := { s.tb with needStep := s.tb.needStep || s.tb.source == 3, lockRun := 0 } }
  let s := s.updPort p fun q => { q with inAnd := false, grace := none, leftOut := false }
  let s := s.chain.claims.foldl (fun s c => s.announce c) (s.flushHeld p)
  (s.splice p).noteDepths

/-- No port is left: the tick runs on in holdover. -/
def State.noParent (s : State) : State :=
  let d := s.dCum
  let s := ({ s with chain := { s.chain with parent := none, dCum := d } }).noteDepths
  if s.tb.source = 3 then s.holdover 5 else s

/-- Takes the best port left. -/
def State.selectParent (s : State) : State := match s.bestPort with | some p => s.setParent p | none => s.noParent

/-- The parent is lost other than by its port's death: the best port left is taken; with none EV_CHAIN_BYPASS names the lost one (R370). -/
def State.parentLost (s : State) (p address : Nat) : State :=
  match s.bestPort with | some q => s.setParent q | none => s.noParent.raise evChainBypass p [address]

/-- An A9 is heard no more over a port; the root is told (R366, R368) (DESIGN CHOICE, log entry 67). -/
def State.lose (s : State) (p sn : Nat) : State :=
  if s.chain.claims.any fun c => c.serial == sn && c.port == p then
    let s := { s with chain := { s.chain with claims := s.chain.claims.filter fun c => c.serial != sn } }
    match s.chain.parent with | some q => s.sendPort q 0x12 ([6] ++ le 8 sn) | none => s
  else s

/-- The A9s heard over a port are forgotten with it. -/
def State.forget (s : State) (p : Nat) : State :=
  ((s.chain.claims.filter fun c => c.port == p).map (·.serial)).foldl (fun s sn => s.lose p sn) s

/-- A port dies (R369, R382): block lock lost for 100 µs, or no valid beacon for 300 µs.  A dead port whose lanes are up again stays dead: it has
to be brought up again, and to carry beacons for 1 s anew. -/
def State.portDead (s : State) (p : Nat) (lockLost : Bool) : State :=
  let q := s.port p
  if 3 < p ∨ !(q.carries || q.wasUp) ∨ !(lockLost || s.since q.lastBeacon (us 300)) then s
  else if q.state = 4 then s.updPort p fun q => { q with lanes := 0, goodSince := none, depthSince := none }
  else
    let s := s.forget p
    let s := s.updPort p fun q => { q with
      state := 4, lanes := 0, goodSince := none, depthSince := none, bypasses := (q.bypasses + 1) % 0x100000000, hopReported := none, hopList := [],
      grace := if q.inAnd then some s.clock.up else none, buffer := [], wasUp := false, fr := {} }
    let s := s.raise evChainBypass p [q.heard.address]
    if s.chain.parent = some p then s.selectParent else s

/-- A port that was dead is restored (R369, R382). -/
def State.restorePort (s : State) (p : Nat) : State :=
  let q := s.port p
  if q.state = 4 ∧ q.lanes ≠ 0 ∧ (q.goodSince.any fun t => s.since t (sec 1)) then
    (s.updPort p fun q => { q with
      state := q.lanes, lanes := 0, wasUp := true, inAnd := q.inAnd || q.heard.flags.getLsbD 2
      grace := if q.heard.flags.getLsbD 2 then none else q.grace, leftOut := q.leftOut && !q.heard.flags.getLsbD 2 }).raise
      evChainRestored p [q.heard.address]
  else s

/-- The A9 returns to a parent-side port that has carried valid beacons with a DEPTH no greater than the parent's for 1 s (R370) (DEDUCED, log entry 66). -/
def State.parentReturn (s : State) (p : Nat) : State :=
  let s := s.restorePort p
  let q := s.port p
  if s.settings.chainRoot ∨ !(s.role p == 1 || s.role p == 2) ∨ !q.up ∨ s.chain.parent = some p ∨ 0xFF ≤ q.heard.depth ∨
      !(q.goodSince.any fun t => s.since t (sec 1)) ∨ !(q.depthSince.any fun t => s.since t (sec 1)) ∨ q.heard.flags.getLsbD 2 then s
  else s.setParent p

/-- A port completes its bring-up, or its lanes a recovery (R312, R363); `full`: its eye admits 18.0 Gbit/s. -/
def State.portUp (s : State) (p : Nat) (full : Bool) : State :=
  if 3 < p ∨ s.role p = 0 ∨ (s.port p).up then s else
  let rate := if full ∧ s.settings.maxRate = 0 then 2 else 3
  let again : Bool := (s.port p).fr.recovering.any fun t => s.clock.up ≤ t + us 200
  let s := s.updPort p fun q =>
    if q.state = 4 then { q with lanes := rate, goodSince := none, depthSince := none, lastBeacon := s.clock.up }
    else if again then { q with state := rate }
    else { q with state := rate, goodSince := none, depthSince := none, lastBeacon := s.clock.up, wasUp := true }
  s.portFresh p

/-! ### Beacons (R366, R368) -/

/-- NEXT_TIME (R368): device time of the next tick, of a jump that the frame's blank will carry in the new time, which announces it (R396); one who waits
for the parent's jump tells what the parent tells. -/
def State.nextTold (s : State) : Nat :=
  let c := s.clock
  let wait := c.tickUp + 4 * subPeriod c.rate - c.up
  if s.tb.follow then (match s.chain.parent with | some p => (s.port p).heard.nextTime | none => 0)
  else if s.tb.change.any fun (x : TimingChange) => x.stepsAt (c.tick + 1) then
    let e := ({ s with clock := { c with up := c.up + wait, dev := c.dev + wait } }).jumpSteps.clock
    (e.dev + (e.nextUp - e.up)) / 3
  else (c.dev + (c.nextUp - c.up)) / 3

/-- The parent's beacon announces a jump of the next tick (R396): a locked child lets its frame's blank last until the parent's edge places that tick,
up to P + B (DEDUCED, log entry 133). -/
def State.followJump (s : State) (b : Beacon) : State :=
  let c := s.clock
  if s.tb.source ≠ 3 ∨ s.tb.state ≠ 2 ∨ s.tb.needStep ∨ s.tb.follow ∨ s.tb.change.isSome ∨ b.nextTick ≠ c.tick + 1 ∨
      ((3 * b.nextTime : Int) - (c.dev + (c.nextUp - c.up) : Nat)).natAbs ≤ us 3 then s
  else { s with tb := { s.tb with follow := true }, clock := { c with nextUp := c.tickUp + 4 * subPeriod c.rate + s.period + blankTime } }

/-- The BEACON of a port from byte 4 on. -/
def State.beaconBytes (s : State) (p : Nat) : List Byte :=
  let live := s.settings.chainRoot || (match s.chain.parent with | some q => (s.port q).heard.flags.getLsbD 1 | none => false)
  let prov := s.settings.chainAddr == 0 && !s.settings.chainRoot
  le 1 s.ownAddress ++ le 1 s.rootAddr ++ le 1 s.depth ++
  le 1 (b2n s.tickLocked + 2 * b2n live + 4 * b2n (s.chain.parent == some p) + 8 * b2n prov) ++ le 4 s.dCum ++
  le 2 (if s.settings.chainRoot then 0 else s.chain.fwdPs) ++ le 2 s.chain.echoPs ++ le 8 (s.clock.tick + 1) ++
  le 8 s.nextTold ++ le 8 Config.serial ++ zeros 8

/-- Place of a port in depth-first order (R366): child, then child-skip or second child, then the parent side of a ring's root. -/
def State.roleOrder (s : State) (p : Nat) : Nat := match s.role p with | 3 => 0 | 4 | 5 => 1 | _ => 2

/-- Lexicographic order of paths: an A9 before those below it. -/
def pathBefore : List Nat → List Nat → Bool
  | [], _ => true
  | _ :: _, [] => false
  | a :: l, b :: m => a < b || (a == b && pathBefore l m)

/-- Claims in depth-first order. -/
def depthFirst (l : List Claim) : List Claim :=
  l.foldl (fun acc c => acc.filter (fun e => pathBefore e.path c.path) ++ c :: acc.filter fun e => !pathBefore e.path c.path) []

/-- A claim is noted, in place of an older one of the serial. -/
def State.setClaim (s : State) (c : Claim) : State :=
  { s with chain := { s.chain with claims := s.chain.claims.filter (fun o => o.serial != c.serial) ++ [c] } }

/-- The root tells an A9 its provisional address (R366) (DESIGN CHOICE, log entry 67). -/
def State.giveAddress (s : State) (c : Claim) : State := s.sendPort c.port 0x12 ([2] ++ le 1 c.address ++ le 8 c.serial)

/-- The root gives those it has heard and that have no address the next provisional ones, in depth-first order (R366) (DESIGN CHOICE, log entry 67). -/
def State.assignAddresses (s : State) : State :=
  if !s.settings.chainRoot then s else
  (depthFirst (s.chain.claims.filter fun c => c.address == 0)).foldl (fun s c =>
    let c := { c with address := s.chain.nextProv }
    (({ s with chain := { s.chain with nextProv := s.chain.nextProv + 1 } }).setClaim c).giveAddress c) s

/-- Every 100 µs a BEACON goes out on every port that is up (DEDUCED, log entry 66). -/
def State.beaconSend (s : State) : State :=
  if !s.lanesRun then s else
  let s := forEach (List.range 4) s.assignAddresses fun p s => s.portTimer p
  forEach ((List.range 4).filter fun p => (s.port p).carries) s fun p s => s.sendPort p 0x11 (s.beaconBytes p)

/-- What a BEACON says, from byte 4 on. -/
def beaconOf (b : List Byte) : Beacon :=
  { address := u8 b 0, root := u8 b 1, depth := u8 b 2, flags := BitVec.ofNat 8 (u8 b 3), dCum := u32 b 4, fwd := u16 b 8, echo := u16 b 10,
    nextTick := u64 b 12, nextTime := u64 b 20, serial := u64 b 28 }

/-- Two A9s claim one address (R366). -/
def State.duplicate (s : State) : Bool :=
  let l := (s.ownAddress, Config.serial) :: (s.chain.claims.filter fun c => c.address != 0).map fun c => (c.address, c.serial)
  l.any fun e => l.any fun f => e.1 == f.1 && e.2 != f.2

/-- A beacon reaches this A9, from its sender or as one farther down tells of it: at the root an A9 that was given an address and asks again is told
it again; another A9 tells its own parent (R366) (DESIGN CHOICE, log entry 67). -/
def State.hear (s : State) (c : Claim) : State :=
  if c.serial = Config.serial then s else
  match s.chain.claims.find? fun o => o.serial == c.serial with
  | none => (s.setClaim c).announce c
  | some o =>
    if s.settings.chainRoot ∧ c.address = 0 ∧ o.address ≠ 0 then
      let c := { c with address := o.address }
      (s.setClaim c).giveAddress c
    else if c = o ∧ c.address ≠ 0 then s
    else (s.setClaim c).announce c

/-- What an A9 farther down tells of one that it hears: kind 5 its address, serial and path, kind 6 the serial of one that is heard no more (R366)
(DESIGN CHOICE, log entry 67). -/
def State.heardBelow (s : State) (p kind : Nat) (bytes : List Byte) : State :=
  if s.chain.parent = some p then s
  else if kind = 6 then s.lose p (u64 bytes 0)
  else s.hear { address := u8 bytes 0, serial := u64 bytes 1, port := p, path := s.roleOrder p :: (bytes.drop 9).map (·.toNat) }

/-- A BEACON arrives (R366, R370, R376, R384): the neighbour's selection feeds the AND and its address goes toward the root; a parent that shows no
path to a root is lost (DEDUCED, log entry 66). -/
def State.beaconReceived (s : State) (p : Nat) (bytes : List Byte) : State :=
  let b := beaconOf bytes
  if 3 < p ∨ !(s.port p).carries then s else
  let here := b.flags.getLsbD 2
  let s := s.updPort p fun q => { q with
    heard := b, lastBeacon := s.clock.up, goodSince := some (q.goodSince.getD s.clock.up),
    inAnd := if q.grace.isSome && !here then q.inAnd else here && (q.up || q.inAnd)
    grace := if here && q.up then none else q.grace, leftOut := q.leftOut && !(here && q.up) }
  let s := if here then s.hear { address := b.address, serial := b.serial, port := p, path := [s.roleOrder p] }
    else { s with chain := { s.chain with claims := s.chain.claims.filter fun c => c.port != p } }
  let s := (if s.role p = 1 ∨ s.role p = 2 then s else s.restorePort p).noteDepths
  if s.settings.chainRoot then s
  else if s.chain.parent = some p then (if b.depth < 0xFF then s.followJump b else s.parentLost p b.address)
  else if s.chain.parent.isSome ∨ s.chain.hadParent ∧ !(s.port p).up then s
  else if s.bestPort.isSome then s.selectParent else s

/-! ### The tick over the chain (R371, R372, R396) -/

/-- LEAD, 10.000 µs. -/
def chainLead : Nat := us 10

/-- Edges go out at an instant on the TICK pair of every port whose neighbour has selected it (R371). -/
def State.tickOut (s : State) (instant : Nat) : State := forEach s.fedPorts s fun q s => s.emit (.tickEdge q instant)

/-- A TICK edge arrives on a port: from the parent it is forwarded, and under source 3 it places the tick.  A locked A9 whose parent's tick
moved by more than a frame's slew follows the parent's jump at once, whatever its size (R388, R396) (DEDUCED, log entry 133). -/
def State.tickEdge (s : State) (p : Nat) : State :=
  if s.chain.parent ≠ some p then s else
  let s := s.tickOut (s.clock.up + 3 * s.chain.fwdPs / 1000)
  if s.tb.source ≠ 3 then s else
  let h := (s.port p).heard
  if s.tb.follow then
    let before := s.nowNs
    let next := s.clock.up + chainLead - 3 * s.dCum / 1000
    ({ s with tb := { s.tb with follow := false }
              clock := { s.clock with nextUp := next, dev := if h.nextTick = s.clock.tick + 1 then 3 * h.nextTime - (next - s.clock.up) else s.clock.dev } }
      : State).pulsesAfterJump before
  else
  let off := phase s.period ((s.clock.up : Int) + chainLead - (3 * s.dCum / 1000 : Nat) - s.clock.nextUp)
  let jumped := s.tb.state == 2 && !s.tb.needStep && decide (us 1 < off.natAbs)
  let s := if jumped then s.stepTick (off.fdiv 3) else s.measured (off.fdiv 3) (h.flags.getLsbD 0)
  if s.tb.state = 4 ∨ s.tb.state = 3 then s else
  -- tick index and device time as the parent's beacon gives them
  if h.nextTick = 0 then s else
  { s with clock := { s.clock with tick := h.nextTick - 1, dev := 3 * h.nextTime - (s.clock.nextUp - s.clock.up) } }

/-- The root's own edges, LEAD before the tick that ends the blank (DEDUCED, log entry 68). -/
def State.rootEdges (s : State) : State := if s.settings.chainRoot then s.tickOut (s.clock.nextUp - chainLead) else s

/-- Mean of a list (DEDUCED, log entry 66). -/
def mean (l : List Nat) : Nat := l.foldl (· + ·) 0 / max 1 l.length

/-- A hop measurement of a port: the round trip in ps (R372). -/
def State.hopMeasure (s : State) (p roundPs : Nat) : State :=
  let q := s.port p
  if 3 < p ∨ !q.up then s else
  let l := (q.hopList ++ [(roundPs - q.heard.echo) / 2])
  let l := l.drop (l.length - 64)
  let h := mean l
  let tell := match q.hopReported with | none => true | some r => decide (50 < ((h : Int) - r).natAbs)
  let s := s.emit (.hopPulse p)
  let s := s.updPort p fun q => { q with hopList := l, hopPs := h, hopReported := if tell then some h else q.hopReported,
                                         holdUntil := s.clock.up + us 1 }
  if tell then s.raise evHopDelay p [h] else s

/-- A hop-measurement pulse arrives and is echoed on the READY pair (DEDUCED, log entry 66). -/
def State.hopEcho (s : State) (p : Nat) : State := if p ≤ 3 ∧ (s.port p).up then s.emit (.hopEcho p) else s

/-! ### Tunnelled commands and events (R68, R379) -/

/-- An address names exactly one A9 that is heard, directly or through others, over a port that this A9 feeds (R68, R366, R379). -/
def State.reachable (s : State) (a : Nat) : Bool :=
  a != 0 && a != s.ownAddress &&
    match s.chain.claims.filter fun c => c.address == a with
    | [c] => s.fedPorts.contains c.port
    | _ => false

/-- A command goes down toward its target, with the mailbox it came from. -/
def State.sendDown (s : State) (mbx : Nat) (cmd : List Byte) : State :=
  forEach (s.downPorts (Cmd.parse mbx cmd).target) s fun p s => s.sendPort p 0x12 ([0] ++ le 1 mbx ++ cmd)

/-- A response goes up the selected parent. -/
def State.sendUp (s : State) (mbx : Nat) (resp : List Byte) : State :=
  match s.chain.parent with | some p => s.sendPort p 0x12 ([1] ++ le 1 mbx ++ resp) | none => s

/-- The record of 64 bytes as its fields (R87), with the sender's address as ORIGIN. -/
def recordOf (r : List Byte) (origin : Nat) : EventRec :=
  { code := u16 r 0, sev := u8 r 2, origin := origin, die := u8 r 4, unit := u16 r 6, time := u64 r 8, tick := u64 r 16,
    txn := BitVec.ofNat 32 (u32 r 24), tag := BitVec.ofNat 32 (u32 r 28), count := u16 r 32,
    params := (List.range 6).map fun i => u32 r (36 + 4 * i) }

/-- An EVENT packet arrives from a child: the root writes it to its rings, another A9 sends it on. -/
def State.eventReceived (s : State) (p sender : Nat) (r : List Byte) : State :=
  if !(s.port p).up ∨ s.chain.parent = some p then s else s.deliver (recordOf r sender)

/-! ### Commands -/

/-- ROLES of a payload. -/
def roleList (p : List Byte) : List Nat := (List.range 4).map fun i => u8 p (2 + i)

/-- A port whose role changes is brought up again. -/
def State.rolePort (s : State) (p old new : Nat) : State :=
  if old = new then s else
  let a := (s.port p).heard.address
  let s := s.forget p
  let s := s.updPort p fun q => { ({} : Port) with state := if new = 0 then 0 else 1, bypasses := q.bypasses, rxCrc := q.rxCrc, replays := q.replays }
  let s := if new = 0 then s else s.portTrain p
  if s.chain.parent = some p then s.parentLost p a else s

/-- CHAIN.ROLE (R365). -/
def chainRole : CmdDef where
  opcode := 0x0C01
  kind := .stageable
  lenOk := lenIs 16
  checks _ c :=
    let p := c.payload
    let r := roleList p
    let root := bitOf (u8 p 1) 0
    let ring := bitOf (u8 p 1) 1
    chkP (u8 p 0 = 255) stBadField 0 ++ rsvBits p 1 0xFC ++ chkP (!root && ring) stBadField 1 ++
    (List.range 4).flatMap (fun i => chkP (5 < u8 p (2 + i)) stBadField (2 + i)) ++
    chkP (1 < r.count 1 || 1 < r.count 2 || 1 < r.count 5 || (r.contains 5 && r.contains 4) ||
      (root && !ring && (r.contains 1 || r.contains 2))) stBadField 2 ++
    rsvBits p 6 0xF8 ++ chkP (1 < u8 p 7) stBadField 7 ++ rsvBytes p 8 16
  apply p c := { c with
    chainAddr := if u8 p 0 = 0 then c.chainAddr else u8 p 0, chainRoot := bitOf (u8 p 1) 0, chainRing := bitOf (u8 p 1) 1,
    roles := roleList p, readyMask := BitVec.ofNat 8 (u8 p 6), maxRate := u8 p 7 }
  effect old p _ _ s :=
    let s := forEach (List.range 4) s fun i s => s.rolePort i (old.roles.getD i 0) (u8 p (2 + i))
    if old.chainRoot = bitOf (u8 p 1) 0 then s
    else if bitOf (u8 p 1) 0 then
      s.chain.heldEvents.foldl (fun s e => s.routeRec e) { s with chain := { s.chain with parent := none, hadParent := false, heldEvents := [] } }
    else { s with chain := { s.chain with claims := [], hadParent := false } }

/-- A stand lies outside a region. -/
def outside (r : WallRegion) (t : StandCfg) : Bool :=
  t.x0 < r.x0 || r.x0 + r.w < t.x0 + 128 || t.y0 < r.y0 || r.y0 + r.h < t.y0 + 128

/-- CHAIN.REGION (R380). -/
def chainRegion : CmdDef where
  opcode := 0x0C02
  kind := .stageable
  lenOk := lenIs 32
  checks _ c := rsvBytes c.payload 24 32
  validate _ _ _ _ _ p :=
    let r : WallRegion := { gridW := u32 p 0, gridH := u32 p 4, x0 := u32 p 8, y0 := u32 p 12, w := u32 p 16, h := u32 p 20 }
    chkP (r.gridW < r.x0 + r.w || r.gridH < r.y0 + r.h) stBadField 8
  apply p c := { c with region := some { gridW := u32 p 0, gridH := u32 p 4, x0 := u32 p 8, y0 := u32 p 12, w := u32 p 16, h := u32 p 20 } }

/-- CHAIN.GRACE (R376). -/
def chainGrace : CmdDef where
  opcode := 0x0C03
  kind := .stageable
  lenOk := lenIs 8
  checks _ c :=
    let v := u32 c.payload 0
    chkP (v != 0 && (v < 1000 || 10000000 < v)) stBadField 0 ++ rsvBytes c.payload 4 8
  apply p c := { c with graceUs := if u32 p 0 = 0 then 500000 else u32 p 0 }

/-- STATE of a port as CHAIN.STATUS shows it: down once its recovery has taken longer than 200 µs (R312). -/
def State.portState (s : State) (q : Port) : Nat := if q.fr.recovering.any fun t => s.clock.up > t + us 200 then 0 else q.state

/-- One port of CHAIN.STATUS (R386). -/
def State.portBytes (s : State) (p : Nat) : List Byte :=
  let q := s.port p
  let known := q.goodSince.isSome
  le 1 (s.role p) ++ le 1 (s.portState q) ++ le 1 (if known then q.heard.address else 0) ++ le 1 (if known then q.heard.depth else 0xFF) ++
  le 4 q.hopPs ++ le 1 (b2n q.readyIn + 2 * b2n q.grace.isSome + 4 * b2n q.leftOut + 8 * b2n q.inAnd) ++ zeros 3 ++
  le 4 q.bypasses ++ le 4 q.rxCrc ++ le 4 q.replays

/-- The response of CHAIN.STATUS (R386). -/
def State.chainStatusBytes (s : State) : List Byte :=
  let root := s.settings.chainRoot
  let prov := s.settings.chainAddr == 0 && !root
  le 1 s.ownAddress ++ le 1 s.rootAddr ++ le 1 s.depth ++ le 1 (s.chain.parent.getD 0xFF) ++
  le 1 (b2n root + 2 * b2n s.tickLocked + 4 * b2n s.ownReady + 8 * b2n s.chain.readyOut + 16 * b2n (root && s.chain.readyOut) +
    32 * b2n prov + 64 * b2n (root && s.duplicate)) ++ zeros 3 ++ le 4 s.dCum ++ le 2 (if root then 0 else s.chain.fwdPs) ++ zeros 2 ++
  le 8 s.chain.relayBytes ++ le 4 s.chain.spliceLost ++ zeros 4 ++ (List.range 4).flatMap s.portBytes

/-- CHAIN.STATUS (R386). -/
def chainStatus : CmdDef where
  opcode := 0x0C04
  kind := .immediate
  lenOk := lenIs 0
  checks := noChecks
  run s _ := .done s s.chainStatusBytes 0

end Sys2Proof.Machine
end

