-- ==== Sys2Proof/Machine/IngestEv.lean ====
section
/-! DEFINITION. What the ingest engine and the decoders do of themselves (R118, R125 to R129, R133, R139, R142). -/

namespace Sys2Proof.Machine

/-! ### Fetching descriptors (R118, R122, R127) -/

/-- A descriptor that is used up leaves the front of its queue. -/
def State.dropHead (s : State) (q : Nat) : State := s.updQueue q fun x => { x with fetched := x.fetched.tail }

/-- A descriptor that this A9 drops is still read for its children (R129): a root relays the stream it fetches, with the data exactly as
fetched, and each A9 decrypts and judges for itself; what has no data that can be read is not relayed (DEDUCED, log entry 37). -/
def State.readForChildren (s : State) (d : Desc) : Bool :=
  s.settings.chainRoot && s.fedPorts != [] && !d.failed && dKind d.bytes == 1 && 1 ≤ dSize d.bytes && dSize d.bytes ≤ 16777216 &&
    dSubsamples d.bytes ≤ 1024

/-- The engine fetches a queue's descriptors in order, each checked as it is fetched (R118, R122, R127), until one has data to be
placed, fetching stops, or an END is reached, which is relayed on (DESIGN CHOICE, log entry 33). -/
def State.fetchNext (s : State) (q n : Nat) : Nat → State
  | 0 => s
  | fuel + 1 =>
    match (s.queue q).fetched with
    | [] => s
    | d :: rest =>
      if d.checked || (s.stream n).all fun st => st.stopped || st.ended then s else
      let r := s.fetchDesc n d
      if !r.2 && s.readForChildren d then
        r.1.updQueue q fun x => { x with fetched := { d with checked := true, onlyRelay := true } :: rest }
      else if r.2 && dKind d.bytes != 3 then r.1.updQueue q fun x => { x with fetched := { d with checked := true } :: rest }
      else
        let s := if r.2 then r.1.relayFetched n d.bytes {} else r.1
        (s.dropHead q).fetchNext q n fuel

/-- Fetches what can be fetched of what was read from a queue, and what follows an END or an index that moved. -/
def State.fetchOn (s : State) (q n : Nat) : State :=
  ((s.fetchNext q n (s.queue q).fetched.length).checkEnd n).mirrorCidx q

/-- A host memory read that may fail and be retried once, 10 µs later (R122, cause 8). -/
def State.readTry (s : State) (addr size : Nat) (failed : Bool) : State :=
  let s := s.emit (.hostRead addr size)
  if failed then s.emit (.hostRead addr size) else s

/-- A producer index that is no index of the queue (R122, cause 10): reported at most once per millisecond per queue. -/
def State.badIndex (s : State) (q n pidx : Nat) : State :=
  if (s.queue q).badIdxAt.any fun t => !s.since t (ms 1) then s
  else (s.updQueue q fun x => { x with badIdxAt := some s.clock.up }).queueError n pidx 10

/-- The producer index was read: the time the queue was empty counts (R125), and the descriptors up to the index are read. -/
def State.indexRead (s : State) (q n pidx : Nat) (before : Option Nat) (descs : List (Option (List Byte))) : State :=
  let x := s.queue q
  let count := (pidx + 2 ^ x.log2 - x.read) % 2 ^ x.log2
  let empty := count == 0 && x.fetched == []
  let idle := match before with | some t => s.clock.up - t | none => 0
  let s := s.updStream n fun st => { st with emptyFor := if empty then st.emptyFor + idle else 0 }
  let l := (descs.take count).map (Option.map (padTo 64))
  let s := (l.zipIdx).foldl (fun s e => s.readTry (x.base + 64 * ((x.read + e.2) % 2 ^ x.log2)) 64 e.1.isNone) s
  (s.updQueue q (·.readDescs l)).fetchOn q n

/-- A queue is polled (R118): the producer index is read, then the descriptors up to it.  Where the index cannot be read, P0 is the
next entry and nothing is discarded, for no descriptor is involved (DESIGN CHOICE, log entry 122). -/
def State.queuePoll (s : State) (q : Nat) (pidx : Option Nat) (descs : List (Option (List Byte))) : State :=
  match s.streamOfQueue q with
  | none => s
  | some n =>
    let x := s.queue q
    if 15 < q ∨ x.log2 = 0 ∨ !s.fetches n ∨ (x.polled.any fun t => !s.since t (us s.ingest.pollUs)) then s else
    let s := (s.readTry x.pidxAddr 4 pidx.isNone).updQueue q fun x => { x with polled := some s.clock.up }
    match pidx with
    | none => s.queueError n x.read 8
    | some i => if 2 ^ x.log2 ≤ i then s.badIndex q n i else s.indexRead q n i x.polled descs

/-! ### The engine serves the streams in turn (R128, R133) -/

/-- The engine turns to a stream: descriptors whose frame is gone are skipped, one whose frame ingest must discard or refuse is dropped,
and the first whose data can be read is served with the key it takes now. -/
def State.tryServe (s : State) (n : Nat) : (fuel : Nat) → State
  | 0 => s
  | fuel + 1 =>
    match s.stream n with
    | none => s
    | some st =>
      let q := st.queue
      match (s.queue q).fetched with
      | [] => s
      | e :: _ =>
        if !s.fetches n || !e.checked then s else
        let d := e.bytes
        let drop (s : State) : State := ((s.dropHead q).fetchOn q n).tryServe n fuel
        let serve (s : State) (key : Option KeySlot) : State :=
          { s with ingest := { s.ingest with serving := some { stream := n, key := key } } }
        -- dropped here; its data is still read where children are fed
        let pass (s : State) : State :=
          if s.readForChildren e then
            serve (s.updQueue q fun x => { x with fetched := { e with onlyRelay := true } :: x.fetched.tail }) none
          else drop s
        if e.onlyRelay then (if s.fedPorts = [] then drop s else serve s none)
        else if st.resuming && (st.frame? (dFrame d)).any (fun f => f.due ≤ s.clock.tick) then
          drop (s.updStream n fun st => st.resumeDrop s.streamPeriod d)
        else match s.turn n d with
          | .reads key => serve s key
          | .gone => pass s
          | .tooLarge => pass (s.tooLarge n e.index d)
          | .full => s.stopFetch n
          | .waits => s
          | .expired => pass (s.keyRefused n (dFrame d) 2)

/-- The next stream in turn that is ready is served, one descriptor at a time (R128) (DESIGN CHOICE, log entry 125). -/
def State.serveNext (s : State) : State :=
  forEach ((List.range 8).map fun k => (s.ingest.lastServed + 1 + k) % 8) s fun n s =>
    if s.ingest.serving.isSome then s else s.tryServe n ((s.queue (((s.stream n).map (·.queue)).getD 0xFF)).fetched.length + 1)

/-- The descriptor being served has been read: its data is decrypted and placed in both dies (R127, R130), a root relays it (R129), and
the engine turns to the next stream.  A read under way as the streams pause ends when they fetch again. -/
def State.descriptorPlaced (s : State) (q : Nat) (p : Placed) : State :=
  match s.ingest.serving, s.streamOfQueue q, (s.queue q).fetched with
  | some v, some n, e :: _ =>
    if v.stream ≠ n ∨ !s.ingestOn then s else
    let d := e.bytes
    let s := { s with ingest := { s.ingest with serving := none, lastServed := n } }
    let s := s.readTry (u64 d 8) (dSize d) p.failed
    let s := if dSubsamples d = 0 ∨ p.failed then s else s.readTry (u64 d 32) (8 * dSubsamples d) p.subsFailed
    let s := if p.failed || p.subsFailed then s else s.relayFetched n d p
    let s := if e.onlyRelay then s else s.placeDesc n e.index d v.key p
    (s.dropHead q).fetchOn q n
  | _, _, _ => s

/-- A stopped stream resumes (R127): the held count is down to LOW_FRAMES and the next data fits. -/
def State.fetchResume (s : State) (n : Nat) : State :=
  match s.stream n with
  | none => s
  | some st =>
    let fits : Bool := match s.headDesc n with
      | some d => decide (st.used + dSize d ≤ st.share)
      | none => decide (st.used ≤ st.share)
    if st.stopped ∧ st.heldFrames ≤ st.low ∧ fits then
      let s := s.updStream n fun st => { st with stopped := false }
      if s.ingestOn ∧ st.queue ≠ 0xFF then s.fetchOn st.queue n else s
    else s

/-! ### Decoding ends (R139, R142) -/

/-- The oldest released frame of a stream finishes decoding (R142), or one of its pictures fails on the decoder that carries its
substream (R139): of several the one of the lowest SUBSTREAM is reported (DESIGN CHOICE, log entry 123).  Still frames behind it follow at
once (R154). -/
def State.decodeDone (s : State) (n : Nat) (found : List Picture) : State :=
  match s.stream n with
  | none => s
  | some st =>
    match st.decoding with
    | none => s
    | some f =>
      let fault := ((st.dueSubs f).filter st.isVideo).find? fun sub => st.pictureCause f (st.picture f found sub) != 0
      let s := match fault with
        | none => s.updStream n (·.decodedFrame f found)
        | some sub =>
          let dec := ((st.decoders.find? fun (e : Nat × Nat × Nat) => e.1 == sub).map fun (e : Nat × Nat × Nat) => e.2.1).getD noUnit
          (s.updStream n fun st => { (st.updFrame f.num fun f => { f with bad := true }) with awaitRap := true }).decodeError n dec
            (st.pictureCause f (st.picture f found sub))
      ((s.updStream n fun st => st.finishStills st.frames.length).decoderStates).checkEnd n

/-! ### Drains end (R125) -/

/-- A draining stream's queue has been empty for 1 s of fetching time (R125): it closes at the next blank. -/
def State.drainTimeout (s : State) (n : Nat) : State :=
  match s.stream n with
  | none => s
  | some st => if st.draining ∧ sec 1 ≤ st.emptyFor then s.updStream n fun st => { st with drainDue := true } else s

/-- Streams whose drain has ended close at a blank, after its armed transactions (R125). -/
def State.closeDrained (s : State) : State :=
  forEach (List.range 8) s fun n s =>
    if (s.stream n).any (·.drainDue) then
      let s := (s.streamEnd n).closeStream n
      { s with settings := { s.settings with streams := upd s.settings.streams n fun _ => none } }
    else s

end Sys2Proof.Machine
end

