-- ==== Sys2Proof/Machine/Rays.lean ====
section
/-! DEFINITION. What the rays of a kerf hold (R168, R174, R175, R178, R179, R223, R244, R245), the words a reed writes into the ray
frame (R178, R338), and the 64 bytes of a kerf context (R181), which no command of the host reads. -/

namespace Sys2Proof.Machine

/-! ### Rays of a kerf (R168, R175) -/

/-- Kerf of a stand-local hogel. -/
def kerfOfHogel (hogel : Nat) : Nat := hogel / 128 * 64 + hogel % 128 / 2

/-- A ray of a kerf by number, in the order of R175: hogel, state, emitter row, emitter column. -/
def rayOf (hogel emitter state : Nat) : Nat := hogel % 2 * 1024 + state * 256 + emitter

/-- Stand-local hogel of a ray of a kerf. -/
def rayHogel (k r : Nat) : Nat := k / 64 * 128 + k % 64 * 2 + r / 1024 % 2
/-- Emitter of a ray: emitter row × 16 + emitter column. -/
def rayEmitter (r : Nat) : Nat := r % 256
/-- Steering state of a ray. -/
def rayState (r : Nat) : Nat := r / 256 % 4

/-! ### Compositing along a ray (R175) -/

/-- Order of the crossings: t, largest first; ties: compose, inset, primary; within a class, the layer index. -/
def Hit.before (a b : Hit) : Bool :=
  b.t < a.t || (a.t == b.t && (a.cls < b.cls || (a.cls == b.cls && a.layer ≤ b.layer)))

/-- A crossing in its place. -/
def insertHit (h : Hit) : List Hit → List Hit
  | [] => [h]
  | x :: l => if h.before x then h :: x :: l else x :: insertHit h l

/-- Front to back over the sorted crossings until the opacity reaches 0.996, then the background. -/
def composite (background : Vec) : List Hit → Vec → Rat → Vec
  | [], c, o => c.add (background.scale (1 - o))
  | h :: hs, c, o =>
    let c' := c.add (h.colour.scale (1 - o))
    let o' := o + (1 - o) * h.alpha
    if 249 / 250 ≤ o' then c'.add (background.scale (1 - o')) else composite background hs c' o'

/-! ### Calibration and quantisation (R178, R222, R223) -/

/-- Drive fractions of a colour under a record (R223): clamp(GAIN × M × (c / LUM_FULL), 0, 1) per channel. -/
def driveOf (record lumFull : Nat) (c : Vec) : List Rat :=
  let f (n : Nat) : Rat := (fieldCode record (calFields.getD n (0, 0, false)) : Rat)
  (List.range 3).map fun ch =>
    max 0 (min 1 (f 0 / 2048 * ((f (3 * ch + 1) * c.x + f (3 * ch + 2) * c.y + f (3 * ch + 3) * c.z) / 512 / lumFull)))

/-- Code of a drive fraction (R178): round(1,023 × v^(1/2.4)), halves up, found by comparing twelfth powers with v^5 (DESIGN CHOICE, log entry 20). -/
def driveCode (v : Rat) : Nat :=
  let v := max 0 (min 1 v)
  ((List.range 1023).filter fun n => ((2 * (n : Rat) + 1) / 2046) ^ 12 ≤ v ^ 5).length

/-- The word of a ray (R178): red 29:20, green 19:10, blue 9:0. -/
def rayWord (r g b : Nat) : Nat := r % 1024 * 0x100000 + g % 1024 * 0x400 + b % 1024

/-! ### The ray a window writes (R175, R179) -/

/-- Working-space background of a window's primary scene (R174, R175). -/
def State.backgroundLight (s : State) (c : Settings) (mode : Nat) : Vec :=
  match s.primaryScene c mode with
  | some sc =>
    if sc.format ≠ 1 ∨ !sc.shown then ⟨0, 0, 0⟩ else
    let b := sc.background.toNat
    linearise (u8 sc.seq 10) (u8 sc.seq 11) (refWhite c)
      ⟨(b / 0x100000 % 1024 : Nat) / 1023, (b / 0x400 % 1024 : Nat) / 1023, (b % 1024 : Nat) / 1023⟩
  | none => ⟨0, 0, 0⟩

/-- Crossings of a ray with the primary scene of its window (R174, R176, R180, R200). -/
def State.primaryHits (s : State) (c : Settings) (mode i : Nat) (m : Masks) (r : Ray) : List Hit :=
  let place := placingOf (c.places.getD 0 [])
  let slots := (List.range 16).filter (bitOf m.layer ·)
  match s.primaryScene c mode, mode with
  | some sc, 2 => slots.filterMap fun l => sc.hit place (refWhite c) r 2 l l
  | some sc, 3 =>
    if !sc.shown then [] else
    ((sc.viewHit place r (m.near / r.line.d.z) (m.far / r.line.d.z)).filter fun h => place.admits r.line h.t).toList
  | some _, 4 =>
    match (s.liftCopy c i).colour with
    | some f => slots.filterMap fun l => liftHit f (s.liftCopy c i).frames place (refWhite c) r l
    | none => []
  | _, _ => []

/-- Crossings of a ray with the slots of an inset; its slots stand in its place in the order (R175) (DEDUCED, log entry 111). -/
def State.insetHits (s : State) (c : Settings) (i : Nat) (r : Ray) : List Hit :=
  match (c.inset i).bind s.scene with
  | some sc =>
    ((List.range 16).filter (sc.active.getLsbD ·)).filterMap fun l =>
      sc.hit (placingOf (c.places.getD (i + 1) [])) (refWhite c) r 1 (16 * i + l) l
  | none => []

/-- Crossings of a ray of stand `i` with the candidates of its kerf, in their order (R175). -/
def State.rayHits (s : State) (c : Settings) (mode i : Nat) (m : Masks) (r : Ray) : List Hit :=
  let place := placingOf (c.places.getD 0 [])
  let compose := ((List.range 8).filter (bitOf m.compose ·)).filterMap fun l =>
    (s.synth.layers.getD l {}).hit s.fs.mem place (refWhite c) r.line l
  let insets := ((List.range 3).filter (bitOf m.inset ·)).flatMap fun i => s.insetHits c i r
  (compose ++ insets ++ s.primaryHits c mode i m r).foldl (fun l h => insertHit h l) []

/-- target() of a ray of the window: what the scene sends back along it. -/
def State.rayTarget (s : State) (i hogel emitter state : Nat) : Vec :=
  let w := s.synth.window
  let c := s.synth.cfg
  let m := s.bound c w.mode i (kerfOfHogel hogel)
  let r := rayAlong c (c.stands.getD i {}) (hogel % 128) (hogel / 128) (emitter % 16) (emitter / 16) state
  composite (s.backgroundLight c w.mode) (s.rayHits c w.mode i m r) ⟨0, 0, 0⟩ 0

/-- lost() of an emitter: the part of its target that those of its failed channels would have sent whose light an entry carries, by the fault list
latched at synthesis start (R175, R244). -/
def State.rayLost (s : State) (i channels hogel emitter state : Nat) : Vec :=
  let faults := s.synth.window.latchFaults.getD i []
  let t := s.rayTarget i hogel emitter state
  let part (ch : Nat) (x : Rat) : Rat := if bitOf channels ch && failedIn faults hogel emitter ch then x else 0
  ⟨part 0 t.x, part 1 t.y, part 2 t.z⟩

/-- Live record of an emitter of a stand (R224). -/
def State.liveRecord (s : State) (j e : Nat) : Nat := uN (Mem.reads s.fs.mem (s.settings.liveAddr j + 12 * e) 12) 0 12

/-- Drive fractions of a ray: its own target and the light it takes over under the concealment entries in force, with LUM_FULL as latched at synthesis
start (R175).  Stand `i` of the window is stand `j` now. -/
def State.rayDrive (s : State) (i j k r : Nat) : List Rat :=
  let c := (s.stand j).cal
  let lum := s.synth.window.latchLum.getD i 0
  let hogel := rayHogel k r
  let e := 256 * hogel + rayEmitter r
  let own := driveOf (s.liveRecord j e) lum (s.rayTarget i hogel (rayEmitter r) (rayState r))
  (c.entries.filter fun x => x.1 == e).foldl (fun v x =>
    let add := driveOf (s.liveRecord j e) lum (s.rayLost i x.2.2.2 (x.2.1 / 256) (x.2.1 % 256) (rayState r))
    (List.range 3).map fun ch => max 0 (min 1 (v.getD ch 0 + (x.2.2.1 : Rat) / 32768 * add.getD ch 0))) own

/-- Code the window in progress writes for a colour of a ray: 0 for a failed channel, from its declaration on (R242), else the code of its drive fraction or
one beside it (DESIGN CHOICE, log entry 20). -/
def State.rayCode (s : State) (i j k r colour : Nat) : Nat :=
  if (s.stand j).cal.failedCh (rayHogel k r) (rayEmitter r) colour then 0
  else min 1023 (driveCode ((s.rayDrive i j k r).getD colour 0) + Config.rayLatitude s.synth.window.num i k r colour % 3 - 1)

/-- Word the window in progress writes for a ray (R178) (DESIGN CHOICE, log entry 20). -/
def State.writtenRay (s : State) (i j k r : Nat) : Nat :=
  rayWord (s.rayCode i j k r 0) (s.rayCode i j k r 1) (s.rayCode i j k r 2)

/-- Words of a kerf in one steering state, in the order in which the ray frame holds them (R338): two hogels of 256 emitters.  A kerf
whose stand has left the map has no calibration and gives code 0 (DESIGN CHOICE, log entry 140). -/
def State.kerfWords (s : State) (i k state : Nat) : List Nat :=
  match s.synth.window.cur i with
  | some j => (List.range 512).map fun m => s.writtenRay i j k (m / 256 * 1024 + state * 256 + m % 256)
  | none => List.replicate 512 0

/-! ### Kerf contexts as bytes (R181) -/

/-- The 64 bytes of a kerf context (R181). -/
def State.kerfRecord (s : State) (i k : Nat) : List Byte :=
  let x := (s.stand i).kerf k
  le 4 x.sceneGen ++ (x.insetGen.flatMap fun g => le 2 g) ++ le 2 x.layerMask ++ le 4 x.nearZ ++ le 4 x.farZ ++
  le 1 x.composeMask ++ le 1 x.insetMask ++ le 1 (b2n x.late + 2 * b2n x.valid + 4 * b2n x.invalid) ++ le 1 (spreadPhase k) ++
  le 2 x.owner ++ le 2 x.calGen ++ le 4 x.concealPtr ++ le 2 x.concealGen ++ le 2 x.composeRegion ++
  le 4 x.composeWant ++ le 4 x.composeDone ++ le 4 x.lastTick ++ le 2 x.lateRun ++ zeros 2 ++ le 4 x.cost ++ zeros 8

end Sys2Proof.Machine
end

