-- ==== Sys2Proof/Machine/Reeds.lean ====
section
/-! DEFINITION. The ray frames (R22, R263, R338): what reeds write while time passes, and the RAY packets that scan-out makes of them
(R23, R24, R188, R314). -/

namespace Sys2Proof.Machine

/-! ### The ray frames (R22, R338) -/

/-- A map with the ray frames where they lie now: they follow SCAN.FRAME_BASE at its blank, whatever map is scanned out (R24, R263). -/
def State.framesOf (s : State) (c : Settings) : Settings := { c with frameBase := s.settings.frameBase }

/-- The pairs of a die that take every write of its ray frames, as maps with their frame bases: the one in force, and both of each
move under way (R263). -/
def State.pairsOf (s : State) (c : Settings) (die : Nat) : List Settings :=
  let moves := s.fs.moves.filter fun e => e.die == die
  let at' (o : Nat) : Settings := { c with frameBase := upd s.settings.frameBase die fun _ => o }
  s.framesOf c :: moves.flatMap fun e => [at' e.old, at' e.new]

/-- A map with the ray frames where scan-out reads them in the frame of a tick (R263, R266). -/
def State.shownFrames (s : State) (c : Settings) (tick : Nat) : Settings := { c with frameBase := (s.scanSettings tick).frameBase }

/-- The background copy of a die's moved pair completes (R263): from then on the pairs hold the same codes (DEDUCED, log entry 62). -/
def State.frameBaseCopied (s : State) (die : Nat) : State :=
  match s.fs.moves.findIdx? fun e => e.die == die && !e.copied with
  | none => s
  | some n =>
    let e := s.fs.moves.getD n {}
    let s := if e.applied then s else s.copyFrames s.settings die e.old e.new
    let s := { s with fs := { s.fs with moves := upd s.fs.moves n fun e => { e with copied := true } } }
    s.releaseFrames (s.clock.tick + b2n s.clock.blank)

/-- Bytes of a kerf in a steering state. -/
def State.kerfBytes (s : State) (i k state : Nat) : List Byte := (s.kerfWords i k state).flatMap (le 4)

/-- A kerf's rays go to one ray frame of a pair. -/
def State.writeFrame (s : State) (c : Settings) (i k frame : Nat) (m : List Host.Cell) : List Host.Cell :=
  (List.range 4).foldl (fun m state => Mem.writes m (c.rayAddr i frame state k) (s.kerfBytes i k state)) m

/-- The ray frame that a kerf's select bit does not name (R22). -/
def State.frameFor (s : State) (i k : Nat) : Nat := 1 - (s.windowKerf i k).select

/-- A reed has made the last write of a kerf (R20, R22): its rays stand in the frame its select bit does not name, in both pairs while the
frames move (R263). -/
def State.writeKerf (s : State) (m : List Host.Cell) (e : Nat × Nat) : List Host.Cell :=
  let c := s.synth.cfg
  let frame := s.frameFor e.1 e.2
  (s.pairsOf c (dieOfLink (c.stands.getD e.1 {}).link)).foldl (fun m c => s.writeFrame c e.1 e.2 frame m) m

/-- Writing a kerf whole clears the poison of its granules (R358) (DEDUCED, log entry 99). -/
def State.unpoisonKerf (s : State) (l : List Nat) (e : Nat × Nat) : List Nat :=
  (List.range 4).foldl (fun l state => clearPoison l ((s.framesOf s.synth.cfg).rayAddr e.1 (s.frameFor e.1 e.2) state e.2) 2048) l

/-- Time passes: `dt` units since the previous command, and what the previous command sent out is gone; the reeds of a window in progress work on
(R186), and so do running bakes (R228) (DESIGN CHOICE, log entries 12, 145; DEDUCED, log entry 71). -/
def State.elapse (s : State) (dt : Nat) : State :=
  let w := s.reelTo (s.clock.up + dt)
  let new := w.done.drop s.synth.window.done.length
  { s with
    clock := { s.clock with up := s.clock.up + dt, dev := s.clock.dev + dt }
    fs := { s.fs with mem := s.bakeWrites dt (new.foldl s.writeKerf s.fs.mem), poisoned := new.foldl s.unpoisonKerf s.fs.poisoned }
    synth := { s.synth with window := w }
    out := [] }

/-! ### RAY packets (R23, R188, R314) -/

/-- 512 codes of 30 bits: code m in bits 30m to 30m + 29 (R314). -/
def packCodes (l : List Nat) : List Byte := le 1920 ((l.zipIdx.map fun e => e.1 % 0x40000000 * 2 ^ (30 * e.2)).foldl (· + ·) 0)

/-- The code of a test pattern: LEVEL in each colour (R241). -/
def levelCode (level : Nat) : Nat := rayWord level level level

/-- LEVEL that every channel of a stand is driven at: a CAL.MEASURE with PATTERN runs in Calibrate (R92, R241). -/
def State.pattern (s : State) (j : Nat) : Option Nat :=
  let c := (s.stand j).cal
  if s.modes.mode = 7 ∧ c.op = 2 ∧ bitOf (u8 c.opParams 2) 0 then some (u16 c.opParams 4 % 1024) else none

/-- Codes of a kerf of the map in scan-out for a sub-frame: code 0 where VALID was 0, else those of the frame its latched select bit
names (R22, R188), code 0 in a poisoned granule (R358); `level` is a test pattern's (DESIGN CHOICE, log entry 127). -/
def State.scanCodes (s : State) (i k sub tick : Nat) (level : Option Nat) : List Nat :=
  match level with
  | some l => List.replicate 512 (levelCode l)
  | none =>
    let bits := s.scanLatch.getD i []
    let b := lookupD bits k (lookupD bits 8192 (false, 0))
    if !b.1 then List.replicate 512 0 else
    let a := (s.shownFrames s.synth.scanCfg tick).rayAddr i b.2 sub k
    (List.range 512).map fun m => if s.isPoisoned (a + 4 * m) then 0 else u32 (Mem.reads s.fs.mem (a + 4 * m) 4) 0 % 0x40000000

/-- A RAY packet from its STAND byte on (R313, R314). -/
def State.rayBody (s : State) (i k sub tick : Nat) (level : Option Nat) : List Byte :=
  le 1 (s.synth.scanCfg.position i) ++ le 2 k ++ le 1 sub ++ le 1 (spreadPhase k) ++ le 4 (tick % 0x100000000) ++ zeros 4 ++
  packCodes (s.scanCodes i k sub tick level)

/-- The RAY packets of a sub-frame of a tick go out on the links, in the period before it (R23): under the map the frame was synthesised
for (R24), to stands that `takes` says are shown codes.  Their order on a link is free (R314); here stands and kerfs rise
(DESIGN CHOICE, log entry 127). -/
def State.sendRays (s : State) (sub tick : Nat) (takes : Nat → Bool) : State :=
  let c := s.synth.scanCfg
  forEach (List.range c.stands.length) s fun i s =>
    let link := (c.stands.getD i {}).link
    match placeNow s.synth.scanMoved i with
    | none => s
    | some j =>
      if !s.linkRuns link ∨ !takes j then s else
      forEach (List.range 8192) s fun k s => s.emit (.linkSend link 1 (s.rayBody i k sub tick (s.pattern j)))

/-- A stand is shown codes in a sub-frame: its frame is streamed or a loading frame, and its link, under the map that the packets of the
tick follow (R24), carries it (R256, R326). -/
def State.shownCodes (s : State) (kind tick sub j : Nat) : Bool :=
  decide (kind ≤ 1) && match s.packetPlace j tick with
    | some (l, pos) => !s.heldAt l pos tick sub
    | none => false

/-- The packets of a sub-frame have begun (R326): the held scheme of a link that narrows serves the windows after it. -/
def State.raysBegin (s : State) (tick sub : Nat) : State :=
  { s with links := s.links.map fun k => { k with rayWin := windowOf tick sub + 1 } }

/-- Codes of sub-frame 0 of a tick leave at its scan-out start, as the kinds of its frame stand then (DEDUCED, log entry 141). -/
def State.sendFirst (s : State) (tick : Nat) : State :=
  (s.raysBegin tick 0).withLeft fun s => s.sendRays 0 tick fun j => s.shownCodes (s.frameKind (s.stand j) tick).1 tick 0 j

/-- Codes of the next sub-frame of a frame leave as a sub-frame starts. -/
def State.sendNext (s : State) (tick sub : Nat) : State :=
  (s.raysBegin tick sub).withLeft fun s => s.sendRays sub tick fun j => s.shownCodes (s.stand j).kind tick sub j

end Sys2Proof.Machine
end

