-- ==== Sys2Proof/Machine/Recorder.lean ====
section
/-! DEFINITION. The event recorder (R449, R453, R454, R458 to R463): flushes to flash and the restore at Bellows power-up, open
records that become pads, triggers and register sets; REC.*. -/

namespace Sys2Proof.Machine

/-! ### Walking the log -/

/-- Whole records of the log from an offset, `n` bytes of them; a record that is still open has the length it was allocated. -/
def Recorder.recordsFrom (r : Recorder) : (fuel off n : Nat) → List (List Byte)
  | 0, _, _ => []
  | k + 1, off, n =>
    if n = 0 then [] else
    let off := off % recSize
    let len := match r.openRecs.find? fun e => e.1 == off with
      | some e => e.2.1
      | none => recLen r.sram off
    if n < len then [] else Mem.reads r.sram off len :: r.recordsFrom k (off + len) (n - len)

/-- Bytes of a history sector that hold records: 64 KiB less the header (R458). -/
def sectorRoom : Nat := 65536 - 64

/-- Records put into sectors, each wholly in one: the sector last begun is filled first (R458). -/
def fillSectors (ups : Nat) : (recs : List (List Byte)) → (seq : Nat) → (cur : Option (List Byte)) → List (Nat × Nat × List Byte)
  | [], seq, cur => match cur with | some b => [(seq, ups, b)] | none => []
  | r :: rs, seq, cur =>
    match cur with
    | some b => if b.length + r.length ≤ sectorRoom then fillSectors ups rs seq (some (b ++ r))
                else (seq, ups, b) :: fillSectors ups rs (seq + 1) (some r)
    | none => fillSectors ups rs seq (some r)

/-- The sector that this power-up last began, and the history before it. -/
def Flash.lastSector (f : Flash) (ups : Nat) : List (Nat × Nat × List Byte) × Option (List Byte) :=
  match f.history.getLast? with
  | some e => if e.2.1 = ups then (f.history.dropLast, some e.2.2) else (f.history, none)
  | none => ([], none)

/-- Appends records to the history behind the flush offset, in the sector last begun and then in erased ones; at least two of the 59
sectors stay erased (R457 to R459) (DEDUCED, log entry 79). -/
def Flash.append (f : Flash) (ups : Nat) (recs : List (List Byte)) : Flash :=
  let last := f.lastSector ups
  let first := if last.2.isSome then f.historySeq else f.historySeq + 1
  let new := fillSectors ups recs first last.2
  let all := last.1 ++ new
  { f with history := all.drop (all.length - 57), historySeq := first + new.length - 1 }

/-! ### Flushes (R459 to R461) -/

/-- Copies `n` bytes of records from the flush offset to the flash. -/
def State.flushBytes (s : State) (n : Nat) : State :=
  let r := s.recorder
  { s with flash := s.flash.append s.bellows.powerUps (r.recordsFrom (n / 32 + 1) r.flushed n)
           recorder := { r with flushed := (r.flushed + n) % recSize, unflushed := r.unflushed - n } }

/-- A flush starts; without a flash it ends at once with result 2 (DEDUCED, log entry 79). -/
def State.flushStart (s : State) (tag : Word) (commanded : Bool) : State :=
  let r := s.recorder
  if !s.flash.present then
    ({ s with recorder := { r with oldestAt := s.clock.up } }).raise evRecFlushed noUnit [2, 0] tag
  else { s with recorder := { r with flushing := some (min r.unflushed recSize, tag), commanded := commanded } }

/-- The background flush of the chanter: 16 KiB unflushed, or 10 s after the oldest unflushed record (DEDUCED, log entry 79). -/
def State.flushTrigger (s : State) : State :=
  let r := s.recorder
  if s.serves && r.flushing.isNone && r.erasing.isNone && !r.inReset &&
      (16384 ≤ r.unflushed || (r.unflushed != 0 && s.since r.oldestAt (sec 10))) then s.flushStart 0 false else s

/-- A running flush or erase ends (R459, R460). -/
def State.flushEnd (s : State) (ok : Bool) : State :=
  match s.recorder.flushing with
  | some (n, tag) =>
    let s := { s with recorder := { s.recorder with flushing := none } }
    if ok then (s.flushBytes n).raise evRecFlushed noUnit [0, n] tag else s.raise evRecFlushed noUnit [1, 0] tag
  | none =>
    match s.recorder.erasing with
    | none => s
    | some tag =>
      let s := { s with recorder := { s.recorder with erasing := none }
                        flash := if ok then { s.flash with history := [] } else s.flash }
      s.raise evRecFlushed noUnit [if ok then 0 else 1, 0] tag

/-- The newest unflushed records, at most 24 KiB, with their bytes (R461). -/
def Recorder.newestFlushed (r : Recorder) : Nat × List (List Byte) :=
  let acc := (r.recordsFrom (r.unflushed / 32 + 1) r.flushed r.unflushed).foldr
    (fun x acc => if acc.1 + x.length ≤ 24576 ∧ acc.2.2 then (acc.1 + x.length, x :: acc.2.1, true) else (acc.1, acc.2.1, false))
    ((0, [], true) : Nat × List (List Byte) × Bool)
  (acc.1, acc.2.1)

/-- The power-loss flush of Bellows (R461): the newest unflushed records, at most 24 KiB, oldest dropped first. -/
def State.powerFlush (s : State) (ok : Bool) : State :=
  let s := if s.recorder.unflushed ≤ 24576 then s else
    -- the record takes room too: what is left out is counted with it in the log
    let r := (s.recFixed 0x0052 [0]).recorder
    s.recFixed 0x0052 [r.unflushed - r.newestFlushed.1]
  let r := s.recorder
  if !ok then s else
  { s with flash := s.flash.append s.bellows.powerUps r.newestFlushed.2
           recorder := { r with flushed := r.head, unflushed := 0 } }

/-! ### Open records (R449) -/

/-- A writer allocates a record that it will not mark (DEDUCED, log entry 79). -/
def State.openRecord (s : State) (n : Nat) : State :=
  let n := (n + 31) / 32 * 32
  if n = 0 ∨ 1024 < n then s else
  let r := s.recorder.starts s.clock.up
  let pass := if r.head + n ≤ recSize then r.wraps else r.wraps + 1
  let (off, r) := r.alloc s.nowNs n
  { s with recorder := { r with openRecs := r.openRecs ++ [(off, n, s.clock.up, pass)], unflushed := r.unflushed + n } }

/-- Bellows turns a record still unmarked after 10 ms into a pad. -/
def State.padOpen (s : State) (off : Nat) : State :=
  match s.recorder.openRecs.find? fun e => e.1 == off with
  | none => s
  | some (o, n, t, pass) =>
    if !s.since t (ms 10) then s else
    { s with recorder := { s.recorder with
        sram := Mem.writes s.recorder.sram o (recPad pass s.nowNs n), openRecs := s.recorder.openRecs.filter fun e => e.1 != off } }

/-! ### Restore (R463) -/

/-- Length of the record that starts a list of bytes. -/
def bytesLen (b : List Byte) : Nat :=
  let code := u16 b 0
  max 32 (if code = 0xFFFE then u32 b 12 else if 0xF000 ≤ code ∧ code ≤ 0xF00F then u16 b 26 else 32)

/-- The records of a sector. -/
def sectorRecords : (fuel : Nat) → List Byte → List (List Byte)
  | 0, _ => []
  | k + 1, b => if b.length < 32 then [] else b.take (bytesLen b) :: sectorRecords k (b.drop (bytesLen b))

/-- The newest whole records of the history, at most 1 MiB. -/
def Flash.newest (f : Flash) : List (List Byte) :=
  ((f.history.flatMap fun e => sectorRecords 2048 e.2.2).foldr (fun x acc =>
    if acc.1 + x.length ≤ 0x100000 ∧ acc.2.2 then (acc.1 + x.length, x :: acc.2.1, true) else (acc.1, acc.2.1, false))
    ((0, [], true) : Nat × List (List Byte) × Bool)).2.1

/-- Bellows ends the restore: the records from offset 0 with pass byte 0, then the 0x0012 record. -/
def State.restoreEnd (s : State) : State :=
  if !s.recorder.restoring then s else
  let bytes := s.flash.newest.flatMap fun r => overwrite r 2 (recMark 0)
  let s := { s with recorder := { s.recorder with
    sram := Mem.writes [] 0 bytes, head := bytes.length, wraps := 0, flushed := bytes.length, unflushed := 0, restoring := false } }
  s.recFixed 0x0012 [bytes.length, s.bellows.powerUps, s.flash.history.length]

/-! ### REC.TRIGGERS (R453, R454) -/

/-- Payload offset of trigger record i, and of set record j behind `t` triggers. -/
def trigOff (i : Nat) : Nat := 16 + 16 * i
def setOff (t j : Nat) : Nat := 16 + 16 * t + 136 * j

/-- Response bytes of the status command a selector's source names. -/
def statusLen : Nat → Nat
  | 1 | 4 => 64
  | 2 | 5 | 6 => 128
  | 3 | 7 => 256
  | _ => 0

/-- A BAR0 offset lies in the global registers, the event ring control groups or the Bellows status block (R47). -/
def selectable (off : Nat) : Bool :=
  off % 4 == 0 && ((0x10000 ≤ off && off < 0x11000) || (0x40000 ≤ off && off < 0x40100) || (0x60000 ≤ off && off < 0x61000))

/-- A selector breaks R454 (DEDUCED, log entry 79). -/
def selectorBad (v : Nat) : Bool :=
  match bitsOf v 31 28 with
  | 1 => bitsOf v 27 24 != 0 || !selectable (bitsOf v 23 0)
  | 2 => statusLen (bitsOf v 27 24) ≤ 4 * bitsOf v 7 0
  | _ => true

/-- Sets a payload holds. -/
def setIds (p : List Byte) : List Nat := (List.range (u8 p 1)).map fun j => u8 p (setOff (u8 p 0) j)

/-- REC.TRIGGERS (R453). -/
def recTriggers : CmdDef where
  opcode := 0x0F01
  kind := .stageable
  lenOk p := 16 ≤ p.length && p.length == 16 + 16 * u8 p 0 + 136 * u8 p 1
  checks _ c :=
    let p := c.payload
    chkP (16 < u8 p 0) stBadField 0 ++ chkP (8 < u8 p 1) stBadField 1 ++ rsvBytes p 2 16 ++
    (List.range (u8 p 0)).flatMap (fun i =>
      let o := trigOff i
      chkP (15 < u8 p o) stBadField o ++ chkP (u8 p (o + 1) != 1 && u8 p (o + 1) != 2) stBadField (o + 1) ++
      chkP (7 < u8 p (o + 2) || !(setIds p).contains (u8 p (o + 2))) stBadField (o + 2) ++ rsvBits p (o + 3) 0xFE ++
      chkP (if u8 p (o + 1) = 2 then u32 p (o + 8) = 0 || 1048576 < u32 p (o + 8) else u32 p (o + 8) != 0) stBadField (o + 8) ++
      rsvBytes p (o + 12) (o + 16)) ++
    (List.range (u8 p 1)).flatMap (fun j =>
      let o := setOff (u8 p 0) j
      let n := u8 p (o + 1)
      chkP (7 < u8 p o) stBadField o ++ chkP (n = 0 || 32 < n) stBadField (o + 1) ++ rsvBytes p (o + 2) (o + 8) ++
      (List.range 32).flatMap fun k =>
        chkP (if k < n then selectorBad (u32 p (o + 8 + 4 * k)) else u32 p (o + 8 + 4 * k) != 0) stBadField (o + 8 + 4 * k))
  apply p c := { c with
    triggers := (List.range (u8 p 0)).map fun i =>
      let o := trigOff i
      { id := u8 p o, kind := u8 p (o + 1), set := u8 p (o + 2), unitMatch := bitOf (u8 p (o + 3)) 0, event := u16 p (o + 4),
        unit := u16 p (o + 6), period := u32 p (o + 8) }
    sets := (List.range (u8 p 1)).map fun j =>
      let o := setOff (u8 p 0) j
      (u8 p o, (List.range (u8 p (o + 1))).map fun k => BitVec.ofNat 32 (u32 p (o + 8 + 4 * k))) }
  effect _ _ _ _ s := { s with recorder := { s.recorder with trigTick := [], trigMerged := [] } }

/-- REC.FLUSH (R459). -/
def recFlush : CmdDef where
  opcode := 0x0F02
  kind := .immediate
  lenOk := lenIs 0
  checks s _ := chk (s.recorder.erasing.isSome || (s.recorder.flushing.isSome && s.recorder.commanded)) stBusy
  run s c := .done (s.flushStart c.tag true) [] 0

/-- REC.ERASE (R460). -/
def recErase : CmdDef where
  opcode := 0x0F03
  kind := .immediate
  lenOk := lenIs 8
  checks s c :=
    chkP (u32 c.payload 0 != 0x45534152) stBadField 0 ++ rsvBytes c.payload 4 8 ++
    chk (s.recorder.erasing.isSome || s.recorder.flushing.isSome) stBusy ++ chk (s.security.lifecycle = 1) stLifecycle
  run s c :=
    if !s.flash.present then .done (s.raise evRecFlushed noUnit [2, 0] c.tag) [] 0
    else .done { s with recorder := { s.recorder with erasing := some c.tag } } [] 0

/-- A periodic trigger fires at each tick whose index is a multiple of its period (R455). -/
def State.periodicTriggers (s : State) : State :=
  if 2 ≤ s.modes.mode ∧ s.modes.mode ≤ 6 then
    (s.settings.triggers.filter fun t => t.kind == 2 && s.clock.tick % max 1 t.period == 0).foldl (fun s t => s.fireTrigger t.id 0 noUnit) s
  else s

end Sys2Proof.Machine
end

