-- ==== Sys2Proof/Machine/Pcie.lean ====
section
/-! DEFINITION. BAR0 and BAR2 (R27 to R60): the Cruise table, the register file, the aperture and the boot buffer, and the
resets of the PCIe function. -/

namespace Sys2Proof.Machine

/-! ### The PCIe function as it presents itself (R27) -/

/-- A base address register: its number, bytes decoded, whether it is prefetchable; every one is 64 bits wide. -/
structure Bar where
  /-- number of the lower of its two registers -/
  index : Nat
  /-- bytes -/
  size : Nat
  /-- prefetchable memory -/
  prefetch : Bool
deriving DecidableEq, Repr

/-- The BARs: BAR0 with the registers, BAR2 with the frame store's aperture; no BAR4. -/
def bars : List Bar := [{ index := 0, size := 0x1000000, prefetch := false }, { index := 2, size := 0x100000000, prefetch := true }]

/-- An expansion ROM is not implemented. -/
def expansionRom : Bool := false

/-- Physical functions; there is no SR-IOV and no ARI. -/
def pcieFunctions : Nat := 1

/-- Largest width and rate of the link: lanes and GT/s. -/
def pcieLink : Nat × Nat := (16, 32)

/-- A capability of the function. -/
inductive PcieCap where
  /-- PCI power management: D0 and D3hot (R29) -/
  | powerManagement
  /-- MSI-X, with its vectors and the BAR0 offsets of its table and PBA (R47, R90) -/
  | msix (vectors table pba : Nat)
  /-- advanced error reporting (R358) -/
  | aer
  /-- tags of 10 bits -/
  | tags10
  /-- function-level reset (R28) -/
  | functionReset
deriving DecidableEq, Repr

/-- The capabilities of the function. -/
def pcieCaps : List PcieCap := [.powerManagement, .msix 256 0x70000 0x71000, .aer, .tags10, .functionReset]

/-- Largest payload of one packet, in bytes: what one write or completion carries. -/
abbrev maxPayload : Nat := 512

/-- Largest read request of the A9, in bytes. -/
abbrev maxReadRequest : Nat := 4096

/-- A read of host memory goes out in requests of at most the largest size. -/
def readRequests (addr len : Nat) : List (Nat × Nat) :=
  (List.range ((len + maxReadRequest - 1) / maxReadRequest)).map fun n =>
    (addr + maxReadRequest * n, min maxReadRequest (len - maxReadRequest * n))

/-- A write to host memory goes out in packets of at most the largest payload. -/
def writePackets (addr : Nat) (bytes : List Byte) : List (Nat × List Byte) :=
  (List.range ((bytes.length + maxPayload - 1) / maxPayload)).map fun n => (addr + maxPayload * n, slice bytes (maxPayload * n) (min maxPayload (bytes.length - maxPayload * n)))

/-! ### Power domains (R45, R478) -/

/-- KIND and UNIT of a compute die's domain, by its index on the die (0 to 34). -/
def dieDomain (k : Nat) : Nat × Nat :=
  if k < 16 then (1, k) else if k < 18 then (2, k - 16) else if k < 20 then (3, k - 18) else if k < 28 then (4, k - 20)
  else if k < 29 then (5, 0) else if k < 30 then (6, 0) else if k < 34 then (7, k - 30) else (8, 0)

/-- Compute-die domains: 35 West (0 to 34), 34 East (35 to 68, without a 2D engine). -/
def domainInfo (n : Nat) : Nat × Nat × Nat :=
  if n < 35 then (0, dieDomain n) else if n < 69 then (1, dieDomain (n - 35))
  else if n < 70 then (2, 9, 0) else if n < 72 then (2, 10, n - 70) else if n < 76 then (2, 11, n - 72)
  else if n < 79 then (2, n - 64, 0) else if n < 81 then (2, 15, n - 79) else if n < 82 then (2, 16, 0) else (2, 17, 0)

/-- First domain of a compute die. -/
def domainBase (die : Nat) : Nat := 35 * die
/-- Domains of a compute die. -/
def dieDomains (die : Nat) : List Nat := if die = 0 then span 0 35 else span 35 69

/-- STATE of a domain. -/
def State.domain (s : State) (n : Nat) : Nat := s.power.domains.getD n 0
def State.setDomain (s : State) (n v : Nat) : State := { s with power := { s.power with domains := upd s.power.domains n fun _ => v } }

/-- Domain of a reed's bank (R41): reeds 0 to 16 of a section form its bank 0. -/
def bankDomain (reed : Nat) : Nat := domainBase (reed / 272) + 2 * (reed / 34 % 8) + (if reed % 34 < 17 then 0 else 1)
/-- Domain of a stand link. -/
def linkDomain (l : Nat) : Nat := domainBase (dieOfLink l) + 20 + l % 8
/-- Domain of a decoder. -/
def decoderDomain (k : Nat) : Nat := domainBase (k / 4) + 30 + k % 4

/-! ### The Cruise table (R32 to R45) -/

/-- One entry: header (R34) and body. -/
def State.entry (s : State) (type inst : Nat) (body : List Byte) : List Byte :=
  le 2 type ++ [1, BitVec.ofNat 8 (b2n (type != 0xFFFF) + 2 * b2n (s.pcie.cruiseChanged.contains (type, inst)))] ++
  le 4 (16 + body.length) ++ le 4 inst ++ zeros 4 ++ body

def registerBlock (kind off size : Nat) : List Byte := le 2 kind ++ zeros 2 ++ le 4 off ++ le 4 size ++ zeros 4

/-- BAR0 offsets of the blocks (R47). -/
abbrev globalOff : Nat := 0x10000
abbrev mailboxOff : Nat := 0x20000
abbrev ringOff : Nat := 0x40000
abbrev recorderOff : Nat := 0x50000
abbrev bellowsOff : Nat := 0x60000
abbrev msixOff : Nat := 0x70000
abbrev pbaOff : Nat := 0x71000
/-- Doorbell group of mailbox n (R47). -/
def doorbellOff (n : Nat) : Nat := 0x10100 + 16 * n

def mailboxEntry (n : Nat) : List Byte :=
  le 4 (mailboxOff + 0x2000 * n) ++ le 4 (mailboxOff + 0x2000 * n + 0x1000) ++ le 4 (doorbellOff n) ++ le 2 n ++ zeros 2

def ringEntry : List Byte := [4, 8, 20, 64] ++ le 4 ringOff ++ le 4 0x40 ++ zeros 4

def CruiseView.domainEntry (v : CruiseView) (n : Nat) : List Byte :=
  let i := domainInfo n
  le 2 n ++ le 1 i.1 ++ le 1 i.2.1 ++ le 1 i.2.2 ++ le 1 (v.domains.getD n 0) ++ zeros 10

def CruiseView.linkEntry (v : CruiseView) (l : Nat) : List Byte :=
  let k := v.links.getD l (0, 0xFF)
  let c := v.linkCfgs.getD l {}
  le 1 (dieOfLink l) ++ le 1 (v.standLinks.filter (· == l)).length ++ le 1 k.1 ++ le 1 c.rate ++ le 1 c.clocking ++ le 1 k.2 ++
  zeros 2 ++ (List.range 10).flatMap (fun j => le 1 (10 * l + j)) ++ le 1 (2 * l) ++ le 1 (2 * l + 1) ++ zeros 12

/-- Reeds of a section whose bank is switched on, in one state (R41, R479). -/
def CruiseView.reedsIn (v : CruiseView) (sec st : Nat) : Nat :=
  ((List.range 34).filter fun r => v.reeds.getD (34 * sec + r) 0 == st && v.domains.getD (bankDomain (34 * sec + r)) 0 != 0).length

def CruiseView.sectionEntry (v : CruiseView) (n : Nat) : List Byte :=
  le 1 (n / 8) ++ le 1 (n / 4) ++ [34] ++ le 1 (v.reedsIn n 0) ++ le 4 8192 ++ le 1 (v.reedsIn n 1) ++
  le 1 ((List.range 34).filter fun r => v.reeds.getD (34 * n + r) 0 == 3).length ++ zeros 2 ++
  (List.range 34).flatMap (fun r => le 1 (v.reeds.getD (34 * n + r) 0)) ++ zeros 2

def CruiseView.storeEntry (v : CruiseView) : List Byte :=
  [4, 2] ++ le 2 128 ++ le 4 32768 ++ le 4 65536 ++ le 2 256 ++ le 1 (v.store.getD 0 0) ++ le 1 (v.store.getD 1 0) ++
  le 1 (v.store.getD 3 0) ++ [11] ++ zeros 2 ++ le 4 (v.store.getD 2 0) ++ zeros 24 ++
  (span 1 12).flatMap fun u => le 1 u ++ le 1 (regionAccess u) ++ zeros 2 ++ le 4 (regionSpan u).1 ++ le 4 (regionSpan u).2 ++ zeros 4

def CruiseView.decoderEntry (v : CruiseView) (k : Nat) : List Byte :=
  le 1 (k / 4) ++ [7, 186, 183] ++ le 2 7680 ++ le 2 4320 ++ [60] ++ le 1 (v.decoders.getD k 0) ++ zeros 6

/-- The 48 bytes behind the header of the firmware identity entry (R44): from the verified manifest, all 0 before one. -/
def CruiseView.identityBody (v : CruiseView) : List Byte :=
  let m := v.idBytes
  slice m 16 2 ++ slice m 12 1 ++ slice m 13 1 ++ slice m 14 2 ++ le 1 (v.identity.getD 2 0) ++ le 1 (v.identity.getD 3 0) ++
  slice m 24 8 ++ (if m = [] then zeros 16 else padTo 16 (Config.sha384 m)) ++ le 1 (v.identity.getD 4 0xFF) ++
  le 1 (v.identity.getD 0 0) ++ le 1 (v.identity.getD 1 0) ++ zeros 13

/-- The firmware identity entry, as SYS.IDENTIFY returns it. -/
def State.identityEntry (s : State) : List Byte := s.entry 9 0 s.pcie.shown.identityBody

/-- Bytes 64 on of the table, in the order of R45. -/
def State.cruiseEntries (s : State) : List Byte :=
  s.entry 1 0 (registerBlock 1 globalOff 0x1000) ++ s.entry 1 1 (registerBlock 2 recorderOff 0x1000) ++
  s.entry 1 2 (registerBlock 3 bellowsOff 0x1000) ++ s.entry 1 3 (registerBlock 4 msixOff 0x1000) ++
  s.entry 1 4 (registerBlock 5 pbaOff 32) ++
  (List.range 8).flatMap (fun n => s.entry 2 n (mailboxEntry n)) ++ s.entry 3 0 ringEntry ++
  (List.range 83).flatMap (fun n => s.entry 4 n (s.pcie.shown.domainEntry n)) ++
  (List.range 16).flatMap (fun n => s.entry 5 n (s.pcie.shown.linkEntry n)) ++
  (List.range 16).flatMap (fun n => s.entry 6 n (s.pcie.shown.sectionEntry n)) ++ s.entry 7 0 s.pcie.shown.storeEntry ++
  (List.range 8).flatMap (fun n => s.entry 8 n (s.pcie.shown.decoderEntry n)) ++ s.identityEntry ++ s.entry 0xFFFF 0 []

/-- Bodies of the entries that change in service, by TYPE and INSTANCE. -/
def CruiseView.bodies (v : CruiseView) : List ((Nat × Nat) × List Byte) :=
  (List.range 83).map (fun n => ((4, n), v.domainEntry n)) ++ (List.range 16).map (fun n => ((5, n), v.linkEntry n)) ++
  (List.range 16).map (fun n => ((6, n), v.sectionEntry n)) ++ [((7, 0), v.storeEntry)] ++
  (List.range 8).map (fun n => ((8, n), v.decoderEntry n)) ++ [((9, 0), v.identityBody)]

/-- What the entries would show of the device as it stands. -/
def State.cruiseView (s : State) : CruiseView where
  domains := s.power.domains
  links := s.links.map fun (l : Link) => (l.state, l.spared)
  linkCfgs := s.settings.links
  standLinks := s.settings.stands.map (·.link)
  reeds := s.faults.reeds
  store := [s.fs.setPoint, s.fs.setPoints, s.fs.retired.length, s.settings.ordering]
  decoders := s.ingest.decState
  idBytes := s.modes.idBytes
  identity := [s.modes.drone, s.modes.bootSource, s.security.fuses, s.security.lifecycle, s.bellows.role.getD 0xFF]

/-- Entries whose bodies differ between two views (DEDUCED, log entry 81). -/
def CruiseView.diff (a b : CruiseView) : List (Nat × Nat) :=
  if a = b then [] else (a.bodies.zip b.bodies).filterMap fun e => if e.1.2 = e.2.2 then none else some e.1.1

/-- After a command the chanter rewrites the entries that no longer show the device, in one update (R33); before Standby the ROM
still builds the table, and while no complex serves the table stands as it is and the update waits (DEDUCED, log entry 81). -/
def State.settleCruise (s : State) : State :=
  let now := s.cruiseView
  if !s.modes.standby then { s with pcie := { s.pcie with shown := now, cruiseDue := [] } }
  else if !s.serves then s
  else
    let due := s.pcie.cruiseDue ++ (s.pcie.shown.diff now).filter fun e => !s.pcie.cruiseDue.contains e
    if due = [] then s else s.cruiseUpdate now due

/-- BAR0 offset of the CMDSET_REV bytes: the identity entry starts at 5,456 (R45, R65). -/
abbrev cmdsetRevOff : Nat := 5472

/-- Bytes of the Cruise table in use (R45). -/
abbrev cruiseSize : Nat := 5536

/-- The Cruise table (R32) (DEDUCED, log entry 81). -/
def State.cruise (s : State) : List Byte :=
  let body := s.cruiseEntries
  le 4 0x45535243 ++ le 2 1 ++ le 2 64 ++ le 4 cruiseSize ++ le 4 140 ++ le 4 s.pcie.cruiseGen ++ le 4 (crc32 body) ++ le 2 0x00A9 ++
  le 2 (Config.stepping % 256) ++ le 4 64 ++ le 8 Config.serial ++ zeros 24 ++ body

/-! ### Registers as they read (R48 to R60) -/

/-- GLB_LEASE_AGE: microseconds since the last renewal, saturating (R52). -/
def State.leaseAge (s : State) : Nat := if s.bellows.epoch = 0 ∧ s.bellows.holder = none then 0 else sat 0xFFFFFFFF ((s.clock.up - s.bellows.renewAt) / 3000)

/-- A doorbell group (R55). -/
def mailboxReg (m : Mailbox) (o : Nat) : Nat :=
  match o with
  | 0x0 => b2n (m.state == 1)
  | 0x4 => m.doneCount * 0x10000 + m.state
  | 0x8 => m.irq.toNat
  | _ => m.err.toNat

/-- The global registers by offset (R48 to R54). -/
def State.globalReg (s : State) (o : Nat) : Nat :=
  if 0x100 ≤ o ∧ o < 0x180 then mailboxReg (s.mbx ((o - 0x100) / 16)) (o % 16) else
  match o with
  | 0x000 => 0x00A90000 + Config.stepping % 256 * 0x100 + Config.grade % 16 * 0x10
  | 0x004 => s.modes.mode * 0x10000000 + s.bellows.chanterBit * 0x8000000 + b2n s.bellows.holder.isSome * 0x4000000 +
      b2n s.fwUp * 0x2000000 + s.modes.bootStage * 0x100
  | 0x008 => s.pcie.glbErr.toNat
  | 0x00C => maskOf s.bellows.coldBusy
  | 0x010 => b2n s.bellows.holder.isSome * 0x80000000 + s.bellows.holder.getD 0 * 0x40000000 + s.modes.leadPref * 0x20000000 +
      s.bellows.missed * 0x4000000 + s.bellows.epoch % 0x1000000
  | 0x014 => s.leaseAge
  | 0x018 => s.pcie.apLo.toNat
  | 0x01C => s.pcie.apHi.toNat
  | 0x020 => s.pcie.scratch.toNat
  | _ => 0

/-- EVR_STATUS (R57). -/
def Ring.status (r : Ring) : Nat :=
  r.dropped * 0x10000 + b2n r.full * 4 + b2n r.configErr * 2 + b2n r.mirrorFault

/-- An event ring's control group (R57). -/
def ringReg (r : Ring) (o : Nat) : Nat :=
  match o with
  | 0x00 => r.baseLo.toNat
  | 0x04 => r.baseHi.toNat
  | 0x08 => r.mirrorLo.toNat
  | 0x0C => r.mirrorHi.toNat
  | 0x10 => r.ctrl.toNat
  | 0x14 => r.log2
  | 0x18 => r.pidxWord
  | 0x1C => r.cidx
  | 0x20 => r.status
  | _ => 0

/-- The 32 bits at the recorder's cursor (R59). -/
def State.recData (s : State) : Nat := u32 (Mem.reads s.recorder.sram s.recorder.cursor.toNat 4) 0

def State.recorderReg (s : State) (o : Nat) : Nat :=
  match o with
  | 0x00 => s.recorder.cursor.toNat
  | 0x04 => s.recData
  | 0x08 => s.recorder.head
  | 0x0C => s.recorder.wraps % 0x100000000
  | _ => 0

/-- HOLDUP_OK: the bank is at 10.5 V or above (R484). -/
def State.holdupOk (s : State) : Bool := 10500 ≤ s.bellows.capMv

/-- The Bellows status block (R60). -/
def State.bellowsReg (s : State) (o : Nat) : Nat :=
  let b := s.bellows
  match o with
  | 0x00 => b2n b.inOk * 0x80 + b2n s.holdupOk * 0x40 + b2n b.onHoldup * 0x20 + b2n (b.safeLinks != 0) * 0x10 + b.journalSt * 4 + b.recorderSt
  | 0x04 => b.capMv
  | 0x08 => b.latch.toNat
  | 0x0C => b.safeLinks.toNat
  | 0x10 => b.starts % 0x100000000
  | _ => 0

/-- A block of BAR0 (R47). -/
inductive Block where
  | cruise | globals | command (n : Nat) | response (n : Nat) | rings | recorder | bellows | msix | pba
deriving DecidableEq, Repr

/-- The block an offset lies in. -/
def blockOf (off : Nat) : Option Block :=
  if off < 0x10000 then some .cruise
  else if off < 0x11000 then some .globals
  else if 0x20000 ≤ off ∧ off < 0x30000 then
    some (if off % 0x2000 < 0x1000 then .command ((off - 0x20000) / 0x2000) else .response ((off - 0x20000) / 0x2000))
  else if 0x40000 ≤ off ∧ off < 0x40100 then some .rings
  else if 0x50000 ≤ off ∧ off < 0x51000 then some .recorder
  else if 0x60000 ≤ off ∧ off < 0x61000 then some .bellows
  else if 0x70000 ≤ off ∧ off < 0x71000 then some .msix
  else if 0x71000 ≤ off ∧ off < 0x71020 then some .pba
  else none

/-- The block takes accesses of 1 to 64 bytes (R30). -/
def Block.byBytes : Block → Bool
  | .cruise | .command _ | .response _ => true
  | _ => false

/-- What R30 says of an access of `n` bytes at an offset. -/
inductive Access where
  | ok (b : Block) | unmapped | bad
deriving DecidableEq, Repr

/-- The alignment an access of `n` bytes needs: the least power of two that holds it (DEDUCED, log entry 80). -/
def alignOf (n : Nat) : Nat :=
  if n ≤ 1 then 1 else if n ≤ 2 then 2 else if n ≤ 4 then 4 else if n ≤ 8 then 8 else if n ≤ 16 then 16 else if n ≤ 32 then 32 else 64

/-- Registers take naturally aligned 32-bit and 64-bit accesses; the three areas also aligned accesses of 1 to 64 bytes (R30).
An access of another size or alignment is a bad one also where it meets no block (DESIGN CHOICE, log entry 144). -/
def accessOf (off n : Nat) : Access :=
  let regular := (n == 4 || n == 8) && off % n == 0
  match blockOf off with
  | some b => if regular || (b.byBytes && 1 ≤ n && n ≤ 64 && off % alignOf n == 0) then .ok b else .bad
  | none => if regular then .unmapped else .bad

/-- The MSI-X table as it stands: bytes not written are at reset, each Vector Control word masking its vector (PRESUMED, log entry 143). -/
def State.msixBytes (s : State) : List Byte :=
  s.pcie.msixTable ++ (span s.pcie.msixTable.length 4096).map fun n => if n % 16 = 12 then 1 else 0

/-- The 32 bits at an aligned offset of a register block, without side effects. -/
def State.regWord (s : State) (off : Nat) : Nat :=
  match blockOf off with
  | some .globals => s.globalReg (off - globalOff)
  | some .rings => ringReg (s.ring ((off - ringOff) / 0x40)) (off % 0x40)
  | some .recorder => s.recorderReg (off - recorderOff)
  | some .bellows => s.bellowsReg (off - bellowsOff)
  | some .msix => u32 s.msixBytes (off - msixOff)
  | some .pba => s.pcie.pba.toNat / 2 ^ (8 * (off - pbaOff)) % 0x100000000
  | _ => 0

/-- What a read does beside returning data (R57, R59). -/
def State.afterRead (s : State) (off : Nat) : State :=
  if blockOf off = some .rings ∧ off % 0x40 = 0x20 then s.updRing ((off - ringOff) / 0x40) fun r => { r with dropped := 0 }
  else if off = recorderOff + 4 then
    { s with recorder := { s.recorder with cursor := BitVec.ofNat 32 ((s.recorder.cursor.toNat + 4) % recSize) } }
  else s

/-- Reads registers of `n` bytes, lower address first. -/
def State.readWords (s : State) (off : Nat) : Nat → List Byte × State
  | 0 => ([], s)
  | n + 1 =>
    let w := le 4 (s.regWord off)
    let r := (s.afterRead off).readWords (off + 4) n
    (w ++ r.1, r.2)

/-- A GLB_ERR bit latches (R50). -/
def State.glbErrSet (s : State) (bit : Nat) : State :=
  { s with pcie := { s.pcie with glbErr := s.pcie.glbErr ||| BitVec.ofNat 32 (2 ^ bit) } }

/-- The host reaches the A9's registers: not while the function or the A9 is in reset. -/
def State.barLive (s : State) : Bool := !s.pcie.perst && !s.modes.rst && s.bellows.running && !s.bellows.powerLost

/-- Data a read returned to the host. -/
def State.returned (s : State) (data : List Byte) : State := { s with pcie := { s.pcie with lastRead := data, lastPoison := false } }

/-- A BAR0 read (R30). -/
def State.bar0Read (s : State) (off n : Nat) : State :=
  if !s.barLive then s else
  match accessOf off n with
  | .unmapped => (s.glbErrSet 0).returned (zeros n)
  | .bad => (s.glbErrSet 1).returned (List.replicate n 0xFF)
  | .ok .cruise =>
    let s := if off ≤ cmdsetRevOff ∧ cmdsetRevOff + 2 ≤ off + n then { s with pcie := { s.pcie with revRead := true } } else s
    s.returned (slice s.cruise off n)
  | .ok (.command k) => s.returned (slice (s.mbx k).cmdArea (off % 0x1000) n)
  | .ok (.response k) => s.returned (slice (s.mbx k).rspArea (off % 0x1000) n)
  | .ok _ => let r := s.readWords off (n / 4); r.2.returned r.1

/-! ### Register writes -/

/-- GLB_RESET_CTRL (R51): the key, then the dies asked for. -/
def State.resetCtrl (s : State) (v : Nat) : State :=
  let west := bitOf v 0
  let east := bitOf v 1
  if bitsOf v 31 16 ≠ 0x5A17 then s.glbErrSet 3
  else if west && east && s.modes.mode != 0 then s.glbErrSet 4
  else
    let due := fun (d : Nat) (on : Bool) (s : State) =>
      if on && (s.bellows.dieOff.getD d none).isNone && s.bellows.resetDue.getD d 0 == 0 then
        { s with bellows := { s.bellows with coldBusy := upd s.bellows.coldBusy d (fun _ => true)
                                             resetDue := upd s.bellows.resetDue d (fun _ => 1) } }
      else s
    due 1 east (due 0 west s)

/-- EVR_CTRL (R57, R58).  R58 says what setting ENABLE does; a write of ENABLE 1 to a ring that is enabled already sets the
other fields and restarts nothing (DESIGN CHOICE, log entry 112). -/
def Ring.writeCtrl (r : Ring) (v : Nat) : Ring :=
  let on := bitOf v 31
  let fields := BitVec.ofNat 32 (v % 0x10000000)
  if on && !r.enabled then
    if r.log2 < 8 || 20 < r.log2 then { r with ctrl := fields, configErr := true }
    else { r with ctrl := fields ||| 0x80000000#32, pidx := 0, phase := true, seq := 0, unsignalled := 0 }
  else if on then { r with ctrl := fields ||| 0x80000000#32 }
  else if r.enabled then { r.disable with ctrl := fields }
  else { r with ctrl := fields }

/-- A write to a register of an event ring's control group (R57, R58). -/
def State.ringWriteReg (s : State) (i o v : Nat) : State :=
  let r := s.ring i
  let locked := fun (f : Ring → Ring) => s.updRing i (if r.enabled then fun r => { r with configErr := true } else f)
  match o with
  | 0x00 => locked fun r => { r with baseLo := BitVec.ofNat 32 v &&& 0xFFFFF000#32 }
  | 0x04 => locked fun r => { r with baseHi := BitVec.ofNat 32 v }
  | 0x08 => locked fun r => { r with mirrorLo := BitVec.ofNat 32 v &&& 0xFFFFFFF8#32 }
  | 0x0C => locked fun r => { r with mirrorHi := BitVec.ofNat 32 v }
  | 0x10 => s.updRing i fun r => r.writeCtrl v
  | 0x14 => locked fun r => { r with log2 := v % 32 }
  | 0x1C =>
    if 2 ^ r.log2 ≤ v % 0x100000 then s.updRing i fun r => { r with configErr := true }
    else (s.updRing i fun r => { r with cidx := v % 0x100000 }).ringDrain i
  | 0x20 =>
    let fresh := r.faultSet == some s.clock.up
    s.updRing i fun r => { r with configErr := r.configErr && !bitOf v 1, mirrorFault := r.mirrorFault && (!bitOf v 0 || fresh) }
  | _ => s

/-- A write to a global register; `ring n` is what a doorbell does. -/
def State.globalWrite (s : State) (ring : Nat → State → State) (o v : Nat) : State :=
  let w := BitVec.ofNat 32 v
  if 0x100 ≤ o ∧ o < 0x180 then
    let n := (o - 0x100) / 16
    match o % 16 with
    | 0x0 => if bitOf v 0 then ring n s else s
    | 0x8 => s.updMbx n fun m => { m with irq := w &&& 0x800000FF#32 }
    | 0xC => s.updMbx n fun m => { m with err := m.err &&& ~~~(w &&& (if m.stallSet = some s.clock.up then 2#32 else 3#32)) }
    | _ => s
  else match o with
  | 0x008 => { s with pcie := { s.pcie with glbErr := s.pcie.glbErr &&& ~~~(w &&& 0x1F#32) } }
  | 0x00C => s.resetCtrl v
  | 0x018 => { s with pcie := { s.pcie with apLo := w &&& 0xFC000000#32
                                            apBase := (s.pcie.apHi.toNat % 32) * 0x100000000 + (w &&& 0xFC000000#32).toNat } }
  | 0x01C => { s with pcie := { s.pcie with apHi := w &&& 0x1F#32 } }
  | 0x020 => { s with pcie := { s.pcie with scratch := w } }
  | _ => s

/-- BLW_LATCH bits that Bellows sets at this very instant: a write of 1 in the same cycle leaves them set (R9) (DEDUCED, log entry 113). -/
def State.latchFresh (s : State) : BitVec 32 := if s.bellows.latchSet.1 = s.clock.up then s.bellows.latchSet.2 else 0

/-- A write to the MSI-X table: a vector that is no longer masked sends its pending message (PRESUMED, log entry 143). -/
def State.msixWrite (s : State) (o v : Nat) : State :=
  let s := { s with pcie := { s.pcie with msixTable := overwrite s.msixBytes o (le 4 v) } }
  let n := o / 16
  if s.pcie.pba.getLsbD n && !s.msixMasked n && s.hostReach then
    ({ s with pcie := { s.pcie with pba := s.pcie.pba &&& ~~~(BitVec.ofNat 256 (2 ^ n)) } }).emit (.msix n)
  else s

/-- A 32-bit write to a register block. -/
def State.regWrite (s : State) (ring : Nat → State → State) (off v : Nat) : State :=
  match blockOf off with
  | some .globals => s.globalWrite ring (off - globalOff) v
  | some .rings => s.ringWriteReg ((off - ringOff) / 0x40) (off % 0x40) v
  | some .recorder => if off = recorderOff then { s with recorder := { s.recorder with cursor := BitVec.ofNat 32 v &&& 0x3FFFFC#32 } } else s
  | some .bellows =>
    if off = bellowsOff + 8 then { s with bellows := { s.bellows with latch := s.bellows.latch &&& ~~~(BitVec.ofNat 32 v &&& 0x1F#32 &&& ~~~s.latchFresh) } } else s
  | some .msix => s.msixWrite (off - msixOff) v
  | _ => s

/-- A BAR0 write (R30): lower address first; the Cruise table and response areas ignore it. -/
def State.bar0Write (s : State) (ring : Nat → State → State) (off : Nat) (bytes : List Byte) : State :=
  if !s.barLive then s else
  match accessOf off bytes.length with
  | .unmapped => s.glbErrSet 0
  | .bad => s.glbErrSet 1
  | .ok .cruise | .ok (.response _) | .ok .pba => s
  | .ok (.command k) => s.updMbx k fun m => { m with cmdArea := overwrite m.cmdArea (off % 0x1000) bytes }
  | .ok _ =>
    let s := s.regWrite ring off (u32 bytes 0)
    if bytes.length = 8 then s.regWrite ring (off + 4) (u32 bytes 4) else s

/-- A ring's coalescing wait ends (R89). -/
def State.coalesce (s : State) (i : Nat) : State :=
  let r := s.ring i
  if r.enabled && s.hostReach && r.unsignalled != 0 && r.coalWait != 0 && s.since r.oldest r.coalWait then
    (s.msixSend r.vector).updRing i fun r => { r with unsignalled := 0 }
  else s

/-- A write to host memory fails (R58): the ring is disabled. -/
def State.mirrorFault (s : State) (i : Nat) : State :=
  if !(s.ring i).enabled then s else s.updRing i fun r => { r.disable with mirrorFault := true, faultSet := some s.clock.up }

/-! ### BAR2 (R53, R54, R105, R349, R361) -/

/-- Host boot before Standby: the boot buffer stands at BAR2 offsets 0 to 16 MiB − 1 (R105). -/
def State.hostBoot (s : State) : Bool := s.modes.bootSource == 1 && s.modes.bootStage != 4

/-- EV_APERTURE_FAULT, at most once per millisecond and only from Standby on (R54, R105). -/
def State.apertureFault (s : State) (a : Nat) : State :=
  let s := s.glbErrSet 2
  if !s.modes.standby || (s.pcie.apFaultAt.any fun t => !s.since t (ms 1)) then s
  else ({ s with pcie := { s.pcie with apFaultAt := some s.clock.up } }).raise evApertureFault noUnit [lo32 a, hi32 a]

/-- The frame store serves the aperture at an address: below 128 GiB, in a region with the ACCESS bit, its die's stacks
trained and not in a full training pass. -/
def State.apertureOk (s : State) (a bit : Nat) : Bool :=
  a < 128 * gib && bitOf (regionAccess (regionOf a)) bit && s.storeUp (a / (64 * gib)) && !s.fs.fullPass (a / (64 * gib))

/-- Pieces of a span that lie in one granule each: address, length (DEDUCED, log entry 80). -/
def granules : (fuel a n : Nat) → List (Nat × Nat)
  | 0, _, _ => []
  | k + 1, a, n =>
    if n = 0 then [] else
    let len := min n (256 - a % 256)
    (a, len) :: granules k (a + len) (n - len)

/-- Offset and bytes of each kerf's concealment entries in the concealment region of a die (R181, R246). -/
def State.concealBlocks (s : State) (die : Nat) : List (Nat × List Byte) :=
  ((List.range s.stands.length).filter fun i => s.dieOfStand i == die).flatMap fun i =>
    let st := s.stand i
    (addAll [] (st.cal.entries.map fun e => kerfOfEmitter e.1)).map fun k => (64 * (st.kerf k).concealPtr, st.cal.kerfEntries k)

/-- A byte of the concealment and maps region: that of a kerf's entries where one lies there, else a free value, for R224 and R246 place
nothing else (DESIGN CHOICE, log entry 14). -/
def State.mapsByte (s : State) (a free : Nat) : Byte :=
  let off := a % (64 * gib) - 49 * gib
  match (s.concealBlocks (a / (64 * gib))).find? fun b => b.1 ≤ off && off < b.1 + b.2.length with
  | some b => byteAt b.2 (off - b.1)
  | none => BitVec.ofNat 8 (Config.freeValue free)

/-- The aperture reads a poisoned granule (R358): counted, the completion's poisoned bit set, and reported through AER. -/
def State.poisonRead (s : State) (a : Nat) : State :=
  let s := s.updPc (pcOf a) fun c => { c with poisonReads := (c.poisonReads + 1) % 0x100000000 }
  { s with pcie := { s.pcie with lastPoison := true, aer := s.pcie.aer + 1 } }

/-- Data of the granules a BAR2 read covers; the concealment and maps region reads as `mapsByte` says. -/
def State.apertureRead (s : State) : List (Nat × Nat) → List Byte × State
  | [] => ([], s)
  | (a, n) :: rest =>
    let here : List Byte × State :=
      if !s.apertureOk a 0 then (List.replicate n 0xFF, s.apertureFault a)
      else if s.isPoisoned a then (List.replicate n 0xFF, s.poisonRead a)
      else if regionOf a = 9 then
        ((List.range n).map fun i => s.mapsByte (a + i) (s.security.free + i),
          { s with security := { s.security with free := s.security.free + n } })
      else (Mem.reads s.fs.mem a n, s.request [(a, n)])
    let r := here.2.apertureRead rest
    (here.1 ++ r.1, r.2)

/-- An access that BAR2 accepts: 1 to 512 bytes that do not cross a 4 KiB boundary (R361). -/
def bar2Fits (off n : Nat) : Bool := 1 ≤ n && n ≤ 512 && off / 4096 == (off + n - 1) / 4096

/-- A BAR2 read, judged per granule (R54); in host boot the offsets below 16 MiB read the boot buffer (R105).  It shows that the host's earlier writes to the dies it reads are done (R345) (DEDUCED, log entry 80). -/
def State.bar2Read (s : State) (off n : Nat) : State :=
  if !s.barLive ∨ !bar2Fits off n then s
  else if s.hostBoot then
    let inside := min n (0x1000000 - off)
    let s := if inside < n then s.apertureFault (max off 0x1000000) else s
    s.returned (slice s.security.bootBuffer off inside ++ List.replicate (n - inside) 0xFF)
  else
    let a := s.pcie.apBase + off
    let r := ({ s with pcie := { s.pcie with lastPoison := false } }).apertureRead (granules (n / 256 + 2) a n)
    let die := BitVec.ofNat 2 (if a < 64 * gib then 1 else 2)
    { r.2.returned r.1 with pcie := { (r.2.returned r.1).pcie with hostWrites := s.pcie.hostWrites &&& ~~~die, lastPoison := r.2.pcie.lastPoison } }

/-- The granules of a BAR2 write; in either ordering mode what follows sees the bytes at once (R345) (DESIGN CHOICE, log entry 135). -/
def State.apertureWrite (s : State) (a : Nat) (bytes : List Byte) : Nat → State
  | 0 => s
  | k + 1 =>
    if bytes = [] then s else
    let n := min bytes.length (256 - a % 256)
    let s :=
      if !s.apertureOk a 1 then s.apertureFault a
      else
        let s := s.request [(a, n)]
        { s with fs := { s.fs with mem := Mem.writes s.fs.mem a (bytes.take n), poisoned := clearPoison s.fs.poisoned a n }
                 pcie := { s.pcie with hostWrites := if s.settings.ordering = 1 then s.pcie.hostWrites ||| BitVec.ofNat 2 (if a < 64 * gib then 1 else 2)
                                                     else s.pcie.hostWrites } }
    s.apertureWrite (a + n) (bytes.drop n) k

/-- BOOT_STAGE changes (R49): the 0x0010 record, with the rollback value of the manifest in hand (R451). -/
def State.setStage (s : State) (stage rollback : Nat) : State :=
  let s := { s with modes := { s.modes with bootStage := stage, stageAt := s.clock.up } }
  s.recFixed 0x0010 [stage, s.modes.bootSource, s.modes.slot, rollback, s.security.fuses]

/-- A write into the boot buffer (R105), judged per granule (R54): what lies at or above 16 MiB is dropped; one that leaves "BOOT" in bytes 0 to 3 starts verification. -/
def State.bootWrite (s : State) (off : Nat) (bytes : List Byte) : State :=
  let inside := min bytes.length (0x1000000 - off)
  let s := if inside < bytes.length then s.apertureFault (max off 0x1000000) else s
  if inside = 0 then s
  else
    let s := { s with security := { s.security with bootBuffer := overwrite s.security.bootBuffer off (bytes.take inside) } }
    if off < 4 ∧ bytes ≠ [] ∧ u32 s.security.bootBuffer 0 = 0x544F4F42 ∧ (s.modes.bootStage = 0 ∨ 0xE1 ≤ s.modes.bootStage) then
      s.setStage 1 0
    else s

/-- A BAR2 write. -/
def State.bar2Write (s : State) (off : Nat) (bytes : List Byte) : State :=
  if !s.barLive ∨ !bar2Fits off bytes.length then s
  else if s.hostBoot then s.bootWrite off bytes
  else s.apertureWrite (s.pcie.apBase + off) bytes (bytes.length / 256 + 2)

/-! ### Resets of the function (R28, R29, R103, R498) -/

/-- Function-level reset (R28): host-facing registers take their reset values; a running command's response is discarded and a
pending command is lost (DEDUCED, log entries 80, 96). -/
def State.flr (s : State) : State :=
  { s with
    pcie := { s.pcie with glbErr := 0, scratch := 0, apLo := 0, apHi := 0, apBase := 0, msixTable := [], pba := 0, revRead := false, lastRead := []
                          d3hot := false, hostWrites := 0 }
    recorder := { s.recorder with cursor := 0 }
    rings := (List.range 4).map fun r => { ringReset r with held := [] }
    mailboxes := s.mailboxes.mapIdx fun n m => { mailboxReset n with cmdArea := m.cmdArea, rspArea := m.rspArea } }

end Sys2Proof.Machine
end

