-- ==== Sys2Proof/Machine/Faults.lean ====
section
/-! DEFINITION. Fault containment and the leadership lease (R405 to R425): regions, isolation, the error queues, handlers,
retirement and escalation; the lease, self-fencing and the reset of management complexes; reed sparing and section spread
(R191, R193). -/

namespace Sys2Proof.Machine

/-! ### Complexes and the lease (R419 to R422) -/

/-- A complex runs: it passed its self-test, is not fenced or held in reset, and its cores make progress. -/
def Complex.runs (c : Complex) : Bool := c.present && c.passed && !c.fenced && !c.inReset && !c.stopped && !c.absent

/-- The complex that supervises a die: its own, or the other once that holds the lease (R422) (DEDUCED, log entry 90). -/
def State.supervisor (s : State) (die : Nat) : Option Nat :=
  if (s.complex die).runs && (s.complex die).supervises then some die
  else if (s.complex (otherDie die)).runs && s.bellows.holder == some (otherDie die) then some (otherDie die)
  else if (s.complex die).runs && s.bellows.holder == some die then some die
  else none

/-- The lease ends by a lapse or a release (R419): FW_UP falls with it; `cause` is that of the next grant (R423). -/
def State.leaseEnd (s : State) (cause : Nat) : State :=
  match s.bellows.holder with
  | none => s
  | some d =>
    let s := { s with bellows := { s.bellows with holder := none, role := none, roleDue := false, grantCause := cause } }
    s.updComplex d fun c => { c with lapseAt := some s.clock.up }

/-- Bellows grants the lease (R419): EPOCH advances, the role follows at the next tick (R423) (DEDUCED, log entry 76). -/
def State.grant (s : State) (d : Nat) : State :=
  let epoch := (s.bellows.epoch + 1) % 0x1000000
  let s := { s with bellows := { s.bellows with
    holder := some d, epoch := epoch, renewAt := s.clock.up, missed := 0, roleDue := true, bothReset := none
    complexes := s.bellows.complexes.map fun (c : Complex) => if c.stopped then c else { c with epochSeen := epoch } } }
  (s.updComplex d fun c => { c with lapseAt := none }).recFixed 0x0020 [d, epoch, s.bellows.grantCause]

/-- A request of a complex is valid (R419). -/
def State.mayRequest (s : State) (d : Nat) : Bool := (s.complex d).runs && (s.complex d).epochSeen == s.bellows.epoch

/-- Requests of one arbitration cycle (R110, R419), which Bellows notes: the first valid one is granted while no lease is held; LEAD_PREF decides
between two. -/
def State.leaseRequest (s : State) (west east : Bool) : State :=
  let w := west && s.mayRequest 0
  let e := east && s.mayRequest 1
  let s := { s with bellows := { s.bellows with complexes := s.bellows.complexes.mapIdx fun d (c : Complex) =>
    if (d = 0 ∧ w) ∨ (d = 1 ∧ e) then { c with requested := true } else c } }
  if s.bellows.holder.isSome then s
  else if w && e then s.grant s.modes.leadPref
  else if w then s.grant 0
  else if e then s.grant 1
  else s

/-! ### Regions -/

/-- Regions of each kind (R405). -/
def regionExists (kind unit : Nat) : Bool :=
  match kind with
  | 1 => unit < 17408
  | 2 => unit < 544
  | 3 | 4 => unit < 16
  | 5 => unit < 128
  | 6 => unit < 8
  | 7 => unit = 0
  | 8 | 9 => unit < 2
  | 10 => 69 ≤ unit && unit ≤ 81
  | _ => false

/-- The record of a region; a region away from every error is in service. -/
def Faults.region (f : Faults) (kind unit : Nat) : RegionRec :=
  (f.regions.find? fun r => r.kind == kind && r.unit == unit).getD { kind := kind, unit := unit }

/-- Stores a region's record, by KIND and UNIT. -/
def putRegion (r : RegionRec) : List RegionRec → List RegionRec
  | [] => [r]
  | x :: xs =>
    if r.kind < x.kind ∨ (r.kind = x.kind ∧ r.unit < x.unit) then r :: x :: xs
    else if r.kind = x.kind ∧ r.unit = x.unit then r :: xs else x :: putRegion r xs

def State.updRegion (s : State) (kind unit : Nat) (f : RegionRec → RegionRec) : State :=
  { s with faults := { s.faults with regions := putRegion (f (s.faults.region kind unit)) s.faults.regions } }

/-- The region is being handled: its record waits in a queue, or its handler runs (R410). -/
def RegionRec.handled (r : RegionRec) : Bool := r.state == 0 || r.state == 1

/-- The region is fenced (R410, R430). -/
def RegionRec.fenced (r : RegionRec) : Bool := r.state == 2 || (r.handled && (2 ≤ r.records || r.retest))

/-- The region that contains a region (R414): a lane its reed, a reed its section, what lies on a compute die that die. -/
def outerRegion (kind unit : Nat) : Option (Nat × Nat) :=
  match kind with
  | 1 => some (2, unit / 32)
  | 2 => some (3, unit / 34)
  | 3 | 4 | 5 | 6 | 7 | 8 => some (9, regionDie kind unit)
  | _ => none

/-- The nearest containing region that is being handled (R410). -/
def State.outerHandled (s : State) : (fuel kind unit : Nat) → Option (Nat × Nat)
  | 0, _, _ => none
  | k + 1, kind, unit =>
    match outerRegion kind unit with
    | none => none
    | some o => if (s.faults.region o.1 o.2).handled then some o else s.outerHandled k o.1 o.2

/-- The complex whose queue takes a region's record (R409): its die's own; the other's for a complex or a die; the chanter's
for an I/O block; the one that supervises in its place (DEDUCED, log entry 75). -/
def State.queueOf (s : State) (kind unit : Nat) : Nat :=
  let d := if kind = 8 ∨ kind = 9 then otherDie unit else if kind = 10 then s.bellows.role.getD 0 else regionDie kind unit
  (s.supervisor d).getD d

/-- Records that await a handler in a complex's queue. -/
def State.queued (s : State) (die : Nat) : List RegionRec :=
  s.faults.regions.filter fun r => r.state == 0 && s.queueOf r.kind r.unit == die

def fatalKind (k : Nat) : Bool := k == 8 || k == 9

/-- The oldest of some records. -/
def oldestRec (l : List RegionRec) : Option RegionRec :=
  l.foldl (fun (b : Option RegionRec) r => match b with | none => some r | some x => some (if r.order < x.order then r else x)) none

/-- A record that arrives at a full queue merges the oldest non-fatal record into the overflow record (R411). -/
def State.makeRoom (s : State) (die : Nat) : State :=
  if (s.queued die).length < 64 then s else
  match oldestRec ((s.queued die).filter fun r => !fatalKind r.kind) with
  | none => s
  | some r =>
    let s := s.updRegion r.kind r.unit fun r => { r with state := 2, merged := true, out := true, fencedAt := s.clock.up }
    let f := s.faults
    let s := { s with faults := { f with
      overflow := upd f.overflow die fun n => (n + 1) % 0x100000000
      overKinds := f.overKinds ||| BitVec.ofNat 16 (2 ^ r.kind), overSince := upd f.overSince die (· + 1) } }
    let n := s.faults.overSince.getD die 0
    let s := s.recFixed 0x0043 [n, die]
    if (s.faults.overAt.getD die none).any (fun t => !s.since t (sec 1)) then s
    else ({ s with faults := { s.faults with overAt := upd s.faults.overAt die (fun _ => some s.clock.up)
                                             overSince := upd s.faults.overSince die fun _ => 0 } }).raise evErrOverflow noUnit [n]

/-! ### What isolation, fencing and restoring do (R408, R412, R414, R415) -/

/-- STATE of a reed. -/
def State.setReed (s : State) (n v : Nat) : State := { s with faults := { s.faults with reeds := upd s.faults.reeds n fun _ => v } }

/-- Frames that a decoder decodes are discarded with a decode error (R139). -/
def State.decoderFails (s : State) (k cause : Nat) : State :=
  forEach (List.range 8) s fun n s =>
    match s.stream n with
    | none => s
    | some st =>
      if !st.decoders.any (fun e => e.2.1 == k) then s else
      let carried (f : SceneFrame) : Bool := (st.dueSubs f).any fun sub => st.decoders.any fun e => e.1 == sub && e.2.1 == k
      let lost := st.frames.filter fun f => f.released && !f.decoded && !f.bad && carried f
      if lost = [] then s else
      (s.updStream n fun st => { lost.foldl (fun st f => st.updFrame f.num fun f => { f with bad := true }) st with awaitRap := true }).decodeError n k cause

/-- A decoder is lost (R139 cause 6): its streams are assigned anew at the next random-access point. -/
def State.decoderLost (s : State) (k v : Nat) : State :=
  let s := { s with ingest := { s.ingest with decState := upd s.ingest.decState k fun _ => v } }
  let s := s.decoderFails k 6
  forEach (List.range 8) s fun n s =>
    s.updStream n fun st => if st.decoders.any fun e => e.2.1 == k then { st with reassign := true } else st

/-- A link is taken out of service: STAND_SAFE asserted, STATE 0, no event of its own (DEDUCED, log entry 58). -/
def State.linkOut (s : State) (l : Nat) : State :=
  let s := s.updLink l fun k => { k with state := 0, doze := 0, recovering := none, cmds := [], everUp := false, attempts := 0 }
  (s.assertSafe l).onLink l fun st => { st.unknownInFlight with seen := false, reported := false, kss := 0, kssDue := false, dark := true }

/-- The fallback route of a die (R416): its own bridge, or the other die's and the East–West bridge, which either one keeps up (DEDUCED, log entry 64). -/
def State.hasRoute (s : State) (die : Nat) : Bool := !s.regionOut 10 (79 + die) || !s.regionOut 10 (79 + otherDie die)

/-- The instants at which complexes lost their routes. -/
def State.settleRoutes (s : State) : State :=
  let lost := s.faults.routeLostAt.mapIdx fun d (t : Option Nat) => if s.hasRoute d then none else if t.isSome then t else some s.clock.up
  { s with faults := { s.faults with routeLostAt := lost } }

/-- A complex stops issuing and asks Bellows for its reset (R421); the lease it holds is released; its handlers' records wait (DEDUCED, log entry 75). -/
def State.selfFence (s : State) (d cause cls : Nat) : State :=
  let c := s.complex d
  if c.fenced then s else
  let s := s.recFixed 0x0021 [d, cause]
  let s := if s.bellows.holder = some d then s.leaseEnd 2 else s
  let s := s.updComplex d fun c => { c with fenced := true, passed := false, supervises := false, fenceAt := some s.clock.up }
  let requeued := s.faults.regions.map fun (r : RegionRec) => if r.state == 1 && r.handler == d then { r with state := 0 } else r
  { s with
    modes := { s.modes with drone := 0 }
    faults := { s.faults with regions := requeued }
    bellows := { s.bellows with selfFences := (s.bellows.selfFences + 1) % 0x100000000
                                fenceEvents := s.bellows.fenceEvents ++ [(d, cause, cls)] } }

/-- An I/O block is held in reset, or fenced: its domain is out of service (R408); every reset of the security domain erases the key slots
(R132), a skyline port dies (R418), the recorder takes no records. -/
def State.blockOff (s : State) (n : Nat) : State :=
  let s := s.setDomain n 2
  match (domainInfo n).2.1 with
  | 11 => s.portDead (domainInfo n).2.2 true
  | 12 => s.eraseAllKeys
  | 13 => { s with recorder := { s.recorder with inReset := true } }
  | 15 => s.settleRoutes
  | _ => s

/-- Scene frames being placed are discarded, cause 8 of R122. -/
def State.ingestLost (s : State) : State :=
  forEach (List.range 8) s fun n s =>
    match s.stream n with
    | none => s
    | some st =>
      let lost := st.frames.filter fun f => f.seen && !f.complete
      lost.foldl (fun s f => (s.updStream n fun st => st.discard f.num).queueError n 0 8) s

/-- Held records are written once the recorder resumes. -/
def State.recorderResumes (s : State) : State :=
  let l := s.recorder.held
  let s := { s with recorder := { s.recorder with inReset := false, held := [] } }
  l.foldl (fun s r => { s with recorder := s.recorder.put s.nowNs s.clock.up r }) s

/-- Device time and the tick ran on in holdover from Bellows' own count; no cause of R393 is this one, so no event (DEDUCED, log entry 72). -/
def State.timeBaseBack (s : State) : State :=
  if s.tb.source = 0 then s
  else { s with tb := { s.tb with state := 3, slewNs := 0, lockRun := 0, needStep := true, pendingStep := none, reportedStep := none } }

/-- An I/O block resumes from its reset (R418): its domain is on again, with the effect its kind has. -/
def State.blockOn (s : State) (n : Nat) : State :=
  let s := (s.setDomain n 1).settleRoutes
  match (domainInfo n).2.1 with
  | 9 => s.flr
  | 10 => s.ptpRestart (domainInfo n).2.2
  | 11 => s.portDead (domainInfo n).2.2 true
  | 12 => s.eraseAllKeys
  | 13 => s.recorderResumes
  | 14 => s.timeBaseBack
  | 16 => s.ingestLost
  | _ => s

/-- Isolation at the error, by hardware (R408). -/
def State.isolate (s : State) (kind unit : Nat) : State :=
  let s := if kind = 4 ∨ kind = 5 then s else s.updRegion kind unit fun r => { r with out := true, fencedAt := s.clock.up }
  match kind with
  | 1 => s.maskLane unit
  | 2 =>
    let active := s.faults.reeds.getD unit 0 == 0
    let s := (s.setReed unit 2).dropReeds (· == unit)
    if active then { s with faults := { s.faults with promote := addOnce s.faults.promote unit } } else s
  | 3 =>
    let s := s.dropReeds (fun r => r / 34 == unit)
    { s with faults := { s.faults with spreadDue := addOnce s.faults.spreadDue unit, backDue := s.faults.backDue.filter (· != unit)
                                       backSeen := s.faults.backSeen.filter (· != unit) } }
  | 4 => s.startRecovery unit
  | 6 => s.decoderLost unit 2
  | 7 => s.blitDiscard
  | 9 => { s with bellows := { s.bellows with resetDue := upd s.bellows.resetDue unit fun n => if n = 0 then 2 else n } }
  | 10 => s.blockOff unit
  | _ => s

/-- What a region's fencing brings about beside its isolation: a link is taken down, a pseudo-channel is copied into the other
die's reserve while that is free (R415) (DEDUCED, log entry 58). -/
def State.fenceEffect (s : State) (kind unit : Nat) : State :=
  match kind with
  | 4 => s.linkOut unit
  | 5 =>
    let used := s.fs.reserveCopy.any (fun n => n / 64 == unit / 64) || s.fs.pcs.any fun c => c.reserve && c.pc / 64 == unit / 64
    if used then s else { s with fs := { s.fs with reserveCopy := s.fs.reserveCopy ++ [unit] } }
  | 10 => s.blockOff unit
  | _ => s

/-- What a region's retirement does: the states its Cruise entry shows, and what fencing does (R412). -/
def State.retireEffect (s : State) (kind unit : Nat) : State :=
  match kind with
  | 2 => (s.setReed unit 3).dropReeds (· == unit)
  | 6 => s.decoderLost unit 3
  | 8 => s.updComplex unit fun c => { c with present := false }
  | _ => s.fenceEffect kind unit

/-- The successor a 0x0042 record names: the spare reed that replaced a reed (R451). -/
def State.successor (s : State) (kind unit : Nat) : Nat :=
  if kind = 2 then lookupD s.faults.spared unit 0xFFFFFFFF else 0xFFFFFFFF

/-- A region is retired (R412) (DEDUCED, log entry 57). -/
def State.retire (s : State) (kind unit : Nat) : State :=
  let s := s.updRegion kind unit fun r => { r with state := 3, out := true, retest := false }
  let s := s.retireEffect kind unit
  let f := s.flash
  let s := { s with flash := { f with retireList := if f.retireList.length < 1024 ∧ !f.retireList.contains (kind, unit) then
                                        f.retireList ++ [(kind, unit)] else f.retireList } }
  (s.recFixed 0x0042 [kind, unit, 2, s.successor kind unit]).raise evRegionRetired unit [kind]

/-- A region is fenced with the records it holds (DEDUCED, log entry 93). -/
def State.fenceRegion (s : State) (kind unit : Nat) : State :=
  let n := (s.faults.region kind unit).records
  let s := (s.fenceEffect kind unit).recFixed 0x0042 [kind, unit, 1, s.successor kind unit]
  s.raise evRegionFenced unit [kind, n]

/-- What follows an error of one region, by the state it is in (R410, R411, R412) (DEDUCED, log entry 74). -/
def State.recordError (s : State) (kind unit cls : Nat) : State :=
  let r := s.faults.region kind unit
  let times := s.recent24 r.times ++ [s.clock.up]
  let now := s.nowNs
  let s := s.raise evRegionError unit [kind, cls]
  let s := s.updRegion kind unit fun r => { r with times := times, cls := cls, lastTime := now }
  if 3 ≤ times.length then
    (if r.state = 4 then (s.isolate kind unit).updRegion kind unit fun r => { r with records := 1, firstTime := now } else s).retire kind unit
  else if r.handled then
    let s := s.updRegion kind unit fun r => { r with records := sat 255 (r.records + 1), out := true, fencedAt := s.clock.up, startAt := s.clock.up }
    let s := s.fenceRegion kind unit
    if r.state = 1 then s.recFixed 0x0040 [kind, unit, cls, r.records + 1, times.length] else s
  else if r.state = 2 then s
  else
    let s := (s.isolate kind unit).makeRoom (s.queueOf kind unit)
    let order := s.faults.nextOrder
    let s := { s with faults := { s.faults with nextOrder := order + 1 } }
    s.updRegion kind unit fun r => { r with state := 0, records := 1, firstTime := now, merged := false, retest := false, order := order }

/-- An error of a region (R409, R410); one inside a region being handled is an error of that region (DEDUCED, log entries 57, 93). -/
def State.regionError (s : State) (kind unit cls : Nat) : State :=
  if !regionExists kind unit ∨ (s.faults.region kind unit).state = 3 then s else
  match s.outerHandled 4 kind unit with
  | some o => s.recordError o.1 o.2 cls
  | none => s.recordError kind unit cls

/-- Fenced and retired lanes of a reed (R414). -/
def State.lanesOut (s : State) (reed : Nat) : Nat :=
  (s.faults.regions.filter fun r => r.kind == 1 && r.unit / 32 == reed && (r.fenced || r.state == 3)).length

/-- Escalation upward (R414): a reed with a second fenced lane, a die whose complex and route have failed. -/
def State.escalate (s : State) : State :=
  let reeds := (s.faults.regions.filter fun r => r.kind == 1 && (r.fenced || r.state == 3)).map fun r => r.unit / 32
  let s := reeds.eraseDups.foldl (fun s n =>
    if 2 ≤ s.lanesOut n && (s.faults.region 2 n).state == 4 then s.regionError 2 n 5 else s) s
  forEach [0, 1] s fun d s =>
    if (s.complex d).fenced && !s.hasRoute d && (s.faults.region 9 d).state == 4 then s.regionError 9 d 5 else s

/-- An error of a complex: it fences itself, and the other complex reports and handles it; a further error before its handler
ends is a second error of the region (DEDUCED, log entry 75). -/
def State.complexError (s : State) (d cause cls : Nat) : State :=
  if (s.complex d).fenced then (if (s.faults.region 8 d).handled then s.recordError 8 d cls else s) else s.selfFence d cause cls

/-- A firmware fault, class 6, ends the running command that it struck with INTERNAL, without effect (R70, R406). -/
def State.internal (s : State) (cls : Nat) (hit : Option (Fin 8)) : State :=
  match (if cls = 6 then hit else none) with
  | some n =>
    if (s.mbx n).state ≠ 2 then s else
    let c := Cmd.parse n (s.mbx n).running
    s.complete c (({ status := stInternal } : Err).resp c)
  | none => s

/-- An error that hardware sees, and what it escalates to. -/
def State.hardwareError (s : State) (kind unit cls : Nat) : State :=
  if kind = 8 ∧ unit < 2 ∧ (s.outerHandled 4 8 unit).isNone ∧ (s.faults.region 8 unit).state ≠ 3 then (s.complexError unit 5 cls).escalate
  else (s.regionError kind unit cls).escalate

/-- Kinds with a watchdog (R408). -/
def watched (kind : Nat) : Bool := kind == 2 || kind == 3 || kind == 5 || kind == 6 || kind == 7 || kind == 8 || kind == 10

/-- A region's watchdog expires; a core watchdog is a self-fence (R421 cause 4). -/
def State.watchdog (s : State) (kind unit : Nat) : State :=
  if !watched kind || !regionExists kind unit then s
  else if kind = 8 then (s.complexError unit 4 3).escalate
  else s.hardwareError kind unit 3

/-! ### Handlers (R409, R413) -/

/-- The record whose handler a complex runs. -/
def State.handling (s : State) (die : Nat) : Option RegionRec := s.faults.regions.find? fun r => r.state == 1 && r.handler == die

/-- The next record a free complex takes: fatal records first, then the oldest. -/
def State.nextRecord (s : State) (die : Nat) : Option RegionRec :=
  match oldestRec ((s.queued die).filter fun r => fatalKind r.kind) with
  | some r => some r
  | none => oldestRec (s.queued die)

/-- A free complex starts the next handler: step 1 of R409 (DEDUCED, log entry 74). -/
def State.handlerStart (s : State) (die : Nat) : State :=
  if !(s.complex die).runs || (s.handling die).isSome then s else
  match s.nextRecord die with
  | none => s
  | some r =>
    let s := s.updRegion r.kind r.unit fun r => { r with state := 1, handler := die, startAt := s.clock.up }
    s.recFixed 0x0040 [r.kind, r.unit, r.cls, r.records, (s.recent24 r.times).length]

/-- Test limit of a kind (R408). -/
def testLimit : Nat → Nat
  | 1 | 10 => ms 1
  | 2 | 6 => ms 5
  | 3 => ms 10
  | 4 | 7 => ms 2
  | 5 => us 500
  | _ => ms 600

/-- What a passed test restores (R408); a link that its fencing took down comes up again (DEDUCED, log entry 58). -/
def State.restoreEffect (s : State) (kind unit : Nat) : State :=
  match kind with
  | 2 =>
    let s := { s with faults := { s.faults with spared := removeKey s.faults.spared unit } }
    s.setReed unit 1
  | 3 => { s with faults := { s.faults with backDue := addOnce s.faults.backDue unit, spreadDue := s.faults.spreadDue.filter (· != unit) } }
  | 6 => ({ s with ingest := { s.ingest with decState := upd s.ingest.decState unit fun _ => 0 } }).decoderStates
  | 8 => s.updComplex unit fun c => { c with fenced := false }
  | 4 => if s.modes.mode != 0 && s.settings.linksUsed.contains unit && (s.link unit).state == 0 && (s.settings.links.getD unit {}).rate != 0 then
      (s.updLink unit fun k => { k with attempts := 0 }).startBringup unit else s
  | 10 => if s.domain unit = 2 then s.blockOn unit else s.settleRoutes
  | _ => s

/-- The running handler ends with a restored region. -/
def State.handlerPass (s : State) (r : RegionRec) : State :=
  let s := s.updRegion r.kind r.unit fun r => { r with state := 4, out := false, records := 0, retest := false, merged := false }
  (s.restoreEffect r.kind r.unit).recFixed 0x0042 [r.kind, r.unit, 0, 0xFFFFFFFF]

/-- The running handler ends with a fenced region; a failed retest, `failed`, counts as an error (R412, R413); of a record that holds two errors
the fencing was told before (R410) (DEDUCED, log entry 74). -/
def State.handlerFail (s : State) (r : RegionRec) (failed : Bool) : State :=
  let again : Bool := r.retest && failed
  let times := if again then s.recent24 r.times ++ [s.clock.up] else r.times
  let s := s.updRegion r.kind r.unit fun r => { r with
    state := 2, out := true, retest := false, times := times, fencedAt := if r.retest then r.fencedAt else s.clock.up }
  let s := if again then (s.updRegion r.kind r.unit fun r => { r with cls := 8, lastTime := s.nowNs }).raise evRegionError r.unit [r.kind, 8] else s
  if again && 3 ≤ times.length then s.retire r.kind r.unit
  else if 2 ≤ r.records then s else s.fenceRegion r.kind r.unit

/-- Instant from which a handler's test runs (R408): its start, for a pseudo-channel the next scan-out gap, once it has come. -/
def State.testFrom (s : State) (r : RegionRec) : Option Nat :=
  let gap := s.gapAt
  let frame := 4 * subPeriod s.clock.rate
  if r.kind ≠ 5 then some r.startAt
  else if r.startAt + frame ≤ gap then some (gap - frame)
  else if r.startAt ≤ gap ∧ gap ≤ s.clock.up then some gap
  else none

/-- A handler's test ends (`result` 0 pass, 1 fail, 2 limit exceeded), once it runs; one that holds two errors never restores. -/
def State.handlerEnd (s : State) (die result : Nat) : State :=
  match s.handling die with
  | none => s
  | some r =>
    if (s.testFrom r).isNone then s else
    let s := s.recFixed 0x0041 [r.kind, r.unit, result, (s.clock.up - r.startAt) / 3000, b2n r.retest]
    if result = 0 && r.records < 2 then s.handlerPass r else (s.handlerFail r (result != 0)).escalate

/-- A handler exceeds its test limit by 100 % (R409). -/
def State.handlerTimeout (s : State) (die : Nat) : State :=
  match s.handling die with
  | none => s
  | some r => if (s.testFrom r).any fun t => s.since t (2 * testLimit r.kind) then s.handlerEnd die 2 else s

/-- A fenced region is retested 1 h after it was fenced and every hour after (R413) (DEDUCED, log entry 74). -/
def State.regionRetest (s : State) (kind unit : Nat) : State :=
  let r := s.faults.region kind unit
  if r.state ≠ 2 ∨ !s.since r.fencedAt (hours 1) then s else
  let s := s.makeRoom (s.queueOf kind unit)
  let order := s.faults.nextOrder
  let s := { s with faults := { s.faults with nextOrder := order + 1 } }
  s.updRegion kind unit fun r => { r with state := 0, records := 1, cls := 8, retest := true, fencedAt := s.clock.up, order := order }

/-- The copy of a fenced pseudo-channel into the other die's reserve ends (R415). -/
def State.reserveCopied (s : State) (n : Nat) : State :=
  if !s.fs.reserveCopy.contains n then s else
  ({ s with fs := { s.fs with reserveCopy := s.fs.reserveCopy.filter (· != n) } }).updPc n fun c => { c with reserve := true }

/-! ### Self-fence events and complex resets (R421, R422) -/

/-- The other complex raises EV_SELF_FENCE and handles it as a KIND 8 error, once it serves. -/
def State.fenceReports (s : State) : State :=
  if !s.serves then s else
  let l := s.bellows.fenceEvents
  l.foldl (fun s e =>
      let s := s.raise evSelfFence noUnit [e.1, e.2.1]
      s.recordError 8 e.1 e.2.2)
    { s with bellows := { s.bellows with fenceEvents := [] } }

/-- Bellows resets a complex's domain (R421): 1 ms after its request, or 10 ms after a lapse without one; the instant of a reset that leaves
neither complex running is noted (R425). -/
def State.domainReset (s : State) (d : Nat) : State :=
  let c := s.complex d
  let due := match c.fenceAt, c.lapseAt with
    | some t, _ => s.since t (ms 1)
    | none, some t => s.since t (ms 10)
    | none, none => false
  if !due ∨ c.inReset ∨ 1 < d then s else
  let s := (s.updComplex d fun c => { c with inReset := true, passed := false, requested := false, stopped := false, fenceAt := none, lapseAt := none
                                             supervises := false }).setDomain (domainBase d + 29) 0
  if s.bellows.holder.isSome ∨ (s.complex (otherDie d)).runs then s
  else { s with bellows := { s.bellows with bothReset := some s.clock.up } }

/-- A reset domain is released: the complex boots from the boot buffer as the drone. -/
def State.domainRelease (s : State) (d : Nat) : State :=
  if !(s.complex d).inReset then s else
  let s := (s.updComplex d fun c => { c with inReset := false }).setDomain (domainBase d + 29) 1
  { s with modes := { s.modes with drone := 1 } }

/-- 10 ms pass without a renewal (R419): MISSED rises, and at the third the lease lapses; its holder has stopped until it renews again
(R425) (DEDUCED, log entry 76). -/
def State.leaseMissed (s : State) : State :=
  match s.bellows.holder with
  | none => s
  | some d =>
    if !s.since s.bellows.renewAt (ms 10 * (s.bellows.missed + 1)) then s else
    let s := { s with bellows := { s.bellows with missed := s.bellows.missed + 1 } }
    if s.bellows.missed < 3 then s else (s.updComplex d fun c => { c with stopped := true }).leaseEnd 1

/-- A complex renews (R419).  One that holds the lease no more fences itself: it sees its three misses, or an EPOCH newer than
its own (R421); its renewal is dropped (R420). -/
def State.leaseRenew (s : State) (d : Nat) : State :=
  let c := s.complex d
  if 1 < d ∨ c.inReset ∨ c.fenced then s
  else if s.bellows.holder = some d then
    (({ s with bellows := { s.bellows with renewAt := s.clock.up, missed := 0 } }).updComplex d fun c => { c with stopped := false })
  else if c.stopped then
    let s := if s.bellows.holder.isSome then
        { s with bellows := { s.bellows with staleDropped := (s.bellows.staleDropped + 1) % 0x100000000 } } else s
    (s.updComplex d fun c => { c with stopped := false }).selfFence d (if c.lapseAt.isSome then 1 else 3) 3
  else s

/-- A complex has had no route to the I/O die for 100 µs (R421 cause 2). -/
def State.routeLoss (s : State) (d : Nat) : State :=
  match s.faults.routeLostAt.getD d none with
  | some t => if s.since t (us 100) then (s.selfFence d 2 4).escalate else s
  | none => s

/-! ### Reeds and sections at a tick (R191, R193) -/

/-- The spare of a section with the lowest number (DEDUCED, log entry 94). -/
def State.spareOf (s : State) (sec : Nat) : Option Nat :=
  ((List.range 34).map (34 * sec + ·)).find? fun r => s.faults.reeds.getD r 0 == 1

/-- A failed reed is replaced by its section's lowest spare; a bank that is off is switched on first (R480) (DEDUCED, log entry 94). -/
def State.promoteFor (s : State) (reed : Nat) : State :=
  match s.spareOf (reed / 34) with
  | none => s
  | some sp =>
    let s := (s.setReed sp 0).setDomain (bankDomain sp) 1
    let s := { s with faults := { s.faults with spared := insertKey s.faults.spared reed sp } }
    (s.joinReed (reed / 34)).raise evReedSpared reed [sp]

/-- Numbers in rising order. -/
def sortNat (l : List Nat) : List Nat := l.foldl insertNat []

/-- A failed section's kerfs are spread at the tick (DEDUCED, log entry 24). -/
def State.spreadSection (s : State) (sec : Nat) : State :=
  if s.faults.spread.any (fun e => e.1 == sec) then s else
  let s := { s with faults := { s.faults with spread := s.faults.spread ++ [(sec, quadrant sec)] } }
  let s := s.reshare
  let carrier := ((s.faults.shares.find? fun e => e.2.1 == sec).map fun e => e.2.2).getD 0xFFFFFFFF
  (s.recFixed 0x0042 [3, sec, 3, carrier]).raise evSectionSpread sec [quadrant sec]

/-- Sparing and spreading at a frame tick: spares in the order of the failed reeds, then the sections that failed whole. -/
def State.sparing (s : State) : State :=
  let fails := sortNat s.faults.promote
  let s := fails.foldl (fun s r => s.promoteFor r) { s with faults := { s.faults with promote := [] } }
  let empty := (fails.map (· / 34)).eraseDups.filter fun k => s.faults.activeReeds k == 0 && (s.faults.region 3 k).state == 4
  let s := empty.foldl (fun s k => s.regionError 3 k 5) s
  let due := sortNat s.faults.spreadDue
  let seen := s.faults.backDue.filter s.sectionWorks
  let s := due.foldl (fun s k => s.spreadSection k) { s with faults := { s.faults with
    spreadDue := [], backSeen := s.faults.backSeen ++ seen, backDue := s.faults.backDue.filter fun k => !seen.contains k } }
  s.moveShares

/-- A die carries a share of another section's kerfs, so its reeds may run above 1.50 GHz (R193, R488). -/
def State.spreadOn (s : State) (die : Nat) : Bool := s.faults.shares.any fun e => e.2.1 / 8 == die

/-! ### SYS.FAULTS (R430) -/

/-- Entries of SYS.FAULTS in their order. -/
def State.faultList (s : State) : List RegionRec :=
  let pick := fun (p : RegionRec → Bool) => s.faults.regions.filter p
  let queue := (pick fun r => r.state == 0).foldl (fun (l : List RegionRec) r => (l.filter fun x => x.order < r.order) ++ [r] ++ l.filter fun x => r.order ≤ x.order) []
  (pick fun r => r.state == 1) ++ queue ++ (pick fun r => r.state == 2) ++ pick fun r => r.state == 3

def State.faultEntry (s : State) (r : RegionRec) : List Byte :=
  le 1 r.kind ++ le 1 r.state ++ le 1 r.records ++ le 1 r.cls ++ le 2 r.unit ++ le 1 (sat 255 (s.recent24 r.times).length) ++ [0] ++
  le 8 r.firstTime ++ le 8 r.lastTime

/-- SYS.FAULTS response payload. -/
def State.faultsPayload (s : State) : List Byte :=
  let l := s.faultList
  le 2 (min 169 l.length) ++ le 1 (b2n (169 < l.length)) ++ [0] ++ le 4 (s.faults.overflow.getD 0 0) ++ le 4 (s.faults.overflow.getD 1 0) ++
  le 2 s.faults.overKinds.toNat ++ zeros 2 ++ (l.take 169).flatMap s.faultEntry

/-- SYS.FAULTS (R430). -/
def sysFaults : CmdDef where
  opcode := 0x0106
  kind := .immediate
  lenOk := lenIs 0
  checks := noChecks
  run s _ := .done s s.faultsPayload 0

/-- SYS.STATUS response payload (R429) (DEDUCED, log entry 78). -/
def State.sysStatusPayload (s : State) : List Byte :=
  let b := s.bellows
  let regs := s.faults.regions
  le 1 s.modes.mode ++
  le 1 (maskOf [b.holder.isSome, s.modes.drone == 3, regs.any (·.state == 0), s.faults.overflow.any (· != 0), regs.any (·.fenced)]) ++
  le 1 (b.role.getD 0xFF) ++ le 1 s.modes.drone ++ le 4 b.epoch ++ le 4 s.leaseAge ++
  le 2 (regs.filter (·.state == 0)).length ++ le 1 (maskOf [(s.handling 0).isSome, (s.handling 1).isSome]) ++ [0] ++
  le 2 (regs.filter (·.fenced)).length ++ le 2 (regs.filter (·.state == 3)).length ++
  le 2 (s.faults.reeds.filter (· == 0)).length ++ le 2 (s.faults.reeds.filter (· == 1)).length ++
  le 8 b.lastMoveTick ++ le 4 b.moves ++ le 4 b.selfFences ++ le 4 b.staleDropped ++
  le 4 ((regs.map fun r => (s.recent24 r.times).length).foldl (· + ·) 0) ++ zeros 16

/-- SYS.STATUS (R429). -/
def sysStatus : CmdDef where
  opcode := 0x0102
  kind := .immediate
  lenOk := lenIs 0
  checks := noChecks
  run s _ := .done s s.sysStatusPayload 0

end Sys2Proof.Machine
end

