-- ==== Sys2Proof/Machine/MemErr.lean ====
section
/-! DEFINITION. Uncorrectable reads of the frame store (R358, R359, R407) and the poison that writes clear or carry on. -/

namespace Sys2Proof.Machine

/-- A whole span is rewritten: its granules lose their poison (R358) (DEDUCED, log entry 99). -/
def State.rewritten (s : State) (lo n : Nat) : State := { s with fs := { s.fs with poisoned := clearPoison s.fs.poisoned lo n } }

/-- The granule is marked poisoned, once. -/
def State.poison (s : State) (g : Nat) : State :=
  { s with fs := { s.fs with poisoned := if s.fs.poisoned.contains g then s.fs.poisoned else insertNat s.fs.poisoned g } }

/-- The stand whose four sets, or whose live set, hold an address (R224). -/
def State.standOfCal (s : State) (a : Nat) : Option Nat :=
  (List.range s.stands.length).find? fun i =>
    (s.settings.setsAddr i ≤ a && a < s.settings.setsAddr i + 4 * setBytes) || (s.settings.liveAddr i ≤ a && a < s.settings.liveAddr i + setBytes)

/-- A bake that meets a poisoned granule of its sets (R358): abandoned; the sets are reloaded from the stand's memory, which
queues the next bake; a load whose bake it was runs again, and the reload waits for another operation of the stand (R232) (DEDUCED, log entry 63). -/
def State.bakeAbandoned (s : State) (i : Nat) : State :=
  if (s.stand i).cal.baking.isNone then s else
  let c := (s.stand i).cal
  let s := s.updCal i fun c => { c with baking := none, mixed := true }
  -- a CAL.READ of the live set waits on for a bake that completes (R231)
  if c.op = 3 ∧ u8 c.opParams 2 = 2 then
    (s.updCal i fun c => { c with op := 0, opParams := [], parked := some (c.opParams, c.opTag) }).startReload i
  else if c.op = 0 then s.startReload i
  else if (c.op = 4 ∨ c.op = 5) ∧ c.opParams.length = 2 then
    (s.updCal i fun c => { c with opParams := c.opParams.drop 1 }).askMemory i
  else (s.updCal i fun c => { c with reload := true }).askMemory i

/-- A reed of a section that met a poisoned granule abandons its kerf, which is late under R20 (R358): of the kerfs that reeds of the
section hold, which one read it is free.  A granule of a surface keeps the kerf late until it is written whole (DEDUCED, log entry 63). -/
def State.abandonKerf (s : State) (g port : Nat) (lasting : Bool) : State :=
  let w := s.synth.window
  let held := (w.secs.find? fun d => d.sec == port - 16).map (·.held) |>.getD []
  match held[Config.freeValue s.security.free % max 1 held.length]? with
  | none => s
  | some h =>
    let secs := w.secs.map fun d => if d.sec = port - 16 then { d with held := d.held.filter (· != h) } else d
    let kerf := (w.cur h.2.1).map fun i => (g, i, h.2.2.1)
    { s with
      security := { s.security with free := s.security.free + 1 }
      synth := { s.synth with window := { w with secs := secs } }
      fs := { s.fs with lateKerfs := if lasting then s.fs.lateKerfs ++ kerf.toList else s.fs.lateKerfs } }

/-- A ray-frame granule (R358, R360): its kerfs are invalidated and its page is retired. -/
def State.rayGranule (s : State) (a port : Nat) : State :=
  let s := match s.kerfAt a with
    | some (i, k) => if port < 16 then s.updStand i fun st =>
        { st with kerfs := insertKey st.kerfs k { st.kerf k with invalid := true } } else s
    | none => s
  let pg := pageOf a
  s.retirePage pg.1 pg.2

/-- What the reader meets, by the region and its port of R339 (DEDUCED, log entry 63). -/
def State.poisonOutcome (s : State) (a port : Nat) : State :=
  let reed := 16 ≤ port && port < 32
  let g := granuleOf a
  match regionOf a with
  | 1 => s.rayGranule a port
  | 4 | 6 =>
    let other := (a + 64 * gib) % (128 * gib)
    if s.isPoisoned other then (if reed ∧ regionOf a = 4 then s.abandonKerf g port false else s) else
    let lo := 256 * g
    { s with fs := { s.fs with mem := Mem.writes s.fs.mem lo (Mem.reads s.fs.mem (256 * granuleOf other) 256)
                               poisoned := s.fs.poisoned.filter (· != g) } }
  | 2 => if port = 43 ∨ port = 44 then (match s.standOfCal a with | some i => s.bakeAbandoned i | none => s) else s
  | 3 => if reed then (match s.standOfCal a with | some i => s.queueBake i | none => s).abandonKerf g port false else s
  | 9 =>
    if !reed then s else
    (forEach (List.range s.stands.length) s fun i s => if s.dieOfStand i = a / (64 * gib) then s.needRebuild i else s).abandonKerf g port false
  | 5 => if 32 ≤ port && port < 40 then s.decoderFails (port - 32) 5 else s
  | 8 =>
    if !reed then s
    else (if s.synth.window.liftWait then s.liftOver id s.clock.up else s).liftDegraded s.liftStream 1
  | 7 | 11 => if reed then s.abandonKerf g port true else s
  | _ => s

/-- A read meets an error it cannot correct (R358): the granule is poisoned once, its row is spared, and the reader's outcome
follows; errors of the firmware region, and under a bank without repair resources, are region errors (R407). -/
def State.uncorrectable (s : State) (a port : Nat) : State :=
  let b := s.servedAt a
  let n := pcOf b
  if 128 * gib ≤ a ∨ 46 < port ∨ !s.storeUp (a / (64 * gib)) then s
  else if s.isPoisoned a then
    (s.updPc n fun c => { c with poisonReads := (c.poisonReads + 1) % 0x100000000 }).poisonOutcome a port
  else
    let row := (locOf b).rowCode
    let s := (s.updPc n fun c => { c with uncorrected := (c.uncorrected + 1) % 0x100000000 }).poison (granuleOf a)
    let s := s.raise evMemUncorrected n [lo32 a, hi32 a]
    let bare := (s.fs.pc n).bankLeft (bankOfRow row) == 0
    let s := if bare then s else s.dueRow n row
    let s := s.poisonOutcome a port
    if bare || regionOf b == 10 then s.hardwareError 5 n 1 else s

/-- What an operation reads beside its fill colour (R216): FILL nothing, COPY its source, BLEND its source and its destination; pairs of the
pixel read and the pixel written. -/
def blitReads (p : List Byte) : List (Nat × Nat) :=
  let d := blitDst p
  let r := blitSrc p
  if blitOp p = 2 then [] else
  (List.range d.h).flatMap fun j => (List.range d.w).flatMap fun i =>
    (r.addr i j, d.addr i j) :: if blitOp p = 1 then [] else [(d.addr i j, d.addr i j)]

/-- Destination granules of an operation that take data from poisoned granules (R358). -/
def blitPoison (poisoned : List Nat) (p : List Byte) : List Nat :=
  if poisoned = [] then [] else
  ((blitReads p).filterMap fun e => if poisoned.contains (granuleOf e.1) then some (granuleOf e.2) else none).eraseDups

/-- Poisoned granules that an operation reads (R358). -/
def blitMeets (poisoned : List Nat) (p : List Byte) : List Nat :=
  if poisoned = [] then [] else
  ((blitReads p).filterMap fun e => if poisoned.contains (granuleOf e.1) then some (granuleOf e.1) else none).eraseDups

/-- Rows of the rectangles an operation reads and writes, as spans of addresses. -/
def blitSpans (p : List Byte) : List (Nat × Nat) :=
  let rows (r : Rect) : List (Nat × Nat) := (List.range r.h).map fun j => (r.addr 0 j, r.w * r.bytes)
  rows (blitDst p) ++ if blitOp p = 2 then [] else rows (blitSrc p)

/-- Granules that an operation writes whole lose their poison. -/
def blitClears (poisoned : List Nat) (p : List Byte) : List Nat :=
  let d := blitDst p
  (List.range d.h).foldl (fun l j => clearPoison l (d.addr 0 j) (d.w * d.bytes)) poisoned

/-- The running 2D operation completes, with the poison it clears and carries on; its requests woke the stack IDs they fall on (R348). -/
def State.blitEnd (s : State) : State :=
  match s.compose.blits with
  | [] => s
  | b :: _ =>
    let before := s.fs.poisoned
    let s := s.blitComplete.request (blitSpans b.payload)
    if before = [] then s else
    let s := (blitMeets before b.payload).foldl (fun s g => s.updPc (pcOf (256 * g)) fun c => { c with poisonReads := (c.poisonReads + 1) % 0x100000000 }) s
    let s := { s with fs := { s.fs with poisoned := blitClears before b.payload } }
    (blitPoison before b.payload).foldl (fun s g => s.poison g) s

/-- A bake completes (R227); the live set written whole loses its poison. -/
def State.bakeEnds (s : State) (i : Nat) : State :=
  if (s.stand i).cal.baking.isNone then s
  else ((s.bakeEnd i).rewritten (s.settings.liveAddr i) setBytes).request [(s.settings.setsAddr i, 4 * setBytes), (s.settings.liveAddr i, setBytes)]

/-- A calibration operation ends (R232); what it wrote whole loses its poison. -/
def State.calOpEnds (s : State) (i : Nat) (h : List Byte) (cells : List Host.Cell) : State :=
  let c := (s.stand i).cal
  let p := c.opParams
  let after := (s.calOpEnd i h cells).request (if c.op = 0 ∨ c.op = 2 then [] else
    [(s.settings.setsAddr i, 4 * setBytes), (s.settings.liveAddr i, setBytes)])
  let waits : Bool := c.op == 0 || c.baking.isSome || ((c.op == 4 || c.op == 5) && p.length == 2)
  let store : Bool := c.op == 1 && u8 p 2 != 0
  let head := if store then Mem.reads s.fs.mem (u64 p 8) 64 else (c.block h cells).1
  let body := if store then Mem.spanOf s.fs.mem (u64 p 8 + 64) (u32 head 28) else (c.block h cells).2
  let came : Bool := !((s.stand i).removed && !(s.stand i).seen) && (store || s.linkUp (s.standCfg i).link)
  let taken : Bool := came && s.blockResult i head body (c.op != 1 || bitOf (u8 p 3) 0) == 0
  if waits then after
  else match c.op with
    | 3 => if (s.stand i).removed ∧ !(s.stand i).seen then after else after.rewritten (u64 p 8) (64 + u32 (Mem.reads after.fs.mem (u64 p 8) 64) 28)
    | 1 | 4 | 5 =>
      if !taken then after
      else match u8 head 6 with
        | 0 => after.rewritten (s.settings.setsAddr i) (4 * setBytes)
        | 1 => after.rewritten (s.settings.setAddr i (u8 head 7)) setBytes
        | _ => after
    | _ => after

end Sys2Proof.Machine
end

