-- ==== Sys2Proof/Machine/Security.lean ====
section
/-! DEFINITION. Identity, signatures and attestation (R464 to R477): bundles and their manifests, the lifecycle, the content-key
pairs and the management datagrams. -/

namespace Sys2Proof.Machine

/-! ### Bundles (R467 to R469) -/

/-- MANIFEST_BYTES. -/
def manifestBytes (b : List Byte) : Nat := u32 b 8
/-- ROLLBACK. -/
def manifestRollback (b : List Byte) : Nat := u8 b 18

/-- The manifest body, bytes 0 to MANIFEST_BYTES − 1. -/
def manifestBody (b : List Byte) : List Byte := slice b 0 (min 2176 (manifestBytes b))

/-- Release of a manifest, encoded as FROM_MIN. -/
def manifestRelease (b : List Byte) : Nat := u8 b 12 * 0x1000000 + u8 b 13 * 0x10000 + u16 b 14

/-- Measurement of a manifest: the SHA-384 of its body. -/
def manifestMeasure (b : List Byte) : List Byte := padTo 48 (Config.sha384 (manifestBody b))

/-- Which signatures of a bundle fail: bit 0 Ed25519, bit 1 ML-DSA-65; a MANIFEST_BYTES above 2,176 fails at once (R468). -/
def bundleSigs (b : List Byte) : Nat :=
  if 2176 < manifestBytes b then 3
  else sigFailure Config.tabnarKeys manifestLabel (manifestBody b) (slice b (manifestBytes b) 3373)

/-- Components of a TYPE. -/
def countType (b : List Byte) (t : Nat) : Nat := ((List.range (manifestCount b)).filter fun i => compType b i == t).length

/-- Two components overlap. -/
def compsOverlap (b : List Byte) (i j : Nat) : Bool :=
  compAt b i < compAt b j + compSize b j && compAt b j < compAt b i + compSize b i

/-- The validity conditions of R467, with the fixed values of the layout, for a device in a lifecycle state (DEDUCED, log entry 82). -/
def manifestValid (b : List Byte) (lifecycle : Nat) : Bool :=
  let n := manifestCount b
  u32 b 0 == 0x464D4E45 && u16 b 4 == 1 && 1 ≤ n && n ≤ 32 && manifestBytes b == 128 + 64 * n &&
  countType b 1 == 1 && countType b 2 == 1 && countType b 3 ≤ 1 && 1 ≤ countType b 4 &&
  (List.range n).all (fun i => compAt b i % 256 == 0 && manifestBytes b + 3376 ≤ compAt b i && compAt b i + compSize b i ≤ b.length &&
    (List.range i).all fun j => !compsOverlap b i j) &&
  u16 b 40 == 0x00A9 && bitOf (u16 b 42) (Config.stepping % 256) && bitOf (u8 b 44) lifecycle &&
  (u64 b 48 == 0 || u64 b 48 == Config.serial % 0x10000000000000000)

/-- ROLLBACK is below the fused counter, or above 64 (R107 step 2). -/
def rollbackBad (b : List Byte) (fuses : Nat) : Bool := manifestRollback b < fuses || 64 < manifestRollback b

/-- The digest of component i is the one listed. -/
def digestOk (b : List Byte) (i : Nat) : Bool :=
  slice b (compOff i + 16) 48 == padTo 48 (Config.sha384 (slice b (compAt b i) (compSize b i)))

def digestsOk (b : List Byte) : Bool := (List.range (manifestCount b)).all (digestOk b)

/-- BOOT_STAGE that a verification ends with (R107, R468): signatures, validity, rollback, digests (DEDUCED, log entry 82). -/
def bootVerdict (b : List Byte) (lifecycle fuses : Nat) : Nat :=
  if bundleSigs b ≠ 0 then 0xE1
  else if !manifestValid b lifecycle then 0xE1
  else if rollbackBad b fuses then 0xE2
  else if !digestsOk b then 0xE1
  else 2

/-- The 0x0011 records of a verification (R451): the manifest check, and each component check it reaches. -/
def State.verifyRecords (s : State) (b : List Byte) : State :=
  let sig := bundleSigs b
  let s := s.recFixed 0x0011 [1, sig % 2, sig / 2 % 2, 0]
  if sig ≠ 0 || !manifestValid b s.security.lifecycle || rollbackBad b s.security.fuses then s
  else forEach (List.range (manifestCount b)) s fun i s => s.recFixed 0x0011 [2, 0, 0, b2n (!digestOk b i)]

/-- The board section of a bundle (R469). -/
def boardSection (b : List Byte) : Option (List Byte) :=
  ((List.range (min 32 (manifestCount b))).find? fun i => compType b i == 3).map fun i => slice b (compAt b i) (compSize b i)

/-- Subsystem Vendor ID and Subsystem ID (R27, R469): of the running board section, 0x1F4D and 0 without one. -/
def State.subsystem (s : State) : Nat × Nat :=
  match boardSection s.security.image with
  | none => (0x1F4D, 0)
  | some b => (u16 b 4, u16 b 6)

/-- The function's PCIe identity as configuration space shows it (R27): Vendor ID, Device ID, Revision ID, Class code, Subsystem
Vendor ID, Subsystem ID.  No command of the table reads configuration space. -/
def State.pcieIdentity (s : State) : List Nat :=
  [0x1F4D, 0xA900, Config.stepping % 256, 0x038000, s.subsystem.1, s.subsystem.2]

/-- Management key `k` of the running board section, if present. -/
def State.mgmtKey (s : State) (k : Nat) : Option (List Byte) :=
  match boardSection s.security.image with
  | none => none
  | some b => if u32 b 0 = 0x31445242 ∧ k < min 4 (u8 b 8) then some (slice b (64 + 1984 * k) 1984) else none

/-! ### Certificates and attestation (R465, R466, R473, R475) -/

/-- SEC.CERTS (R466). -/
def secCerts : CmdDef where
  opcode := 0x0E01
  kind := .immediate
  lenOk := lenIs 8
  checks _ c :=
    let p := c.payload
    chkP (1 < u8 p 0) stBadField 0 ++ chkP (2 < u8 p 1) stBadField 1 ++ rsvBytes p 2 4 ++
    chkP (u8 p 0 ≤ 1 && u8 p 1 ≤ 2 && (Config.certificate (u8 p 0) (u8 p 1)).length ≤ u32 p 4) stBadField 4
  run s c :=
    let p := c.payload
    let der := Config.certificate (u8 p 0) (u8 p 1)
    let n := min 4064 (der.length - u32 p 4)
    .done s (le 4 der.length ++ le 4 (u32 p 4) ++ le 2 n ++ [3] ++ zeros 5 ++ slice der (u32 p 4) n) 0

/-- SEC.KEM_KEY response payload (R475). -/
def State.kemPayload (s : State) : List Byte :=
  le 4 0x4B4D454B ++ le 2 s.security.kemGen ++ zeros 2 ++ le 8 Config.serial ++ padTo 1216 (Config.kemPublic s.security.kemGen)

/-- SEC.KEM_KEY (R475, R471). -/
def secKemKey : CmdDef where
  opcode := 0x0E03
  kind := .immediate
  lenOk := lenIs 0
  checks s _ := chk (s.security.lifecycle == 2) stLifecycle
  run s _ := .done s s.kemPayload 0

/-- `n` bytes the spec leaves open (DESIGN CHOICE, log entries 11, 65). -/
def State.freeBytes (s : State) (n : Nat) : List Byte × State :=
  ((List.range n).map fun i => BitVec.ofNat 8 (Config.freeValue (s.security.free + i)),
   { s with security := { s.security with free := s.security.free + n } })

/-- Body of an attestation report (R473); `mKem` is its M_KEM field. -/
def State.attestBody (s : State) (nonce mKem : List Byte) : List Byte :=
  let d := s.bellows.role.getD s.bellows.chanterBit
  let me := s.complex d
  let other := s.complex (otherDie d)
  le 4 0x54535441 ++ le 2 1 ++ le 2 320 ++ le 8 Config.serial ++ le 2 0x00A9 ++ le 1 Config.stepping ++ le 1 s.security.lifecycle ++
  le 1 s.security.fuses ++ le 1 d ++ le 1 s.modes.drone ++ le 1 s.modes.mode ++ le 8 s.nowNs ++ le 8 s.clock.tick ++
  le 4 me.release ++ le 4 (if other.present then other.release else 0) ++ padTo 48 nonce ++ padTo 48 Config.romDigest ++
  padTo 48 me.measure ++ (if other.present then padTo 48 other.measure else zeros 48) ++ padTo 48 mKem ++ le 2 s.security.kemGen ++ zeros 30

/-- SEC.ATTEST (R473).  After the content-key pairs are destroyed M_KEM has no stated value (DESIGN CHOICE, log entry 65). -/
def secAttest : CmdDef where
  opcode := 0x0E02
  kind := .immediate
  lenOk := lenIs 64
  checks _ c := rsvBytes c.payload 48 64
  run s c :=
    let k := if s.security.kemValid then (Config.sha384 s.kemPayload, s) else s.freeBytes 48
    let body := k.2.attestBody (slice c.payload 0 48) k.1
    .done k.2 (body ++ signatures attestLabel body) 0

/-! ### The lifecycle (R471, R472) -/

/-- A new session value: the counters start anew (R477). -/
def State.newSession (s : State) : State :=
  { s with security := { s.security with session := s.security.session + 1, lastCounter := [0, 0, 0, 0] } }

/-- A lifecycle transition takes effect (R472). -/
def State.lifecycleTo (s : State) (target : Nat) : State :=
  let s := (s.newSession).eraseAllKeys
  if target = 1 then
    { s with
      security := { s.security with lifecycle := 1, kemGen := (s.security.kemGen + 1) % 65536, kemValid := true }
      flash := { s.flash with serviceHours := 0, conditions := 0, breaches := 0, coldStarts := 0, booted := false } }
  else
    let s := { s with security := { s.security with lifecycle := target, kemValid := false } }
    forEach (List.range 8) s fun n s =>
      if (s.stream n).any fun st => st.protect != 0 then
        (s.updStream n fun st => { st with keyRefusals := (st.keyRefusals + 1) % 0x100000000 }).raise evKeyRefused n [3]
      else s

/-- SEC.LIFECYCLE (R472): a signature that fails raises EV_SIG_FAIL (DEDUCED, log entry 83). -/
def secLifecycle : CmdDef where
  opcode := 0x0E05
  kind := .immediate
  lenOk p := if u8 p 0 = 1 then p.length == 24 else if u8 p 0 = 2 then p.length == 3397 else p.length == 24 || p.length == 3397
  checks s c :=
    let p := c.payload
    chkP (u8 p 0 = 0 || 2 < u8 p 0 || u8 p 0 ≤ s.security.lifecycle) stBadField 0 ++ rsvBytes p 1 4 ++
    chkP (u32 p 4 != 0x43594C43) stBadField 4 ++ chkP (u64 p 8 != Config.serial % 0x10000000000000000) stBadField 8 ++
    rsvBytes p 16 24 ++ chk (s.modes.mode != 0) stBadMode
  run s c :=
    let p := c.payload
    let sig := if u8 p 0 = 2 then sigFailure Config.tabnarKeys lifecycleLabel (slice p 0 24) (slice p 24 3373) else 0
    if sig ≠ 0 then .fail (s.raise evSigFail noUnit [2, sig] c.tag) { status := stAuth }
    else .done (s.lifecycleTo (u8 p 0)) [] 0

/-! ### Management datagrams (R477) -/

/-- What the A9 refuses in a command datagram: P1 of EV_SIG_FAIL, 0 where it accepts. -/
def State.mgmtRefusal (s : State) (b : List Byte) : Nat :=
  let k := u8 b 5
  let named := u64 b 8 == Config.serial % 0x10000000000000000 && slice b 16 16 == padTo 16 (Config.sessionValue s.security.session) &&
    s.security.lastCounter.getD k 0 < u64 b 32
  let n := 56 + u16 b 48
  match s.mgmtKey k with
  | none => 4
  | some key =>
    (if b.length = n + 3373 then sigFailure key mgmtLabel (slice b 0 n) (slice b n 3373) else 3) + 4 * b2n (!named)

/-- A refused command: EV_SIG_FAIL with P0 3, at most once per second. -/
def State.mgmtRefused (s : State) (bits : Nat) : State :=
  if s.security.refusedAt.any fun t => !s.since t (sec 1) then s
  else ({ s with security := { s.security with refusedAt := some s.clock.up } }).raise evSigFail noUnit [3, bits]

/-- The port takes management datagrams: it is powered, and configured with UDP set (DEDUCED, log entry 83). -/
def State.mgmtOpen (s : State) (port : Nat) : Bool :=
  port < 2 && s.domain (70 + port) == 1 && (s.ptpPort port).mode != 0 && (s.ptpPort port).flags.getLsbD 2

/-- A datagram arrives; `run` runs the command that mailbox 7 then holds.  A busy mailbox answers BUSY (DEDUCED, log entry 83). -/
def State.mgmtDatagram (s : State) (run : State → State) (port : Nat) (b : List Byte) : State :=
  if !s.mgmtOpen port ∨ 8192 < b.length ∨ b.length < 40 ∨ u32 b 0 ≠ 0x544D4752 then s
  else match u8 b 4 with
  | 0 => s.emit (.mgmtSend port (s.mgmtHeader (u8 b 5) 0))
  | 1 =>
    let bits := s.mgmtRefusal b
    if bits ≠ 0 then s.mgmtRefused bits
    else
      let k := u8 b 5
      let body := slice b 40 (16 + u16 b 48)
      let s := { s with security := { s.security with lastCounter := upd s.security.lastCounter k fun _ => u64 b 32 } }
      let m := s.mbx 7
      let c := Cmd.parse 7 body
      if m.state = 1 ∨ m.state = 2 then
        let e : Err := { status := stBusy }
        s.emit (.mgmtSend port (s.mgmtHeader k (u64 b 32) ++ (e.resp c).bytes c))
      else
        let s := s.updMbx 7 fun m => { m with running := body, mgmt := some (port, k, u64 b 32), rungAt := s.clock.up }
        if s.serves then
          let s := s.updMbx 7 fun m => { m with state := 2, acceptedAt := s.clock.up }
          if s.fw.armed then s.acceptHeld 7 else run s
        else s.updMbx 7 fun m => { m with state := 1 }
  | _ => s

end Sys2Proof.Machine
end

