-- ==== Sys2Proof/Machine/Power.lean ====
section
/-! DEFINITION. Power domains, rails, core voltage, thermal control and the power cap (R478 to R492). -/

namespace Sys2Proof.Machine

/-! ### Domains (R478 to R480) -/

/-- KIND of a domain. -/
def domainKind (n : Nat) : Nat := (domainInfo n).2.1
/-- UNIT of a domain. -/
def domainUnit (n : Nat) : Nat := (domainInfo n).2.2

/-- The host may switch the domain (R478). -/
def hostMaySwitch (n : Nat) : Bool :=
  n < 82 && (domainKind n == 1 || domainKind n == 4 || domainKind n == 7 || domainKind n == 8 || domainKind n == 10 || domainKind n == 11)

/-- A section has kerfs under a configuration: its own stands', or a spread share (R193). -/
def State.sectionBusy (s : State) (c : Settings) (sec : Nat) : Bool :=
  ((List.range c.stands.length).any fun i => c.sectionOf i == sec) || s.faults.shares.any fun e => e.2.2 == sec

/-- The domain is idle under a configuration (R479). -/
def State.domainIdle (s : State) (c : Settings) (n : Nat) : Bool :=
  let u := domainUnit n
  let east := 35 ≤ n && n < 69
  match domainKind n with
  | 1 => !s.sectionBusy c (u / 2 + 8 * b2n east)
  | 4 => (c.links.getD (u + 8 * b2n east) {}).rate == 0
  | 7 => !s.ingest.streams.any fun st => st.any fun st => st.decoders.any fun e => e.2.1 == u + 4 * b2n east
  | 8 => s.compose.blits == []
  | 10 => (s.ptpPort u).mode == 0 && (s.ptpPort u).master.isNone
  | 11 => c.roles.getD u 0 == 0
  | _ => false

/-- Checks of PWR.DOMAIN (R479); `later` are the configurations that armed transactions bring. -/
def State.domainErrs (s : State) (later : List Settings) (p : List Byte) : List Err :=
  let n := u16 p 0
  chkP (!hostMaySwitch n) stBadField 0 ++ chkP (1 < u8 p 2) stBadField 2 ++ rsvBytes p 3 8 ++
  chkP (hostMaySwitch n && s.domain n == 2) stFenced 0 ++
  chk (hostMaySwitch n && u8 p 2 == 0 && !(s.settings :: later).all fun c => s.domainIdle c n) stBusy

/-- A domain is switched; one that goes off loses its contents. -/
def State.switchDomain (s : State) (n : Nat) (on : Bool) : State :=
  let s := { s with power := { s.power with hostOff := if on then s.power.hostOff.filter (· != n) else addOnce s.power.hostOff n } }
  let s := s.setDomain n (b2n on)
  if on then s else
  match domainKind n with
  | 4 => s.updLink (domainUnit n + (if n < 35 then 0 else 8)) fun _ => {}
  | 10 => s.updPtp (domainUnit n) fun q => { q with lastAnnounce := 0, lastDelayReq := 0, syncT1 := 0, syncT2 := 0, sentAt := [0, 0, 0] }
  | 11 => s.updPort (domainUnit n) fun p => { readyRaw := p.readyRaw, readyIn := p.readyIn }
  | _ => s

/-- The reed banks run in a mode (R92). -/
def banksRun (mode : Nat) : Bool := mode != 0 && mode != 1 && mode != 6

/-- Reed banks follow the mode at the tick of a change (R92, R478): one the host switched off stays off while it is idle. -/
def State.banksForMode (s : State) : State :=
  let state := fun (n v : Nat) =>
    if n < 82 ∧ domainKind n = 1 ∧ v ≠ 2 ∧ (s.bellows.dieOff.getD (n / 35) none).isNone then
      (if banksRun s.modes.mode && !(s.power.hostOff.contains n && s.domainIdle s.settings n) then 1 else 0)
    else v
  { s with power := { s.power with domains := s.power.domains.mapIdx state } }

/-- Domains that the configuration needs and the host switched off come on (R480). -/
def State.neededDomains (s : State) : State :=
  (s.power.hostOff.filter fun n => !s.domainIdle s.settings n).foldl (fun s n =>
    let s := { s with power := { s.power with hostOff := s.power.hostOff.filter (· != n) } }
    if s.domain n = 0 ∧ (domainKind n ≠ 1 ∨ banksRun s.modes.mode) then s.setDomain n 1 else s) s

/-- The domains of both dies other than the reed banks power up (R113 step 1). -/
def State.powerUpDies (s : State) : State :=
  let s := { s with power := { s.power with hostOff := s.power.hostOff.filter fun n => 69 ≤ n || domainKind n == 1 } }
  let state := fun (n v : Nat) =>
    if n < 69 ∧ domainKind n ≠ 1 ∧ v = 0 ∧ (s.bellows.dieOff.getD (n / 35) none).isNone then 1 else v
  { s with power := { s.power with domains := s.power.domains.mapIdx state } }

/-! ### Rails and core voltage (R481, R487) -/

/-- Lowest domain a rail feeds, as UNIT of EV_RAIL_FAULT. -/
def railUnit (rail : Nat) : Nat := match rail with | 0 => 0 | 1 => 35 | _ => noUnit

/-- EXCURSION of SYS.SPARES sets (R442, R489). -/
def State.excursion (s : State) : State := { s with flash := { s.flash with conditions := s.flash.conditions ||| 8#8 } }

/-- EV_RAIL_FAULT (R481, R487, R489). -/
def State.railEvent (s : State) (rail : Nat) : State :=
  let s := { s with power := { s.power with railFaults := (s.power.railFaults + 1) % 0x100000000 } }
  s.excursion.raise evRailFault (railUnit rail) [rail]

/-- The speed monitors of a die show margin at a clock and a voltage (R487) (DESIGN CHOICE, log entry 147). -/
def State.margin (s : State) (die mhz mv : Nat) : Bool := Config.speedMargin die mhz mv (s.power.tj.getD die 0)

/-- The lowest voltage with margin at a clock, within 0.65 to 0.85 V in 5 mV steps; the highest where none shows it (R487) (DESIGN CHOICE,
log entry 147). -/
def State.lowestMv (s : State) (die mhz : Nat) : Nat := (((List.range 41).map fun k => 650 + 5 * k).find? fun v => s.margin die mhz v).getD 850

/-- The voltages a die may choose now: that of its reed clock, and that of the step of a clock that is to rise (R487). -/
def State.wantedMv (s : State) (die : Nat) : List Nat :=
  let f := s.power.reedMhz.getD die 1500
  [s.lowestMv die f, s.lowestMv die (min 1600 (f + 25))]

/-- Range of a rail, mV (R481); a core rail's is its set value ±3 %. -/
def State.railRange (s : State) (rail : Nat) : Nat × Nat :=
  if rail < 2 then let v := s.power.vcore.getD rail 720; ((97 * v + 99) / 100, 103 * v / 100)
  else [(776, 824), (728, 773), (1067, 1133), (388, 412), (1710, 1890), (873, 927), (1164, 1236), (1710, 1890), (3135, 3465), (4000, 11500)].getD
    (rail - 2) (0, 0)

/-- A rail's reading lies outside its range. -/
def State.railOut (s : State) (rail mv : Nat) : Bool := mv < (s.railRange rail).1 || (s.railRange rail).2 < mv

/-- A die sets its core voltage: from BOOT_STAGE 0x02, 0.65 to 0.85 V in 5 mV steps, the lowest that its reed clock, or the next step of a
clock that rises, needs, at most once per 100 µs. -/
def State.avsAdjust (s : State) (die mv : Nat) : State :=
  if 1 < die ∨ s.modes.bootStage < 2 ∨ 4 < s.modes.bootStage ∨ !(s.wantedMv die).contains mv ∨ s.power.avsLimited.getD die false ∨
      (s.power.avsAt.getD die none).any (fun t => !s.since t (us 100)) then s
  else { s with power := { s.power with vcore := upd s.power.vcore die (fun _ => mv), avsAt := upd s.power.avsAt die fun _ => some s.clock.up } }

/-- Three consecutive AVSBus transactions went unacknowledged. -/
def State.avsFailure (s : State) (die : Nat) : State :=
  if 1 < die ∨ s.power.avsLimited.getD die false then s
  else ({ s with power := { s.power with avsLimited := upd s.power.avsLimited die fun _ => true } }).railEvent die

/-! ### Reed clock, thermal limits and the cap (R488 to R490) -/

/-- The die is throttled, by a junction or an HBM stack. -/
def State.throttled (s : State) (die : Nat) : Bool := s.power.throttle.getD die false || s.power.stackThr.getD die false

/-- Enters the throttle; EV_THROTTLE where the die was not throttled (DEDUCED, log entry 85). -/
def State.throttleEvent (s : State) (die : Nat) (was : Bool) : State :=
  if was || !s.throttled die then s
  else ({ s with power := { s.power with throttles := (s.power.throttles + 1) % 0x100000000 } }).raise evThrottle die [p32 (s.power.tj.getD die 0)]

/-- Floor of the part's grade, 0.1 °C (R1). -/
def gradeFloor : Int := if Config.grade % 16 = 1 then -200 else 0

/-- The hottest of some readings. -/
def hottest (l : List Int) : Int := match l with | [] => 0 | t :: ts => ts.foldl max t

/-- Readings of a die: 16 sensors of each compute die, 4 of the I/O die. -/
def sensorsOf (temps : List Int) (k : Nat) : List Int := (temps.drop (16 * k)).take (if k = 2 then 4 else 16)

/-- The junction sensors are read, and the hottest of a die is its junction temperature (R489). -/
def State.junctionSample (s : State) (temps : List Int) : State :=
  let tj := (List.range 3).map fun k => clampI (-32768) 32767 (hottest (sensorsOf temps k))
  let hot := s.power.hotSince.mapIdx fun k (h : Option Nat) => if 1100 ≤ tj.getD k 0 then (if h.isSome then h else some s.clock.up) else none
  let was := fun (d : Nat) => s.throttled d
  let thr := s.power.throttle.mapIdx fun k t => if 1000 ≤ tj.getD k 0 then true else if tj.getD k 0 < 970 then false else t
  let w0 := was 0
  let w1 := was 1
  let out := tj.any fun t => 1050 < t || t < gradeFloor
  let s := { s with power := { s.power with tj := tj, hotSince := hot, throttle := thr } }
  let s := if out then s.excursion else s
  (s.throttleEvent 0 w0).throttleEvent 1 w1

/-- Stack temperatures judged for the throttle (R489) (DEDUCED, log entry 85). -/
def State.stackThrottle (s : State) : State :=
  let w0 := s.throttled 0
  let w1 := s.throttled 1
  let hot := fun (d : Nat) => [2 * d, 2 * d + 1].any fun k => (s.fs.stackTemp.getD k none).any fun t => 950 < t
  ((({ s with power := { s.power with stackThr := [hot 0, hot 1] } }).throttleEvent 0 w0).throttleEvent 1 w1)

/-- Clock R488 allows: 1.60 GHz for a spread while its conditions hold, the highest core voltage among them, else 1.50 GHz. -/
def State.allowedMhz (s : State) (die : Nat) : Nat :=
  if s.spreadOn die && s.power.tj.getD die 0 ≤ 950 && !s.settings.noBoost && !s.power.capped && !s.power.avsLimited.getD die false &&
      s.margin die 1600 850 then 1600 else 1500

/-- Reed clock of a die after one step of a millisecond; an increase waits for the voltage that it needs (R487). -/
def State.nextMhz (s : State) (die : Nat) : Nat :=
  let f := s.power.reedMhz.getD die 1500
  let above := s.settings.capW != 0 && s.settings.capW * 1000 < s.power.powerMw
  if s.throttled die || above then max 1000 (f - 25)
  else if s.allowedMhz die < f then f - 25
  else if f < s.allowedMhz die && !s.power.capped && s.margin die (f + 25) (s.power.vcore.getD die 0) then f + 25
  else f

/-- Each ms the clocks of both dies step (R489, R490) (DEDUCED, log entry 85). -/
def State.clockStep (s : State) : State :=
  let above := s.settings.capW != 0 && s.settings.capW * 1000 < s.power.powerMw
  let thr := s.throttled 0 || s.throttled 1
  let lowered := above && (s.nextMhz 0 < s.power.reedMhz.getD 0 1500 || s.nextMhz 1 < s.power.reedMhz.getD 1 1500)
  { s with power := { s.power with
    reedMhz := [s.nextMhz 0, s.nextMhz 1]
    throttleMs := (s.power.throttleMs + b2n thr) % 0x100000000
    cappedMs := (s.power.cappedMs + b2n lowered) % 0x100000000 } }

/-- EV_HOLDUP_LOW (R486, R489). -/
def State.holdupEvent (s : State) : State := s.excursion.raise evHoldupLow noUnit [s.bellows.capMv]

/-- The voltage of the hold-up bank is read (R60, R484, R486): BELLOWS_CAP is rail 11, and HOLDUP_OK follows it. -/
def State.bankReads (s : State) (mv : Nat) : State :=
  let was := s.holdupOk
  let v := sat 0xFFFF mv
  let s := { s with bellows := { s.bellows with capMv := v }, power := { s.power with railMv := upd s.power.railMv 11 fun _ => v } }
  if was && !s.holdupOk && s.bellows.inOk then (s.latch 2#32).holdupEvent else s

/-- The 10 ms average and the rail monitors are read and the cap is judged (R490): voltage and current per rail (DEDUCED, log entry 85). -/
def State.capSample (s : State) (mw : Nat) (rails : List (Nat × Nat)) : State :=
  let cap := s.settings.capW
  let capped := if cap = 0 then false else if cap * 1000 < mw then true else if mw + 5000 < cap * 1000 then false else s.power.capped
  let s := { s with power := { s.power with
    powerMw := sat 0xFFFFFFFF mw, capped := capped
    railMv := s.power.railMv.mapIdx fun k v => (rails[k]?.map fun e => sat 0xFFFF e.1).getD v
    railDa := s.power.railDa.mapIdx fun k v => (rails[k]?.map fun e => sat 0xFFFF e.2).getD v } }
  match rails[11]? with
  | some e => if s.bellows.running then s.bankReads e.1 else s
  | none => s

/-- PWR.LIMIT (R490). -/
def pwrLimit : CmdDef where
  opcode := 0x1003
  kind := .stageable
  lenOk := lenIs 8
  checks _ c :=
    let p := c.payload
    chkP (u16 p 0 != 0 && (u16 p 0 < 100 || 350 < u16 p 0)) stBadField 0 ++ rsvBits p 2 0xFE ++ rsvBytes p 3 8
  apply p c := { c with capW := u16 p 0, noBoost := bitOf (u8 p 2) 0 }

/-! ### PWR.STATUS (R492) -/

/-- The hottest or coolest reading among the stands: value and index (DEDUCED, log entry 85). -/
def State.standExtreme (s : State) (better : Int → Int → Bool) : Option (Int × Nat) :=
  s.stands.zipIdx.foldl (fun (b : Option (Int × Nat)) e =>
    match e.1.temp, b with
    | none, b => b
    | some t, none => some (t, e.2)
    | some t, some (v, k) => if better t v then some (t, e.2) else some (v, k)) none

/-- Response payload of PWR.STATUS (DEDUCED, log entries 86, 98). -/
def State.pwrStatus (s : State) : List Byte :=
  let p := s.power
  let hot := s.standExtreme fun a b => decide (b < a)
  let cold := s.standExtreme fun a b => decide (a < b)
  let boost := fun (d : Nat) => decide (1500 < p.reedMhz.getD d 1500)
  let mask := fun (f : Nat → Bool) => le 16 (((List.range 83).map fun n => if f (s.domain n) then 2 ^ n else 0).foldl (· + ·) 0)
  le 4 p.powerMw ++ le 2 s.settings.capW ++
  le 1 (maskOf [s.throttled 0, s.throttled 1, p.capped, boost 0, boost 1, s.holdupOk]) ++ [0] ++
  (List.range 3).flatMap (fun k => leI 2 (p.tj.getD k 0)) ++ zeros 2 ++ le 2 (p.reedMhz.getD 0 0) ++ le 2 (p.reedMhz.getD 1 0) ++
  le 2 (p.vcore.getD 0 0) ++ le 2 (p.vcore.getD 1 0) ++ zeros 8 ++
  (List.range 12).flatMap (fun k => le 2 (p.railMv.getD k 0) ++ le 2 (p.railDa.getD k 0)) ++
  mask (fun v => v == 1 || v == 3) ++ mask (· == 2) ++
  leI 2 ((hot.map (·.1)).getD (-32768)) ++ le 2 ((hot.map (·.2)).getD noUnit) ++ leI 2 ((cold.map (·.1)).getD (-32768)) ++ zeros 2 ++
  le 4 p.throttles ++ le 4 p.throttleMs ++ le 4 p.cappedMs ++ le 4 p.railFaults ++ zeros 120

/-- PWR.STATUS (R492). -/
def pwrStatusCmd : CmdDef where
  opcode := 0x1002
  kind := .immediate
  lenOk := lenIs 0
  checks := noChecks
  run s _ := .done s s.pwrStatus 0

end Sys2Proof.Machine
end

