-- ==== Sys2Proof/Machine/Boot.lean ====
section
/-! DEFINITION. Boot (R103 to R111), resets of the whole A9 (R387, R497, R511), loss of power and its flushes (R291, R461, R482),
Bellows power-up and stop (R463, R484), and the cold reset of a compute die (R417). -/

namespace Sys2Proof.Machine

/-! ### What a reset keeps -/

/-- Bellows asserts STAND_SAFE on its own (R289): the LOSS fields are latched. -/
def State.safeLoss (s : State) (links : BitVec 16) : State :=
  { s with bellows := { s.bellows with
      safeLinks := s.bellows.safeLinks ||| links
      lossValid := true, lossTick := s.clock.tick, lossOffNs := (s.clock.up - s.clock.tickUp) / 3, lossLinks := links, lossRate := s.clock.rate } }

/-- A region's record over a boot: its errors of the last 24 h are kept in Bellows (R412); no other state of it is (DEDUCED, log entry 87). -/
def RegionRec.overBoot (r : RegionRec) : RegionRec :=
  { kind := r.kind, unit := r.unit, times := r.times, cls := r.cls, lastTime := r.lastTime }

/-- Reed states over a boot: a retired reed stays retired, the lowest spares stand in for retired ones (R41, R412). -/
def bootReeds (retired : List Nat) : List Nat :=
  (List.range 544).map fun n =>
    let base := 34 * (n / 34)
    let gone := fun (k : Nat) => retired.contains k
    let lost := ((List.range 32).filter fun k => gone (base + k)).length
    if gone n then 3
    else if n % 34 < 32 then 0
    else
      let before := ((List.range (n % 34 - 32)).filter fun k => !gone (base + 32 + k)).length
      if before < lost then 0 else 1

/-- Retired reeds and the spares that stand in for them from boot on: the lowest spares in the order of the reeds (R191, R412). -/
def bootSpared (retired : List Nat) : List (Nat × Nat) :=
  (List.range 16).flatMap fun q =>
    let gone := fun (k : Nat) => retired.contains (34 * q + k)
    (((List.range 32).filter gone).map (34 * q + ·)).zip (([32, 33].filter fun k => !gone k).map (34 * q + ·))

/-- What a retired region is to a boot (R412), beside the states that reeds, lanes and decoders take: a section's kerfs are spread at the first
tick, a pseudo-channel is served from the reserve while that is free, a die stays off, an I/O block out of service. -/
def State.retiredAtBoot (s : State) (kind unit : Nat) : State :=
  match kind with
  | 3 => { s with faults := { s.faults with spreadDue := addOnce s.faults.spreadDue unit } }
  | 5 => if s.fs.pcs.any fun c => c.reserve && c.pc / 64 == unit / 64 then s else s.updPc unit fun c => { c with reserve := true }
  | 9 => { s with
      bellows := { s.bellows with dieOff := upd s.bellows.dieOff unit fun _ => some s.clock.up }
      power := { s.power with domains := s.power.domains.mapIdx fun n v => if (dieDomains unit).contains n then 0 else v } }
  | 10 => s.blockOff unit
  | _ => s

/-- The boot ROM reads the retirement list (R412). -/
def State.readRetired (s : State) : State :=
  let l := s.flash.retireList
  let s := { s with
    faults := { s.faults with reeds := bootReeds ((l.filter fun e => e.1 == 2).map (·.2))
                              spared := bootSpared ((l.filter fun e => e.1 == 2).map (·.2))
                              lanes := (l.filter fun e => e.1 == 1).map (·.2) }
    ingest := { s.ingest with decState := (List.range 8).map fun k => if l.contains (6, k) then 3 else 0 } }
  let s := l.foldl (fun s e => s.updRegion e.1 e.2 fun r => { r with state := 3, out := true }) s
  l.foldl (fun s e => s.retiredAtBoot e.1 e.2) s

/-- What of a configuration the skyline ports of the I/O die hold by themselves (R26, R365). -/
def Settings.chainOnly (c : Settings) : Settings :=
  { chainAddr := c.chainAddr, chainRoot := c.chainRoot, chainRing := c.chainRing, roles := c.roles, readyMask := c.readyMask
    maxRate := c.maxRate, graceUs := c.graceUs }

/-- The A9 outside Bellows is held in reset or without power (R10, R497, R511): what Bellows, the flash, the fuses and the stacks'
permanent repairs hold is kept; `io`: the I/O die is reset too; where it is not, the skyline ports stay as they are, so that Bellows passes
tick and ready on (R26) (DEDUCED, log entry 132). -/
def State.halt (s : State) (io : Bool) : State :=
  let s := s.keepJournal
  let b := s.bellows
  let fresh : Complex := { epochSeen := b.epoch }
  let keepPc := fun (c : PseudoChannel) => ({ pc := c.pc, bankUsed := c.lostPower.bankUsed } : PseudoChannel)
  { s with
    clock := { s.clock with blank := false, leadTick := 0, synthTick := 0, scanTick := 0 }
    tb := { bootHold := true }
    pcie := { perst := s.pcie.perst, glbErr := if io then 0 else s.pcie.glbErr, scratch := if io then 0 else s.pcie.scratch,
              apLo := if io then 0 else s.pcie.apLo, apHi := if io then 0 else s.pcie.apHi, apBase := if io then 0 else s.pcie.apBase,
              msixTable := if io then [] else s.pcie.msixTable, pba := if io then 0 else s.pcie.pba, d3hot := !io && s.pcie.d3hot }
    mailboxes := if io then (List.range 8).map mailboxReset else s.mailboxes
    rings := if io then (List.range 4).map ringReset else s.rings
    routes := List.replicate 16 0, txns := [], txnCount := 0, settings := if io then {} else s.settings.chainOnly, synth := {}
    modes := { rst := s.modes.rst, strapSrc := s.modes.strapSrc, strapPref := s.modes.strapPref, leadPref := s.modes.leadPref }
    ingest := {}, compose := {}, stands := [], bakeQueue := [], links := List.replicate 16 {}, scanLatch := []
    fs := { pcs := s.fs.pcs.map keepPc, retired := s.fs.retired, poolLeft := s.fs.poolLeft }
    chain := if io then { ports := s.chain.ports.map fun (p : Port) => ({ readyRaw := p.readyRaw, readyIn := p.readyIn } : Port) }
             else { s.chain with heldEvents := [], relayBytes := 0, spliceLost := 0, kept := true
                                 ports := s.chain.ports.map fun (p : Port) => { p with buffer := [] } }
    faults := { regions := (s.faults.regions.filter fun r => r.times != []).map RegionRec.overBoot }
    bellows := { b with holder := none, role := none, roleDue := false, bothReset := none, grantCause := 0, missed := 0, chanterBit := 0, lastMoveTick := 0
                        fenceEvents := [], complexes := [fresh, fresh], dieOff := [none, none], rejoin := [0, 0]
                        coldBusy := [false, false], resetDue := [0, 0] }
    recorder := { s.recorder with cursor := if io then 0 else s.recorder.cursor, flushing := none, erasing := none, trigTick := []
                                  trigMerged := [], held := [], fired := [], inReset := false }
    security := { s.security with bootBuffer := [], image := [], staging := [], refusedAt := none }
    fw := {}
    power := { tj := s.power.tj, railMv := s.power.railMv, domains := List.replicate 82 0 ++ [3] }
    owed := [] }

/-! ### Boot (R103 to R110) -/

/-- Largest bundle (R104). -/
def bundleMax : Nat := 12582912

/-- A child asks for the bundle over its parent-role port (R106) (DESIGN CHOICE, log entry 67; DEDUCED, log entry 70). -/
def State.askBundle (s : State) : State :=
  let s := { s with modes := { s.modes with bootRetryAt := s.clock.up } }
  match s.settings.roles.findIdx? (· == 1) with
  | some p => s.sendPort p 0x12 [3]
  | none => s

/-- The A9 can run: Bellows runs, no loss is declared, SYS_RST_N is high. -/
def State.canBoot (s : State) : Bool := s.bellows.running && !s.bellows.powerLost && !s.modes.rst

/-- The boot ROM starts (R103): straps, the retirement list, the Cruise table, the boot source. -/
def State.bootStart (s : State) : State :=
  let src := s.modes.strapSrc % 4
  let s := { s with
    modes := { s.modes with bootStage := 0, bootSource := src, leadPref := s.modes.strapPref, stageAt := s.clock.up, standby := false
                            slot := if src = 0 then 0 else if src = 1 then 2 else 3 }
    pcie := { s.pcie with revRead := false, cruiseGen := 2, cruiseChanged := [], cruiseDue := [] }
    settings := if s.chain.kept then s.settings
      else { s.settings with chainRoot := src != 2, roles := if src = 2 then [1, 2, 3, 4] else [0, 0, 3, 4] }
    chain := { s.chain with kept := false }
    power := { s.power with domains := ({} : Power).domains } }
  let s := s.readRetired.recFixed 0x0010 [0, src, s.modes.slot, 0, s.security.fuses]
  match src with
  | 0 => s.setStage 1 0
  | 1 => s
  | 2 => s.askBundle
  | _ => s.setStage 0xE3 0

/-- Boot starts once the restore of R463 has ended. -/
def State.bootWhenRestored (s : State) : State := if s.canBoot && !s.recorder.restoring then s.bootStart else s

/-- Bellows cold-restarts both compute dies (R103, R110, R482): 0x0050 records, the start counted, boot from the start (DEDUCED, log entry 87). -/
def State.coldRestart (s : State) (cause0 cause1 : Nat) (io : Bool) : State :=
  let s := ({ s with bellows := { s.bellows with starts := (s.bellows.starts + 1) % 0x100000000 } }).latch 1#32
  let s := (s.recFixed 0x0050 [0, cause0, s.bellows.starts]).recFixed 0x0050 [1, cause1, s.bellows.starts]
  (s.halt io).bootWhenRestored

/-- The verified image runs (R107 step 4). -/
def State.releaseComplexes (s : State) (img : List Byte) : State :=
  let s := { s with
    security := { s.security with image := img, bootBuffer := img }
    modes := { s.modes with idBytes := manifestBody img, releasedAt := s.clock.up }
    bellows := { s.bellows with complexes := s.bellows.complexes.map fun (c : Complex) =>
      { c with release := manifestRelease img, measure := manifestMeasure img, epochSeen := s.bellows.epoch } } }
  s.setStage 2 (manifestRollback img)

/-- The bundle under verification: the slot of the flash, the boot buffer, or the bytes the parent sent. -/
def State.bundleInHand (s : State) (sent : List Byte) : Option (List Byte) :=
  match s.modes.bootSource with
  | 0 => if s.flash.present then (s.flash.slots.getD s.modes.slot none).map (·.bytes) else none
  | 1 => if bundleMax < u32 s.security.bootBuffer 8 then none else some (slice s.security.bootBuffer 4096 (u32 s.security.bootBuffer 8))
  | 2 => if bundleMax < sent.length then none else some sent
  | _ => none

/-- A failed verification (R104, R105): the other slot, or the code and a wait (DEDUCED, log entry 82). -/
def State.verifyFails (s : State) (code rollback : Nat) : State :=
  if s.modes.bootSource = 0 ∧ s.modes.slot = 0 then { s with modes := { s.modes with slot := 1 } }
  else
    let s := if s.modes.bootSource = 1 then { s with security := { s.security with bootBuffer := overwrite s.security.bootBuffer 0 [0, 0, 0, 0] } } else s
    s.setStage code rollback

/-- Verification of a bundle ends (R107, R468); an empty slot fails as a signature does. -/
def State.bundleVerified (s : State) (sent : List Byte) : State :=
  if !s.canBoot ∨ s.modes.standby then s else
  let sky := s.modes.bootSource == 2 && (s.modes.bootStage == 0 || 0xE1 ≤ s.modes.bootStage)
  if !sky && s.modes.bootStage != 1 then s else
  let s := if sky then s.setStage 1 0 else s
  match s.bundleInHand sent with
  | none => s.verifyFails 0xE1 0
  | some b =>
    let v := bootVerdict b s.security.lifecycle s.security.fuses
    let s := s.verifyRecords b
    if v = 2 then s.releaseComplexes b else s.verifyFails v (manifestRollback b)

/-- A child without a responding parent retries every 2 s and shows 0xE3 (R106).  After a bundle that failed verification the
child asks again and goes on showing that failure's code (DESIGN CHOICE, log entry 115). -/
def State.bootRetry (s : State) : State :=
  if s.canBoot && s.modes.bootSource == 2 && (s.modes.bootStage == 0 || 0xE1 ≤ s.modes.bootStage) && s.since s.modes.bootRetryAt (sec 2) then
    (if s.modes.bootStage = 0 then s.setStage 0xE3 0 else s).askBundle
  else s

/-- A child's request is served from BOOT_STAGE 0x02 on (R106) (DESIGN CHOICE, log entry 67). -/
def State.serveBundle (s : State) (port : Nat) : State :=
  if 3 < port ∨ s.modes.bootStage < 2 ∨ 4 < s.modes.bootStage ∨ s.security.image = [] then s
  else ({ s with modes := { s.modes with served := s.modes.served + 1 } }).sendPort port 0x12 (4 :: s.security.image)

/-! ### Complexes (R110, R419, R422) -/

/-- The complex boots or reboots, and its self-test has not ended; one that a live update reboots ends that stage (R432). -/
def State.booting (s : State) (d : Nat) : Bool :=
  let c := s.complex d
  d < 2 && 2 ≤ s.modes.bootStage && s.modes.bootStage ≤ 4 && !c.passed && !c.inReset && !c.absent && s.domain (domainBase d + 29) == 1 &&
  (s.bellows.dieOff.getD d none).isNone && (s.faults.region 8 d).state != 3 &&
  !((s.fw.stage == 2 || s.fw.stage == 5) && s.bellows.role != some d)

/-- The self-test of a complex ends (R110, R421 cause 5): at boot it may then request; later it boots as the drone, and the
handler of its own error ends with it. -/
def State.selfTestEnd (s : State) (d : Nat) (ok : Bool) : State :=
  if !s.booting d then s else
  let s := s.updComplex d fun c => { c with present := ok || c.present, passed := ok, stopped := false, epochSeen := s.bellows.epoch }
  let other := otherDie d
  let s := match s.handling other with
    | some r => if r.kind = 8 ∧ r.unit = d then s.handlerEnd other (b2n (!ok)) else s
    | none => s
  if !ok then ((s.selfFence d 5 2).escalate)
  else if s.modes.bootStage = 2 then s.setStage 3 (manifestRollback s.security.image)
  else if s.modes.standby && !(s.complex d).fenced && s.bellows.role != some d then { s with modes := { s.modes with drone := 2 } }
  else s

/-- A complex that has not requested the lease within 600 ms of 0x02 is left absent (R110) (DEDUCED, log entry 75). -/
def State.complexAbsent (s : State) (d : Nat) : State :=
  if d < 2 ∧ 2 ≤ s.modes.bootStage ∧ s.modes.bootStage ≤ 3 ∧ !(s.complex d).requested ∧ s.since s.modes.releasedAt (ms 600) then
    let s := s.updComplex d fun c => { c with absent := true }
    if s.modes.bootStage = 2 ∧ (s.complex (otherDie d)).absent then s.setStage 3 (manifestRollback s.security.image) else s
  else s

/-- Neither complex requests within 2 s of 0x03 (R110): both dies restart, three times at most; the count of consecutive restarts
ends at Standby, and a release of SYS_RST_N in between does not end it (DESIGN CHOICE, log entry 116). -/
def State.leadershipTimeout (s : State) : State :=
  if s.modes.bootStage = 3 ∧ s.bellows.holder = none ∧ s.bellows.bootTries < 3 ∧ s.since s.modes.stageAt (sec 2) then
    ({ s with bellows := { s.bellows with bootTries := s.bellows.bootTries + 1 } }).coldRestart 3 3 false
  else if 3 < s.modes.bootStage ∧ s.bellows.holder = none ∧ s.bellows.bootTries < 3 ∧ s.bellows.bothReset.any (fun t => s.since t (sec 2)) then
    ({ s with bellows := { s.bellows with bootTries := s.bellows.bootTries + 1, bothReset := none } }).coldRestart 3 3 false
  else s

/-- The rollback counter advances to a value that exceeds it (R108, R470). -/
def State.advanceFuses (s : State) (v : Nat) : State :=
  { s with security := { s.security with fuses := max s.security.fuses (min 64 v) } }

/-- A boot reaches Standby while deployed: one other than the first is a cold start (R442) (DEDUCED, log entry 87). -/
def State.countBoot (s : State) : State :=
  if s.security.lifecycle ≠ 1 then s
  else if !s.flash.booted then { s with flash := { s.flash with booted := true } }
  else { s with flash := { s.flash with conditions := s.flash.conditions ||| 4#8, coldStarts := (s.flash.coldStarts + 1) % 0x100000000 } }

/-- The drone's complex is powered down (R111). -/
def State.droneDown (s : State) : State :=
  match s.bellows.role with
  | none => s
  | some d =>
    let o := otherDie d
    let s := if s.domain (domainBase o + 29) = 1 then s.setDomain (domainBase o + 29) 0 else s
    { s.updComplex o fun c => { c with passed := false, supervises := false } with modes := { s.modes with drone := 0 } }

/-- On reaching Standby TIME.SOURCE and SCAN.TIMING take their reset values as changes in Standby (R511). -/
def State.endBootHold (s : State) : State :=
  if !s.tb.bootHold then s else
  let s := { s with tb := { s.tb with bootHold := false } }
  if s.clock.rate = 60 then { s with clock := { s.clock with spread := 1 } }
  else { s with tb := { s.tb with change := some { loadTick := s.clock.tick + 1, newRate := 60, newSpread := 1, direct := true } } }

/-- The opcodes of the stageable commands (R73). -/
def opStages (op : Nat) : Bool :=
  [0x0201, 0x0402, 0x0403, 0x0501, 0x0502, 0x0503, 0x0601, 0x0605, 0x0702, 0x0704, 0x0801, 0x0802, 0x0806, 0x0901, 0x0902, 0x0903,
    0x0904, 0x0A01, 0x0B02, 0x0C01, 0x0C02, 0x0C03, 0x0D01, 0x0F01, 0x1003].contains op

/-- The next transaction ID of a mailbox (R75): the count rises and is never 0 (DESIGN CHOICE, log entry 41). -/
def State.nextTxnId (s : State) (mbx : Nat) : Nat := 8 * (if s.txnCount + 1 = 0x20000000 then 1 else s.txnCount + 1) + mbx

/-- Commands RUNNING at an unplanned change of chanter complete with ABORTED (R69); the implicit transaction of a stageable one is
rolled back, with EV_TXN_ABORTED under its ID (DEDUCED, log entry 87). -/
def State.abortRunning (s : State) : State :=
  forEach (List.range 8) s fun n s =>
    let m := s.mbx n
    if m.state ≠ 2 then s else
    let c := Cmd.parse n m.running
    if opStages c.opcode && c.txn == 0 && !m.tunnelled then
      let id := s.nextTxnId n
      let s := { s with txnCount := id / 8, txns := s.txns ++ [({ id := id, timerAt := s.clock.up, state := 7 } : Txn)] }
      (s.raise evTxnAborted noUnit [1] 0 (BitVec.ofNat 32 id)).complete c
        { ({ status := stAborted } : Err).resp c with txn := BitVec.ofNat 32 id }
    else s.complete c (({ status := stAborted } : Err).resp c)

/-- Standby waits for a complex that may still request the lease: one that has neither done so nor been left absent (R110) (DEDUCED,
log entry 75). -/
def State.awaitsComplex (s : State) : Bool :=
  (List.range 2).any fun k => !(s.complex k).requested && !(s.complex k).absent && (s.faults.region 8 k).state != 3

/-- Boot reaches Standby (R111): the holder is the chanter, FW_UP sets, EV_STANDBY, the fuse, the drone, what was owed (DESIGN CHOICE, log entries 3, 15). -/
def State.standbyReached (s : State) : State :=
  match s.bellows.holder with
  | none => s
  | some d =>
    if s.modes.bootStage ≠ 3 ∨ !s.canBoot ∨ s.awaitsComplex then s else
    let rb := manifestRollback s.security.image
    let s := (s.setStage 4 rb).abortRunning
    let s := { s with
      modes := { s.modes with standby := true, mode := 0, enteredAt := s.clock.tick }
      fs := { s.fs with selfRefresh := true }
      bellows := { s.bellows with role := some d, roleDue := false, chanterBit := d, bootTries := 0 } }
    let absent := (List.range 2).filter fun k => (s.complex k).absent
    let s := (s.updComplex d fun c => { c with supervises := true }).raise evStandby noUnit [s.modes.bootSource]
    let s := (s.advanceFuses rb).countBoot
    let s := absent.foldl (fun s k => if (s.faults.region 8 k).state = 3 then s else s.recordError 8 k 3) s
    let s := if s.bellows.latch.getLsbD 4 then s.raise evPowerLoss noUnit [s.bellows.journalSt, s.bellows.recorderSt] else s
    let s := if s.holdupOk then s else s.holdupEvent
    (s.droneDown).endBootHold

/-! ### Loss of power (R291, R461, R482) -/

/-- Bellows declares loss of A9 power. -/
def State.powerLoss (s : State) : State :=
  if s.bellows.powerLost ∨ !s.bellows.running then s else
  let s := s.safeLoss 0xFFFF
  let s := { s with bellows := { s.bellows with powerLost := true, lossAt := s.clock.up } }
  let s := s.latch 16#32
  let s := s.recFixed 0x0051 [lo32 s.bellows.lossTick, s.bellows.lossOffNs, s.bellows.capMv, s.bellows.lossLinks.toNat]
  let s := s.halt true
  { s with bellows := { s.bellows with journalSt := 1, recorderSt := 0 } }

/-- Bellows loses BELLOWS_IN and runs from its bank (R484). -/
def State.onBank (s : State) : State := { s with bellows := { s.bellows with inOk := false, onHoldup := true } }

/-- A rail below the floor that R482 names for 1 µs: BELLOWS_IN, VDD_IOD, VDDIO (DEDUCED, log entry 86). -/
def State.powerLossBy (s : State) (rail : Nat) : State :=
  if rail = 10 then s.onBank.powerLoss else if rail = 3 ∨ rail = 9 then s.powerLoss else s

/-- A rail is out of range for 10 µs (R481); `mv` is what it reads (DEDUCED, log entry 86). -/
def State.railFault (s : State) (rail mv : Nat) : State :=
  if 11 < rail ∨ !s.bellows.running ∨ !s.railOut rail mv then s else
  let s := { s with power := { s.power with railMv := upd s.power.railMv rail fun _ => sat 0xFFFF mv } }
  let s := s.railEvent rail
  let s := if rail = 11 then s.bankReads mv else s
  if rail < 2 then
    ({ s with power := { s.power with coreFault := upd s.power.coreFault rail fun _ => true } }).hardwareError 9 rail 7
  else if rail < 10 then s.powerLoss
  else if rail = 10 then (if mv < 3135 then s.onBank.powerLoss else s.onBank)
  else s

/-- The steering journal flush ends, and the recorder flush starts. -/
def State.journalFlushed (s : State) (ok : Bool) : State :=
  if s.bellows.journalSt ≠ 1 then s else
  let s := s.flushJournal (ok && s.flash.present)
  { s with bellows := { s.bellows with recorderSt := 1 } }

/-- The recorder flush of the power loss ends; it fails without an erased sector or on a flash error. -/
def State.recorderFlushed (s : State) (ok : Bool) : State :=
  if s.bellows.recorderSt ≠ 1 then s else
  let ok := ok && s.flash.present && decide (s.flash.history.length < 59)
  let s := s.powerFlush ok
  if ok then { s with bellows := { s.bellows with recorderSt := 2 } }
  else ({ s with bellows := { s.bellows with recorderSt := 3 } }).latch 4#32

/-- Every rail has been back in range for 10 ms while Bellows stayed powered (R482); without a loss only BELLOWS_IN, which had left
its range upward, serves Bellows again (R481) (DEDUCED, log entry 86). -/
def State.powerRestore (s : State) : State :=
  if !s.bellows.running then s
  else if !s.bellows.powerLost then { s with bellows := { s.bellows with inOk := true, onHoldup := false } } else
  let s := { s with bellows := { s.bellows with powerLost := false, inOk := true, onHoldup := false } }
  if s.modes.rst then s else s.coldRestart 3 3 true

/-- The bank reading falls below 10.5 V (R486). -/
def State.holdupLow (s : State) (mv : Nat) : State :=
  if 10500 ≤ mv ∨ !s.bellows.running then s else
  s.bankReads mv

/-- The bank reaches 10.5 V. -/
def State.holdupSet (s : State) (mv : Nat) : State :=
  if mv < 10500 ∨ 11500 < mv ∨ !s.bellows.running ∨ !s.bellows.inOk then s else s.bankReads mv

/-! ### SYS_RST_N and Bellows power (R387, R463, R484, R497) -/

/-- SYS_RST_N is taken low (DESIGN CHOICE, log entry 101). -/
def State.rstAssert (s : State) : State :=
  if s.modes.rst then s
  else if !s.bellows.running ∨ s.bellows.powerLost then { s with modes := { s.modes with rst := true } }
  else
    let s := (s.safeLoss 0xFFFF).halt true
    { s with modes := { s.modes with rst := true } }

/-- Device time starts at 0 with tick 0 (R387, R391). -/
def State.startClock (s : State) : State :=
  { s with clock := { up := s.clock.up, tickUp := s.clock.up, nextUp := s.clock.up + framePeriod 60, tbref := s.clock.tbref }
           tb := {}, bellows := { s.bellows with fresh := false } }

/-- SYS_RST_N is released with the straps at the levels given: bits 1:0 BOOT_SRC1 and BOOT_SRC0, bit 2 LEAD_PREF (R103, R496)
(DESIGN CHOICE, log entry 5). -/
def State.rstRelease (s : State) (straps : BitVec 3) : State :=
  if !s.modes.rst then s else
  let s := { s with modes := { s.modes with rst := false, strapSrc := straps.toNat % 4, strapPref := straps.toNat / 4 } }
  if !s.canBoot then s else
  let s := if s.bellows.fresh then s.startClock else s
  let s := { s with bellows := { s.bellows with starts := (s.bellows.starts + 1) % 0x100000000 } }
  s.bootWhenRestored

/-- The bank falls to 4.0 V without BELLOWS_IN: Bellows stops. -/
def State.bellowsStop (s : State) : State :=
  if s.bellows.inOk ∨ !s.bellows.running then s else
  let s := s.halt true
  { s with bellows := { s.bellows with running := false, onHoldup := false, safeLinks := 0xFFFF, capMv := 0 }
           power := { s.power with railMv := upd s.power.railMv 11 fun _ => 0 } }

/-- BELLOWS_IN reaches range after Bellows stopped: Bellows state takes its reset values, the log is cleared, the restore starts. -/
def State.bellowsPowerUp (s : State) : State :=
  if s.bellows.running then s else
  let s := s.halt true
  let s := { s with
    bellows := { powerUps := s.bellows.powerUps + 1, starts := 0, fresh := true
                 journalSeq := match s.newestJournal with | some j => u32 j 8 | none => 0 }
    recorder := {}
    faults := {}
    clock := { up := s.clock.up, tickUp := s.clock.up, nextUp := s.clock.up + framePeriod 60, tbref := s.clock.tbref }
    tb := {}
    power := { s.power with domains := List.replicate 82 0 ++ [3] } }
  let s := s.newSession
  if s.modes.rst then s else
  let s := s.startClock
  { s with bellows := { s.bellows with starts := 1 } }

/-- The restore of R463 ends; boot starts where SYS_RST_N was released. -/
def State.historyRestored (s : State) : State :=
  if !s.recorder.restoring ∨ !s.bellows.running then s else s.restoreEnd.bootWhenRestored

/-! ### Cold reset of one compute die (R417) -/

/-- Links of a die. -/
def dieLinks (d : Nat) : List Nat := span (8 * d) (8 * d + 8)
/-- The links of a die as bits of BLW_SAFE_LINKS. -/
def dieLinkMask (d : Nat) : BitVec 16 := if d = 0 then 0x00FF else 0xFF00

/-- A stand of a die that loses its power: dark, unseen, its bands as the journal leaves them, its trims at code 128. -/
def Stand.dieLost (st : Stand) (bands : List Band) : Stand :=
  { st.freshKerfs with
    bands := bands, dark := true, seen := false, reported := false, temp := none, ready := false, loaded := false, kss := 0, kssDue := false, bring := 0, admission := 0
    lutPending := false, lutAcked := false, lutNext := []
    cal := { st.cal with op := 0, opParams := [], parked := none, mixed := false, reload := false, baking := none, bakeT := none, trims := [], newTrims := [], cand := [], samples := [] } }

/-- The calibration operations of a stand end as its die goes: the stand is out of reach (R232). -/
def State.calCut (s : State) (i : Nat) : State :=
  let c := (s.stand i).cal
  let s := if c.op = 0 then s else s.raise evCalDone i [c.op, 5] c.opTag
  match c.parked with
  | some p => s.raise evCalDone i [3, 5] p.2
  | none => s

/-- Every ray frame is filled with code 0 (R100). -/
def State.rayZero (s : State) : State :=
  let lo (d : Nat) : Nat := dieBase d + s.settings.frameBase.getD d 0 * 0x100000
  let hi (d : Nat) : Nat := lo d + 2 * s.settings.frameMib d * 0x100000
  { s with fs := { s.fs with mem := Mem.clear (Mem.clear s.fs.mem (lo 0) (hi 0)) (lo 1) (hi 1) } }

/-- The A9's state as a die goes off. -/
def State.dieGoesOff (s : State) (d : Nat) : State :=
  let mine := (List.range s.stands.length).filter fun i => s.dieOfStand i == d
  let s := mine.foldl (fun s i => let bands := s.liveBands i; (s.calCut i).updStand i fun st => st.dieLost bands) s
  let s := (dieLinks d).foldl (fun s l => s.updLink l fun _ => {}) s
  let s := forEach (span (4 * d) (4 * d + 4)) s fun k s =>
    if s.ingest.decState.getD k 0 = 3 then s else s.decoderLost k 0
  let s := if d = 0 then s.blitDiscard else s
  let s := s.updComplex d fun c => { c with passed := false, fenced := false, fenceAt := none, lapseAt := none, inReset := true, stopped := false, supervises := false }
  let lo := 64 * gib * d
  let f := s.fs
  { s with
    bakeQueue := s.bakeQueue.filter fun i => !mine.contains i
    modes := { s.modes with drone := 0 }
    fs := { f with pcs := f.pcs.map fun (c : PseudoChannel) => if c.pc / 64 = d then { c.lostPower with powered := [], woke := [], debt := 0, refAt := 0 } else c
                   rtFill := f.rtFill.mapIdx fun n v => if n / 8 = d then 0 else v, rtPanic := f.rtPanic.filter fun e => e.1 / 8 != d
                   mem := Mem.clear f.mem lo (lo + 64 * gib), poisoned := f.poisoned.filter fun g => g < lo / 256 || (lo + 64 * gib) / 256 ≤ g
                   avail := upd f.avail d (fun _ => false), trained := upd f.trained d (fun _ => 0)
                   trainQueue := f.trainQueue.filter fun e => e.2.1 != 4 + d, retiring := f.retiring.filter fun e => e.1 != d
                   moves := f.moves.filter fun e => e.die != d, reserveCopy := f.reserveCopy.filter fun n => n / 64 != d }
    power := { s.power with
      domains := s.power.domains.mapIdx fun n v => if (dieDomains d).contains n then 0 else v
      reedMhz := upd s.power.reedMhz d (fun _ => 1500), vcore := upd s.power.vcore d (fun _ => 720)
      throttle := upd s.power.throttle d (fun _ => false), avsLimited := upd s.power.avsLimited d fun _ => false } }

/-- What a die's firmware region held of the commits is lost with it (R424): an armed transaction recorded in the chanter alone is
discarded whole as that complex's die goes (R83), whatever its role has become; of one recorded in both, the other die's record is left. -/
def State.commitsLost (s : State) (d : Nat) : State :=
  let s := { s with txns := s.txns.filter fun t => t.state != 1 || t.both || t.die != d }
  { s with txns := s.txns.map fun (t : Txn) => if t.state = 1 ∧ t.both then { t with both := false, die := otherDie d } else t }

/-- Bellows cold-resets a die; with the other die off it is a cold restart of both. -/
def State.dieColdReset (s : State) (d : Nat) : State :=
  let cause := s.bellows.resetDue.getD d 0
  if 1 < d ∨ cause = 0 ∨ !s.canBoot ∨ (s.bellows.dieOff.getD d none).isSome then s
  else if (s.bellows.dieOff.getD (otherDie d) none).isSome then
    (s.safeLoss 0xFFFF).coldRestart (if d = 0 then cause else s.bellows.dieCause.getD 0 1) (if d = 1 then cause else s.bellows.dieCause.getD 1 1) false
  else
    let s := s.safeLoss (dieLinkMask d)
    let s := s.commitsLost d
    let s := if s.bellows.holder = some d then s.leaseEnd 3 else s
    let s := s.dieGoesOff d
    let s := { s with bellows := { s.bellows with
      dieOff := upd s.bellows.dieOff d (fun _ => some s.clock.up), dieCause := upd s.bellows.dieCause d (fun _ => cause)
      rejoin := upd s.bellows.rejoin d fun _ => 0 } }
    s.recFixed 0x0050 [d, cause, s.bellows.starts]

/-- A cold-reset die powers up and starts its rejoin: the complex as the drone, its stacks' training, its links (DEDUCED, log entry 88). -/
def State.diePowerUp (s : State) (d : Nat) : State :=
  match s.bellows.dieOff.getD d none with
  | none => s
  | some t =>
    if 1 < d ∨ !s.since t (ms 1) ∨ (s.faults.region 9 d).state = 3 ∨ s.power.coreFault.getD d false ∨ !s.canBoot then s else
    let s := s.latch 1#32
    let b := s.bellows
    let play := s.modes.mode != 0
    let s := { s with
      bellows := { b with starts := (b.starts + 1) % 0x100000000, dieOff := upd b.dieOff d (fun _ => none)
                          coldBusy := upd b.coldBusy d (fun _ => false), resetDue := upd b.resetDue d (fun _ => 0)
                          rejoin := upd b.rejoin d fun _ => if play then 3 else 0 }
      power := { s.power with domains := s.power.domains.mapIdx fun n v => if (dieDomains d).contains n && domainKind n != 1 then 1 else v }
      modes := { s.modes with stepAt := s.clock.up, drone := if s.modes.standby && play then 1 else s.modes.drone } }
    let s := (s.banksForMode).updComplex d fun c => { c with inReset := false }
    let s := if (s.faults.region 9 d).state = 4 then s.updRegion 9 d fun r => { r with out := false } else s
    if !play then (if s.bellows.role = some (otherDie d) then s.droneDown else s) else
    let s := { s with fs := { s.fs with trainQueue := s.fs.trainQueue ++ [(0xFF, 4 + d, 0)] } }
    (s.settings.linksUsed.filter fun l => dieOfLink l == d && (s.settings.links.getD l {}).rate != 0).foldl
      (fun s l => (s.updLink l fun k => { k with attempts := 0 }).startBringup l) s

/-- A fenced die's core rail has been in range for 10 ms. -/
def State.coreRestored (s : State) (d : Nat) : State :=
  if 1 < d ∨ !s.power.coreFault.getD d false then s
  else ({ s with power := { s.power with coreFault := upd s.power.coreFault d fun _ => false } }).diePowerUp d

/-- A junction at 110.0 °C for 10 ms (R489). -/
def State.thermalFence (s : State) (k : Nat) : State :=
  match s.power.hotSince.getD k none with
  | none => s
  | some t => if !s.since t (ms 10) then s else if k < 2 then s.hardwareError 9 k 7 else s.powerLoss

/-! ### I/O blocks (R418) -/

/-- An I/O block resumes 1 ms after its reset, while its handler tests it; one that is fenced does not (DEDUCED, log entry 74). -/
def State.ioResume (s : State) (n : Nat) : State :=
  let r := s.faults.region 10 n
  if !regionExists 10 n ∨ !r.out ∨ !r.handled ∨ r.fenced ∨ !s.since r.fencedAt (ms 1) then s else
  (s.updRegion 10 n fun r => { r with out := false }).blockOn n

end Sys2Proof.Machine
end

