-- ==== Sys2Proof/Machine/BringUp.lean ====
section
/-! DEFINITION. Bring-up (R113 to R115), and the same steps 3 to 6 as a cold-reset die rejoins (R417). -/

namespace Sys2Proof.Machine

/-- The step in progress: of Bring-up, or of the rejoin of a die. -/
def State.phase (s : State) : Option Nat → Nat
  | none => s.modes.step
  | some d => s.bellows.rejoin.getD d 0

/-- A step begins. -/
def State.setPhase (s : State) (who : Option Nat) (n : Nat) : State :=
  match who with
  | none => { s with modes := { s.modes with step := n, stepAt := s.clock.up } }
  | some d => { s with bellows := { s.bellows with rejoin := upd s.bellows.rejoin d fun _ => n }
                       modes := { s.modes with stepAt := s.clock.up } }

/-- The record of a step that ends for the whole A9 (R451) (DEDUCED, log entry 46). -/
def State.stepEnded (s : State) (step result : Nat) : State :=
  s.recFixed 0x0030 [step, result, 0xFFFFFFFF, (s.clock.up - s.modes.stepAt) / 3000]

/-- A die takes part. -/
def takesPart (who : Option Nat) (die : Nat) : Bool := match who with | none => true | some d => die == d

/-- Stands that are not excluded, in scope. -/
def State.scope (s : State) (who : Option Nat) : List Nat :=
  (List.range s.stands.length).filter fun i => takesPart who (s.dieOfStand i) && !(s.stand i).excluded && !(s.stand i).released

/-- Links in scope. -/
def State.scopeLinks (s : State) (who : Option Nat) : List Nat :=
  s.settings.linksUsed.filter fun l => takesPart who (dieOfLink l)

/-- Step 2 has ended. -/
def State.trainDone (s : State) : Option Nat → Bool
  | none => !s.fs.trainQueue.any fun e => e.2.1 == 3
  | some d => !s.fs.trainQueue.any fun e => e.2.1 == 4 + d

/-- Step 4 for one stand whose STATUS and TEMP have come: its identity, its type (R114, R260, R332) (DEDUCED, log entry 45). -/
def State.checkStand (s : State) (i : Nat) : State :=
  let st := s.stand i
  if st.bring ≠ 0 ∨ !st.seen ∨ st.temp.isNone then s
  else if !s.identityOk i then s.excludeStatus i 4
  else
    let r := s.recordType i
    if !r.2 then r.1.excludeStatus i 4 else r.1.updStand i fun st => { st with bring := 1 }

/-- Step 5 ends for a stand: its tables go to the receiver. -/
def State.standLoaded (s : State) (i : Nat) : State :=
  let c := s.standCfg i
  let s := ((s.loadLut i (s.widthsOf c)).sendCmd i 2 0 (s.tableOf c)).updStand i fun st => { st with bring := 3, lutWant := true, lutNext := [], steerDue := false }
  s.stepRecord c.link 5 0 i

/-- Step 5 for one stand whose load runs. -/
def State.loadStep (s : State) (i : Nat) : State :=
  let st := s.stand i
  if st.bring ≠ 2 ∨ st.cal.op = 4 then s
  else if st.loaded then s.standLoaded i
  else s.excludeStatus i 5

/-- The next load of a link: one stand at a time, in map order (R113). -/
def State.loadLink (s : State) (l : Nat) : State :=
  let mine := (s.settings.standsOn l).filter fun i => !(s.stand i).excluded && !(s.stand i).released
  if mine.any fun i => (s.stand i).bring == 2 && (s.stand i).cal.opParams.length != 2 then s else
  match mine.find? fun i => (s.stand i).bring == 1 && (s.stand i).cal.op == 0 with
  | none => s
  | some i =>
    let s := (if (s.stand i).cal.faults = [] then s else s.needRebuild i).updStand i fun st => { st with
      bring := 2, loaded := false, cal := { st.cal with faults := [], op := 4, opParams := [3], opTag := s.modes.modeTag } }
    s.askMemory i

/-- Bring-up, or a rejoin, goes on as far as it can. -/
def State.bringStep (s : State) (who : Option Nat) : State :=
  match s.phase who with
  | 2 | 3 =>
    if !s.trainDone who then s
    else
      let s := if s.phase who = 2 then (s.stepEnded 2 (b2n (!(s.storeUp 0 && s.storeUp 1)))).setPhase who 3 else s
      if (s.scopeLinks who).any fun l => (s.link l).state == 1 then s else s.setPhase who 4
  | 4 =>
    let s := (s.scope who).foldl (fun s i => s.checkStand i) s
    let s := if s.since s.modes.stepAt (ms 2) then
        (s.scope who).foldl (fun s i => if (s.stand i).bring = 0 then s.excludeStatus i 4 else s) s else s
    if (s.scope who).any fun i => (s.stand i).bring == 0 then s
    else
      let s := s.stepEnded 4 0
      if who.isNone && s.modes.keepCal then
        let s := (s.scope who).foldl (fun s i => s.updStand i fun st => { st with bring := 3, loaded := true }) s
        s.setPhase who 6
      else s.setPhase who 5
  | 5 =>
    let s := (s.scope who).foldl (fun s i => s.loadStep i) s
    let s := (s.scopeLinks who).foldl (fun s l => s.loadLink l) s
    if (s.scope who).any fun i => (s.stand i).bring != 3 then s else (s.stepEnded 5 0).setPhase who 6
  | _ => s

/-- Steps follow one another without a command of their own: as far as one settle takes them (DEDUCED, log entry 88). -/
def State.bringSettle (s : State) : State :=
  let s := if s.modes.mode = 1 ∧ 2 ≤ s.modes.step ∧ s.modes.step ≤ 5 then ((s.bringStep none).bringStep none).bringStep none else s
  forEach [0, 1] s fun d s =>
    let n := s.bellows.rejoin.getD d 0
    if 3 ≤ n ∧ n ≤ 5 then ((s.bringStep (some d)).bringStep (some d)).bringStep (some d) else s

/-- Bring-up starts at its tick (R102, R113 step 1); MODE.GET.STEP shows 2 while steps 1, 2 and 3 run beside one another, then 3
while links still come up, and never 1 (DESIGN CHOICE, log entry 117): domains, the drone, ray frames filled with code 0, training, links (DEDUCED, log entry 45). -/
def State.bringStart (s : State) : State :=
  let keep := s.modes.keepTraining && s.fs.trained.all fun m => bitOf m s.fs.setPoint
  let zero := fun (st : Stand) => { st with bring := 0, ready := false, dark := true, kssDue := false }
  let s := s.powerUpDies.rayZero
  let s := { s with
    stands := s.stands.map zero
    modes := { s.modes with step := if keep then 3 else 2, stepAt := s.clock.up, ready := false, drone := if s.modes.drone = 0 then 1 else s.modes.drone }
    fs := { s.fs with selfRefresh := false, trainQueue := if keep then s.fs.trainQueue else s.fs.trainQueue ++ [(0xFF, 3, 0)] } }
  (s.settings.linksUsed.filter fun l => (s.link l).state == 0 && (s.bellows.dieOff.getD (dieOfLink l) none).isNone).foldl
    (fun s l => (s.updLink l fun k => { k with attempts := 0 }).startBringup l) s

/-- Step 6 starts at a blank: the journal is read, every stand's sequence is due. -/
def State.sequenceStart (s : State) (who : Option Nat) : State :=
  if s.phase who ≠ 6 ∨ !(s.scope who).any (fun i => (s.stand i).bring == 3) then s else
  let s := if who.isNone && !(s.stands.any fun st => 4 ≤ st.bring) then s.readJournal else s
  (s.scope who).foldl (fun s i => s.updStand i fun st =>
    if st.bring = 3 then { st with bring := 4, kssDue := true, ready := false } else st) s

/-- Step 6 has ended for every stand in scope: its known-state sequence ended, or it is ready already (R115). -/
def State.sequenceOver (s : State) (who : Option Nat) : Bool :=
  s.phase who == 6 && (s.scope who).all fun i => ((s.stand i).bring == 5 || (s.stand i).ready) && (s.stand i).kss == 0 && !(s.stand i).kssDue

/-- Bring-up is complete (R115); a rejoin is over. -/
def State.bringEnd (s : State) (who : Option Nat) : State :=
  if !s.sequenceOver who then s else
  let s := s.stepEnded 6 0
  let s := (s.scope who).foldl (fun s i => s.updStand i fun st => { st with ready := true, bring := 0 }) s
  match who with
  | none => { s.eraseOldCopy with modes := { s.eraseOldCopy.modes with step := 7, ready := true } }
  | some _ => s.setPhase who 0

/-- At a tick, whatever has ended is complete (DEDUCED, log entry 45). -/
def State.bringTick (s : State) : State :=
  let s := if s.modes.mode = 1 then s.bringEnd none else s
  forEach [0, 1] s fun d s => s.bringEnd (some d)

/-- The drone has mirrored the committed configuration, the armed commits with it (R80, R113, R422). -/
def State.droneInSync (s : State) : State :=
  if s.modes.drone ≠ 2 then s else
  let s := { s with modes := { s.modes with drone := 3 }, txns := s.txns.map fun (t : Txn) => if t.state = 1 then { t with both := true } else t }
  if s.modes.mode = 1 ∧ s.modes.step ≠ 7 then s.stepEnded 1 0 else s

end Sys2Proof.Machine
end

