-- ==== Sys2Proof/Machine/FwUpdate.lean ====
section
/-! DEFINITION. Live service: the live update of the firmware (R431 to R436), the service hours and the spare budgets
(R440 to R442). -/

namespace Sys2Proof.Machine

/-! ### Live update -/

/-- A stage ends or fails (R432): EV_FW_UPDATE and the 0x0070 record with the new release. -/
def State.fwEvent (s : State) (stage result : Nat) : State :=
  (s.recFixed 0x0070 [stage, result, manifestRelease s.security.staging]).raise evFwUpdate noUnit [stage, result] s.fw.tag

/-- The update ends: the staging buffer is given up. -/
def State.fwOver (s : State) : State := { s with fw := {}, security := { s.security with staging := [] } }

/-- The complex that is updated: the drone's, which is the former chanter's from the handover on. -/
def State.fwDie (s : State) : Nat := otherDie (s.bellows.role.getD 0)

/-- A complex is reset to boot an image: it supervises nothing, and DRONE_STATE follows (DEDUCED, log entry 89). -/
def State.fwReboot (s : State) (d drone : Nat) : State :=
  let s := s.updComplex d fun c => { c with passed := false, supervises := false, stopped := false }
  { s with modes := { s.modes with drone := drone } }

/-- A complex runs the staged image and has passed its self-test. -/
def State.fwBooted (s : State) (d drone : Nat) : State :=
  let img := s.security.staging
  let s := s.updComplex d fun c => { c with
    present := true, passed := true, supervises := true, epochSeen := s.bellows.epoch, release := manifestRelease img, measure := manifestMeasure img }
  { s with modes := { s.modes with drone := drone } }

/-- The update fails with a result; a complex that runs or boots the staged image before the handover boots the image in the
boot buffer instead (DEDUCED, log entry 89). -/
def State.fwFails (s : State) (result : Nat) : State :=
  let before := s.fw.stage == 2 || s.fw.stage == 3 || s.fw.stage == 4
  let d := s.fw.newChanter
  let img := s.security.image
  let s := s.fwEvent s.fw.stage result
  let s := if before && !(s.complex d).inReset && !(s.complex d).fenced then
      (s.fwReboot d 1).updComplex d fun c => { c with release := manifestRelease img, measure := manifestMeasure img }
    else s
  s.fwOver

/-- The skew rules of R433 beside the rollback value: Enuenel 3.x, command-set revision 3, the running release in range. -/
def skewOk (b : List Byte) (running : Nat) : Bool :=
  u8 b 12 == 3 && u16 b 16 == 3 && u32 b 32 ≤ running && running ≤ u32 b 36

/-- Result of stage 1 (R107 steps 1 to 3, R433, R468): signatures, validity, rollback, digests, skew rules; 0 for a pass. -/
def State.fwVerdict (s : State) : Nat :=
  let b := s.security.staging
  if bundleSigs b ≠ 0 then 1
  else if !manifestValid b s.security.lifecycle then 3
  else if rollbackBad b s.security.fuses then 2
  else if !digestsOk b then 1
  else if !skewOk b (s.complex (s.bellows.role.getD 0)).release then 3
  else 0

/-- Next stage. -/
def State.fwNext (s : State) (stage : Nat) : State := { s with fw := { s.fw with stage := stage, stageAt := s.clock.up } }

/-- Limit of a stage (R432). -/
def stageLimit : Nat → Nat
  | 1 => ms 80
  | 2 => ms 700
  | 3 => ms 300
  | 5 => sec 1
  | _ => sec 90

/-- Stage 1 ends. -/
def State.fwStage1 (s : State) : State :=
  match s.fwVerdict with
  | 0 =>
    let s := { s.fwEvent 1 0 with fw := { s.fw with newChanter := s.fwDie } }
    (s.fwReboot s.fwDie 4).fwNext 2
  | r =>
    let sig := bundleSigs s.security.staging
    let s := if r = 1 then s.raise evSigFail noUnit [1, sig] s.fw.tag else s
    s.fwFails r

/-- First tick at or after AT_TICK that lies at least 3 ms ahead (R434). -/
def State.handoverTick (s : State) : Nat :=
  let p := s.period
  let late := s.clock.up + ms 3 - s.clock.nextUp
  max s.fw.atTick (s.clock.tick + 1 + (late + p - 1) / p)

/-- The instant of a future tick under the timing in force. -/
def State.tickInstant (s : State) (t : Nat) : Nat := s.clock.nextUp + (t - s.clock.tick - 1) * s.period

/-- Stage 6 ends (R436): slot A goes to slot B, then the bundle to slot A; `outcome` 1: the copy failed, 2: the write failed. -/
def State.fwFlash (s : State) (outcome : Nat) : State :=
  let a := s.flash.slots.getD 0 none
  if !s.flash.present then s.fwFails 6
  else if outcome = 1 then (({ s with flash := { s.flash with slots := [a, none] } }).fwFails 6)
  else if outcome ≠ 0 then (({ s with flash := { s.flash with slots := [none, a] } }).fwFails 6)
  else
    let s := { s with flash := { s.flash with slots := [some { bytes := s.security.staging }, a] } }
    (s.fwEvent 6 0).fwOver

/-- A stage of a live update ends or fails (R432): stage 1 by what the verifier finds, the others by `outcome`, 0 for success.
An end beyond the stage's limit is a failure; stage 4 ends at its tick (DEDUCED, log entry 89). -/
def State.fwStageEnd (s : State) (outcome : Nat) : State :=
  let outcome := if outcome = 0 ∧ s.fw.stageAt + stageLimit s.fw.stage < s.clock.up then 2 else outcome
  match s.fw.stage with
  | 1 => s.fwStage1
  | 2 => if outcome ≠ 0 then s.fwFails 4 else ((s.fwBooted s.fw.newChanter 2).fwEvent 2 0).fwNext 3
  | 3 =>
    if outcome ≠ 0 then s.fwFails 4
    else
      let s := { s with modes := { s.modes with drone := 3 } }
      let s := { s.fwEvent 3 0 with fw := { s.fw with stage := 4 } }
      { s with fw := { s.fw with handover := s.handoverTick } }
  | 5 =>
    if (s.complex s.fwDie).inReset || (s.complex s.fwDie).fenced then s
    else if outcome ≠ 0 then { s.fwFails 4 with modes := { s.modes with drone := 1 } }
    else
      let s := (s.fwBooted s.fwDie 3).advanceFuses (manifestRollback s.security.staging)
      let s := s.fwEvent 5 0
      if s.fw.flags.getLsbD 0 then s.fwNext 6 else s.fwOver
  | 6 => s.fwFlash outcome
  | _ => s

/-- H − 2.5 ms: the chanter arms the handover (R434). -/
def State.handoverArm (s : State) : State :=
  if s.fw.stage = 4 ∧ !s.fw.armed ∧ s.tickInstant s.fw.handover ≤ s.clock.up + us 2500 then { s with fw := { s.fw with armed := true } } else s

/-- H − 1 µs: Bellows grants the lease to the drone (R434); the role changes at H. -/
def State.handoverGrant (s : State) : State :=
  if s.fw.stage = 4 ∧ s.fw.armed ∧ !s.fw.granted ∧ s.tickInstant s.fw.handover ≤ s.clock.up + us 1 then
    let s := { s with fw := { s.fw with granted := true }, bellows := { s.bellows with grantCause := 4 } }
    s.grant s.fw.newChanter
  else s

/-- At H the drone has the role: EV_FW_UPDATE, the staged image is the boot image, the former chanter is updated. -/
def State.handoverDone (s : State) : State :=
  if s.fw.stage ≠ 4 ∨ !s.fw.granted then s else
  let s := s.fwEvent 4 0
  let img := s.security.staging
  let s := { s with
    security := { s.security with image := img, bootBuffer := img }
    modes := { s.modes with idBytes := manifestBody img }
    fw := { s.fw with stage := 5, armed := false, stageAt := s.clock.up } }
  s.fwReboot s.fwDie 4

/-- Before the handover, a lease move other than the planned one and an error of a complex abort the update (R435). -/
def State.fwWatch (s : State) (before : State) : State :=
  let b := before.bellows
  let moved := b.holder != s.bellows.holder && !(s.fw.granted && !before.fw.granted)
  let failed := b.selfFences != s.bellows.selfFences || [0, 1].any fun d =>
    (before.faults.region 8 d).times.length < (s.faults.region 8 d).times.length
  if 1 ≤ before.fw.stage ∧ before.fw.stage ≤ 4 ∧ before.fw.stage = s.fw.stage ∧ (moved ∨ failed) then s.fwFails 5 else s

/-- SEC.FW_UPDATE (R431): stage 1 starts with the copy into the staging buffer (DEDUCED, log entry 89). -/
def secFwUpdate : CmdDef where
  opcode := 0x0E04
  kind := .immediate
  lenOk := lenIs 32
  checks := fun s c =>
    let p := c.payload
    let len := u32 p 8
    rsvBits p 12 0xFE ++ rsvBytes p 13 16 ++ rsvBytes p 24 32 ++
    chkP (len == 0 || bundleMax < len) stBadField 8 ++
    chkP (u64 p 0 % 256 != 0 || !inFree (u64 p 0) len) stBadField 0 ++
    chk (s.modes.mode == 0 || s.modes.mode == 1) stBadMode ++
    chkP (s.clock.tick + 3600 < u64 p 16) stTickRange 16 ++
    chk (s.modes.drone != 3 || s.fw.stage != 0) stBusy
  run := fun s c =>
    let p := c.payload
    let img := Mem.reads s.fs.mem (u64 p 0) (u32 p 8)
    .done { s with
      fw := { stage := 1, flags := byteAt p 12, atTick := u64 p 16, tag := c.tag, stageAt := s.clock.up }
      security := { s.security with staging := img } } [] c.txn

/-! ### Spare budgets -/

/-- Budget of a pool after some service hours (R441). -/
def budgetOf (serviceHours pool : Nat) : Nat :=
  let f := min 87600 (max serviceHours 8760)
  (pool * f + 87599) / 87600

/-- Units of a spare resource (R440), each with its pool and its used count.  A bank is numbered pseudo-channel × 64 + stack
ID × 16 + bank (DEDUCED, log entry 77). -/
def State.spareUnits (s : State) : (kind : Nat) → List (Nat × Nat × Nat)
  | 1 => (List.range 16).map fun q => (q, 2, (s.faults.spared.filter fun e => e.1 / 34 == q).length)
  | 2 => (List.range 16).map fun l => (l, 1, b2n ((s.link l).spared != 0xFF))
  | 3 => (List.range 16).map fun l => (l, 1, b2n (s.link l).retOnSpare)
  | 4 => [0, 1].map fun d => (d, 1024, 1024 - s.fs.poolLeft.getD d 0)
  | 5 => (List.range 128).flatMap fun n =>
      let c := s.fs.pc n
      (List.range 64).map fun b => (64 * n + b, Config.rowRepairs n b, lookupD c.bankUsed b 0)
  | 6 => [0, 1].map fun d => (d, 1, b2n ((s.fs.pcs.any fun c => c.reserve && c.pc / 64 == d) || s.fs.reserveCopy.any fun n => n / 64 == d))
  | 7 => [(0, 1024, s.flash.retireList.length)]
  | 8 => [0, 1].map fun d =>
      (d, 1048576, ((List.range s.stands.length).map fun i => if s.dieOfStand i = d then (s.stand i).cal.entries.length else 0).foldl (· + ·) 0)
  | _ => []

/-- The unit with the highest used to pool ratio, the first among equals (DEDUCED, log entry 77). -/
def worstUnit : List (Nat × Nat × Nat) → Nat × Nat × Nat
  | [] => (0, 0, 0)
  | u :: us => us.foldl (fun (w v : Nat × Nat × Nat) => if w.2.2 * v.2.1 < v.2.2 * w.2.1 then v else w) u

/-- A unit is over its budget; its pool is empty. -/
def overBudget (h : Nat) (u : Nat × Nat × Nat) : Bool := budgetOf h u.2.1 < u.2.2
def poolEmpty (u : Nat × Nat × Nat) : Bool := u.2.1 ≤ u.2.2 && 0 < u.2.2

/-- One kind judged after a change (R441): a unit that goes over its budget, or whose pool is emptied (DEDUCED, log entries 77, 92). -/
def State.judgeKind (s : State) (before : List (Nat × Nat × Nat)) (kind : Nat) : State :=
  let h := s.flash.serviceHours
  let now := s.spareUnits kind
  if now = before then s else
  let pairs := now.zip before
  let above := pairs.any fun e => overBudget h e.1 && !overBudget h e.2
  let empty := pairs.any fun e => poolEmpty e.1 && !poolEmpty e.2
  let s := if above then { s with flash := { s.flash with conditions := s.flash.conditions ||| 1#8 } } else s
  if above || empty then
    let w := worstUnit now
    s.raise evSpareBudget noUnit [kind, w.2.2, budgetOf h w.2.1]
  else s

/-- Every kind judged against the state before a command. -/
def State.judgeSpares (s : State) (before : State) : State :=
  let s := forEach [1, 2, 3, 4, 6, 7, 8] s fun k s => s.judgeKind (before.spareUnits k) k
  if s.fs.pcs.map (·.bankUsed) = before.fs.pcs.map (·.bankUsed) then s else s.judgeKind (before.spareUnits 5) 5

/-- One entry of SYS.SPARES. -/
def State.spareEntry (s : State) (kind : Nat) : List Byte :=
  let h := s.flash.serviceHours
  let us := s.spareUnits kind
  let sum := fun (g : Nat × Nat × Nat → Nat) => (us.map g).foldl (· + ·) 0
  let w := worstUnit us
  le 1 kind ++ le 1 (maskOf [us.any (overBudget h), us.any poolEmpty]) ++ le 2 w.1 ++ le 4 (sum (·.2.1)) ++ le 4 (sum (·.2.2)) ++
  le 4 (sum fun u => budgetOf h u.2.1) ++ le 4 w.2.1 ++ le 4 w.2.2

/-- Response payload of SYS.SPARES (R442). -/
def State.sparesPayload (s : State) : List Byte :=
  le 4 s.flash.serviceHours ++ [8] ++ le 1 s.flash.conditions.toNat ++ zeros 2 ++ le 4 s.flash.breaches ++ le 4 s.flash.coldStarts ++
  ([1, 2, 3, 4, 5, 6, 7, 8].flatMap fun k => s.spareEntry k) ++ zeros 48

/-- SYS.SPARES. -/
def sysSpares : CmdDef where
  opcode := 0x0105
  kind := .immediate
  lenOk := lenIs 0
  checks := noChecks
  run := fun s c => .done s s.sparesPayload c.txn

/-- An hour passes with BELLOWS_IN powered (R441): counted while deployed (DEDUCED, log entry 106). -/
def State.serviceHour (s : State) : State :=
  if s.bellows.running && s.bellows.inOk && s.security.lifecycle == 1 then
    { s with flash := { s.flash with serviceHours := (s.flash.serviceHours + 1) % 0x100000000 } }
  else s

end Sys2Proof.Machine
end

