-- ==== Sys2Proof/Machine/Txn.lean ====
section
/-! DEFINITION. Configuration transactions (R75 to R86): staging, commit with its validation (R80, R98, R99, R112, R260, R266,
R301, R330, R380), the cut-off (R81), and what applies at a blank (R83); MODE.SET and the commands that look at armed
transactions. -/

namespace Sys2Proof.Machine

/-! ### MODE.SET and MODE.GET (R96 to R98) -/

/-- What the table of R98 says of a transition: 0 no, 1 yes or unchanged, 2 ready. -/
def transition (old new : Nat) : Nat :=
  match old with
  | 0 => b2n (new ≤ 1)
  | 1 => if new = 0 then 1 else if new = 1 ∨ new = 6 then 0 else 2
  | 7 => b2n (new != 6)
  | _ => 1

/-- MODE.SET (R96, R98). -/
def modeSet : CmdDef where
  opcode := 0x0201
  kind := .stageable
  lenOk := lenIs 8
  checks _ c := chkP (7 < u8 c.payload 0) stBadField 0 ++ rsvBits c.payload 1 0xFC ++ rsvBytes c.payload 2 8
  validate s atBlank base _ fin p :=
    let n := transition base.mode (u8 p 0)
    let unready := atBlank && !(s.modes.mode == 1 && s.modes.ready)
    chkP (fin.mode == u8 p 0 && (n == 0 || (n == 2 && unready))) stBadMode 0
  apply p c := { c with mode := u8 p 0, modeFlags := byteAt p 1 }
  effect _ p tag txn s :=
    let m := u8 p 0
    let change := m != s.modes.mode
    { s with modes := { s.modes with
        modeDue := if change then some m else none
        modeTag := tag, modeTxn := txn
        keepTraining := m == 1 && bitOf (u8 p 1) 0, keepCal := m == 1 && bitOf (u8 p 1) 1 } }

/-! ### Transactions in the order they apply -/

/-- `a` applies before `b` (R83): by blank, then by commit instant. -/
def Txn.before (a b : Txn) : Bool := a.applyTick < b.applyTick || (a.applyTick == b.applyTick && a.order < b.order)

/-- A transaction put in its place. -/
def insertTxn (t : Txn) : List Txn → List Txn
  | [] => [t]
  | u :: us => if t.before u then t :: u :: us else u :: insertTxn t us

/-- The armed transactions in the order in which they apply. -/
def State.armed (s : State) : List Txn := (s.txns.filter fun t => t.state == 1).foldr insertTxn []

/-- Changes a transaction. -/
def State.updTxn (s : State) (id : Nat) (f : Txn → Txn) : State :=
  { s with txns := s.txns.map fun (t : Txn) => if t.id = id then f t else t }

/-- The transaction with an ID. -/
def State.txn (s : State) (id : Nat) : Option Txn := s.txns.find? fun t => t.id == id

/-- Mailbox of an ID (R75). -/
def txnMailbox (id : Nat) : Nat := id % 8

/-- The last 64 transactions of a mailbox (R85). -/
def State.kept (s : State) (mbx : Nat) : List Txn :=
  let l := s.txns.filter fun t => txnMailbox t.id == mbx
  l.drop (l.length - 64)

/-- Closed transactions beyond the last 64 of their mailbox are forgotten. -/
def State.forgetTxns (s : State) : State :=
  { s with txns := s.txns.filter fun t => t.state ≤ 1 || (s.kept (txnMailbox t.id)).any (·.id == t.id) }

/-- Keys delivered for an armed open that no longer stands are erased (R132). -/
def State.dropArmedKeys (s : State) : State :=
  { s with ingest := { s.ingest with armedKeys := s.ingest.armedKeys.filter fun e => s.armedOpens e.1 } }

/-- What the preparation of a discarded transaction had started is given up (R263). -/
def State.undoPrepared (s : State) (t : Txn) : State :=
  let gone := (t.staged.filter fun c => c.opcode == 0x0904).map fun c => (u8 c.payload 0, u32 c.payload 4)
  { s with fs := { s.fs with moves := s.fs.moves.filter fun e => e.applied || !gone.any fun g => g.1 == e.die && g.2 == e.new } }

/-- A transaction is closed in a state other than applied. -/
def State.closeTxn (s : State) (t : Txn) (state : Nat) : State :=
  let s := (s.updTxn t.id fun u => { u with state := state, applyTick := 0, commitTime := 0 }).forgetTxns
  if t.state = 1 then (s.undoPrepared t).dropArmedKeys else s

/-! ### Stageable commands -/

/-- The stageable commands (R73), by opcode. -/
def stageDef : Nat → Option CmdDef
  | 0x0201 => some modeSet
  | 0x0402 => some streamOpen
  | 0x0403 => some streamClose
  | 0x0501 => some sceneBind
  | 0x0502 => some scenePlace
  | 0x0503 => some sceneLift
  | 0x0601 => some composeLayer
  | 0x0605 => some composeDeadtime
  | 0x0702 => some calSets
  | 0x0704 => some calPolicy
  | 0x0801 => some standMap
  | 0x0802 => some standLut
  | 0x0806 => some standLink
  | 0x0901 => some scanTiming
  | 0x0902 => some scanPrecharge
  | 0x0903 => some scanMeasurePlan
  | 0x0904 => some scanFrameBase
  | 0x0A01 => some steerTable
  | 0x0B02 => some memOrdering
  | 0x0C01 => some chainRole
  | 0x0C02 => some chainRegion
  | 0x0C03 => some chainGrace
  | 0x0D01 => some timeSource
  | 0x0F01 => some recTriggers
  | 0x1003 => some pwrLimit
  | _ => none

/-- The configuration after one staged command. -/
def Staged.apply (c : Staged) (cfg : Settings) : Settings :=
  match stageDef c.opcode with
  | some d => d.apply c.payload cfg
  | none => cfg

/-- The configuration after a list of staged commands. -/
def applyStaged (l : List Staged) (cfg : Settings) : Settings := l.foldl (fun cfg c => c.apply cfg) cfg

/-- The configurations that the armed transactions bring, each with the transaction that brings it, in order. -/
def configsAfter (cfg : Settings) : List Txn → List (Txn × Settings)
  | [] => []
  | t :: ts => let c := applyStaged t.staged cfg; (t, c) :: configsAfter c ts

/-- The configuration in force at the blank that ends at tick `a`, before a transaction committed now (R80). -/
def State.configAt (s : State) (a : Nat) : Settings :=
  ((s.armed.filter fun t => t.applyTick ≤ a).foldl (fun cfg t => applyStaged t.staged cfg) s.settings)

/-- The operating mode in force before the blank that ends at tick `a` (R99, R266): no earlier transaction of that blank counts. -/
def State.modeBefore (s : State) (a : Nat) : Nat :=
  if s.clock.blank ∧ a = s.clock.tick + 1 then s.modes.mode else
  ((configsAfter s.settings (s.armed.filter fun t => t.applyTick < a)).getLast?.map fun e => e.2.mode).getD s.settings.mode

/-! ### Validation (R80) -/

/-- The timing mode changes between two configurations (R260). -/
def timingMoved (a b : Settings) : Bool := a.rate != b.rate || a.spread != b.spread

/-- Loading ticks of timing-mode changes through a transition frame: the one under way, a jump that waits for its blank, and
those that armed transactions bring. -/
def State.loadingTicks (s : State) : List Nat :=
  let now := match s.tb.change with | some c => if c.direct then [] else [c.loadTick] | none => []
  let jump := if s.tb.acceptedJump.isSome && 1 < s.modes.mode then [s.clock.tick + 1] else []
  let l := configsAfter s.settings s.armed
  let armed := (l.zip (s.settings :: l.map (·.2))).filterMap fun e =>
    if timingMoved e.2 e.1.2 && 1 < s.modeBefore e.1.1.applyTick then some e.1.1.applyTick else none
  now ++ jump ++ armed

/-- Ticks of blanks at which armed transactions change the operating mode, or an earlier one of the present blank has. -/
def State.modeTicks (s : State) : List Nat :=
  let l := configsAfter s.settings s.armed
  let now := if s.modes.modeDue.any (· != s.modes.mode) then [s.clock.tick + 1] else []
  now ++ (l.zip (s.settings :: l.map (·.2))).filterMap fun e => if e.2.mode != e.1.2.mode then some e.1.1.applyTick else none

/-- The conflicts of R266: the blanks of the transition frame and of N take no change, and no blank takes one of each kind (DEDUCED, log entry 40). -/
def State.timingConflict (s : State) (a : Nat) (base fin : Settings) : Bool :=
  let timing := timingMoved base fin && 1 < s.modeBefore a
  let mode := base.mode != fin.mode
  let loads := s.loadingTicks
  ((timing || mode) && loads.any fun t => a == t + 1 || a == t + 2) || (mode && loads.contains a) || (timing && s.modeTicks.contains a)

/-- A stand of a configuration uses a table with an entry above 8,191. -/
def State.wideStand (s : State) (t : StandCfg) : Bool := (t.lut.isSome || t.stype != 0) && widthsWide (s.widthsOf t)

/-- Checks that fail only through a combination of settings: the opcodes that set what each involves, and its status (DEDUCED, log entries 39, 49, 59). -/
def State.comboErrs (s : State) (a : Nat) (staged : List Staged) (base fin : Settings) : List (List Nat × Nat) :=
  let has (op : Nat) : Bool := staged.any fun c => c.opcode == op
  let links := fin.linksUsed
  let fail (c : Bool) (ops : List Nat) (st : Nat) : List (List Nat × Nat) := if c then [(ops, st)] else []
  let added := fin.stands.filter fun t => t.serial == 0 || !base.stands.any fun b => b.serial == t.serial
  let rateOf (l : Nat) : Nat := (fin.links.getD l {}).rate
  let most := if fin.rate = 120 then 4 else 8
  fail (links.any fun l => most < (fin.standsOn l).length) [0x0801, 0x0901] stBadField ++
  fail (links.any fun l => rateOf l != 0 && linkCap (rateOf l) fin.rate < (fin.standsOn l).length) [0x0801, 0x0806, 0x0901] stBadField ++
  fail (fin.mapped && links.any fun l => rateOf l == 0) [0x0801, 0x0806] stBadField ++
  fail (fin.rate == 120 && ((has 0x0901 && fin.stands.any s.wideStand) || (has 0x0801 && added.any s.wideStand))) [0x0801, 0x0802, 0x0901] stBadField ++
  fail (has 0x0402 && 4096 < (fin.openStreams.map (·.bufferMib)).foldl (· + ·) 0) [0x0402, 0x0403] stNoResource ++
  fail (has 0x0402 && 128 < (fin.openStreams.map (·.texels)).foldl (· + ·) 0) [0x0402, 0x0403] stNoResource ++
  fail (match fin.region with | some r => fin.stands.any (outside r) | none => false) [0x0801, 0x0C02] stBadField ++
  fail (base.mode != fin.mode && timingMoved base fin && 1 < s.modeBefore a) [0x0201, 0x0901] stBadMode ++
  fail (fin.mode == 1 && base.mode != 1 && (!fin.mapped || links.any fun l => rateOf l == 0)) [0x0201, 0x0801, 0x0806] stBadMode ++
  fail (s.timingConflict a base fin) [0x0201, 0x0901] stBadMode

/-- Failed checks of the staged commands from position `i` on: each with the position and FIELD (DEDUCED, log entry 39). -/
def State.stagedErrs (s : State) (atBlank : Bool) (base fin : Settings) : (i : Nat) → (cur : Settings) → List Staged → List Err
  | _, _, [] => []
  | i, cur, c :: cs =>
    let es := match stageDef c.opcode with
      | some d => (d.validate s atBlank base cur fin c.payload).map fun (e : Err) => { e with index := i, cause := e.status }
      | none => []
    es ++ s.stagedErrs atBlank base fin (i + 1) (c.apply cur) cs

/-- Position of the last staged command with one of some opcodes, 0xFFFF where there is none (DEDUCED, log entry 40). -/
def lastOf (staged : List Staged) (ops : List Nat) : Nat :=
  match (List.range staged.length).reverse.find? fun i => ops.contains (staged.getD i {}).opcode with
  | some i => i
  | none => 0xFFFF

/-- Validates a transaction whole against the configuration at its blank (R80): the failed check, with the position and the
status it meets.  Of several, the status that stands first in R70 is given (DEDUCED, log entry 40). -/
def State.validateTxn (s : State) (atBlank : Bool) (a : Nat) (base : Settings) (staged : List Staged) : Option Err :=
  let fin := applyStaged staged base
  let own := s.stagedErrs atBlank base fin 0 base staged
  let combos := (s.comboErrs a staged base fin).map fun (e : List Nat × Nat) =>
    ({ status := e.2, index := lastOf staged e.1, cause := e.2 } : Err)
  Err.pick (own ++ combos)

/-! ### The cut-off (R81) -/

/-- Start of the blank that ends at the next tick. -/
def State.blankStart (s : State) : Nat := s.clock.tickUp + 4 * subPeriod s.clock.rate

/-- The cut-off of the blank that ends at the next tick lies ahead. -/
def State.beforeCutoff (s : State) : Bool := !s.clock.blank && s.clock.up + us 2 < s.blankStart

/-- Tick that ends the first blank whose cut-off lies strictly ahead. -/
def State.firstBlank (s : State) : Nat := s.clock.tick + (if s.beforeCutoff then 1 else 2)

/-- The cut-off of the blank that ends at a tick has passed. -/
def State.tooLate (s : State) (t : Nat) : Bool := t < s.firstBlank

/-! ### Opening, staging, committing -/

/-- A new transaction takes the next ID of its mailbox (R75). -/
def State.newTxnId (s : State) (mbx : Nat) : Nat × State :=
  (s.nextTxnId mbx, { s with txnCount := s.nextTxnId mbx / 8 })

/-- An open transaction of a mailbox. -/
def State.openTxn (s : State) (mbx : Nat) : Bool := s.txns.any fun t => t.state == 0 && txnMailbox t.id == mbx

/-- A command accepted with the ID of an open transaction restarts its timer (R78) (DESIGN CHOICE, log entry 41). -/
def State.touchTxn (s : State) (id : Word) : State :=
  if id = 0 then s else s.updTxn id.toNat fun t => if t.state = 0 then { t with timerAt := s.clock.up, committing := false } else t

/-- The stand of the map in force that index `k` of the map of a later configuration names: by its serial, or where the record is the same; none
where it is not in the map yet. -/
def State.standOf (s : State) (c : Settings) (k : Nat) : Option Nat :=
  let t := c.stands.getD k {}
  if t.serial ≠ 0 then (List.range s.stands.length).find? fun i => s.serialOf i == t.serial
  else (List.range s.stands.length).find? fun i =>
    let o := s.standCfg i
    o.link == t.link && o.x0 == t.x0 && o.y0 == t.y0 && s.settings.position i == c.position k

/-- What staged commands ask for from the commit instant on, for the blank that ends at tick `a`: a table goes to the inactive slots of the stands
that the map of that blank names (R331), a ray-frame pair starts its copy (R263). -/
def State.startPrepared (s : State) (a : Nat) (base : Settings) (staged : List Staged) : State :=
  let fin := applyStaged staged base
  staged.foldl (fun s c =>
    if c.opcode = 0x0802 then
      forEach (fin.named c.payload) s fun k s =>
        match s.standOf fin k with
        | some i => s.queueLut i a ((lutOf c.payload).getD (s.bundleWidths (s.standCfg i).stype))
        | none => s
    else if c.opcode = 0x0904 then
      let die := u8 c.payload 0
      { s with fs := { s.fs with moves := s.fs.moves ++ [{ die := die, old := base.frameBase.getD die 0, new := u32 c.payload 4 }] } }
    else s) s

/-- Commits a transaction for the blank that ends at tick `a` (R80): validated whole, recorded, armed; none where it is
rejected and closed (DEDUCED, log entry 39). -/
def State.commit (s : State) (id : Nat) (a : Nat) (staged : List Staged) (tag : Word) : State × Option Err :=
  let staged := staged.map fun (c : Staged) =>
    match stageDef c.opcode with
    | some d => { c with payload := d.prepare s c.payload }
    | none => c
  let base := s.configAt a
  match s.validateTxn false a base staged with
  | some e =>
    ((s.updTxn id fun t => { t with state := 5 }).forgetTxns, some { e with status := stTxnRejected })
  | none =>
    let s := s.updTxn id fun t => { t with
      state := 1, staged := staged, applyTick := a, commitTime := s.nowNs, order := s.armOrder, tag := tag, both := s.modes.drone == 3
      die := s.bellows.role.getD 0 }
    let s := { s with armOrder := s.armOrder + 1 }
    (s.startPrepared a base staged, none)

/-- Failed checks that concern a command's own transaction ID (R70, R76, R82). -/
def State.txnErrs (s : State) (d : CmdDef) (c : Cmd) : List Err :=
  let id := c.txn.toNat
  let other := chk (txnMailbox id != c.mbx) stWrongMailbox 12
  let isOpen (t : Txn) : Bool := t.state == 0
  match d.kind with
  | .immediate => []
  | .stageable =>
    if id = 0 then [] else
    match s.txn id with
    | none => chk true stNoTxn 12
    | some t => chk (!isOpen t) stNoTxn 12 ++ other ++ chk (256 ≤ t.staged.length) stTxnFull
  | .onTxn =>
    if id = 0 then chk true stNoTxn 12 else
    match s.txn id with
    | none => chk true stNoTxn 12
    | some t =>
      other ++
      if d.opcode = 0x0302 then chk (!isOpen t) stNoTxn 12
      else if d.opcode = 0x0303 then chk (1 < t.state) stNoTxn 12 ++ chk (t.state == 1 && s.tooLate t.applyTick) stTooLate
      else chk (!(s.kept (txnMailbox id)).any (·.id == id)) stNoTxn 12

/-- TXN.BEGIN (R75). -/
def txnBegin : CmdDef where
  opcode := 0x0301
  kind := .immediate
  lenOk := lenIs 8
  checks s c :=
    let v := u32 c.payload 0
    chkP (v != 0 && (v < 100 || 60000 < v)) stBadField 0 ++ rsvBytes c.payload 4 8 ++ chk (s.openTxn c.mbx) stTxnOpen
  run s c :=
    let v := u32 c.payload 0
    let (id, s) := s.newTxnId c.mbx
    let t : Txn := { id := id, timeoutMs := if v = 0 then 5000 else v, timerAt := s.clock.up, both := s.modes.drone == 3 }
    .done ({ s with txns := s.txns ++ [t] }).forgetTxns [] (BitVec.ofNat 32 id)

/-- The commit response (R79). -/
def Txn.commitBytes (t : Txn) : List Byte := le 8 t.commitTime ++ le 8 t.applyTick ++ le 4 t.staged.length ++ zeros 4

/-- TXN.COMMIT (R79 to R81). -/
def txnCommit : CmdDef where
  opcode := 0x0302
  kind := .onTxn
  lenOk := lenIs 16
  checks s c :=
    let a := u64 c.payload 0
    rsvBytes c.payload 8 16 ++ chkP (a != 0 && s.tooLate a) stTooLate 0 ++ chkP (s.clock.tick + 3600 < a) stTickRange 0
  run s c :=
    let id := c.txn.toNat
    let a := u64 c.payload 0
    let staged := ((s.txn id).getD {}).staged
    match s.commit id (if a = 0 then s.firstBlank else a) staged c.tag with
    | (s, some e) => .fail s e
    | (s, none) => .done s ((s.txn id).getD {}).commitBytes c.txn

/-- TXN.ROLLBACK (R82). -/
def txnRollback : CmdDef where
  opcode := 0x0303
  kind := .onTxn
  lenOk := lenIs 0
  checks := noChecks
  run s c :=
    match s.txn c.txn.toNat with
    | none => .done s [] c.txn
    | some t => .done (s.closeTxn t 3) [] c.txn

/-- TXN.STATUS (R85). -/
def txnStatus : CmdDef where
  opcode := 0x0304
  kind := .onTxn
  lenOk := lenIs 0
  checks := noChecks
  run s c :=
    let t := (s.txn c.txn.toNat).getD {}
    let left := if t.state = 0 then t.timeoutMs - (s.clock.up - t.timerAt) / ms 1 else 0
    let live := t.state == 1 || t.state == 2
    .done s (le 1 t.state ++ [0] ++ le 2 t.staged.length ++ le 4 left ++ le 8 (if live then t.applyTick else 0) ++
      le 8 (if live then t.commitTime else 0) ++ zeros 8) c.txn

/-- Holds a stageable command in its transaction (R76). -/
def State.stage (s : State) (c : Cmd) : State :=
  s.updTxn c.txn.toNat fun t => { t with staged := t.staged ++ [{ opcode := c.opcode, tag := c.tag, payload := c.payload }] }

/-- A stageable command without a transaction ID forms one of its own, committed at once (R77) (DESIGN CHOICE, log entry 41). -/
def State.implicit (s : State) (c : Cmd) : State × Resp :=
  let (id, s) := s.newTxnId c.mbx
  let staged : List Staged := [{ opcode := c.opcode, tag := c.tag, payload := c.payload }]
  let s := { s with txns := s.txns ++ [({ id := id, staged := staged, timerAt := s.clock.up } : Txn)] }
  match s.commit id s.firstBlank staged c.tag with
  | (s, some e) => (s, { status := e.status, txn := BitVec.ofNat 32 id, payload := e.detail })
  | (s, none) => (s.forgetTxns, { txn := BitVec.ofNat 32 id })

/-- Runs a command that firmware has accepted: the checks in the order of R71, then its effect; the answer is its response (DEDUCED, log entry 107). -/
def runCmd (d : CmdDef) (c : Cmd) (s : State) : State × Resp :=
  let s := s.touchTxn c.txn
  match Err.pick (c.headerErrs d s ++ d.checks s c ++ s.txnErrs d c) with
  | some e => (s, e.resp c)
  | none =>
    match d.kind with
    | .stageable => if c.txn = 0 then s.implicit c else (s.stage c, { status := stStaged, txn := c.txn })
    | _ =>
      match d.run s c with
      | .fail s e => (s, e.resp c)
      | .done s p t => (s, { txn := t, payload := p })

/-- An open transaction's timer reaches TIMEOUT_MS (R78); it stands while a TXN.COMMIT is accepted and has not run. -/
def State.txnTimeout (s : State) (id : Nat) : State :=
  match s.txn id with
  | none => s
  | some t =>
    if t.state ≠ 0 ∨ t.committing ∨ !s.since t.timerAt (ms t.timeoutMs) then s
    else (s.closeTxn t 4).raise evTxnTimeout noUnit [t.staged.length] 0 (BitVec.ofNat 32 t.id)

/-- Open transactions are rolled back at an unplanned change of chanter (R69). -/
def State.abortOpen (s : State) : State :=
  (s.txns.filter fun t => t.state == 0).foldl (fun s t =>
    (s.closeTxn t 7).raise evTxnAborted noUnit [t.staged.length] 0 (BitVec.ofNat 32 t.id)) s

/-! ### At a blank (R83) -/

/-- One staged command applies: the setting, and what else its rule has happen. -/
def Staged.effect (c : Staged) (txn : Word) (s : State) : State :=
  match stageDef c.opcode with
  | none => s
  | some d =>
    let old := s.settings
    d.effect old c.payload c.tag txn { s with settings := d.apply c.payload old }

/-- One armed transaction at its blank: dropped whole where it is no longer valid, else applied whole. -/
def State.applyTxn (s : State) (t : Txn) : State :=
  let id := BitVec.ofNat 32 t.id
  let a := s.clock.tick + 1
  match s.validateTxn true a s.settings t.staged with
  | some e => (s.closeTxn t 6).raise evTxnDropped noUnit [e.index, e.cause] t.tag id
  | none =>
    let s := t.staged.foldl (fun s c => c.effect id s) s
    let s := (s.updTxn t.id fun u => { u with state := 2, applyTick := a }).forgetTxns
    s.raise evTxnApplied noUnit [t.staged.length, lo32 a, hi32 a] t.tag id

/-- The armed transactions of a blank apply in commit order; while no complex holds the chanter role they wait (R423). -/
def State.applyArmed (s : State) : State :=
  if s.bellows.role.isNone then s
  else (s.armed.filter fun t => t.applyTick ≤ s.clock.tick + 1).foldl (fun s t => s.applyTxn t) s

/-- MODE.GET (R97) (DEDUCED, log entry 42). -/
def modeGet : CmdDef where
  opcode := 0x0202
  kind := .immediate
  lenOk := lenIs 0
  checks := noChecks
  run s c :=
    let sets := s.armed.filterMap fun t => ((t.staged.filter fun c => c.opcode == 0x0201).getLast?).map fun c => (u8 c.payload 0, t.applyTick)
    let last := sets.getLast?
    let ready := (s.stands.filter (·.ready)).length
    let out := (s.stands.filter (·.excluded)).length
    .done s (le 1 s.modes.mode ++ le 1 ((last.map (·.1)).getD 0xFF) ++ le 1 (if s.modes.mode = 1 then s.modes.step else 0) ++
      le 1 (b2n s.modes.ready + 2 * b2n (s.modes.drone == 3)) ++ le 2 ready ++ le 2 out ++ le 8 ((last.map (·.2)).getD 0)) c.txn

/-- PWR.DOMAIN (R479) (DEDUCED, log entry 86). -/
def pwrDomain : CmdDef where
  opcode := 0x1001
  kind := .immediate
  lenOk := lenIs 8
  checks s c := s.domainErrs ((configsAfter s.settings s.armed).map (·.2)) c.payload
  run s c := .done (s.switchDomain (u16 c.payload 0) (u8 c.payload 2 == 1)) [] c.txn

end Sys2Proof.Machine
end

