-- ==== Sys2Proof/Machine/Sys.lean ====
section
/-! DEFINITION. SYS commands, the table of every command by its opcode (R73), and snapshots (R452 to R455). -/

namespace Sys2Proof.Machine

/-- The revision has been read (R65): the flag sets, but is held clear while PERST_N is asserted. -/
def State.readRevision (s : State) : State := { s with pcie := { s.pcie with revRead := !s.pcie.perst } }

/-- SYS.IDENTIFY (R65): the firmware identity entry; the revision-read flag sets. -/
def sysIdentify : CmdDef where
  opcode := 0x0101
  kind := .immediate
  lenOk := lenIs 0
  checks := noChecks
  run s c := .done s.readRevision s.identityEntry c.txn

/-- SYS.EVENT_ROUTE (R74). -/
def sysEventRoute : CmdDef where
  opcode := 0x0103
  kind := .immediate
  lenOk := lenIs 16
  checks _ c := (List.range 16).flatMap fun i => chkP (3 < u8 c.payload i && u8 c.payload i != 0xFF) stBadField i
  run s c := .done { s with routes := (List.range 16).map (u8 c.payload) } [] c.txn

/-- SYS.ECHO (R73): returns its payload. -/
def sysEcho : CmdDef where
  opcode := 0x0104
  kind := .immediate
  lenOk p := p.length ≤ 4080
  checks := noChecks
  run s c := .done s c.payload c.txn

/-- The commands that are not stageable (R73), by opcode. -/
def otherDef : Nat → Option CmdDef
  | 0x0101 => some sysIdentify
  | 0x0102 => some sysStatus
  | 0x0103 => some sysEventRoute
  | 0x0104 => some sysEcho
  | 0x0105 => some sysSpares
  | 0x0106 => some sysFaults
  | 0x0202 => some modeGet
  | 0x0301 => some txnBegin
  | 0x0302 => some txnCommit
  | 0x0303 => some txnRollback
  | 0x0304 => some txnStatus
  | 0x0401 => some streamQueues
  | 0x0404 => some streamKey
  | 0x0405 => some streamStatsCmd
  | 0x0602 => some composeUpdate
  | 0x0603 => some composeBlit
  | 0x0604 => some composeWatermark
  | 0x0701 => some calLoad
  | 0x0703 => some calMeasure
  | 0x0705 => some calRead
  | 0x0803 => some standStatusCmd
  | 0x0804 => some standRelease
  | 0x0805 => some standAdmit
  | 0x0A02 => some steerStatusCmd
  | 0x0A03 => some steerJournal
  | 0x0B01 => some memSetPoint
  | 0x0B03 => some memTrain
  | 0x0B04 => some memStatus
  | 0x0C04 => some chainStatus
  | 0x0D02 => some timePtp
  | 0x0D03 => some timeGet
  | 0x0D04 => some timeAcceptJump
  | 0x0D05 => some timePulse
  | 0x0D06 => some timeFsyncArm
  | 0x0E01 => some secCerts
  | 0x0E02 => some secAttest
  | 0x0E03 => some secKemKey
  | 0x0E04 => some secFwUpdate
  | 0x0E05 => some secLifecycle
  | 0x0F02 => some recFlush
  | 0x0F03 => some recErase
  | 0x1001 => some pwrDomain
  | 0x1002 => some pwrStatusCmd
  | _ => none

/-- The command of an opcode. -/
def commandDef (op : Nat) : Option CmdDef :=
  match stageDef op with
  | some d => some d
  | none => otherDef op

/-! ### Snapshots (R452 to R455) -/

/-- The status command a selector's source names, and its request's length (R454). -/
def statusDef : Nat → Option (CmdDef × Nat)
  | 1 => some (sysStatus, 0)
  | 2 => some (streamStatsCmd, 8)
  | 3 => some (standStatusCmd, 8)
  | 4 => some (steerStatusCmd, 8)
  | 5 => some (memStatus, 8)
  | 6 => some (chainStatus, 0)
  | 7 => some (pwrStatusCmd, 0)
  | _ => none

/-- What a status command would return: its response payload, or the detail record of a failed check. -/
def State.statusBytes (s : State) (source b0 b1 : Nat) : List Byte :=
  match statusDef source with
  | none => []
  | some (d, n) =>
    let c : Cmd := { opcode := d.opcode, len := n, payload := padTo n (le 1 b0 ++ le 1 b1) }
    match Err.pick (d.checks s c) with
    | some e => e.detail
    | none => match d.run s c with
      | .done _ p _ => p
      | .fail _ e => e.detail

/-- The value a selector names (R454). -/
def State.selected (s : State) (v : Nat) : Nat :=
  if bitsOf v 31 28 = 1 then s.regWord (bitsOf v 23 0)
  else u32 (s.statusBytes (bitsOf v 27 24) (bitsOf v 15 8) (bitsOf v 23 16)) (4 * bitsOf v 7 0)

/-- The snapshot record of a trigger that fired (R452). -/
def State.snapshot (s : State) (f : Nat × Nat × Nat) : List Byte :=
  let set := ((s.settings.triggers.find? fun t => t.id == f.1).map (·.set)).getD 0
  let sel := lookupD s.settings.sets set []
  let n := 32 + 8 * sel.length
  let size := (n + 31) / 32 * 32
  padTo size (le 2 (0xF000 + f.1) ++ [0, 0] ++ le 8 s.nowNs ++ le 8 s.clock.tick ++ le 2 f.2.1 ++ le 1 sel.length ++
    le 1 (lookupD s.recorder.trigMerged f.1 0) ++ le 2 f.2.2 ++ le 2 size ++ zeros 4 ++
    sel.flatMap fun v => le 4 v.toNat ++ le 4 (s.selected v.toNat))

/-- The snapshots of the triggers that have fired are captured and written, oldest first. -/
def State.snapshots (s : State) : State :=
  s.recorder.fired.foldl (fun s f =>
    let bytes := s.snapshot f
    let r := { s.recorder with trigMerged := removeKey s.recorder.trigMerged f.1 }
    { s with recorder := r.put s.nowNs s.clock.up bytes }) { s with recorder := { s.recorder with fired := [] } }

end Sys2Proof.Machine
end

