-- ==== Sys2Proof/Machine/Run.lean ====
section
/-! DEFINITION. How a command in a mailbox comes to run (R61 to R69), tunnelled commands on both ends (R68, R379), and what
follows every command of the block: what the A9 does at once and of itself. -/

namespace Sys2Proof.Machine

/-! ### Running a command -/

/-- Checks that need nothing of the target, made before a command goes down: opcode, length, reserved bytes and bits, the transaction ID
of a command that takes none, and the revision flag (R12, R65, R71) (DEDUCED, log entry 107). -/
def tunnelErrs (d : Option CmdDef) (c : Cmd) (s : State) : List Err :=
  match d with
  | none => chk true stBadOpcode 0
  | some d => c.headerErrs d s ++ (d.checks s c).filter fun e => e.status == stReserved

/-- Runs a command that firmware has accepted in a mailbox, and completes it.  One tunnelled to another A9 goes down and stays
RUNNING; one that names this A9 runs here (R68). -/
def State.runIn (s : State) (d : Option CmdDef) (c : Cmd) : State :=
  if c.tunnel ∧ c.target ≠ s.ownAddress then
    match Err.pick (tunnelErrs d c s) with
    | some e => s.complete c (e.resp c)
    | none =>
    if !s.reachable c.target then s.complete c (({ status := stUnreachable } : Err).resp c)
    else (s.updMbx c.mbx fun m => { m with tunnelled := true }).sendDown c.mbx c.bytes
  else
    match d with
    | none => s.complete c (({ status := stBadOpcode, field := 0 } : Err).resp c)
    | some d => let r := runCmd d c s; r.1.complete c r.2

/-- Runs what a mailbox holds as its running command. -/
def State.runMbx (s : State) (n : Nat) : State :=
  let c := Cmd.parse n (s.mbx n).running
  s.runIn (commandDef c.opcode) c

/-- The doorbell of a mailbox rings (R55) (DEDUCED, log entries 69, 108). -/
def State.doorbell (n : Nat) (s : State) : State := s.ringMbx n fun s => s.runMbx n

/-- A host submits one command: it writes the command area, then the doorbell (R55, R61).  While the mailbox is PENDING or
RUNNING the ring is ignored (DEDUCED, log entry 108). -/
def State.submit (d : CmdDef) (h : CmdHdr) (p : List Byte) (s : State) : State :=
  if !s.barLive then s else
  let c := Cmd.of d.opcode h p
  let s := s.updMbx h.mbx fun m => { m with cmdArea := overwrite m.cmdArea 0 c.bytes }
  s.ringMbx h.mbx fun s => s.runIn (some d) c

/-- Commands that the drone accepted while the handover was armed run at the handover, in the order accepted (R434) (DEDUCED, log entry 96). -/
def State.runHeld (s : State) : State :=
  let held := (List.range 8).filter fun n => (s.mbx n).state == 2 && !(s.mbx n).tunnelled
  let order := held.foldl (fun l n =>
    let a := l.filter fun k => (s.mbx k).acceptedAt ≤ (s.mbx n).acceptedAt
    let b := l.filter fun k => (s.mbx n).acceptedAt < (s.mbx k).acceptedAt
    a ++ n :: b) ([] : List Nat)
  forEach order s fun n s => s.runMbx n

/-- Firmware accepts what waits once it serves (R64, R69): EV_MAILBOX_STALL first for a command that had stalled; the event's
TAG is 0, since the stall and not the command causes it (DESIGN CHOICE, log entry 114). -/
def State.acceptPending (s : State) : State :=
  if !s.serves then s else
  forEach (List.range 8) s fun n s =>
    let m := s.mbx n
    if m.state ≠ 1 then s else
    let body := if m.mgmt.isSome then m.running else m.cmdArea
    let s := if m.stallEvent then s.raise evMailboxStall n [u16 body 0] else s
    let s := s.updMbx n fun m => { m with state := 2, acceptedAt := s.clock.up, running := body, stallEvent := false }
    if s.fw.armed then s.acceptHeld n else s.runMbx n

/-- A command has been PENDING for 50 µs (R55, R64) (DESIGN CHOICE, log entry 13). -/
def State.mailboxStall (s : State) (n : Nat) : State :=
  let m := s.mbx n
  if m.state ≠ 1 ∨ !s.since m.rungAt (us 50) ∨ m.stallEvent then s
  else s.updMbx n fun m => { m with err := m.err ||| 1#32, stallSet := some s.clock.up, stallEvent := true }

/-! ### Tunnels (R68, R379) -/

/-- No response came within 10 ms of acceptance (R68); a chanter that has stopped completes nothing (R64). -/
def State.chainTimeout (s : State) (n : Nat) : State :=
  let m := s.mbx n
  if m.state ≠ 2 ∨ !m.tunnelled ∨ !s.serves ∨ !s.since m.acceptedAt (ms 10) then s else
  let c := Cmd.parse n m.running
  s.complete c (({ status := stChainTimeout } : Err).resp c)

/-- A tunnelled command arrives: it runs here and its response goes up, or it goes on toward its target (DEDUCED, log entry 69). -/
def State.tunnelIn (s : State) (mbx : Nat) (bytes : List Byte) : State :=
  let c := { Cmd.parse mbx bytes with tunnelled := true }
  if c.target ≠ s.ownAddress then s.sendDown mbx bytes
  else if !s.serves then s
  else match commandDef c.opcode with
    | none => s.sendUp mbx ((({ status := stBadOpcode, field := 0 } : Err).resp c).bytes c)
    | some d => let r := runCmd d c s; r.1.sendUp mbx (r.2.bytes c)

/-- A response arrives: at the root it completes the command it answers, elsewhere it goes on up; a chanter that has stopped
completes nothing, and what reaches it is lost (R64) (DEDUCED, log entry 69). -/
def State.responseIn (s : State) (mbx : Nat) (bytes : List Byte) : State :=
  if !s.settings.chainRoot then s.sendUp mbx bytes else
  let m := s.mbx mbx
  if m.state ≠ 2 ∨ !m.tunnelled ∨ !s.serves ∨ u16 bytes 0 ≠ u16 m.running 0 ∨ u32 bytes 4 ≠ u32 m.running 4 then s else
  let s := if u16 bytes 0 = 0x0101 ∧ u16 bytes 2 = 0 then s.readRevision else s
  s.completeBytes mbx (padTo (16 + min 4080 (u16 bytes 8)) bytes)

/-- An address assignment arrives from the root (R366): address, then serial (DESIGN CHOICE, log entry 67). -/
def State.addressIn (s : State) (bytes : List Byte) : State :=
  if u64 bytes 1 = Config.serial % 0x10000000000000000 then
    (if s.settings.chainRoot || s.settings.chainAddr != 0 then s else { s with chain := { s.chain with provisional := u8 bytes 0 } })
  else forEach s.fedPorts s fun p s => s.sendPort p 0x12 (2 :: bytes)

/-- A MGMT packet arrives: 0 a command, 1 a response, 2 an address assignment, 5 and 6 what an A9 farther down hears (DESIGN CHOICE, log entry 67). -/
def State.mgmtReceived (s : State) (port kind mbx : Nat) (bytes : List Byte) : State :=
  if 3 < port ∨ !(s.port port).up then s else
  match kind with
  | 0 => if s.chain.parent = some port then s.tunnelIn mbx bytes else s
  | 1 => if s.chain.parent = some port then s else s.responseIn mbx bytes
  | 2 => if s.chain.parent = some port then s.addressIn bytes else s
  | 5 | 6 => s.heardBelow port kind bytes
  | _ => s

/-! ### What follows of itself -/

/-- A READY input whose hold is over takes the level at its pin (R372) (DEDUCED, log entry 70). -/
def State.releaseHolds (s : State) : State :=
  { s with chain := { s.chain with ports := s.chain.ports.map fun (p : Port) =>
      if p.holdUntil ≤ s.clock.up then { p with readyIn := p.readyRaw } else p } }

/-- A link recovery that started is an error of its region (R408) (DEDUCED, log entry 57). -/
def State.linkErrors (s : State) (before : State) : State :=
  forEach (List.range 16) s fun l s =>
    let now := (s.link l).recoveryTimes
    let timed := (s.faults.region 4 l).times.getLast? == some s.clock.up
    if now != (before.link l).recoveryTimes && now.getLast? == some s.clock.up && !timed then s.regionError 4 l 4 else s

/-- Commands held for a handover run as soon as it is no longer armed and a chanter serves, also where the update was aborted and the
chanter serves on, or again (R67, R434). -/
def State.releaseHeld (s : State) (before : State) : State :=
  if (before.fw.armed || !before.serves) && !s.fw.armed && s.serves then s.runHeld else s

/-- What the A9 does at once and of itself after a command, `before` it and after it: reports that were owed, commands that
wait, a live update that is aborted, steps of Bring-up, domains, the descriptors that ingest turns to, the ready chain, spare budgets, snapshots, the Cruise table, what the lanes of the stand links carry (DESIGN CHOICE, log entry 16). -/
def State.settle (s : State) (before : State) : State :=
  let s := s.linkErrors before
  let s := (s.fwWatch before).releaseHeld before
  let s := s.fenceReports.payOwed
  let s := s.acceptPending
  let s := s.bringSettle.admitSettle
  let s := s.neededDomains
  let s := s.settleRoutes
  let s := s.serveNext.relayServe
  let s := s.releaseHolds.settleReady
  let s := s.judgeSpares before
  let s := s.snapshots
  s.settleCruise.linkOutput before

/-- One command of the block: `dt` passes, the command acts, and what follows of itself happens; the queue of waiting commands is
no part of it (DESIGN CHOICE, log entries 12, 16). -/
def State.act (s : State) (dt : Nat) (f : State → State) : Host.Outcome State Fault Refusal :=
  .next { (f (s.elapse dt)).settle s with pending := s.pending }

end Sys2Proof.Machine
end

