-- ==== Sys2Proof/Machine/Frame.lean ====
section
/-! DEFINITION. The frame: the instants of R18 and R264, the blank, the tick, the sub-frames, and what each of them starts. -/

namespace Sys2Proof.Machine

/-! ### The instants of a display tick (R18, R264, R265) -/

/-- The change of rate that lead deadlines already follow: the one under way, or the first that an armed transaction brings; its
blank's tick T, the tick N and the rate from N on. -/
def State.leadTiming (s : State) : Option (Nat × Nat × Nat) :=
  match s.tb.change with
  | some c => some (c.loadTick, if c.direct then c.loadTick else c.loadTick + 2, c.newRate)
  | none =>
    let l := configsAfter s.settings s.armed
    ((l.zip (s.settings :: l.map (·.2))).find? fun e => e.1.2.rate != e.2.rate).map fun e =>
      (e.1.1.applyTick, if s.modeBefore e.1.1.applyTick ≤ 1 then e.1.1.applyTick else e.1.1.applyTick + 2, e.1.2.rate)

/-- Frame rate that the lead deadline of a tick follows. -/
def State.leadRate (s : State) (t : Nat) : Nat :=
  match s.leadTiming with
  | some (_, n, rate) => if t < n then s.clock.rate else rate
  | none => s.clock.rate

/-- Lead deadline of a tick: 2P + S + B before it; for ticks from N on not before the end of the blank at which the change
applies (R140) (DEDUCED, log entry 38). -/
def State.leadAt (s : State) (t : Nat) : Nat :=
  let r := s.leadRate t
  let lead := 2 * framePeriod r + subPeriod r + blankTime
  match s.leadTiming with
  | none => s.tickTime t - lead
  | some (load, n, rate) =>
    if t < n then s.tickTime t - lead else
    let at' (k : Nat) : Nat := s.clock.nextUp + (k - s.clock.tick - 1) * s.period
    max (if load ≤ s.clock.tick then 0 else at' load) (at' n + (t - n) * framePeriod rate - lead)

/-- The new anchors of a timing change serve the lead deadline of N and of every later tick (R140) (DEDUCED, log entry 38). -/
def State.anchorsFor (s : State) (t : Nat) : State :=
  match s.tb.change, s.newTiming with
  | some c, some (n, rate) =>
    if c.anchored ∨ t < n then s else
    let s := s.reanchorAll n rate
    { s with tb := { s.tb with change := some { c with anchored := true } } }
  | _, _ => s

/-! ### LEAD_DEADLINE, SYNTHESIS_START, KERF_DEADLINE, SCAN_OUT_START, WATERMARK_FIRE -/

/-- The lead deadline of the next tick (R142): each open stream's candidate is released, abandoned or missed (DEDUCED, log entry 44). -/
def State.leadDeadline (s : State) (sizes : List (Nat × Nat × Nat × Nat)) : State :=
  let t := max s.clock.leadTick (s.clock.tick + 1)
  if s.clock.up < s.leadAt t then s else
  let s := { s with clock := { s.clock with leadTick := t + 1 } }
  let s := s.anchorsFor t
  if !isPlay s.modes.mode then s else
  let s := forEach (List.range 8) s fun n s =>
    if (s.stream n).isNone then s else (s.leadStream t (framePeriod (s.leadRate t)) n ((sizes.filter (·.1 = n)).map (·.2))).checkEnd n
  s.decoderStates

/-- The scan-out start of the next tick (R22): the bits are latched, and the codes of its sub-frame 0 leave (R23). -/
def State.scanOut (s : State) : State :=
  let t := max s.clock.scanTick (s.clock.tick + 1)
  if s.clock.up < s.scanAt t then s else
  (({ s with clock := { s.clock with scanTick := t + 1 } }).scanOutStart).sendFirst t

/-- The synthesis start of the next tick (R183).  It falls on the scan-out start of the tick before it (R18): where that is due still, it
comes first, as R22 has scan-out latch what the window before left. -/
def State.synthesisStart (s : State) (costs : List (Nat × Nat × Nat)) : State :=
  let t := max s.clock.synthTick (s.clock.tick + 1)
  if s.clock.up < s.synthAt t then s else
  let s := if s.clock.scanTick < t then s.scanOut else s
  ({ s with clock := { s.clock with synthTick := t + 1 } }).synthStart t costs

/-- The kerf deadline of the window in progress (R187). -/
def State.kerfDeadlineAt (s : State) : State :=
  if s.clock.synthTick = 0 ∨ s.clock.up < s.kerfAtTime s.synth.window.tick then s else s.kerfDeadline

/-! ### The frame blank (R83, R249) -/

/-- The blank that ends at the next tick starts: a jump's timing change, the steering windows of the frame, armed
transactions in commit order, and what the next frame is planned to be. -/
def State.frameBlank (s : State) : State :=
  if s.clock.blank ∨ s.clock.up < s.blankStart ∨ !s.bellows.running ∨ s.bellows.fresh then s else
  let t := s.clock.tick + 1
  let all := fun (s : State) => List.range s.stands.length
  let s := ({ s with clock := { s.clock with blank := true } }).jumpBegins
  let s := forEach (all s) s fun i s => s.ackMissed i (windowOf s.clock.tick 3)
  let s := forEach (all s) s fun i s => s.kssFrameEnd i
  let s := { s with tb := { s.tb with blankCfg := if s.tb.change.any (fun (c : TimingChange) => c.loadTick < t) then s.tb.blankCfg else some s.settings } }.applyArmed
  let s := s.releaseFrames t
  let s := if s.modes.modeDue.any fun m => m ≤ 1 || m == 6 then s.stopWindow else s
  let s := ((s.closeDrained.remapPages).slewBlank).jumpSteps.rootEdges
  let s := ((s.sequenceStart none).sequenceStart (some 0)).sequenceStart (some 1)
  let s := forEach (all s) s fun i s => s.kssStart i
  (s.planFrame t).withLeft fun s => forEach (all s) s fun i s => s.steerWindow i t 0

/-! ### The frame tick (R18, R100, R249, R423) -/

/-- The links go down for Standby, STAND_SAFE first (R102) (DEDUCED, log entry 43). -/
def State.linksToStandby (s : State) : State :=
  if s.modes.linksDownDue ≠ some s.clock.tick then s else
  let s := { s with modes := { s.modes with linksDownDue := none } }
  forEach s.settings.linksUsed s fun l s =>
    if (s.link l).state = 0 then s else
    let s := ((s.assertSafe l).dropCmds l).updLink l fun k => { k.wake with state := 0, recovering := none, everUp := false }
    s.onLink l fun st => { st with seen := false, reported := false, kss := 0, kssDue := false }

/-- Entry to Standby (R102, R111, R349) (DEDUCED, log entry 43). -/
def State.enterStandby (s : State) : State :=
  let s := { s with modes := { s.modes with ready := false, step := 0, linksDownDue := some (s.clock.tick + 1) }
                    fs := { s.fs with selfRefresh := true } }
  (s.raise evStandby noUnit [s.modes.bootSource]).droneDown

/-- The mode that applied at the blank is shown at its tick (R100) (DEDUCED, log entry 42). -/
def State.modeChange (s : State) : State :=
  match s.modes.modeDue with
  | none => s
  | some m =>
    let old := s.modes.mode
    let tag := s.modes.modeTag
    let txn := s.modes.modeTxn
    let s := { s with modes := { s.modes with mode := m, modeDue := none, prevMode := old, enteredAt := s.clock.tick } }
    let s := (s.raise evModeChanged noUnit [old, m] tag txn).recFixed 0x0031 [old, m, lo32 s.clock.tick]
    if old = m then s else
    let s := s.banksForMode.abortMeasure
    let s := if isPlay m ∧ !isPlay old then
        ({ s with clock := { s.clock with leadTick := max s.clock.leadTick (s.clock.tick + 3) } }).resumeIngest
      else if isPlay old ∧ !isPlay m then s.pauseIngest else s
    if m = 0 then s.enterStandby else if m = 1 then s.bringStart else s

/-- A complex granted the lease takes the chanter role (R69, R423); at a planned handover what it accepted meanwhile runs (R434). -/
def State.roleChange (s : State) : State :=
  match s.bellows.holder with
  | none => s
  | some d =>
    if !s.bellows.roleDue ∨ !s.modes.standby then s else
    let planned : Bool := s.fw.granted && s.fw.stage == 4
    let s := { s with
      bellows := { s.bellows with role := some d, roleDue := false, chanterBit := d, moves := (s.bellows.moves + 1) % 0x100000000
                                  lastMoveTick := s.clock.tick }
      modes := { s.modes with drone := if planned || s.bellows.chanterBit == d then s.modes.drone else 0 } }
    let s := s.updComplex d fun c => { c with supervises := true }
    let s := if planned then s else s.abortRunning.abortOpen
    let s := s.raise evLeaseMoved noUnit [d, s.bellows.epoch, s.bellows.grantCause]
    if planned then s.handoverDone.runHeld else s

/-- The drone takes its own die's supervision once it is in sync (R422). -/
def State.droneSupervises (s : State) : State :=
  match s.bellows.role with
  | some d => if s.modes.drone = 3 then s.updComplex (otherDie d) fun c => { c with supervises := true } else s
  | none => s

/-- Frames without a reading are counted (R275), and those without STATUS for stands of links that carry packets (R438); the bands dark in the frame
that ended are kept (R297). -/
def State.countMissing (s : State) : State :=
  { s with stands := s.stands.mapIdx fun i st =>
      let st := { st with darkMask := st.darkNow, darkNow := 0, tempMiss := st.tempMiss + 1 }
      if s.linkRuns (s.standCfg i).link then { st with statusMiss := st.statusMiss + 1 } else st }

/-- Held sub-frames of narrowed links are counted (R326, R333). -/
def State.countHeld (s : State) (sub : Nat) : State :=
  s.withLeft fun s => forEach s.settings.linksUsed s fun l s =>
    let held := (List.range s.stands.length).filter fun i =>
      (s.stand i).kind ≤ 1 && (s.packetPlace i s.clock.tick).any fun p => p.1 == l && s.heldAt l p.2 s.clock.tick sub
    s.updLink l fun k => { k with heldSubs := (k.heldSubs + held.length) % 0x100000000 }

/-- A sub-frame starts with its sync marker and its steering window (R250, R288, R318), in Hold also with the drive tables set at the blank
(R281); the codes of the next one leave (R23). -/
def State.startSub (s : State) (sub : Nat) : State :=
  let s := if sub = 0 then s.sync 1 0 s.clock.tick else s
  let s := (s.lightAgain s.clock.tick sub).sync 0 sub s.clock.tick
  let s := if sub = 0 ∧ s.modes.mode = 6 then s.sendTables s.clock.tick else s
  let s := ((s.steerLate s.clock.tick sub).expireSlots s.clock.tick sub).countHeld sub
  if sub < 3 then s.sendNext s.clock.tick (sub + 1) else s

/-- The frame tick: device time reaches the next tick. -/
def State.frameTick (s : State) : State :=
  if s.clock.up < s.clock.nextUp ∨ !s.bellows.running ∨ s.bellows.fresh then s else
  let s := s.frameBlank
  let s := { s with clock := { s.clock with
    tick := s.clock.tick + 1, tickUp := s.clock.nextUp, tickAt := s.clock.dev - (s.clock.up - s.clock.nextUp)
    nextUp := s.clock.nextUp + s.period, blank := false, sub := 0 }
                    tb := { s.tb with follow := false } }
  let s := (s.timingStarts.releaseFrames (s.clock.tick)).linksToStandby.modeChange.roleChange.droneSupervises
  let s := s.countMissing.kssEvents.bringTick.panicEvents.sparing.firstLight.linkPower
  (s.startSub 0).periodicTriggers.emit (.pulse 0 10000 false)

/-- The next sub-frame of the frame starts (R250). -/
def State.subframeStart (s : State) : State :=
  let n := s.clock.sub + 1
  if 3 < n ∨ s.clock.blank ∨ s.clock.up < s.clock.tickUp + n * subPeriod s.clock.rate then s
  else ({ s with clock := { s.clock with sub := n } }).startSub n

end Sys2Proof.Machine
end

