-- ==== Sys2Proof/Machine/Arrivals.lean ====
section
/-! DEFINITION. Commands whose effect is put together from operations of several files: host accesses, PCIe resets and power
states, packets from the stand links, and work of the dies that ends. -/

namespace Sys2Proof.Machine

/-! ### Host accesses and the PCIe function (R28 to R30, R103) -/

/-- A host access acts only while the host reaches the registers. -/
def State.live (s : State) (f : State → State) : State := if s.barLive then f s else s

/-- An access that R30 refuses: a write is ignored, a read returns what R30 says. -/
def State.touchBad (s : State) (off len : Nat) (write : Bool) : State :=
  if write then s.bar0Write (fun n s => s.doorbell n) off (zeros len) else s.bar0Read off len

/-- Entry into D3hot (R29). -/
def State.d3hotEnter (s : State) : State := { s with pcie := { s.pcie with d3hot := true } }

/-- Return to D0 (R29): what the rings held is written, consumer indices are mirrored, and ingest resumes (DEDUCED, log entry 80). -/
def State.d0Return (s : State) : State :=
  if !s.pcie.d3hot then s else
  let s := { s with pcie := { s.pcie with d3hot := false } }
  let s := forEach (List.range 4) s fun r s => s.ringDrain r
  let s := forEach (List.range 16) s fun q s => s.mirrorCidx q
  if isPlay s.modes.mode then s.resumeIngest else s

/-- Firmware completes the commands held for a handover with their responses discarded (R28): what they do is done, no response
is written, and no mailbox becomes DONE or sends its message. -/
def State.discardHeld (s : State) : State :=
  let r := ({ s with mailboxes := s.mailboxes.map fun (m : Mailbox) => { m with irq := 0 } }).runHeld
  { r with mailboxes := s.mailboxes }

/-- Function-level reset (R28): commands held for a handover complete first, their responses discarded; the function is in D0. -/
def State.functionReset (s : State) : State :=
  let s := if s.fw.armed then s.discardHeld else s
  if s.pcie.d3hot && isPlay s.modes.mode then s.flr.resumeIngest else s.flr

/-- PERST_N is asserted (R103): the function and its link are in reset (DEDUCED, log entry 96). -/
def State.perstAssert (s : State) : State :=
  if s.pcie.perst then s else
  let s := if s.fw.armed then s.discardHeld else s
  { s.flr with pcie := { s.flr.pcie with perst := true } }

/-- PERST_N is released (R498): the link trains; streams resume as from D3hot (DEDUCED, log entry 80). -/
def State.perstRelease (s : State) : State :=
  if !s.pcie.perst then s else
  let s := { s with pcie := { s.pcie with perst := false } }
  if isPlay s.modes.mode then s.resumeIngest else s

/-- TBREF stops or returns (R502) (DEDUCED, log entry 72). -/
def State.tbrefTo (s : State) (present : Bool) : State := { s with clock := { s.clock with tbref := present } }

/-! ### Work that ends -/

/-- The running 2D operation completes once its bursts have been written (R220, R221) (DEDUCED, log entry 27). -/
def State.blitDoneNow (s : State) : State :=
  match s.compose.blits with
  | [] => s
  | b :: _ => if s.since s.compose.blitStart (blitTime b.payload s.compose.deadtimeNs s.compose.blitFrom) then s.blitEnd else s

/-- A die starts the next queued bake (R227); bakes wait while no complex supervises the die (R422). -/
def State.bakeStarts (s : State) (die : Nat) : State := if (s.supervisor die).isSome then s.bakeStart die else s

/-- Firmware finishes rebuilding a stand's concealment entries (R243); it waits while no complex supervises the die (R422), and in Hold (R94) (DEDUCED, log entry 90). -/
def State.concealRebuilt (s : State) (i : Nat) : State :=
  if i < s.stands.length ∧ ((s.stand i).cal.rebuilds.any fun q => !q.ready) ∧ (s.supervisor (s.dieOfStand i)).isSome ∧ s.modes.mode ≠ 6 then s.rebuild i else s

/-- Bellows resets a complex's domain (R421); `cut` is the length of a record the complex had allocated and not marked (R449). -/
def State.domainResetCut (s : State) (die cut : Nat) : State :=
  let after := s.domainReset die
  if (after.complex die).inReset && !(s.complex die).inReset then after.openRecord cut else after

/-! ### Packets from the stand receivers (R319 to R323) -/

/-- The samples of a DIAG packet of KIND 1: status, and ΔV in 0.5 mV (DESIGN CHOICE, log entry 54). -/
def diagSamples (data : List Byte) : List (Nat × Int) :=
  (List.range (data.length / 2)).map fun n => (bitsOf (u16 data (2 * n)) 15 14, signedOf 14 (bitsOf (u16 data (2 * n)) 13 0))

/-- A DIAG packet arrives (R319): samples of a measurement slot, faults that the sweep found, or memory data of a load.  In Calibrate `row` is the
measurement row that the slot measured. -/
def State.diagReceived (s : State) (l pos kind sub row tick first : Nat) (data : List Byte) : State :=
  if !s.linkUp l then s else
  match s.standIn l pos (s.fullTick tick) with
  | none => s
  | some i =>
    match kind with
    | 1 =>
      match (s.link l).measSlots.find? fun e => e.2.2.1 == i && e.1 % 0x100000000 == tick && (e.2.1 == sub || s.calSlot e) with
      | none => s
      | some e =>
        let cal := s.calSlot e
        let samples := diagSamples data
        let last : Bool := 49152 ≤ first + samples.length && (!cal || (row == 255 && sub == 3))
        let s := s.samplesOf cal (!voidSlot e) i (if cal then row else e.2.2.2) first samples
        if last then s.closeSlot l e else s
    | 2 =>
      (List.range (data.length / 4)).foldl (fun s n =>
        let h := u16 data (4 * n)
        let b := u8 data (4 * n + 3)
        if h < 16384 ∧ b % 4 < 3 then s.declareFault i h (u8 data (4 * n + 2)) (b % 4) (bitOf b 2) else s) s
    | 3 => s.updCal i fun c => c.memoryIn first data
    | _ => s

/-- An ACK arrives (R321): of a command, or of a steering window. -/
def State.ackReceived (s : State) (l pos kind sub cmdId tick states dark pairs : Nat) : State :=
  if !s.linkUp l then s
  else if kind = 0 then s.cmdAck l cmdId
  else s.withLeft fun s => match s.standIn l pos (s.fullTick tick) with
    | none => s
    | some i =>
      let win := (s.stand i).steerWin - 1
      if win / 4 % 0x100000000 = tick ∧ win % 4 = sub then s.windowAck i (win / 4) sub states dark pairs else s

/-- A STATUS packet arrives (R323), in step 7 of an attempt too (R304); the one that answers IDENTIFY takes an admission on (R439). -/
def State.statusReceived (s : State) (l pos : Nat) (data : List Byte) : State :=
  if !s.linkUp l ∧ (s.link l).framing.isNone then s else
  match s.standAt l pos with
  | none => s
  | some i =>
    let s := s.statusPacket i data
    if (s.stand i).admission = 1 then s.admitIdentify i else s

/-- The whole packets at the head of a stream, by their WORDS, and what is left of it (R313). -/
def packetsOf : (fuel : Nat) → List Byte → List (List Byte) × List Byte
  | 0, b => ([], b)
  | n + 1, b =>
    let w := 8 * max 1 (u16 b 2)
    if b.length < 8 ∨ b.length < w then ([], b)
    else let r := packetsOf n (b.drop w); (b.take w :: r.1, r.2)

/-- Measurement row of Calibrate samples in the stream: those of a sub-frame come in the order of R269 (DESIGN CHOICE, log entry 54). -/
def State.diagRow (s : State) (l tick sub : Nat) : Nat :=
  let (t, b, n) := (s.link l).diagAt
  let n := if t = tick ∧ b = sub then n else 0
  if s.clock.rate = 120 then 128 * (sub % 2) + n else n

/-- A DIAG packet of the stream (R319). -/
def State.diagIn (s : State) (l : Nat) (b : List Byte) : State :=
  let kind := u8 b 4
  let sub := u8 b 5
  let tick := u32 b 8
  let first := u32 b 12
  let data := if kind = 1 then slice b 16 (2 * u16 b 6) else if kind = 2 then slice b 16 (4 * u16 b 6) else b.drop 16
  let row := s.diagRow l tick sub
  let s := s.diagReceived l (u8 b 1) kind sub row tick first data
  if kind ≠ 1 then s else
  s.updLink l fun k => { k with diagAt := (tick, sub, (if s.clock.rate = 120 then row % 128 else row) + b2n (decide (49152 ≤ first + u16 b 6))) }

/-- A NAK packet that reports a lost data lane (R322). -/
def laneNak (b : List Byte) : Bool := u8 b 0 == 0x84 && u8 b 4 == 1

/-- A packet of the return direction acts as its TYPE says; one of unknown TYPE is skipped (R313, R319 to R323). -/
def State.packetIn (s : State) (l : Nat) (b : List Byte) : State :=
  let pos := u8 b 1
  match u8 b 0 with
  | 0x81 => s.diagIn l b
  | 0x82 => if s.linkUp l then s.tempPacket l ((List.range 8).map fun n => s16 b (8 + 2 * n)) else s
  | 0x83 => s.ackReceived l pos (u8 b 4) (u8 b 5) (u16 b 6) (u32 b 8) (u16 b 12) (u8 b 14) (u8 b 15)
  | 0x84 => s.nakPacket l (u8 b 4) (u8 b 5) 0xFF (u16 b 6)
  | 0x85 => s.statusReceived l pos (slice b 0 40)
  | _ => s

/-- The body of a frame that was taken joins the stream (R313), and its whole packets act in order; two data lanes reported lost within the one
frame are lost together (R325). -/
def State.packetsIn (s : State) (l : Nat) (body : List Byte) : State :=
  let r := packetsOf 256 ((s.link l).rxStream ++ body)
  let s := s.updLink l fun k => { k with rxStream := r.2 }
  match r.1.filter laneNak with
  | a :: b :: _ => (r.1.filter fun p => !laneNak p).foldl (fun s p => s.packetIn l p) (s.nakPacket l 1 (u8 a 5) (u8 b 5) 0)
  | _ => r.1.foldl (fun s p => s.packetIn l p) s

/-- Blocks arrive on the return lane in use, and `spare` on the standby (R303, R306, R309, R310): ordered blocks, which come between frames, then
a frame's 64; `sent` frames were built on the data lanes meanwhile.  The packets of a frame that is taken act with it; a packet that is sent
as a command of its own is one whose frame is not spelled (DESIGN CHOICE, log entry 130). -/
def State.blocksReceived (s : State) (l : Nat) (blocks spare : List (Nat × Nat)) (sent : Nat) : State :=
  if (s.link l).state = 0 then s else
  let s := if (s.link l).state = 1 then s.updLink l fun k => k.noteInverted blocks spare else s
  let runs : Bool := s.linkUp l || (s.link l).framing.isSome
  let s := if runs then s.framesSent l sent else s
  let bs := blocks.map (s.link l).upright
  let ordered := bs.takeWhile fun b => (readOrdered b).isSome
  let s := ((ordered.filterMap readOrdered).foldl (fun s o => s.orderedIn l o) s).spareIn l spare
  let frame := bs.drop ordered.length
  if frame.length = 64 ∧ runs then
    let r := (s.link l).readFrame frame
    let s := s.updLink l fun _ => r.1
    let took := (s.link l).takes r.2
    let s := s.frameIn l r.2
    if took then s.packetsIn l r.2.body else s
  else s

/-- A bring-up attempt reaches 25 ms (R304); `cause` is the step it stood at. -/
def State.bringupTimeout (s : State) (l cause : Nat) : State :=
  let k := s.link l
  if k.state = 1 ∧ k.recovering.isNone ∧ s.since k.attemptAt (ms 25) then s.bringupFailed l cause else s

end Sys2Proof.Machine
end

