-- ==== Sys2Proof/Machine/ExecBoot.lean ====
section
/-! DEFINITION. Meanings: Bellows, reset, boot and loss of power. -/

namespace Sys2Proof.Machine

/-- BELLOWS_POWER_UP (R484): BELLOWS_IN reaches range after Bellows stopped; Bellows state resets and the restore starts. -/
def execBellowsPowerUp (dt : Nat) (s : State) : Host.Outcome State Fault Refusal :=
  s.act dt State.bellowsPowerUp

/-- HISTORY_RESTORE_END (R463): Bellows finishes restoring flushed history and writes the 0x0012 record. -/
def execHistoryRestoreEnd (dt : Nat) (s : State) : Host.Outcome State Fault Refusal :=
  s.act dt State.historyRestored

/-- SYS_RST_N_ASSERT (R497): SYS_RST_N low holds every domain but Bellows in reset and asserts STAND_SAFE. -/
def execSysRstNAssert (dt : Nat) (s : State) : Host.Outcome State Fault Refusal :=
  s.act dt State.rstAssert

/-- SYS_RST_N_RELEASE (R103): Release of SYS_RST_N starts the boot ROM. -/
def execSysRstNRelease (dt : Nat) (straps : BitVec 3) (s : State) : Host.Outcome State Fault Refusal :=
  s.act dt fun s => s.rstRelease straps

/-- BUNDLE_VERIFY_END (R107): Verification of a bundle ends with success, or with a failure code. -/
def execBundleVerifyEnd (dt : Nat) (sent : List Byte) (s : State) : Host.Outcome State Fault Refusal :=
  s.act dt fun s => s.bundleVerified sent

/-- COMPLEX_SELF_TEST_END (R110): A management complex finishes its boot self-test. -/
def execComplexSelfTestEnd (dt : Nat) (die : Fin 2) (ok : Bool) (s : State) : Host.Outcome State Fault Refusal :=
  s.act dt fun s => s.selfTestEnd die ok

/-- COMPLEX_ABSENT (R110): A complex has not requested the lease within 600 ms of 0x02 and is left absent. -/
def execComplexAbsent (dt : Nat) (die : Fin 2) (s : State) : Host.Outcome State Fault Refusal :=
  s.act dt fun s => s.complexAbsent die

/-- LEADERSHIP_TIMEOUT (R110): Neither complex requests within 2 s of 0x03, and Bellows cold-restarts both dies. -/
def execLeadershipTimeout (dt : Nat) (s : State) : Host.Outcome State Fault Refusal :=
  s.act dt State.leadershipTimeout

/-- STANDBY_REACHED (R111): Boot reaches Standby: FW_UP sets, the rollback fuse advances and the drone powers down. -/
def execStandbyReached (dt : Nat) (s : State) : Host.Outcome State Fault Refusal :=
  s.act dt State.standbyReached

/-- SKYLINE_BUNDLE_REQUEST (R106): A child's request for the boot bundle arrives over the skyline. -/
def execSkylineBundleRequest (dt : Nat) (p : Fin 4) (s : State) : Host.Outcome State Fault Refusal :=
  s.act dt fun s => s.serveBundle p

/-- SKYLINE_BOOT_RETRY (R106): A child with no responding parent retries every 2 s. -/
def execSkylineBootRetry (dt : Nat) (s : State) : Host.Outcome State Fault Refusal :=
  s.act dt State.bootRetry

/-- POWER_LOSS (R291): Bellows declares loss of A9 power and runs the STAND_SAFE and journal sequence. -/
def execPowerLoss (dt : Nat) (rail : Nat) (s : State) : Host.Outcome State Fault Refusal :=
  s.act dt fun s => s.powerLossBy rail

/-- JOURNAL_FLUSH_END (R293): The steering journal flush to flash ends, and the recorder flush starts. -/
def execJournalFlushEnd (dt : Nat) (ok : Bool) (s : State) : Host.Outcome State Fault Refusal :=
  s.act dt fun s => s.journalFlushed ok

/-- RECORDER_FLUSH_END (R461): The power-loss flush of the recorder ends. -/
def execRecorderFlushEnd (dt : Nat) (ok : Bool) (s : State) : Host.Outcome State Fault Refusal :=
  s.act dt fun s => s.recorderFlushed ok

/-- POWER_RESTORE (R482): Every rail is back in range for 10 ms while Bellows stayed up, and both dies cold-restart. -/
def execPowerRestore (dt : Nat) (s : State) : Host.Outcome State Fault Refusal :=
  s.act dt State.powerRestore

/-- CORE_RAIL_RESTORED (R482): A fenced die's core rail is in range for 10 ms and the die rejoins. -/
def execCoreRailRestored (dt : Nat) (die : Fin 2) (s : State) : Host.Outcome State Fault Refusal :=
  s.act dt fun s => s.coreRestored die

/-- RAIL_FAULT (R481): A rail is out of range for 10 µs. -/
def execRailFault (dt : Nat) (rail : Nat) (mv : Nat) (s : State) : Host.Outcome State Fault Refusal :=
  s.act dt fun s => s.railFault rail mv

/-- HOLDUP_LOW (R486): HOLDUP_OK falls while BELLOWS_IN is in range. -/
def execHoldupLow (dt : Nat) (mv : Nat) (s : State) : Host.Outcome State Fault Refusal :=
  s.act dt fun s => s.holdupLow mv

/-- TBREF_LOSS (R502): TBREF stops for 200 ns, and Bellows switches to its internal oscillator. -/
def execTbrefLoss (dt : Nat) (s : State) : Host.Outcome State Fault Refusal :=
  s.act dt fun s => s.tbrefTo false

end Sys2Proof.Machine
end

