-- ==== Sys2Proof/Machine/ExecChain.lean ====
section
/-! DEFINITION. Meanings: the skyline. -/

namespace Sys2Proof.Machine

/-- BEACON_SEND (R368): Every 100 µs the A9 sends a BEACON on every skyline port that is up. -/
def execBeaconSend (dt : Nat) (s : State) : Host.Outcome State Fault Refusal :=
  s.act dt State.beaconSend

/-- BEACON_RECEIVED (R370): A BEACON arrives; parent selection, depth and provisional addresses are updated. -/
def execBeaconReceived (dt : Nat) (p : Fin 4) (data : List Byte) (rx : SkyRx) (s : State) : Host.Outcome State Fault Refusal :=
  s.act dt fun s => s.arrives p rx fun s => s.beaconReceived p data

/-- RELAY_RECEIVED (R377): A RELAY packet arrives from the parent and is placed and relayed on. -/
def execRelayReceived (dt : Nat) (p : Fin 4) (n : Fin 8) (seq : Nat) (desc : List Byte) (found : Placed) (rx : SkyRx) (s : State) : Host.Outcome State Fault Refusal :=
  s.act dt fun s => s.arrives p rx fun s => s.relayReceived p n seq desc found

/-- MGMT_RECEIVED (R379): A MGMT packet with a tunnelled command or response arrives. -/
def execMgmtReceived (dt : Nat) (p : Fin 4) (kind : Nat) (m : Fin 8) (data : List Byte) (rx : SkyRx) (s : State) : Host.Outcome State Fault Refusal :=
  s.act dt fun s => s.arrives p rx fun s => s.mgmtReceived p kind m data

/-- EVENT_RECEIVED (R379): An EVENT packet from a chain A9 arrives and the root writes it to its rings. -/
def execEventReceived (dt : Nat) (p : Fin 4) (sender : Nat) (record : List Byte) (rx : SkyRx) (s : State) : Host.Outcome State Fault Refusal :=
  s.act dt fun s => s.arrives p rx fun s => s.eventReceived p sender record

/-- PORT_DEAD (R369): A skyline port loses lock for 100 µs or beacons for 300 µs and is bypassed. -/
def execPortDead (dt : Nat) (p : Fin 4) (lockLost : Bool) (s : State) : Host.Outcome State Fault Refusal :=
  s.act dt fun s => s.portDead p lockLost

/-- PARENT_RETURN (R370): A parent-side port carries valid beacons for 1 s and the A9 returns to it. -/
def execParentReturn (dt : Nat) (p : Fin 4) (s : State) : Host.Outcome State Fault Refusal :=
  s.act dt fun s => s.parentReturn p

/-- SKYLINE_PORT_UP (R363): A skyline port completes its bring-up. -/
def execSkylinePortUp (dt : Nat) (p : Fin 4) (full : Bool) (s : State) : Host.Outcome State Fault Refusal :=
  s.act dt fun s => s.portUp p full

/-- TICK_EDGE (R371): A TICK edge arrives on the parent port and is forwarded and used to place the tick. -/
def execTickEdge (dt : Nat) (p : Fin 4) (s : State) : Host.Outcome State Fault Refusal :=
  s.act dt fun s => s.tickEdge p

/-- READY_INPUT_CHANGE (R374): A READY input changes and the ready AND propagates upstream. -/
def execReadyInputChange (dt : Nat) (p : Fin 4) (level : Bool) (s : State) : Host.Outcome State Fault Refusal :=
  s.act dt fun s => s.readyInput p level

/-- HOP_MEASURE (R372): Once per frame the upstream end pulses TICK to measure each port's hop delay. -/
def execHopMeasure (dt : Nat) (p : Fin 4) (roundPs : Nat) (s : State) : Host.Outcome State Fault Refusal :=
  s.act dt fun s => s.hopMeasure p roundPs

/-- READY_GRACE_EXPIRY (R376): A dead port's grace period ends and its READY input leaves the AND. -/
def execReadyGraceExpiry (dt : Nat) (p : Fin 4) (s : State) : Host.Outcome State Fault Refusal :=
  s.act dt fun s => s.graceEnd p

end Sys2Proof.Machine
end

