-- ==== Sys2Proof/Machine/ExecContain.lean ====
section
/-! DEFINITION. Meanings: the lease, self-fencing, region errors and their handlers. -/

namespace Sys2Proof.Machine

/-- LEASE_RENEWAL (R419): The holder renews the lease every 10 ms. -/
def execLeaseRenewal (dt : Nat) (die : Fin 2) (s : State) : Host.Outcome State Fault Refusal :=
  s.act dt fun s => s.leaseRenew die

/-- LEASE_MISSED (R419): 10 ms pass without a renewal; MISSED rises, and at the third the lease lapses. -/
def execLeaseMissed (dt : Nat) (s : State) : Host.Outcome State Fault Refusal :=
  s.act dt State.leaseMissed

/-- LEASE_REQUEST (R419): A complex requests the lease from Bellows, which grants the first valid request. -/
def execLeaseRequest (dt : Nat) (west : Bool) (east : Bool) (s : State) : Host.Outcome State Fault Refusal :=
  s.act dt fun s => s.leaseRequest west east

/-- ROUTE_LOSS_TIMEOUT (R421): A complex has had no route to the I/O die for 100 µs. -/
def execRouteLossTimeout (dt : Nat) (die : Fin 2) (s : State) : Host.Outcome State Fault Refusal :=
  s.act dt fun s => s.routeLoss die

/-- MC_DOMAIN_RESET (R421): Bellows resets a management complex domain 1 ms after the request, or 10 ms after a lapse. -/
def execMcDomainReset (dt : Nat) (die : Fin 2) (cut : Nat) (s : State) : Host.Outcome State Fault Refusal :=
  s.act dt fun s => s.domainResetCut die cut

/-- WATCHDOG_EXPIRY (R408): A region's watchdog limit passes without progress. -/
def execWatchdogExpiry (dt : Nat) (kind : Nat) (unit : Nat) (cut : Nat) (s : State) : Host.Outcome State Fault Refusal :=
  s.act dt fun s => (s.watchdog kind unit).openRecord cut

/-- REGION_ERROR_DETECTED (R408): Hardware sees an error in a region and isolates it at once. -/
def execRegionErrorDetected (dt : Nat) (kind : Nat) (unit : Nat) (cls : Nat) (hit : Option (Fin 8)) (s : State) : Host.Outcome State Fault Refusal :=
  s.act dt fun s => if regionExists kind unit ∧ 1 ≤ cls ∧ cls ≤ 7 then (s.internal cls hit).hardwareError kind unit cls else s

/-- HANDLER_START (R409): A free complex starts the handler of the next queued error record. -/
def execHandlerStart (dt : Nat) (die : Fin 2) (s : State) : Host.Outcome State Fault Refusal :=
  s.act dt fun s => s.handlerStart die

/-- HANDLER_TEST_END (R409): A handler's test ends, and the region is restored or fenced. -/
def execHandlerTestEnd (dt : Nat) (die : Fin 2) (pass : Bool) (s : State) : Host.Outcome State Fault Refusal :=
  s.act dt fun s => s.handlerEnd die (b2n (!pass))

/-- REGION_RETEST (R413): A fenced region is retested 1 h after fencing and hourly after that. -/
def execRegionRetest (dt : Nat) (kind : Nat) (unit : Nat) (s : State) : Host.Outcome State Fault Refusal :=
  s.act dt fun s => s.regionRetest kind unit

/-- DIE_COLD_RESET (R417): Bellows asserts STAND_SAFE, releases the lease if held and powers a compute die off for 1 ms. -/
def execDieColdReset (dt : Nat) (die : Fin 2) (s : State) : Host.Outcome State Fault Refusal :=
  s.act dt fun s => s.dieColdReset die

/-- DIE_POWER_UP (R417): A cold-reset die powers up again and starts its rejoin. -/
def execDiePowerUp (dt : Nat) (die : Fin 2) (s : State) : Host.Outcome State Fault Refusal :=
  s.act dt fun s => s.diePowerUp die

/-- IO_BLOCK_RESUME (R418): An I/O block resumes after its 1 ms reset. -/
def execIoBlockResume (dt : Nat) (unit : Nat) (s : State) : Host.Outcome State Fault Refusal :=
  s.act dt fun s => s.ioResume unit

end Sys2Proof.Machine
end

