-- ==== Sys2Proof/Machine/ExecFrame.lean ====
section
/-! DEFINITION. Meanings: timeouts of the mailboxes and transactions, and the instants of a frame. -/

namespace Sys2Proof.Machine

/-- MAILBOX_STALL_TIMEOUT (R55): A command stays PENDING for 50 µs and STALL sets. -/
def execMailboxStallTimeout (dt : Nat) (m : Fin 8) (s : State) : Host.Outcome State Fault Refusal :=
  s.act dt fun s => s.mailboxStall m

/-- CHAIN_TIMEOUT (R68): No response from a tunnel target within 10 ms of acceptance. -/
def execChainTimeout (dt : Nat) (m : Fin 8) (s : State) : Host.Outcome State Fault Refusal :=
  s.act dt fun s => s.chainTimeout m

/-- TXN_TIMEOUT (R78): An open transaction's timer reaches TIMEOUT_MS and the transaction is rolled back. -/
def execTxnTimeout (dt : Nat) (id : Nat) (s : State) : Host.Outcome State Fault Refusal :=
  s.act dt fun s => s.txnTimeout id

/-- FRAME_TICK (R18): The frame tick at which a frame's sub-frame 0 begins. -/
def execFrameTick (dt : Nat) (s : State) : Host.Outcome State Fault Refusal :=
  s.act dt State.frameTick

/-- FRAME_BLANK (R83): Start of the 100 µs frame blank, at which armed transactions apply. -/
def execFrameBlank (dt : Nat) (s : State) : Host.Outcome State Fault Refusal :=
  s.act dt State.frameBlank

/-- SUBFRAME_START (R250): Start of a sub-frame and of its steering window, marked by a sync marker. -/
def execSubframeStart (dt : Nat) (s : State) : Host.Outcome State Fault Refusal :=
  s.act dt State.subframeStart

/-- LEAD_DEADLINE (R142): Lead deadline of a tick: each stream's candidate frame is released, abandoned or missed. -/
def execLeadDeadline (dt : Nat) (sizes : List (Nat × Nat × Nat × Nat)) (s : State) : Host.Outcome State Fault Refusal :=
  s.act dt fun s => s.leadDeadline sizes

/-- SYNTHESIS_START (R183): Start of a synthesis window: generations and updates are latched and dispatch begins. -/
def execSynthesisStart (dt : Nat) (costs : List (Nat × Nat × Nat)) (s : State) : Host.Outcome State Fault Refusal :=
  s.act dt fun s => s.synthesisStart costs

/-- KERF_DEADLINE (R187): Dispatchers stop, and unwritten kerfs become late. -/
def execKerfDeadline (dt : Nat) (s : State) : Host.Outcome State Fault Refusal :=
  s.act dt State.kerfDeadlineAt

/-- SCAN_OUT_START (R22): The scan sequencer latches the select and VALID bits and starts sub-frame 0 codes. -/
def execScanOutStart (dt : Nat) (s : State) : Host.Outcome State Fault Refusal :=
  s.act dt State.scanOut

/-- WATERMARK_FIRE (R214): The synthesis front passes an armed watermark row. -/
def execWatermarkFire (dt : Nat) (s : State) : Host.Outcome State Fault Refusal :=
  s.act dt State.fireWatermarks

/-- LIFT_PHASE_END (R201): Both dies complete the lift of a new stereo frame and kerf dispatch starts. -/
def execLiftPhaseEnd (dt : Nat) (s : State) : Host.Outcome State Fault Refusal :=
  s.act dt State.liftEnd

/-- LIFT_TIMEOUT (R201): The lift phase reaches 2,000 µs, and the lift is abandoned. -/
def execLiftTimeout (dt : Nat) (s : State) : Host.Outcome State Fault Refusal :=
  s.act dt State.liftTimeout

end Sys2Proof.Machine
end

