-- ==== Sys2Proof/Machine/ExecHost.lean ====
section
/-! DEFINITION. Meanings: host accesses to BAR0 and BAR2, and resets and power states of the PCIe function. -/

namespace Sys2Proof.Machine

/-- RING (R55): Host write of 1 to MBX_DOORBELL.RING submitting the command area. -/
def execRing (dt : Nat) (m : Fin 8) (s : State) : Host.Outcome State Fault Refusal :=
  s.act dt fun s => s.live fun s => s.doorbell m

/-- COLD_WEST (R51): GLB_RESET_CTRL write with the key requesting a cold reset of the West die. -/
def execColdWest (dt : Nat) (v : Word) (s : State) : Host.Outcome State Fault Refusal :=
  s.act dt fun s => s.live fun s => s.globalWrite (fun n s => s.doorbell n) 0x00C (v ||| 1).toNat

/-- COLD_EAST (R51): GLB_RESET_CTRL write with the key requesting a cold reset of the East die. -/
def execColdEast (dt : Nat) (v : Word) (s : State) : Host.Outcome State Fault Refusal :=
  s.act dt fun s => s.live fun s => s.globalWrite (fun n s => s.doorbell n) 0x00C (v ||| 2).toNat

/-- GLB_APERTURE_HI_WRITE (R53): Write of the aperture high bits, held until the next low write. -/
def execGlbApertureHiWrite (dt : Nat) (v : Word) (s : State) : Host.Outcome State Fault Refusal :=
  s.act dt fun s => s.live fun s => s.globalWrite (fun n s => s.doorbell n) 0x01C v.toNat

/-- GLB_APERTURE_LO_WRITE (R53): Write of the aperture low bits that makes the new BAR2 base take effect. -/
def execGlbApertureLoWrite (dt : Nat) (v : Word) (s : State) : Host.Outcome State Fault Refusal :=
  s.act dt fun s => s.live fun s => s.globalWrite (fun n s => s.doorbell n) 0x018 v.toNat

/-- RING_ENABLE (R58): EVR_CTRL write setting ENABLE, which clears PIDX, sets PHASE and restarts the sequence, or is refused. -/
def execRingEnable (dt : Nat) (r : Fin 4) (v : Word) (s : State) : Host.Outcome State Fault Refusal :=
  s.act dt fun s => s.live fun s => s.ringWriteReg r 0x10 (v ||| 0x80000000).toNat

/-- RING_DISABLE (R58): EVR_CTRL write clearing ENABLE, which discards the records held for the ring. -/
def execRingDisable (dt : Nat) (r : Fin 4) (v : Word) (s : State) : Host.Outcome State Fault Refusal :=
  s.act dt fun s => s.live fun s => s.ringWriteReg r 0x10 (v &&& 0x7FFFFFFF).toNat

/-- EVR_CIDX_WRITE (R58): Host write of the consumer index that frees entries and lets held records be written. -/
def execEvrCidxWrite (dt : Nat) (r : Fin 4) (v : Word) (s : State) : Host.Outcome State Fault Refusal :=
  s.act dt fun s => s.live fun s => s.ringWriteReg r 0x1C v.toNat

/-- EVR_STATUS_READ (R57): Read of EVR_STATUS that returns DROPPED and clears it. -/
def execEvrStatusRead (dt : Nat) (r : Fin 4) (s : State) : Host.Outcome State Fault Refusal :=
  s.act dt fun s => s.bar0Read (ringOff + 0x40 * r.val + 0x20) 4

/-- REC_DATA_READ (R59): Read of REC_DATA returning the 32 bits at the cursor and advancing it. -/
def execRecDataRead (dt : Nat) (s : State) : Host.Outcome State Fault Refusal :=
  s.act dt fun s => s.bar0Read (recorderOff + 4) 4

/-- CMDSET_REV_READ (R65): BAR0 read covering CMDSET_REV of the Cruise identity entry, which sets the revision-read flag. -/
def execCmdsetRevRead (dt : Nat) (off : Nat) (len : Nat) (s : State) : Host.Outcome State Fault Refusal :=
  s.act dt fun s => if off ≤ cmdsetRevOff ∧ cmdsetRevOff + 2 ≤ off + len then s.bar0Read off len else s

/-- REGISTER_WRITE (R8): Write to a BAR0 register or area without a row of its own, acting by its access codes. -/
def execRegisterWrite (dt : Nat) (off : Nat) (data : List Byte) (s : State) : Host.Outcome State Fault Refusal :=
  s.act dt fun s => s.bar0Write (fun n s => s.doorbell n) off data

/-- UNMAPPED (R30): BAR0 access to no described block, which reads 0, ignores writes and sets GLB_ERR.UNMAPPED. -/
def execUnmapped (dt : Nat) (off : Nat) (len : Nat) (write : Bool) (s : State) : Host.Outcome State Fault Refusal :=
  s.act dt fun s => if accessOf off len = .unmapped then s.touchBad off len write else s

/-- BAD_SIZE (R30): BAR0 access of bad size or alignment, which reads all ones, ignores writes and sets GLB_ERR.BAD_SIZE. -/
def execBadSize (dt : Nat) (off : Nat) (len : Nat) (write : Bool) (s : State) : Host.Outcome State Fault Refusal :=
  s.act dt fun s => if accessOf off len = .bad then s.touchBad off len write else s

/-- BAR2_READ (R361): Host read through the BAR2 aperture into the frame store. -/
def execBar2Read (dt : Nat) (off : Nat) (len : Nat) (s : State) : Host.Outcome State Fault Refusal :=
  s.act dt fun s => s.bar2Read off len

/-- BAR2_WRITE (R345): Host write through the BAR2 aperture into the frame store. -/
def execBar2Write (dt : Nat) (off : Nat) (data : List Byte) (s : State) : Host.Outcome State Fault Refusal :=
  s.act dt fun s => s.bar2Write off data

/-- BOOT_BUFFER_WRITE (R105): Host write into the boot buffer in host boot; leaving BOOT at offset 0 starts verification. -/
def execBootBufferWrite (dt : Nat) (off : Nat) (data : List Byte) (s : State) : Host.Outcome State Fault Refusal :=
  s.act dt fun s => if s.hostBoot then s.bar2Write off data else s

/-- FUNCTION_LEVEL_RESET (R28): PCIe function-level reset of the host-facing state, which leaves the wall running. -/
def execFunctionLevelReset (dt : Nat) (s : State) : Host.Outcome State Fault Refusal :=
  s.act dt fun s => s.live fun s => s.functionReset

/-- PERST_N (R103): Assertion of PERST_N, which resets only the PCIe function and link. -/
def execPerstN (dt : Nat) (s : State) : Host.Outcome State Fault Refusal :=
  s.act dt State.perstAssert

/-- D3HOT_ENTRY (R29): Entry into D3hot, after which the A9 issues no host-memory request. -/
def execD3hotEntry (dt : Nat) (s : State) : Host.Outcome State Fault Refusal :=
  s.act dt fun s => s.live fun s => s.d3hotEnter

/-- D0_RETURN (R29): Return to D0, after which ingest resumes and discards stale descriptors. -/
def execD0Return (dt : Nat) (s : State) : Host.Outcome State Fault Refusal :=
  s.act dt fun s => s.live fun s => s.d0Return

end Sys2Proof.Machine
end

