-- ==== Sys2Proof/Machine/ExecIngest.lean ====
section
/-! DEFINITION. Meanings: ingest, decoding, the 2D engine, bakes and calibration work. -/

namespace Sys2Proof.Machine

/-- QUEUE_POLL (R118): Every POLL_US the ingest engine reads a queue's producer index and fetches and checks descriptors. -/
def execQueuePoll (dt : Nat) (q : Fin 16) (pidx : Option Nat) (descs : List (Option (List Byte))) (s : State) : Host.Outcome State Fault Refusal :=
  s.act dt fun s => s.queuePoll q pidx descs

/-- DESCRIPTOR_PLACED (R118): A descriptor's data is read, decrypted and placed, and the consumer index is mirrored. -/
def execDescriptorPlaced (dt : Nat) (q : Fin 16) (found : Placed) (s : State) : Host.Outcome State Fault Refusal :=
  s.act dt fun s => s.descriptorPlaced q found

/-- FETCH_RESUME (R127): A stream stopped at HIGH_FRAMES or a full share resumes fetching once room returns. -/
def execFetchResume (dt : Nat) (n : Fin 8) (s : State) : Host.Outcome State Fault Refusal :=
  s.act dt fun s => s.fetchResume n

/-- DECODE_DONE (R142): A released scene frame finishes decoding into layer planes. -/
def execDecodeDone (dt : Nat) (n : Fin 8) (found : List Picture) (s : State) : Host.Outcome State Fault Refusal :=
  s.act dt fun s => s.decodeDone n found

/-- DRAIN_TIMEOUT (R125): A draining stream's queue has been empty for 1 s of fetching time. -/
def execDrainTimeout (dt : Nat) (n : Fin 8) (s : State) : Host.Outcome State Fault Refusal :=
  s.act dt fun s => s.drainTimeout n

/-- BLIT_DONE (R220): A 2D engine operation completes and the next in SEQ order starts. -/
def execBlitDone (dt : Nat) (s : State) : Host.Outcome State Fault Refusal :=
  s.act dt State.blitDoneNow

/-- BAKE_START (R227): A die starts the next queued live-set bake once it is free. -/
def execBakeStart (dt : Nat) (die : Fin 2) (s : State) : Host.Outcome State Fault Refusal :=
  s.act dt fun s => s.bakeStarts die

/-- BAKE_END (R227): A bake completes, and the stand's live-set generation advances. -/
def execBakeEnd (dt : Nat) (stand : Nat) (s : State) : Host.Outcome State Fault Refusal :=
  s.act dt fun s => s.bakeEnds stand

/-- CAL_OPERATION_END (R232): A calibration load, read or measurement ends. -/
def execCalOperationEnd (dt : Nat) (stand : Nat) (header : List Byte) (cells : List (Nat × Byte)) (s : State) : Host.Outcome State Fault Refusal :=
  s.act dt fun s => s.calOpEnds stand header cells

/-- CONCEAL_REBUILD_END (R243): Firmware finishes rebuilding a stand's concealment entries. -/
def execConcealRebuildEnd (dt : Nat) (stand : Nat) (s : State) : Host.Outcome State Fault Refusal :=
  s.act dt fun s => s.concealRebuilt stand

end Sys2Proof.Machine
end

