-- ==== Sys2Proof/Machine/ExecLink.lean ====
section
/-! DEFINITION. Meanings: the stand links and what the stand receivers report. -/

namespace Sys2Proof.Machine

/-- LINK_FRAME_RECEIVED (R310): A return-lane link frame arrives; it is accepted or discarded, and its ACK_SEQ and NAK act on the replay buffer. -/
def execLinkFrameReceived (dt : Nat) (l : Fin 16) (blocks : List (Nat × Nat)) (spare : List (Nat × Nat)) (sent : Nat) (s : State) : Host.Outcome State Fault Refusal :=
  s.act dt fun s => s.blocksReceived l blocks spare sent

/-- REPLAY_TIMEOUT (R311): ACK_SEQ does not advance within 4 µs, or the buffer is full, and a replay starts. -/
def execReplayTimeout (dt : Nat) (l : Fin 16) (s : State) : Host.Outcome State Fault Refusal :=
  s.act dt fun s => s.replayTimeout l

/-- DIAG_RECEIVED (R319): A DIAG packet of measurement samples, sweep faults or memory data arrives. -/
def execDiagReceived (dt : Nat) (l : Fin 16) (pos : Nat) (kind : Nat) (sub : Nat) (row : Nat) (tick : Nat) (first : Nat) (data : List Byte) (s : State) : Host.Outcome State Fault Refusal :=
  s.act dt fun s => s.diagReceived l pos kind sub row tick first data

/-- TEMP_RECEIVED (R320): A TEMP packet with the stands' readings arrives. -/
def execTempReceived (dt : Nat) (l : Fin 16) (readings : List Int) (s : State) : Host.Outcome State Fault Refusal :=
  s.act dt fun s => if s.linkUp l then s.tempPacket l readings else s

/-- ACK_RECEIVED (R321): An ACK of a command or of a steering window arrives; window ACKs update the journal. -/
def execAckReceived (dt : Nat) (l : Fin 16) (pos : Nat) (kind : Nat) (sub : Nat) (cmdId : Nat) (tick : Nat) (states : Nat) (dark : Nat) (pairs : Nat) (s : State) : Host.Outcome State Fault Refusal :=
  s.act dt fun s => s.ackReceived l pos kind sub cmdId tick states dark pairs

/-- NAK_RECEIVED (R322): A NAK packet arrives reporting a lost data lane, a refused command or a malformed packet. -/
def execNakReceived (dt : Nat) (l : Fin 16) (cause : Nat) (lane : Nat) (lane2 : Nat) (cmdId : Nat) (s : State) : Host.Outcome State Fault Refusal :=
  s.act dt fun s => s.nakPacket l cause lane lane2 cmdId

/-- STATUS_RECEIVED (R323): A stand STATUS packet arrives. -/
def execStatusReceived (dt : Nat) (l : Fin 16) (pos : Nat) (data : List Byte) (s : State) : Host.Outcome State Fault Refusal :=
  s.act dt fun s => s.statusReceived l pos data

/-- RETURN_LANE_LOST (R327): The return lane loses block lock and the A9 moves it to the return spare. -/
def execReturnLaneLost (dt : Nat) (l : Fin 16) (s : State) : Host.Outcome State Fault Refusal :=
  s.act dt fun s => s.returnLost l

/-- SPARE_LANE_FAULT (R306): A spare lane loses lock or exceeds its body error count and is marked unusable. -/
def execSpareLaneFault (dt : Nat) (l : Fin 16) (lane : Nat) (s : State) : Host.Outcome State Fault Refusal :=
  s.act dt fun s => s.spareFault l lane

/-- LINK_RECOVERY (R312): A recovery starts after four stalled replays, or a clock-lane or unsparable loss. -/
def execLinkRecovery (dt : Nat) (l : Fin 16) (s : State) : Host.Outcome State Fault Refusal :=
  s.act dt fun s => s.startRecovery l

/-- LINK_RECOVERY_END (R312): A link recovery ends by resuming, or takes the link down. -/
def execLinkRecoveryEnd (dt : Nat) (l : Fin 16) (lanes : List LaneReport) (order : List Nat) (ret : List (List Byte)) (s : State) : Host.Outcome State Fault Refusal :=
  s.act dt fun s => s.recoveryEnd l lanes order ret

/-- LINK_BRINGUP_END (R304): A link bring-up attempt ends, coming up or failing. -/
def execLinkBringupEnd (dt : Nat) (l : Fin 16) (steps : List Nat) (lanes : List LaneReport) (frameErrs : Bool) (order : List Nat) (ret : List (List Byte)) (s : State) : Host.Outcome State Fault Refusal :=
  s.act dt fun s => s.bringupEnd l steps lanes frameErrs order ret

/-- LINK_BRINGUP_TIMEOUT (R304): A link bring-up attempt reaches its 25 ms limit. -/
def execLinkBringupTimeout (dt : Nat) (l : Fin 16) (cause : Nat) (s : State) : Host.Outcome State Fault Refusal :=
  s.act dt fun s => s.bringupTimeout l cause

/-- LINK_WAKE (R329): A dozing or sleeping transmit direction wakes before a tick or blank. -/
def execLinkWake (dt : Nat) (l : Fin 16) (s : State) : Host.Outcome State Fault Refusal :=
  s.act dt fun s => s.linkWake l

/-- TEMP_TIMEOUT (R275): No valid TEMP from a stand for 60 consecutive frames. -/
def execTempTimeout (dt : Nat) (stand : Nat) (s : State) : Host.Outcome State Fault Refusal :=
  s.act dt fun s => s.tempTimeout stand

/-- STAND_REMOVED (R438): No STATUS from a stand for 5 consecutive frames, and the stand is declared removed. -/
def execStandRemoved (dt : Nat) (stand : Nat) (s : State) : Host.Outcome State Fault Refusal :=
  s.act dt fun s => s.standRemoved stand

/-- STAND_RAIL_RECOVERED (R287): A stand's rails have stayed in range for 100 ms, and its known-state sequence starts. -/
def execStandRailRecovered (dt : Nat) (stand : Nat) (s : State) : Host.Outcome State Fault Refusal :=
  s.act dt fun s => s.railRecovered stand

end Sys2Proof.Machine
end

