-- ==== Sys2Proof/Machine/ExecManage.lean ====
section
/-! DEFINITION. Meanings: firmware commands of the SYS, MODE and TXN families. -/

namespace Sys2Proof.Machine

/-- SYS_IDENTIFY (R65): Command returning the Cruise firmware identity entry; a success sets the revision-read flag. -/
def execSysIdentify (dt : Nat) (h : CmdHdr) (p : List Byte) (s : State) : Host.Outcome State Fault Refusal :=
  s.act dt (State.submit sysIdentify h p)

/-- SYS_STATUS (R429): Command returning mode, lease, queue and fence summary. -/
def execSysStatus (dt : Nat) (h : CmdHdr) (p : List Byte) (s : State) : Host.Outcome State Fault Refusal :=
  s.act dt (State.submit sysStatus h p)

/-- SYS_EVENT_ROUTE (R74): Command setting, per event class, the event ring it goes to or its discard. -/
def execSysEventRoute (dt : Nat) (h : CmdHdr) (p : List Byte) (s : State) : Host.Outcome State Fault Refusal :=
  s.act dt (State.submit sysEventRoute h p)

/-- SYS_ECHO (R73): Command that returns its own payload. -/
def execSysEcho (dt : Nat) (h : CmdHdr) (p : List Byte) (s : State) : Host.Outcome State Fault Refusal :=
  s.act dt (State.submit sysEcho h p)

/-- SYS_SPARES (R442): Command returning spare consumption against budget and the service conditions. -/
def execSysSpares (dt : Nat) (h : CmdHdr) (p : List Byte) (s : State) : Host.Outcome State Fault Refusal :=
  s.act dt (State.submit sysSpares h p)

/-- SYS_FAULTS (R430): Command returning the pending error queue, fenced and retired regions and the overflow records. -/
def execSysFaults (dt : Nat) (h : CmdHdr) (p : List Byte) (s : State) : Host.Outcome State Fault Refusal :=
  s.act dt (State.submit sysFaults h p)

/-- MODE_SET (R96): Stageable command setting the operating mode at a blank. -/
def execModeSet (dt : Nat) (h : CmdHdr) (p : List Byte) (s : State) : Host.Outcome State Fault Refusal :=
  s.act dt (State.submit modeSet h p)

/-- MODE_GET (R97): Command returning the mode, the pending mode and the Bring-up progress. -/
def execModeGet (dt : Nat) (h : CmdHdr) (p : List Byte) (s : State) : Host.Outcome State Fault Refusal :=
  s.act dt (State.submit modeGet h p)

/-- TXN_BEGIN (R75): Command opening a configuration transaction on the mailbox with a timeout. -/
def execTxnBegin (dt : Nat) (h : CmdHdr) (p : List Byte) (s : State) : Host.Outcome State Fault Refusal :=
  s.act dt (State.submit txnBegin h p)

/-- TXN_COMMIT (R79): Command that validates a transaction and arms it for a blank, or for AT_TICK. -/
def execTxnCommit (dt : Nat) (h : CmdHdr) (p : List Byte) (s : State) : Host.Outcome State Fault Refusal :=
  s.act dt (State.submit txnCommit h p)

/-- TXN_ROLLBACK (R82): Command discarding an open transaction, or an armed one before its cut-off. -/
def execTxnRollback (dt : Nat) (h : CmdHdr) (p : List Byte) (s : State) : Host.Outcome State Fault Refusal :=
  s.act dt (State.submit txnRollback h p)

/-- TXN_STATUS (R85): Command returning the state of one of the last 64 transactions of the mailbox. -/
def execTxnStatus (dt : Nat) (h : CmdHdr) (p : List Byte) (s : State) : Host.Outcome State Fault Refusal :=
  s.act dt (State.submit txnStatus h p)

end Sys2Proof.Machine
end

