-- ==== Sys2Proof/Machine/ExecMem.lean ====
section
/-! DEFINITION. Meanings: the frame store. -/

namespace Sys2Proof.Machine

/-- REFRESH_DUE (R346): A pseudo-channel's refresh interval expires; the refresh is issued, postponed or forced. -/
def execRefreshDue (dt : Nat) (pc : Nat) (realTime : Bool) (s : State) : Host.Outcome State Fault Refusal :=
  s.act dt fun s => if pc < 128 then s.refreshDue pc realTime else s

/-- LIVE_TRAIN_AUTO (R351): Firmware starts a live training pass 10 s after the last or after a 5 °C stack change. -/
def execLiveTrainAuto (dt : Nat) (s : State) : Host.Outcome State Fault Refusal :=
  s.act dt State.liveAuto

/-- TRAIN_PASS_END (R352): A training pass ends with success or failure. -/
def execTrainPassEnd (dt : Nat) (ok : Bool) (s : State) : Host.Outcome State Fault Refusal :=
  s.act dt fun s => s.passEnd ok

/-- SET_POINT_CHANGE_START (R354): A pending set-point change starts at once or at the next scan-out gap. -/
def execSetPointChangeStart (dt : Nat) (s : State) : Host.Outcome State Fault Refusal :=
  s.act dt State.changeStart

/-- SET_POINT_CHANGE_END (R354): A set-point change ends after verification, or returns to the old set point. -/
def execSetPointChangeEnd (dt : Nat) (ok : Bool) (s : State) : Host.Outcome State Fault Refusal :=
  s.act dt fun s => s.changeEnd ok

/-- MEM_CORRECTED_READ (R357): A read corrects an error, and the granule is rewritten. -/
def execMemCorrectedRead (dt : Nat) (addr : Nat) (s : State) : Host.Outcome State Fault Refusal :=
  s.act dt fun s => if s.storeUp (addr / (64 * gib)) then s.corrected addr else s

/-- MEM_UNCORRECTABLE_READ (R358): A read meets an uncorrectable error; the granule is poisoned and the reader's outcome follows the region. -/
def execMemUncorrectableRead (dt : Nat) (addr : Nat) (port : Nat) (s : State) : Host.Outcome State Fault Refusal :=
  s.act dt fun s => s.uncorrectable addr port

/-- ROW_SPARE (R359): Firmware applies soft repair to a row in the next scan-out gap. -/
def execRowSpare (dt : Nat) (pc : Nat) (row : Nat) (s : State) : Host.Outcome State Fault Refusal :=
  s.act dt fun s => s.rowSpare pc row

/-- PAGE_RETIRE_COPY_END (R360): The copy of a retiring ray-frame page to its replacement ends. -/
def execPageRetireCopyEnd (dt : Nat) (die : Fin 2) (page : Nat) (s : State) : Host.Outcome State Fault Refusal :=
  s.act dt fun s => s.pageCopied die page

/-- FRAME_BASE_COPY_END (R263): The background copy of a moved ray-frame pair completes and the old pair is released. -/
def execFrameBaseCopyEnd (dt : Nat) (die : Fin 2) (s : State) : Host.Outcome State Fault Refusal :=
  s.act dt fun s => s.frameBaseCopied die

/-- PATROL_SCRUB (R357): The firmware port reads each granule once per 24 h. -/
def execPatrolScrub (dt : Nat) (die : Fin 2) (s : State) : Host.Outcome State Fault Refusal :=
  s.act dt fun s => if s.storeUp die then s.scrubEnd die else s

end Sys2Proof.Machine
end

