-- ==== Sys2Proof/Machine/ExecPlatform.lean ====
section
/-! DEFINITION. Meanings: firmware commands of the MEM, CHAIN, TIME, SEC, REC and PWR families. -/

namespace Sys2Proof.Machine

/-- MEM_SET_POINT (R353): Long command requesting a frame-store frequency change. -/
def execMemSetPoint (dt : Nat) (h : CmdHdr) (p : List Byte) (s : State) : Host.Outcome State Fault Refusal :=
  s.act dt (State.submit memSetPoint h p)

/-- MEM_ORDERING (R344): Stageable command selecting native or Linub ordering and the power-down timer. -/
def execMemOrdering (dt : Nat) (h : CmdHdr) (p : List Byte) (s : State) : Host.Outcome State Fault Refusal :=
  s.act dt (State.submit memOrdering h p)

/-- MEM_TRAIN (R352): Long command requesting a live or full training pass. -/
def execMemTrain (dt : Nat) (h : CmdHdr) (p : List Byte) (s : State) : Host.Outcome State Fault Refusal :=
  s.act dt (State.submit memTrain h p)

/-- MEM_STATUS (R362): Command returning ECC, sparing, retirement, refresh and training counters. -/
def execMemStatus (dt : Nat) (h : CmdHdr) (p : List Byte) (s : State) : Host.Outcome State Fault Refusal :=
  s.act dt (State.submit memStatus h p)

/-- CHAIN_ROLE (R365): Stageable command setting skyline port roles, chain address, root, ring and ready mask. -/
def execChainRole (dt : Nat) (h : CmdHdr) (p : List Byte) (s : State) : Host.Outcome State Fault Refusal :=
  s.act dt (State.submit chainRole h p)

/-- CHAIN_REGION (R380): Stageable command setting this A9's region of the wall grid. -/
def execChainRegion (dt : Nat) (h : CmdHdr) (p : List Byte) (s : State) : Host.Outcome State Fault Refusal :=
  s.act dt (State.submit chainRegion h p)

/-- CHAIN_GRACE (R376): Stageable command setting the ready grace period. -/
def execChainGrace (dt : Nat) (h : CmdHdr) (p : List Byte) (s : State) : Host.Outcome State Fault Refusal :=
  s.act dt (State.submit chainGrace h p)

/-- CHAIN_STATUS (R386): Command returning chain ports, hop delays, ready and bypass state. -/
def execChainStatus (dt : Nat) (h : CmdHdr) (p : List Byte) (s : State) : Host.Outcome State Fault Refusal :=
  s.act dt (State.submit chainStatus h p)

/-- TIME_SOURCE (R390): Stageable command selecting the tick discipline and the jump threshold. -/
def execTimeSource (dt : Nat) (h : CmdHdr) (p : List Byte) (s : State) : Host.Outcome State Fault Refusal :=
  s.act dt (State.submit timeSource h p)

/-- TIME_PTP (R398): Command configuring one Ethernet port's PTP operation and restarting it. -/
def execTimePtp (dt : Nat) (h : CmdHdr) (p : List Byte) (s : State) : Host.Outcome State Fault Refusal :=
  s.act dt (State.submit timePtp h p)

/-- TIME_GET (R389): Command returning device time, source state and the current tick. -/
def execTimeGet (dt : Nat) (h : CmdHdr) (p : List Byte) (s : State) : Host.Outcome State Fault Refusal :=
  s.act dt (State.submit timeGet h p)

/-- TIME_ACCEPT_JUMP (R395): Command accepting a refused time step, applied at a blank as a timing-mode change. -/
def execTimeAcceptJump (dt : Nat) (h : CmdHdr) (p : List Byte) (s : State) : Host.Outcome State Fault Refusal :=
  s.act dt (State.submit timeAcceptJump h p)

/-- TIME_PULSE (R403): Command programming a TPULSE output. -/
def execTimePulse (dt : Nat) (h : CmdHdr) (p : List Byte) (s : State) : Host.Outcome State Fault Refusal :=
  s.act dt (State.submit timePulse h p)

/-- TIME_FSYNC_ARM (R400): Command setting FSYNC_IN polarity and delay and re-arming it. -/
def execTimeFsyncArm (dt : Nat) (h : CmdHdr) (p : List Byte) (s : State) : Host.Outcome State Fault Refusal :=
  s.act dt (State.submit timeFsyncArm h p)

/-- SEC_CERTS (R466): Command returning a fragment of an identity certificate. -/
def execSecCerts (dt : Nat) (h : CmdHdr) (p : List Byte) (s : State) : Host.Outcome State Fault Refusal :=
  s.act dt (State.submit secCerts h p)

/-- SEC_ATTEST (R473): Command returning a dual-signed attestation report over a nonce. -/
def execSecAttest (dt : Nat) (h : CmdHdr) (p : List Byte) (s : State) : Host.Outcome State Fault Refusal :=
  s.act dt (State.submit secAttest h p)

/-- SEC_KEM_KEY (R475): Command returning the public content-key wrapping keys. -/
def execSecKemKey (dt : Nat) (h : CmdHdr) (p : List Byte) (s : State) : Host.Outcome State Fault Refusal :=
  s.act dt (State.submit secKemKey h p)

/-- SEC_FW_UPDATE (R431): Long command starting a live firmware update from a bundle in the frame store. -/
def execSecFwUpdate (dt : Nat) (h : CmdHdr) (p : List Byte) (s : State) : Host.Outcome State Fault Refusal :=
  s.act dt (State.submit secFwUpdate h p)

/-- SEC_LIFECYCLE (R472): Command making a fused lifecycle transition. -/
def execSecLifecycle (dt : Nat) (h : CmdHdr) (p : List Byte) (s : State) : Host.Outcome State Fault Refusal :=
  s.act dt (State.submit secLifecycle h p)

/-- REC_TRIGGERS (R453): Stageable command replacing the snapshot triggers and register sets. -/
def execRecTriggers (dt : Nat) (h : CmdHdr) (p : List Byte) (s : State) : Host.Outcome State Fault Refusal :=
  s.act dt (State.submit recTriggers h p)

/-- REC_FLUSH (R459): Long command flushing the recorder log to flash up to the current head. -/
def execRecFlush (dt : Nat) (h : CmdHdr) (p : List Byte) (s : State) : Host.Outcome State Fault Refusal :=
  s.act dt (State.submit recFlush h p)

/-- REC_ERASE (R460): Long command erasing the flushed history sectors. -/
def execRecErase (dt : Nat) (h : CmdHdr) (p : List Byte) (s : State) : Host.Outcome State Fault Refusal :=
  s.act dt (State.submit recErase h p)

/-- PWR_DOMAIN (R479): Command switching an idle, host-switchable power domain on or off. -/
def execPwrDomain (dt : Nat) (h : CmdHdr) (p : List Byte) (s : State) : Host.Outcome State Fault Refusal :=
  s.act dt (State.submit pwrDomain h p)

/-- PWR_STATUS (R492): Command returning power, rails, domains, temperatures and clocks. -/
def execPwrStatus (dt : Nat) (h : CmdHdr) (p : List Byte) (s : State) : Host.Outcome State Fault Refusal :=
  s.act dt (State.submit pwrStatusCmd h p)

/-- PWR_LIMIT (R490): Stageable command setting the package power cap and NO_BOOST. -/
def execPwrLimit (dt : Nat) (h : CmdHdr) (p : List Byte) (s : State) : Host.Outcome State Fault Refusal :=
  s.act dt (State.submit pwrLimit h p)

end Sys2Proof.Machine
end

