-- ==== Sys2Proof/Machine/ExecPower.lean ====
section
/-! DEFINITION. Meanings: junctions, clocks, the power cap and AVS. -/

namespace Sys2Proof.Machine

/-- JUNCTION_SAMPLE (R489): Every 100 µs the junction sensors are read and throttling is judged. -/
def execJunctionSample (dt : Nat) (temps : List Int) (s : State) : Host.Outcome State Fault Refusal :=
  s.act dt fun s => s.junctionSample temps

/-- THERMAL_FENCE (R489): A junction at 110 °C for 10 ms fences the die, or declares power loss for the I/O die. -/
def execThermalFence (dt : Nat) (k : Fin 3) (s : State) : Host.Outcome State Fault Refusal :=
  s.act dt fun s => s.thermalFence k

/-- REED_CLOCK_STEP (R489): Each ms a throttled, capped or boosting die steps its reed clock by 25 MHz. -/
def execReedClockStep (dt : Nat) (s : State) : Host.Outcome State Fault Refusal :=
  s.act dt State.clockStep

/-- POWER_CAP_SAMPLE (R490): The 10 ms package power average is compared with CAP_W. -/
def execPowerCapSample (dt : Nat) (mw : Nat) (rails : List (Nat × Nat)) (s : State) : Host.Outcome State Fault Refusal :=
  s.act dt fun s => s.capSample mw rails

/-- AVS_ADJUST (R487): A die sets its core voltage over AVSBus, at most once per 100 µs. -/
def execAvsAdjust (dt : Nat) (die : Fin 2) (mv : Nat) (s : State) : Host.Outcome State Fault Refusal :=
  s.act dt fun s => s.avsAdjust die mv

/-- AVS_FAILURE (R487): Three consecutive AVSBus transactions go unacknowledged. -/
def execAvsFailure (dt : Nat) (die : Fin 2) (s : State) : Host.Outcome State Fault Refusal :=
  s.act dt fun s => s.avsFailure die

end Sys2Proof.Machine
end

