-- ==== Sys2Proof/Machine/ExecScene.lean ====
section
/-! DEFINITION. Meanings: firmware commands of the STREAM, SCENE and COMPOSE families. -/

namespace Sys2Proof.Machine

/-- STREAM_QUEUES (R117): Command configuring submission queue bases, sizes and the polling interval. -/
def execStreamQueues (dt : Nat) (h : CmdHdr) (p : List Byte) (s : State) : Host.Outcome State Fault Refusal :=
  s.act dt (State.submit streamQueues h p)

/-- STREAM_OPEN (R123): Stageable command binding a stream slot to a queue, a format and protection. -/
def execStreamOpen (dt : Nat) (h : CmdHdr) (p : List Byte) (s : State) : Host.Outcome State Fault Refusal :=
  s.act dt (State.submit streamOpen h p)

/-- STREAM_CLOSE (R125): Stageable command closing a stream, at once or after a drain. -/
def execStreamClose (dt : Nat) (h : CmdHdr) (p : List Byte) (s : State) : Host.Outcome State Fault Refusal :=
  s.act dt (State.submit streamClose h p)

/-- STREAM_KEY (R131): Command unwrapping a hybrid-wrapped content key into a key slot, or clearing the slot. -/
def execStreamKey (dt : Nat) (h : CmdHdr) (p : List Byte) (s : State) : Host.Outcome State Fault Refusal :=
  s.act dt (State.submit streamKey h p)

/-- STREAM_STATS (R144): Command returning a stream's state and counters, optionally clearing the counters. -/
def execStreamStats (dt : Nat) (h : CmdHdr) (p : List Byte) (s : State) : Host.Outcome State Fault Refusal :=
  s.act dt (State.submit streamStatsCmd h p)

/-- SCENE_BIND (R172): Stageable command binding streams to the primary and inset scene roles. -/
def execSceneBind (dt : Nat) (h : CmdHdr) (p : List Byte) (s : State) : Host.Outcome State Fault Refusal :=
  s.act dt (State.submit sceneBind h p)

/-- SCENE_PLACE (R170): Stageable command setting the scene-to-wall placement, the clip box and the viewing volume. -/
def execScenePlace (dt : Nat) (h : CmdHdr) (p : List Byte) (s : State) : Host.Outcome State Fault Refusal :=
  s.act dt (State.submit scenePlace h p)

/-- SCENE_LIFT (R197): Stageable command setting the lift parameters for stereo titles. -/
def execSceneLift (dt : Nat) (h : CmdHdr) (p : List Byte) (s : State) : Host.Outcome State Fault Refusal :=
  s.act dt (State.submit sceneLift h p)

/-- COMPOSE_LAYER (R203): Stageable command placing or removing a compose layer. -/
def execComposeLayer (dt : Nat) (h : CmdHdr) (p : List Byte) (s : State) : Host.Outcome State Fault Refusal :=
  s.act dt (State.submit composeLayer h p)

/-- COMPOSE_UPDATE (R207): Command submitting an update region of a compose surface, or a new base. -/
def execComposeUpdate (dt : Nat) (h : CmdHdr) (p : List Byte) (s : State) : Host.Outcome State Fault Refusal :=
  s.act dt (State.submit composeUpdate h p)

/-- COMPOSE_BLIT (R216): Command queueing a COPY, FILL or BLEND operation on the 2D engine. -/
def execComposeBlit (dt : Nat) (h : CmdHdr) (p : List Byte) (s : State) : Host.Outcome State Fault Refusal :=
  s.act dt (State.submit composeBlit h p)

/-- COMPOSE_WATERMARK (R213): Command arming a synthesis-front watermark on a kerf row. -/
def execComposeWatermark (dt : Nat) (h : CmdHdr) (p : List Byte) (s : State) : Host.Outcome State Fault Refusal :=
  s.act dt (State.submit composeWatermark h p)

/-- COMPOSE_DEADTIME (R221): Stageable command setting the 2D engine idle time after each burst. -/
def execComposeDeadtime (dt : Nat) (h : CmdHdr) (p : List Byte) (s : State) : Host.Outcome State Fault Refusal :=
  s.act dt (State.submit composeDeadtime h p)

end Sys2Proof.Machine
end

