-- ==== Sys2Proof/Machine/ExecService.lean ====
section
/-! DEFINITION. Meanings: event rings, live update, recorder, service hours and management datagrams, and the rest of the table. -/

namespace Sys2Proof.Machine

/-- EVR_COALESCE_TIMEOUT (R89): COAL_US passes since the oldest unsignalled record and an MSI-X message is sent. -/
def execEvrCoalesceTimeout (dt : Nat) (r : Fin 4) (s : State) : Host.Outcome State Fault Refusal :=
  s.act dt fun s => s.coalesce r

/-- MIRROR_FAULT (R58): A write to host memory fails, and the ring is disabled. -/
def execMirrorFault (dt : Nat) (r : Fin 4) (s : State) : Host.Outcome State Fault Refusal :=
  s.act dt fun s => s.mirrorFault r

/-- FW_UPDATE_STAGE_END (R432): A live-update stage ends or fails. -/
def execFwUpdateStageEnd (dt : Nat) (outcome : Nat) (s : State) : Host.Outcome State Fault Refusal :=
  s.act dt fun s => s.fwStageEnd outcome

/-- HANDOVER_ARM (R434): At H − 2.5 ms the chanter arms the handover and the drone takes new commands. -/
def execHandoverArm (dt : Nat) (s : State) : Host.Outcome State Fault Refusal :=
  s.act dt State.handoverArm

/-- HANDOVER_GRANT (R434): At H − 1 µs Bellows grants the lease to the drone. -/
def execHandoverGrant (dt : Nat) (s : State) : Host.Outcome State Fault Refusal :=
  s.act dt State.handoverGrant

/-- RECORD_PAD_TIMEOUT (R449): A record still unmarked 10 ms after allocation is turned into a pad. -/
def execRecordPadTimeout (dt : Nat) (off : Nat) (s : State) : Host.Outcome State Fault Refusal :=
  s.act dt fun s => s.padOpen off

/-- REC_FLUSH_TRIGGER (R459): A background flush starts at 16 KiB unflushed or 10 s after the oldest record. -/
def execRecFlushTrigger (dt : Nat) (s : State) : Host.Outcome State Fault Refusal :=
  s.act dt State.flushTrigger

/-- REC_FLUSH_END (R459): A recorder flush to flash ends. -/
def execRecFlushEnd (dt : Nat) (ok : Bool) (s : State) : Host.Outcome State Fault Refusal :=
  s.act dt fun s => s.flushEnd ok

/-- SERVICE_HOUR (R441): SERVICE_HOURS advances hourly and the spare budgets are judged again. -/
def execServiceHour (dt : Nat) (s : State) : Host.Outcome State Fault Refusal :=
  s.act dt State.serviceHour

/-- MGMT_DATAGRAM (R477): A management query or signed command arrives over UDP. -/
def execMgmtDatagram (dt : Nat) (n : Fin 2) (data : List Byte) (s : State) : Host.Outcome State Fault Refusal :=
  s.act dt fun s => s.mgmtDatagram (fun s => s.runMbx 7) n data

/-- DRONE_IN_SYNC (R113): The drone finishes mirroring the chanter's committed configuration and DRONE_STATE becomes 3. -/
def execDroneInSync (dt : Nat) (s : State) : Host.Outcome State Fault Refusal :=
  s.act dt State.droneInSync

/-- MC_DOMAIN_RELEASE (R422): Bellows releases a reset management complex domain, and the complex boots from the boot buffer as the drone. -/
def execMcDomainRelease (dt : Nat) (die : Fin 2) (s : State) : Host.Outcome State Fault Refusal :=
  s.act dt fun s => s.domainRelease die

/-- HANDLER_TEST_TIMEOUT (R409): A handler's test exceeds its limit by 100 % and ends as a fail. -/
def execHandlerTestTimeout (dt : Nat) (die : Fin 2) (s : State) : Host.Outcome State Fault Refusal :=
  s.act dt fun s => s.handlerTimeout die

/-- RESERVE_COPY_END (R415): The copy of a fenced pseudo-channel into the other die's reserve ends, and its addresses are served from the reserve from then on. -/
def execReserveCopyEnd (dt : Nat) (pc : Nat) (s : State) : Host.Outcome State Fault Refusal :=
  s.act dt fun s => s.reserveCopied pc

/-- IDLE_POWER_DOWN (R348): A stack ID that has had no request for IDLE_NS enters power-down. -/
def execIdlePowerDown (dt : Nat) (pc : Nat) (sid : Nat) (s : State) : Host.Outcome State Fault Refusal :=
  s.act dt fun s => if pc < 128 then s.powerDown pc sid else s

/-- STACK_TEMP_SAMPLE (R346): Every millisecond each HBM stack's own temperature sensor is read, setting the refresh interval and judging the 95 °C throttle. -/
def execStackTempSample (dt : Nat) (temps : List (Option Int)) (s : State) : Host.Outcome State Fault Refusal :=
  s.act dt fun s => (s.stackSample temps).stackThrottle

/-- REFRESH_REPAY (R346): A pseudo-channel with refresh debt that no longer holds a real-time read repays it with back-to-back refreshes. -/
def execRefreshRepay (dt : Nat) (pc : Nat) (count : Nat) (s : State) : Host.Outcome State Fault Refusal :=
  s.act dt fun s => s.refreshRepay pc count

/-- REAL_TIME_PANIC (R341): A real-time port's FIFO falls below 24 KiB and the port enters panic, or reaches 48 KiB and leaves it. -/
def execRealTimePanic (dt : Nat) (port : Fin 16) (fill : Nat) (owes : Bool) (s : State) : Host.Outcome State Fault Refusal :=
  s.act dt fun s => s.rtPanicChange port fill owes

/-- HOP_ECHO (R372): As the downstream end, the A9 receives a 20 ns hop-measurement pulse on a TICK pair and echoes it on the READY pair. -/
def execHopEcho (dt : Nat) (p : Fin 4) (s : State) : Host.Outcome State Fault Refusal :=
  s.act dt fun s => s.hopEcho p

/-- PTP_MESSAGE_INTERVAL (R398): At each LOG_SYNC, LOG_ANNOUNCE or LOG_DELAY interval a PTP port sends its Sync, Announce or delay-request messages. -/
def execPtpMessageInterval (dt : Nat) (n : Fin 2) (kind : Nat) (s : State) : Host.Outcome State Fault Refusal :=
  s.act dt fun s => s.ptpInterval n kind

/-- PTP_DELAY_MESSAGE (R397): A delay-request, delay-response or peer-delay message arrives on a PTP port and is timestamped and answered or used. -/
def execPtpDelayMessage (dt : Nat) (n : Fin 2) (kind : Nat) (secs : Nat) (nanos : Nat) (corr : Int) (s : State) : Host.Outcome State Fault Refusal :=
  s.act dt fun s => s.ptpDelay n kind secs nanos corr

/-- TBREF_RESTORED (R502): TBREF returns after a loss while Bellows runs on its internal oscillator. -/
def execTbrefRestored (dt : Nat) (s : State) : Host.Outcome State Fault Refusal :=
  s.act dt fun s => s.tbrefTo true

/-- PERST_N_DEASSERT (R498): PERST_N is released and the PCIe function and link come out of reset and train. -/
def execPerstNDeassert (dt : Nat) (s : State) : Host.Outcome State Fault Refusal :=
  s.act dt State.perstRelease

/-- HOLDUP_OK_SET (R484): The hold-up bank reaches 10.5 V and BLW_STATUS.HOLDUP_OK sets. -/
def execHoldupOkSet (dt : Nat) (mv : Nat) (s : State) : Host.Outcome State Fault Refusal :=
  s.act dt fun s => s.holdupSet mv

/-- BELLOWS_STOP (R484): The hold-up bank falls to 4.0 V while BELLOWS_IN is absent and Bellows stops. -/
def execBellowsStop (dt : Nat) (s : State) : Host.Outcome State Fault Refusal :=
  s.act dt State.bellowsStop

end Sys2Proof.Machine
end

