-- ==== Sys2Proof/Machine/ExecTime.lean ====
section
/-! DEFINITION. Meanings: the time base and its outputs. -/

namespace Sys2Proof.Machine

/-- FSYNC_IN_EDGE (R401): An active FSYNC_IN edge arrives and is accepted or ignored. -/
def execFsyncInEdge (dt : Nat) (falling : Bool) (widthNs : Nat) (s : State) : Host.Outcome State Fault Refusal :=
  s.act dt fun s => s.fsyncEdge falling widthNs

/-- FSYNC_STUCK (R401): No accepted FSYNC_IN edge within 2.5 P, and holdover starts. -/
def execFsyncStuck (dt : Nat) (s : State) : Host.Outcome State Fault Refusal :=
  s.act dt State.fsyncStuck

/-- PTP_SYNC (R392): A PTP Sync measurement updates the offset, lock and step. -/
def execPtpSync (dt : Nat) (n : Fin 2) (secs : Nat) (nanos : Nat) (corr : Int) (s : State) : Host.Outcome State Fault Refusal :=
  s.act dt fun s => s.ptpSync n secs nanos corr

/-- PTP_ANNOUNCE (R399): An Announce message feeds BMCA, which may select a new grandmaster. -/
def execPtpAnnounce (dt : Nat) (n : Fin 2) (identity : BitVec 64) (selects : Bool) (s : State) : Host.Outcome State Fault Refusal :=
  s.act dt fun s => s.ptpAnnounce n identity selects

/-- PTP_ANNOUNCE_TIMEOUT (R393): The announce receipt timeout expires with no qualified master. -/
def execPtpAnnounceTimeout (dt : Nat) (n : Fin 2) (s : State) : Host.Outcome State Fault Refusal :=
  s.act dt fun s => s.announceTimeout n

/-- TPULSE_FIRE (R404): A TPULSE output's next instant is reached and it drives its edge. -/
def execTpulseFire (dt : Nat) (n : Fin 4) (s : State) : Host.Outcome State Fault Refusal :=
  s.act dt fun s => s.pulseFire n

end Sys2Proof.Machine
end

