-- ==== Sys2Proof/Machine/ExecWall.lean ====
section
/-! DEFINITION. Meanings: firmware commands of the CAL, STAND, SCAN and STEER families. -/

namespace Sys2Proof.Machine

/-- CAL_LOAD (R230): Long command loading a calibration block into a stand, from stand memory or the frame store. -/
def execCalLoad (dt : Nat) (h : CmdHdr) (p : List Byte) (s : State) : Host.Outcome State Fault Refusal :=
  s.act dt (State.submit calLoad h p)

/-- CAL_SETS (R225): Stageable command declaring the temperatures of a stand's four calibration sets. -/
def execCalSets (dt : Nat) (h : CmdHdr) (p : List Byte) (s : State) : Host.Outcome State Fault Refusal :=
  s.act dt (State.submit calSets h p)

/-- CAL_MEASURE (R241): Long command running a maintenance measurement in Calibrate. -/
def execCalMeasure (dt : Nat) (h : CmdHdr) (p : List Byte) (s : State) : Host.Outcome State Fault Refusal :=
  s.act dt (State.submit calMeasure h p)

/-- CAL_POLICY (R235): Stageable command setting the trim coefficients and TRIM_OFF. -/
def execCalPolicy (dt : Nat) (h : CmdHdr) (p : List Byte) (s : State) : Host.Outcome State Fault Refusal :=
  s.act dt (State.submit calPolicy h p)

/-- CAL_READ (R231): Long command copying one calibration block of a stand to the frame store. -/
def execCalRead (dt : Nat) (h : CmdHdr) (p : List Byte) (s : State) : Host.Outcome State Fault Refusal :=
  s.act dt (State.submit calRead h p)

/-- STAND_MAP (R332): Stageable command replacing the stand map and the hogel geometry. -/
def execStandMap (dt : Nat) (h : CmdHdr) (p : List Byte) (s : State) : Host.Outcome State Fault Refusal :=
  s.act dt (State.submit standMap h p)

/-- STAND_LUT (R331): Stageable command selecting a stand's code-to-width table. -/
def execStandLut (dt : Nat) (h : CmdHdr) (p : List Byte) (s : State) : Host.Outcome State Fault Refusal :=
  s.act dt (State.submit standLut h p)

/-- STAND_STATUS (R333): Command returning link, lane and stand state and counters. -/
def execStandStatus (dt : Nat) (h : CmdHdr) (p : List Byte) (s : State) : Host.Outcome State Fault Refusal :=
  s.act dt (State.submit standStatusCmd h p)

/-- STAND_RELEASE (R437): Command darkening a stand and parking its bands so that it can be removed. -/
def execStandRelease (dt : Nat) (h : CmdHdr) (p : List Byte) (s : State) : Host.Outcome State Fault Refusal :=
  s.act dt (State.submit standRelease h p)

/-- STAND_ADMIT (R439): Long command admitting a stand through identify, calibration load, tables and known-state sequence. -/
def execStandAdmit (dt : Nat) (h : CmdHdr) (p : List Byte) (s : State) : Host.Outcome State Fault Refusal :=
  s.act dt (State.submit standAdmit h p)

/-- STAND_LINK (R330): Stageable command setting a link's lane rate, clocking and preset, or retraining it. -/
def execStandLink (dt : Nat) (h : CmdHdr) (p : List Byte) (s : State) : Host.Outcome State Fault Refusal :=
  s.act dt (State.submit standLink h p)

/-- SCAN_TIMING (R260): Stageable command setting the frame rate, spread count and drive class. -/
def execScanTiming (dt : Nat) (h : CmdHdr) (p : List Byte) (s : State) : Host.Outcome State Fault Refusal :=
  s.act dt (State.submit scanTiming h p)

/-- SCAN_PRECHARGE (R258): Stageable command setting the column pre-charge levels and width. -/
def execScanPrecharge (dt : Nat) (h : CmdHdr) (p : List Byte) (s : State) : Host.Outcome State Fault Refusal :=
  s.act dt (State.submit scanPrecharge h p)

/-- SCAN_MEASURE_PLAN (R267): Stageable command setting the measurement-slot and sweep plan. -/
def execScanMeasurePlan (dt : Nat) (h : CmdHdr) (p : List Byte) (s : State) : Host.Outcome State Fault Refusal :=
  s.act dt (State.submit scanMeasurePlan h p)

/-- SCAN_FRAME_BASE (R262): Stageable command moving one die's pair of ray frames within its region. -/
def execScanFrameBase (dt : Nat) (h : CmdHdr) (p : List Byte) (s : State) : Host.Outcome State Fault Refusal :=
  s.act dt (State.submit scanFrameBase h p)

/-- STEER_TABLE (R279): Stageable command replacing a stand's steering drive table. -/
def execSteerTable (dt : Nat) (h : CmdHdr) (p : List Byte) (s : State) : Host.Outcome State Fault Refusal :=
  s.act dt (State.submit steerTable h p)

/-- STEER_STATUS (R297): Command returning band states, DC integrals and steering counters of a stand. -/
def execSteerStatus (dt : Nat) (h : CmdHdr) (p : List Byte) (s : State) : Host.Outcome State Fault Refusal :=
  s.act dt (State.submit steerStatusCmd h p)

/-- STEER_JOURNAL (R298): Command returning stand blocks of the live or flushed steering journal. -/
def execSteerJournal (dt : Nat) (h : CmdHdr) (p : List Byte) (s : State) : Host.Outcome State Fault Refusal :=
  s.act dt (State.submit steerJournal h p)

end Sys2Proof.Machine
end

