-- ==== Sys2Proof/Machine/Dispatch.lean ====
section
/-! DEFINITION. One arm per command, each a direct call of its meaning. -/

namespace Sys2Proof.Machine

def exec (i : Instr) (s : State) : Host.Outcome State Fault Refusal :=
  match i with
  | .sysIdentify dt h p => Sys2Proof.Machine.execSysIdentify dt h p s
  | .sysStatus dt h p => Sys2Proof.Machine.execSysStatus dt h p s
  | .sysEventRoute dt h p => Sys2Proof.Machine.execSysEventRoute dt h p s
  | .sysEcho dt h p => Sys2Proof.Machine.execSysEcho dt h p s
  | .sysSpares dt h p => Sys2Proof.Machine.execSysSpares dt h p s
  | .sysFaults dt h p => Sys2Proof.Machine.execSysFaults dt h p s
  | .modeSet dt h p => Sys2Proof.Machine.execModeSet dt h p s
  | .modeGet dt h p => Sys2Proof.Machine.execModeGet dt h p s
  | .txnBegin dt h p => Sys2Proof.Machine.execTxnBegin dt h p s
  | .txnCommit dt h p => Sys2Proof.Machine.execTxnCommit dt h p s
  | .txnRollback dt h p => Sys2Proof.Machine.execTxnRollback dt h p s
  | .txnStatus dt h p => Sys2Proof.Machine.execTxnStatus dt h p s
  | .streamQueues dt h p => Sys2Proof.Machine.execStreamQueues dt h p s
  | .streamOpen dt h p => Sys2Proof.Machine.execStreamOpen dt h p s
  | .streamClose dt h p => Sys2Proof.Machine.execStreamClose dt h p s
  | .streamKey dt h p => Sys2Proof.Machine.execStreamKey dt h p s
  | .streamStats dt h p => Sys2Proof.Machine.execStreamStats dt h p s
  | .sceneBind dt h p => Sys2Proof.Machine.execSceneBind dt h p s
  | .scenePlace dt h p => Sys2Proof.Machine.execScenePlace dt h p s
  | .sceneLift dt h p => Sys2Proof.Machine.execSceneLift dt h p s
  | .composeLayer dt h p => Sys2Proof.Machine.execComposeLayer dt h p s
  | .composeUpdate dt h p => Sys2Proof.Machine.execComposeUpdate dt h p s
  | .composeBlit dt h p => Sys2Proof.Machine.execComposeBlit dt h p s
  | .composeWatermark dt h p => Sys2Proof.Machine.execComposeWatermark dt h p s
  | .composeDeadtime dt h p => Sys2Proof.Machine.execComposeDeadtime dt h p s
  | .calLoad dt h p => Sys2Proof.Machine.execCalLoad dt h p s
  | .calSets dt h p => Sys2Proof.Machine.execCalSets dt h p s
  | .calMeasure dt h p => Sys2Proof.Machine.execCalMeasure dt h p s
  | .calPolicy dt h p => Sys2Proof.Machine.execCalPolicy dt h p s
  | .calRead dt h p => Sys2Proof.Machine.execCalRead dt h p s
  | .standMap dt h p => Sys2Proof.Machine.execStandMap dt h p s
  | .standLut dt h p => Sys2Proof.Machine.execStandLut dt h p s
  | .standStatus dt h p => Sys2Proof.Machine.execStandStatus dt h p s
  | .standRelease dt h p => Sys2Proof.Machine.execStandRelease dt h p s
  | .standAdmit dt h p => Sys2Proof.Machine.execStandAdmit dt h p s
  | .standLink dt h p => Sys2Proof.Machine.execStandLink dt h p s
  | .scanTiming dt h p => Sys2Proof.Machine.execScanTiming dt h p s
  | .scanPrecharge dt h p => Sys2Proof.Machine.execScanPrecharge dt h p s
  | .scanMeasurePlan dt h p => Sys2Proof.Machine.execScanMeasurePlan dt h p s
  | .scanFrameBase dt h p => Sys2Proof.Machine.execScanFrameBase dt h p s
  | .steerTable dt h p => Sys2Proof.Machine.execSteerTable dt h p s
  | .steerStatus dt h p => Sys2Proof.Machine.execSteerStatus dt h p s
  | .steerJournal dt h p => Sys2Proof.Machine.execSteerJournal dt h p s
  | .memSetPoint dt h p => Sys2Proof.Machine.execMemSetPoint dt h p s
  | .memOrdering dt h p => Sys2Proof.Machine.execMemOrdering dt h p s
  | .memTrain dt h p => Sys2Proof.Machine.execMemTrain dt h p s
  | .memStatus dt h p => Sys2Proof.Machine.execMemStatus dt h p s
  | .chainRole dt h p => Sys2Proof.Machine.execChainRole dt h p s
  | .chainRegion dt h p => Sys2Proof.Machine.execChainRegion dt h p s
  | .chainGrace dt h p => Sys2Proof.Machine.execChainGrace dt h p s
  | .chainStatus dt h p => Sys2Proof.Machine.execChainStatus dt h p s
  | .timeSource dt h p => Sys2Proof.Machine.execTimeSource dt h p s
  | .timePtp dt h p => Sys2Proof.Machine.execTimePtp dt h p s
  | .timeGet dt h p => Sys2Proof.Machine.execTimeGet dt h p s
  | .timeAcceptJump dt h p => Sys2Proof.Machine.execTimeAcceptJump dt h p s
  | .timePulse dt h p => Sys2Proof.Machine.execTimePulse dt h p s
  | .timeFsyncArm dt h p => Sys2Proof.Machine.execTimeFsyncArm dt h p s
  | .secCerts dt h p => Sys2Proof.Machine.execSecCerts dt h p s
  | .secAttest dt h p => Sys2Proof.Machine.execSecAttest dt h p s
  | .secKemKey dt h p => Sys2Proof.Machine.execSecKemKey dt h p s
  | .secFwUpdate dt h p => Sys2Proof.Machine.execSecFwUpdate dt h p s
  | .secLifecycle dt h p => Sys2Proof.Machine.execSecLifecycle dt h p s
  | .recTriggers dt h p => Sys2Proof.Machine.execRecTriggers dt h p s
  | .recFlush dt h p => Sys2Proof.Machine.execRecFlush dt h p s
  | .recErase dt h p => Sys2Proof.Machine.execRecErase dt h p s
  | .pwrDomain dt h p => Sys2Proof.Machine.execPwrDomain dt h p s
  | .pwrStatus dt h p => Sys2Proof.Machine.execPwrStatus dt h p s
  | .pwrLimit dt h p => Sys2Proof.Machine.execPwrLimit dt h p s
  | .ring dt m => Sys2Proof.Machine.execRing dt m s
  | .coldWest dt v => Sys2Proof.Machine.execColdWest dt v s
  | .coldEast dt v => Sys2Proof.Machine.execColdEast dt v s
  | .glbApertureHiWrite dt v => Sys2Proof.Machine.execGlbApertureHiWrite dt v s
  | .glbApertureLoWrite dt v => Sys2Proof.Machine.execGlbApertureLoWrite dt v s
  | .ringEnable dt r v => Sys2Proof.Machine.execRingEnable dt r v s
  | .ringDisable dt r v => Sys2Proof.Machine.execRingDisable dt r v s
  | .evrCidxWrite dt r v => Sys2Proof.Machine.execEvrCidxWrite dt r v s
  | .evrStatusRead dt r => Sys2Proof.Machine.execEvrStatusRead dt r s
  | .recDataRead dt => Sys2Proof.Machine.execRecDataRead dt s
  | .cmdsetRevRead dt off len => Sys2Proof.Machine.execCmdsetRevRead dt off len s
  | .registerWrite dt off data => Sys2Proof.Machine.execRegisterWrite dt off data s
  | .unmapped dt off len write => Sys2Proof.Machine.execUnmapped dt off len write s
  | .badSize dt off len write => Sys2Proof.Machine.execBadSize dt off len write s
  | .bar2Read dt off len => Sys2Proof.Machine.execBar2Read dt off len s
  | .bar2Write dt off data => Sys2Proof.Machine.execBar2Write dt off data s
  | .bootBufferWrite dt off data => Sys2Proof.Machine.execBootBufferWrite dt off data s
  | .functionLevelReset dt => Sys2Proof.Machine.execFunctionLevelReset dt s
  | .perstN dt => Sys2Proof.Machine.execPerstN dt s
  | .d3hotEntry dt => Sys2Proof.Machine.execD3hotEntry dt s
  | .d0Return dt => Sys2Proof.Machine.execD0Return dt s
  | .mailboxStallTimeout dt m => Sys2Proof.Machine.execMailboxStallTimeout dt m s
  | .chainTimeout dt m => Sys2Proof.Machine.execChainTimeout dt m s
  | .txnTimeout dt id => Sys2Proof.Machine.execTxnTimeout dt id s
  | .frameTick dt => Sys2Proof.Machine.execFrameTick dt s
  | .frameBlank dt => Sys2Proof.Machine.execFrameBlank dt s
  | .subframeStart dt => Sys2Proof.Machine.execSubframeStart dt s
  | .leadDeadline dt sizes => Sys2Proof.Machine.execLeadDeadline dt sizes s
  | .synthesisStart dt costs => Sys2Proof.Machine.execSynthesisStart dt costs s
  | .kerfDeadline dt => Sys2Proof.Machine.execKerfDeadline dt s
  | .scanOutStart dt => Sys2Proof.Machine.execScanOutStart dt s
  | .watermarkFire dt => Sys2Proof.Machine.execWatermarkFire dt s
  | .liftPhaseEnd dt => Sys2Proof.Machine.execLiftPhaseEnd dt s
  | .liftTimeout dt => Sys2Proof.Machine.execLiftTimeout dt s
  | .queuePoll dt q pidx descs => Sys2Proof.Machine.execQueuePoll dt q pidx descs s
  | .descriptorPlaced dt q found => Sys2Proof.Machine.execDescriptorPlaced dt q found s
  | .fetchResume dt n => Sys2Proof.Machine.execFetchResume dt n s
  | .decodeDone dt n found => Sys2Proof.Machine.execDecodeDone dt n found s
  | .drainTimeout dt n => Sys2Proof.Machine.execDrainTimeout dt n s
  | .blitDone dt => Sys2Proof.Machine.execBlitDone dt s
  | .bakeStart dt die => Sys2Proof.Machine.execBakeStart dt die s
  | .bakeEnd dt stand => Sys2Proof.Machine.execBakeEnd dt stand s
  | .calOperationEnd dt stand header cells => Sys2Proof.Machine.execCalOperationEnd dt stand header cells s
  | .concealRebuildEnd dt stand => Sys2Proof.Machine.execConcealRebuildEnd dt stand s
  | .linkFrameReceived dt l blocks spare sent => Sys2Proof.Machine.execLinkFrameReceived dt l blocks spare sent s
  | .replayTimeout dt l => Sys2Proof.Machine.execReplayTimeout dt l s
  | .diagReceived dt l pos kind sub row tick first data => Sys2Proof.Machine.execDiagReceived dt l pos kind sub row tick first data s
  | .tempReceived dt l readings => Sys2Proof.Machine.execTempReceived dt l readings s
  | .ackReceived dt l pos kind sub cmdId tick states dark pairs => Sys2Proof.Machine.execAckReceived dt l pos kind sub cmdId tick states dark pairs s
  | .nakReceived dt l cause lane lane2 cmdId => Sys2Proof.Machine.execNakReceived dt l cause lane lane2 cmdId s
  | .statusReceived dt l pos data => Sys2Proof.Machine.execStatusReceived dt l pos data s
  | .returnLaneLost dt l => Sys2Proof.Machine.execReturnLaneLost dt l s
  | .spareLaneFault dt l lane => Sys2Proof.Machine.execSpareLaneFault dt l lane s
  | .linkRecovery dt l => Sys2Proof.Machine.execLinkRecovery dt l s
  | .linkRecoveryEnd dt l lanes order ret => Sys2Proof.Machine.execLinkRecoveryEnd dt l lanes order ret s
  | .linkBringupEnd dt l steps lanes frameErrs order ret => Sys2Proof.Machine.execLinkBringupEnd dt l steps lanes frameErrs order ret s
  | .linkBringupTimeout dt l cause => Sys2Proof.Machine.execLinkBringupTimeout dt l cause s
  | .linkWake dt l => Sys2Proof.Machine.execLinkWake dt l s
  | .tempTimeout dt stand => Sys2Proof.Machine.execTempTimeout dt stand s
  | .standRemoved dt stand => Sys2Proof.Machine.execStandRemoved dt stand s
  | .standRailRecovered dt stand => Sys2Proof.Machine.execStandRailRecovered dt stand s
  | .refreshDue dt pc realTime => Sys2Proof.Machine.execRefreshDue dt pc realTime s
  | .liveTrainAuto dt => Sys2Proof.Machine.execLiveTrainAuto dt s
  | .trainPassEnd dt ok => Sys2Proof.Machine.execTrainPassEnd dt ok s
  | .setPointChangeStart dt => Sys2Proof.Machine.execSetPointChangeStart dt s
  | .setPointChangeEnd dt ok => Sys2Proof.Machine.execSetPointChangeEnd dt ok s
  | .memCorrectedRead dt addr => Sys2Proof.Machine.execMemCorrectedRead dt addr s
  | .memUncorrectableRead dt addr port => Sys2Proof.Machine.execMemUncorrectableRead dt addr port s
  | .rowSpare dt pc row => Sys2Proof.Machine.execRowSpare dt pc row s
  | .pageRetireCopyEnd dt die page => Sys2Proof.Machine.execPageRetireCopyEnd dt die page s
  | .frameBaseCopyEnd dt die => Sys2Proof.Machine.execFrameBaseCopyEnd dt die s
  | .patrolScrub dt die => Sys2Proof.Machine.execPatrolScrub dt die s
  | .beaconSend dt => Sys2Proof.Machine.execBeaconSend dt s
  | .beaconReceived dt p data rx => Sys2Proof.Machine.execBeaconReceived dt p data rx s
  | .relayReceived dt p n seq desc found rx => Sys2Proof.Machine.execRelayReceived dt p n seq desc found rx s
  | .mgmtReceived dt p kind m data rx => Sys2Proof.Machine.execMgmtReceived dt p kind m data rx s
  | .eventReceived dt p sender record rx => Sys2Proof.Machine.execEventReceived dt p sender record rx s
  | .portDead dt p lockLost => Sys2Proof.Machine.execPortDead dt p lockLost s
  | .parentReturn dt p => Sys2Proof.Machine.execParentReturn dt p s
  | .skylinePortUp dt p full => Sys2Proof.Machine.execSkylinePortUp dt p full s
  | .tickEdge dt p => Sys2Proof.Machine.execTickEdge dt p s
  | .readyInputChange dt p level => Sys2Proof.Machine.execReadyInputChange dt p level s
  | .hopMeasure dt p roundPs => Sys2Proof.Machine.execHopMeasure dt p roundPs s
  | .readyGraceExpiry dt p => Sys2Proof.Machine.execReadyGraceExpiry dt p s
  | .fsyncInEdge dt falling widthNs => Sys2Proof.Machine.execFsyncInEdge dt falling widthNs s
  | .fsyncStuck dt => Sys2Proof.Machine.execFsyncStuck dt s
  | .ptpSync dt n secs nanos corr => Sys2Proof.Machine.execPtpSync dt n secs nanos corr s
  | .ptpAnnounce dt n identity selects => Sys2Proof.Machine.execPtpAnnounce dt n identity selects s
  | .ptpAnnounceTimeout dt n => Sys2Proof.Machine.execPtpAnnounceTimeout dt n s
  | .tpulseFire dt n => Sys2Proof.Machine.execTpulseFire dt n s
  | .leaseRenewal dt die => Sys2Proof.Machine.execLeaseRenewal dt die s
  | .leaseMissed dt => Sys2Proof.Machine.execLeaseMissed dt s
  | .leaseRequest dt west east => Sys2Proof.Machine.execLeaseRequest dt west east s
  | .routeLossTimeout dt die => Sys2Proof.Machine.execRouteLossTimeout dt die s
  | .mcDomainReset dt die cut => Sys2Proof.Machine.execMcDomainReset dt die cut s
  | .watchdogExpiry dt kind unit cut => Sys2Proof.Machine.execWatchdogExpiry dt kind unit cut s
  | .regionErrorDetected dt kind unit cls hit => Sys2Proof.Machine.execRegionErrorDetected dt kind unit cls hit s
  | .handlerStart dt die => Sys2Proof.Machine.execHandlerStart dt die s
  | .handlerTestEnd dt die pass => Sys2Proof.Machine.execHandlerTestEnd dt die pass s
  | .regionRetest dt kind unit => Sys2Proof.Machine.execRegionRetest dt kind unit s
  | .dieColdReset dt die => Sys2Proof.Machine.execDieColdReset dt die s
  | .diePowerUp dt die => Sys2Proof.Machine.execDiePowerUp dt die s
  | .ioBlockResume dt unit => Sys2Proof.Machine.execIoBlockResume dt unit s
  | .bellowsPowerUp dt => Sys2Proof.Machine.execBellowsPowerUp dt s
  | .historyRestoreEnd dt => Sys2Proof.Machine.execHistoryRestoreEnd dt s
  | .sysRstNAssert dt => Sys2Proof.Machine.execSysRstNAssert dt s
  | .sysRstNRelease dt straps => Sys2Proof.Machine.execSysRstNRelease dt straps s
  | .bundleVerifyEnd dt sent => Sys2Proof.Machine.execBundleVerifyEnd dt sent s
  | .complexSelfTestEnd dt die ok => Sys2Proof.Machine.execComplexSelfTestEnd dt die ok s
  | .complexAbsent dt die => Sys2Proof.Machine.execComplexAbsent dt die s
  | .leadershipTimeout dt => Sys2Proof.Machine.execLeadershipTimeout dt s
  | .standbyReached dt => Sys2Proof.Machine.execStandbyReached dt s
  | .skylineBundleRequest dt p => Sys2Proof.Machine.execSkylineBundleRequest dt p s
  | .skylineBootRetry dt => Sys2Proof.Machine.execSkylineBootRetry dt s
  | .powerLoss dt rail => Sys2Proof.Machine.execPowerLoss dt rail s
  | .journalFlushEnd dt ok => Sys2Proof.Machine.execJournalFlushEnd dt ok s
  | .recorderFlushEnd dt ok => Sys2Proof.Machine.execRecorderFlushEnd dt ok s
  | .powerRestore dt => Sys2Proof.Machine.execPowerRestore dt s
  | .coreRailRestored dt die => Sys2Proof.Machine.execCoreRailRestored dt die s
  | .railFault dt rail mv => Sys2Proof.Machine.execRailFault dt rail mv s
  | .holdupLow dt mv => Sys2Proof.Machine.execHoldupLow dt mv s
  | .tbrefLoss dt => Sys2Proof.Machine.execTbrefLoss dt s
  | .junctionSample dt temps => Sys2Proof.Machine.execJunctionSample dt temps s
  | .thermalFence dt k => Sys2Proof.Machine.execThermalFence dt k s
  | .reedClockStep dt => Sys2Proof.Machine.execReedClockStep dt s
  | .powerCapSample dt mw rails => Sys2Proof.Machine.execPowerCapSample dt mw rails s
  | .avsAdjust dt die mv => Sys2Proof.Machine.execAvsAdjust dt die mv s
  | .avsFailure dt die => Sys2Proof.Machine.execAvsFailure dt die s
  | .evrCoalesceTimeout dt r => Sys2Proof.Machine.execEvrCoalesceTimeout dt r s
  | .mirrorFault dt r => Sys2Proof.Machine.execMirrorFault dt r s
  | .fwUpdateStageEnd dt outcome => Sys2Proof.Machine.execFwUpdateStageEnd dt outcome s
  | .handoverArm dt => Sys2Proof.Machine.execHandoverArm dt s
  | .handoverGrant dt => Sys2Proof.Machine.execHandoverGrant dt s
  | .recordPadTimeout dt off => Sys2Proof.Machine.execRecordPadTimeout dt off s
  | .recFlushTrigger dt => Sys2Proof.Machine.execRecFlushTrigger dt s
  | .recFlushEnd dt ok => Sys2Proof.Machine.execRecFlushEnd dt ok s
  | .serviceHour dt => Sys2Proof.Machine.execServiceHour dt s
  | .mgmtDatagram dt n data => Sys2Proof.Machine.execMgmtDatagram dt n data s
  | .droneInSync dt => Sys2Proof.Machine.execDroneInSync dt s
  | .mcDomainRelease dt die => Sys2Proof.Machine.execMcDomainRelease dt die s
  | .handlerTestTimeout dt die => Sys2Proof.Machine.execHandlerTestTimeout dt die s
  | .reserveCopyEnd dt pc => Sys2Proof.Machine.execReserveCopyEnd dt pc s
  | .idlePowerDown dt pc sid => Sys2Proof.Machine.execIdlePowerDown dt pc sid s
  | .stackTempSample dt temps => Sys2Proof.Machine.execStackTempSample dt temps s
  | .refreshRepay dt pc count => Sys2Proof.Machine.execRefreshRepay dt pc count s
  | .realTimePanic dt port fill owes => Sys2Proof.Machine.execRealTimePanic dt port fill owes s
  | .hopEcho dt p => Sys2Proof.Machine.execHopEcho dt p s
  | .ptpMessageInterval dt n kind => Sys2Proof.Machine.execPtpMessageInterval dt n kind s
  | .ptpDelayMessage dt n kind secs nanos corr => Sys2Proof.Machine.execPtpDelayMessage dt n kind secs nanos corr s
  | .tbrefRestored dt => Sys2Proof.Machine.execTbrefRestored dt s
  | .perstNDeassert dt => Sys2Proof.Machine.execPerstNDeassert dt s
  | .holdupOkSet dt mv => Sys2Proof.Machine.execHoldupOkSet dt mv s
  | .bellowsStop dt => Sys2Proof.Machine.execBellowsStop dt s

end Sys2Proof.Machine
end

