-- ==== Sys2Proof/Machine/Pins.lean ====
section
/-! DEFINITION. What the A9 drives on its pin groups (R495 to R507): by its power, SYS_RST_N, the cold reset of a die and the roles of the
skyline ports.  No command reads a pin: this is what a neighbour on the board sees of a state. -/

namespace Sys2Proof.Machine

/-- What an output of a group does (R507). -/
inductive Pin where
  /-- high impedance, undriven -/
  | highZ
  /-- driven low -/
  | low
  /-- driven high -/
  | high
  /-- a SerDes transmitter in electrical idle -/
  | idle
  /-- passes the edges or the levels of its neighbours on, without the dies (R383) -/
  | passes
  /-- driven as the block in service drives it -/
  | active
deriving DecidableEq, Repr

/-- The columns of R507: BELLOWS_IN off; Bellows alone powered; SYS_RST_N low; in service. -/
inductive PinCase where
  | unpowered
  | bellowsOnly
  | resetLow
  | service
deriving DecidableEq, Repr

/-- The column a state is in; from a declared loss of A9 power until the rails are back Bellows alone is powered. -/
def State.pinCase (s : State) : PinCase :=
  if !s.bellows.running then .unpowered
  else if s.bellows.powerLost then .bellowsOnly
  else if s.modes.rst then .resetLow
  else .service

/-- A die is in its cold reset. -/
def State.pinDieOff (s : State) (die : Nat) : Bool := (s.bellows.dieOff.getD die none).isSome

/-- The transmit lanes of a stand link. -/
def State.pinStandTx (s : State) (l : Nat) : Pin :=
  if s.pinCase ≠ .service ∨ s.pinDieOff (dieOfLink l) then .highZ else if (s.link l).state = 0 then .idle else .active

/-- The receive lanes of a stand link are terminated. -/
def State.pinStandRx (s : State) (l : Nat) : Bool := s.pinCase == .service && !s.pinDieOff (dieOfLink l)

/-- STAND_SAFE_N of a stand link (R506): Bellows drives it while it runs. -/
def State.pinSafe (s : State) (l : Nat) : Pin :=
  if s.pinCase = .unpowered then .highZ else if s.bellows.safeLinks.getLsbD l then .low else .high

/-- The stand receiver sees STAND_SAFE asserted: driven low, or not driven (R506). -/
def State.safeSeen (s : State) (l : Nat) : Bool := s.pinSafe l != .high

/-- PCIe, Ethernet and skyline lanes. -/
def State.pinLanes (s : State) : Pin := if s.pinCase = .service then .active else .highZ

/-- The TICK pair of a skyline port: an output on a port of role 3, 4 or 5 (R495). -/
def State.pinTick (s : State) (p : Nat) : Pin :=
  let role := s.settings.roles.getD p 0
  if role < 3 then .highZ
  else match s.pinCase with
    | .unpowered => .highZ
    | .service => .active
    | _ => .passes

/-- The READY pair of a skyline port: an output on a port of role 1 or 2 (R495); outside service it is false, the AND of R383. -/
def State.pinReady (s : State) (p : Nat) : Pin :=
  let role := s.settings.roles.getD p 0
  if role = 0 ∨ 2 < role then .highZ
  else match s.pinCase with
    | .unpowered => .highZ
    | .service => if s.chain.readyOut && s.chain.readyPort == some p then .high else .low
    | _ => .low

/-- FSYNC_OUT and TPULSE0 to TPULSE3. -/
def State.pinPulse (s : State) : Pin :=
  match s.pinCase with
  | .unpowered | .bellowsOnly => .highZ
  | .resetLow => .low
  | .service => .active

/-- Bellows flushes to the boot flash: the journal or the recorder, after a loss of A9 power (R291, R461). -/
def State.flushesFlash (s : State) : Bool := s.bellows.journalSt == 1 || s.bellows.recorderSt == 1

/-- FLASH_CS_N, and the other flash pins; Bellows drives them during a flush. -/
def State.pinFlash (s : State) : Pin × Pin :=
  match s.pinCase with
  | .unpowered => (.highZ, .highZ)
  | .service => (.active, .active)
  | _ => if s.flushesFlash then (.active, .active) else (.high, .highZ)

/-- The AVSBus pins of a die: until it takes control the regulator holds 0.72 V (R487). -/
def State.pinAvs (s : State) (die : Nat) : Pin :=
  if s.pinCase ≠ .service ∨ s.pinDieOff die then .highZ else .active

end Sys2Proof.Machine
end

