-- ==== Sys2Proof/Safety.lean ====
section
/-! DEFINITION. What claims about the A9 are stated in: the next state that a command leaves, the form the memories keep, when
nothing more follows of itself, the shape of the state, and when a firmware command runs at once. -/

namespace Sys2Proof.Machine

/-! ### The next state -/

/-- The state a command leaves: `m` is what the command itself made of `s`; what follows of itself has happened, and the queue
is as it was. -/
def State.ended (s m : State) : State := { m.settle s with pending := s.pending }

/-- Nothing more follows of itself: `m` is settled, `before` being the state before the command. -/
structure Calm (before m : State) : Prop where
  recoveries : m.links.map (·.recoveryTimes) = before.links.map (·.recoveryTimes)
  update : before.fw.stage = 0
  held : before.fw.armed = false
  fences : m.bellows.fenceEvents = []
  owed : m.owed = []
  mailboxes : ∀ n < 8, (m.mbx n).state ≠ 1
  bringUp : m.modes.mode ≠ 1
  rejoins : m.bellows.rejoin.getD 0 0 = 0 ∧ m.bellows.rejoin.getD 1 0 = 0
  admissions : ∀ i < m.stands.length, (m.stand i).admission < 2
  domains : m.power.hostOff = []
  routes : m.hasRoute 0 = true ∧ m.hasRoute 1 = true ∧ m.faults.routeLostAt = [none, none]
  descriptors : m.ingest.serving.isSome = true ∨ ∀ n < 8, ∀ st, m.stream n = some st → (m.queue st.queue).fetched = []
  relays : isPlay m.modes.mode = false ∨ ∀ n < 8, ∀ st, m.stream n = some st → st.relayQ = []
  holds : ∀ p ∈ m.chain.ports, p.readyIn = p.readyRaw
  ready : m.readyAnd = m.chain.readyOut ∧ m.chain.parent = m.chain.readyPort
  spares : ∀ k < 8, m.spareUnits (k + 1) = before.spareUnits (k + 1)
  banks : m.fs.pcs.map (·.bankUsed) = before.fs.pcs.map (·.bankUsed)
  triggers : m.recorder.fired = []
  table : m.pcie.cruiseDue = [] ∧ m.pcie.shown = m.cruiseView
  packets : ∀ l kind body, Out.linkSend l kind body ∉ m.out
  streams : ∀ l < 16, (m.link l).state = 0 ∨ ((m.link l).state = 1 ∧ (m.link l).recovering = none) → m.linkStreams.getD l [] = []
  attempts : ∀ l < 16, (m.link l).began (before.link l) = false
  wakes : ∀ l < 16, (before.link l).state = 5 → (m.link l).state < 2 ∨ 4 < (m.link l).state
  dozes : ∀ l < 16, (m.link l).state = 5 → (before.link l).state = 5

/-! ### Memory -/

/-- Both byte memories are in their canonical form. -/
def State.memoryOk (s : State) : Bool := Memory.wf s.fs.mem && Memory.wf s.recorder.sram

/-! ### Shape -/

/-- What the hardware has a fixed number of is there in that number: mailboxes, rings, links, skyline ports, complexes, dies, and
power domains. -/
def State.shapeOk (s : State) : Bool :=
  s.mailboxes.length == 8 && s.rings.length == 4 && s.links.length == 16 && s.chain.ports.length == 4 &&
  s.bellows.complexes.length == 2 && s.bellows.dieOff.length == 2 && s.bellows.rejoin.length == 2 && s.power.domains.length == 83

/-! ### The service life (R444 to R446) -/

/-- Every stand of the map that is neither released nor excluded is lit: the first line of the invisibility envelope (R444), and what the
promise of R445 says of every tick. -/
def State.wallLit (s : State) : Bool := s.stands.all fun st => st.released || st.excluded || !st.dark

/-- The promise of R445 still binds: the A9 is deployed, its service life is not over, and no bit of CONDITIONS has set (R446). -/
def State.promised (s : State) : Bool :=
  s.security.lifecycle == 1 && s.flash.serviceHours < 87600 && s.flash.conditions == 0

/-! ### Firmware commands -/

/-- The firmware commands: the description, the time since the command before, header and payload. -/
def firmwareOf : Instr → Option (CmdDef × Nat × CmdHdr × List Byte)
  | .sysIdentify dt h p => some (sysIdentify, dt, h, p)
  | .sysStatus dt h p => some (sysStatus, dt, h, p)
  | .sysEventRoute dt h p => some (sysEventRoute, dt, h, p)
  | .sysEcho dt h p => some (sysEcho, dt, h, p)
  | .sysSpares dt h p => some (sysSpares, dt, h, p)
  | .sysFaults dt h p => some (sysFaults, dt, h, p)
  | .modeSet dt h p => some (modeSet, dt, h, p)
  | .modeGet dt h p => some (modeGet, dt, h, p)
  | .txnBegin dt h p => some (txnBegin, dt, h, p)
  | .txnCommit dt h p => some (txnCommit, dt, h, p)
  | .txnRollback dt h p => some (txnRollback, dt, h, p)
  | .txnStatus dt h p => some (txnStatus, dt, h, p)
  | .streamQueues dt h p => some (streamQueues, dt, h, p)
  | .streamOpen dt h p => some (streamOpen, dt, h, p)
  | .streamClose dt h p => some (streamClose, dt, h, p)
  | .streamKey dt h p => some (streamKey, dt, h, p)
  | .streamStats dt h p => some (streamStatsCmd, dt, h, p)
  | .sceneBind dt h p => some (sceneBind, dt, h, p)
  | .scenePlace dt h p => some (scenePlace, dt, h, p)
  | .sceneLift dt h p => some (sceneLift, dt, h, p)
  | .composeLayer dt h p => some (composeLayer, dt, h, p)
  | .composeUpdate dt h p => some (composeUpdate, dt, h, p)
  | .composeBlit dt h p => some (composeBlit, dt, h, p)
  | .composeWatermark dt h p => some (composeWatermark, dt, h, p)
  | .composeDeadtime dt h p => some (composeDeadtime, dt, h, p)
  | .calLoad dt h p => some (calLoad, dt, h, p)
  | .calSets dt h p => some (calSets, dt, h, p)
  | .calMeasure dt h p => some (calMeasure, dt, h, p)
  | .calPolicy dt h p => some (calPolicy, dt, h, p)
  | .calRead dt h p => some (calRead, dt, h, p)
  | .standMap dt h p => some (standMap, dt, h, p)
  | .standLut dt h p => some (standLut, dt, h, p)
  | .standStatus dt h p => some (standStatusCmd, dt, h, p)
  | .standRelease dt h p => some (standRelease, dt, h, p)
  | .standAdmit dt h p => some (standAdmit, dt, h, p)
  | .standLink dt h p => some (standLink, dt, h, p)
  | .scanTiming dt h p => some (scanTiming, dt, h, p)
  | .scanPrecharge dt h p => some (scanPrecharge, dt, h, p)
  | .scanMeasurePlan dt h p => some (scanMeasurePlan, dt, h, p)
  | .scanFrameBase dt h p => some (scanFrameBase, dt, h, p)
  | .steerTable dt h p => some (steerTable, dt, h, p)
  | .steerStatus dt h p => some (steerStatusCmd, dt, h, p)
  | .steerJournal dt h p => some (steerJournal, dt, h, p)
  | .memSetPoint dt h p => some (memSetPoint, dt, h, p)
  | .memOrdering dt h p => some (memOrdering, dt, h, p)
  | .memTrain dt h p => some (memTrain, dt, h, p)
  | .memStatus dt h p => some (memStatus, dt, h, p)
  | .chainRole dt h p => some (chainRole, dt, h, p)
  | .chainRegion dt h p => some (chainRegion, dt, h, p)
  | .chainGrace dt h p => some (chainGrace, dt, h, p)
  | .chainStatus dt h p => some (chainStatus, dt, h, p)
  | .timeSource dt h p => some (timeSource, dt, h, p)
  | .timePtp dt h p => some (timePtp, dt, h, p)
  | .timeGet dt h p => some (timeGet, dt, h, p)
  | .timeAcceptJump dt h p => some (timeAcceptJump, dt, h, p)
  | .timePulse dt h p => some (timePulse, dt, h, p)
  | .timeFsyncArm dt h p => some (timeFsyncArm, dt, h, p)
  | .secCerts dt h p => some (secCerts, dt, h, p)
  | .secAttest dt h p => some (secAttest, dt, h, p)
  | .secKemKey dt h p => some (secKemKey, dt, h, p)
  | .secFwUpdate dt h p => some (secFwUpdate, dt, h, p)
  | .secLifecycle dt h p => some (secLifecycle, dt, h, p)
  | .recTriggers dt h p => some (recTriggers, dt, h, p)
  | .recFlush dt h p => some (recFlush, dt, h, p)
  | .recErase dt h p => some (recErase, dt, h, p)
  | .pwrDomain dt h p => some (pwrDomain, dt, h, p)
  | .pwrStatus dt h p => some (pwrStatusCmd, dt, h, p)
  | .pwrLimit dt h p => some (pwrLimit, dt, h, p)
  | _ => none

/-- A command submitted in a mailbox runs at once (R55, R64): the host reaches the registers, the chanter serves, no handover is
armed, and the mailbox is neither PENDING nor RUNNING. -/
def State.Serving (s : State) (n : Nat) : Prop :=
  s.barLive = true ∧ s.serves = true ∧ s.fw.armed = false ∧ (s.mbx n).state ≠ 1 ∧ (s.mbx n).state ≠ 2

/-- The command as firmware takes it. -/
abbrev CmdDef.cmd (d : CmdDef) (h : CmdHdr) (p : List Byte) : Cmd := Cmd.of d.opcode h p

/-- Firmware has taken the command: time has passed, the area holds the command, the mailbox is RUNNING with a copy of it, and
the timer of its transaction is restarted (R61, R64, R78). -/
def State.begun (s : State) (dt : Nat) (d : CmdDef) (h : CmdHdr) (p : List Byte) : State :=
  let e := s.elapse dt
  (e.updMbx h.mbx fun m =>
    let area := overwrite m.cmdArea 0 (d.cmd h p).bytes
    { m with cmdArea := area, running := area, state := 2, rungAt := e.clock.up, acceptedAt := e.clock.up }).touchTxn h.txn

/-- Every check of the command passes (R70, R71). -/
def CmdDef.Passes (d : CmdDef) (c : Cmd) (s : State) : Prop :=
  Err.pick (c.headerErrs d s ++ d.checks s c ++ s.txnErrs d c) = none

/-- A command that is not tunnelled starts in `s` and every check of it passes. -/
def CmdDef.Starts (d : CmdDef) (dt : Nat) (h : CmdHdr) (p : List Byte) (s : State) : Prop :=
  s.Serving h.mbx.val ∧ (d.cmd h p).tunnel = false ∧ d.Passes (d.cmd h p) (s.begun dt d h p)

/-- The state in which a command has answered OK with a payload. -/
def State.answered (s : State) (d : CmdDef) (h : CmdHdr) (p payload : List Byte) : State :=
  s.complete (d.cmd h p) { txn := h.txn, payload := payload }

/-- A row's command, whenever it starts, completes OK: its effect happens in the state in which firmware has taken it, and the
mailbox then holds the response with a payload of that state. -/
def CmdDef.Completes (d : CmdDef) (row : Nat → CmdHdr → List Byte → Instr) (effect : State → CmdHdr → List Byte → State)
    (answer : State → List Byte → List Byte) : Prop :=
  ∀ (dt : Nat) (h : CmdHdr) (p : List Byte) (s : State), d.Starts dt h p s →
    exec (row dt h p) s = .next (s.ended ((effect (s.begun dt d h p) h p).answered d h p (answer (s.begun dt d h p) p)))

/-- A row's command only answers: beside its mailbox nothing changes. -/
def CmdDef.OnlyAnswers (d : CmdDef) (row : Nat → CmdHdr → List Byte → Instr) (answer : State → List Byte → List Byte) : Prop :=
  d.Completes row (fun s _ _ => s) answer

/-- What a command makes of the state, kept whole: it completes without an answer of its own. -/
def CmdDef.Only (d : CmdDef) (row : Nat → CmdHdr → List Byte → Instr) (effect : State → CmdHdr → List Byte → State) : Prop :=
  d.Completes row effect (fun _ _ => [])

end Sys2Proof.Machine
end

