-- ==== Sys2Proof/Certificates/Slice0/Obligations.lean ====
section
/-! DEFINITION. The statements about the A9. Where one says that a command answers `.next (s.ended m)`, `m` is what the command
itself makes of the state; `ended` adds what follows of itself (nothing, where `m` is calm) and keeps the queue.
`s.elapse dt` is the state when the command comes, `dt` after the command before. -/

open Sys2Proof Sys2Proof.Machine

/-! ### The block as a whole -/

/-- A step runs the command at the front of the queue with the queue's rest; on an empty queue it leaves the state as it is
(DESIGN CHOICE, log entry 1). -/
def Obligations.StepRunsTheFrontCommand : Prop :=
  (∀ (s : State) (c : Instr) (rest : List Instr), s.pending = c :: rest →
    Sys2Proof.Machine.step s = Sys2Proof.Machine.exec c { s with pending := rest }) ∧
  (∀ s : State, s.pending = [] → Sys2Proof.Machine.step s = .next s)

/-- Every command answers a next state, and leaves the queue as it is. -/
def Claim.EveryCommandAnswers : Prop :=
  ∀ (c : Instr) (s : State), ∃ t : State, Sys2Proof.Machine.exec c s = .next t ∧ t.pending = s.pending

/-- Where nothing is due, nothing follows of itself: what `Calm` names is all that can. -/
def Obligations.NothingFollowsInACalmState : Prop :=
  ∀ before m : State, Calm before m → m.settle before = m

/-- What reset leaves, where the spec gives the value: mode 0, no transaction, revision-read flag and GLB_ERR clear, mailboxes idle with their
own MSI-X vector, rings disabled with COAL_COUNT 1 and vectors 8 to 11, 60 Hz, and zero in the aperture, SCRATCH and REC_CURSOR. -/
def Obligations.ResetLeavesTheStatedValues : Prop :=
  State.reset.modes.mode = 0 ∧ State.reset.txns = [] ∧ State.reset.pcie.glbErr = 0 ∧ State.reset.pcie.scratch = 0 ∧
  State.reset.pcie.apBase = 0 ∧ State.reset.pcie.revRead = false ∧ State.reset.recorder.cursor = 0 ∧
  (∀ n < 8, (State.reset.mbx n).state = 0 ∧ (State.reset.mbx n).irq = BitVec.ofNat 32 n ∧ (State.reset.mbx n).doneCount = 0) ∧
  (∀ r < 4, (State.reset.ring r).enabled = false ∧ (State.reset.ring r).coalCount = 1 ∧ (State.reset.ring r).vector = 8 + r) ∧
  State.reset.settings.rate = 60 ∧ State.reset.pending = []

/-- After reset the frame store and the recorder SRAM are in their canonical form, and the units the hardware has a fixed number of
are there in that number. -/
def Obligations.ResetStateIsWellFormed : Prop := State.reset.memoryOk = true ∧ State.reset.shapeOk = true

/-- Every step keeps both memories in their canonical form (addresses rise, and no listed byte is 0) and the number of mailboxes,
rings, links, skyline ports, complexes, dies and power domains. -/
def Obligations.EveryStepKeepsTheStateWellFormed : Prop :=
  ∀ s t : State, s.memoryOk = true → s.shapeOk = true → Sys2Proof.Machine.step s = .next t → t.memoryOk = true ∧ t.shapeOk = true

/-! ### Firmware commands: the path through a mailbox -/

/-- The bytes of a command area give back the command they were made from, whatever its header and payload: no field is dropped
and none overlaps another (R61). -/
def Obligations.CommandAreaRoundTrip : Prop :=
  ∀ (op : Nat) (h : CmdHdr) (p tail : List Byte), op < 65536 → p.length ≤ 4080 →
    Cmd.parse h.mbx.val ((Cmd.of op h p).bytes ++ tail) = Cmd.of op h p

/-- Submitting a command is writing its bytes into the command area and then ringing the doorbell: the row of a firmware command
is the row RING after a write of its area (R55, R61). -/
def Obligations.SubmittingIsWritingThenRinging : Prop :=
  ∀ (i : Instr) (d : CmdDef) (dt : Nat) (h : CmdHdr) (p : List Byte) (s : State),
    firmwareOf i = some (d, dt, h, p) → p.length ≤ 4080 → s.barLive = true → h.mbx.val < s.mailboxes.length →
    Sys2Proof.Machine.exec i s = .next (s.ended (State.doorbell h.mbx
      ((s.elapse dt).updMbx h.mbx fun m => { m with cmdArea := overwrite m.cmdArea 0 (Cmd.of d.opcode h p).bytes })))

/-- Every firmware command is the one that firmware finds by its opcode. -/
def Obligations.EveryOpcodeNamesItsCommand : Prop :=
  ∀ (i : Instr) (d : CmdDef) (dt : Nat) (h : CmdHdr) (p : List Byte),
    firmwareOf i = some (d, dt, h, p) → commandDef d.opcode = some d

/-- A command that is not stageable, whose checks pass, completes at once: its effect happens, and the mailbox holds the response
OK with the command's own payload. -/
def Obligations.ImmediateCommandsComplete : Prop :=
  ∀ (i : Instr) (d : CmdDef) (dt : Nat) (h : CmdHdr) (p payload : List Byte) (txn : Word) (s s' : State),
    firmwareOf i = some (d, dt, h, p) → d.kind ≠ .stageable → d.Starts dt h p s →
    d.run (s.begun dt d h p) (d.cmd h p) = .done s' payload txn →
    Sys2Proof.Machine.exec i s = .next (s.ended (s'.complete (d.cmd h p) { txn := txn, payload := payload }))

/-- A stageable command that carries the ID of an open transaction is held there and answers STAGED; nothing else changes. -/
def Claim.StageableCommandsAreStaged : Prop :=
  ∀ (i : Instr) (d : CmdDef) (dt : Nat) (h : CmdHdr) (p : List Byte) (s : State),
    firmwareOf i = some (d, dt, h, p) → d.kind = .stageable → d.Starts dt h p s → h.txn ≠ 0 →
    Sys2Proof.Machine.exec i s = .next (s.ended (((s.begun dt d h p).updTxn h.txn.toNat fun t =>
      { t with staged := t.staged ++ [{ opcode := d.opcode, tag := h.tag, payload := p }] }).complete (d.cmd h p)
        { status := stStaged, txn := h.txn }))

/-- A stageable command without a transaction ID forms a transaction of its own, validated and armed for the first blank whose
cut-off lies ahead; it answers OK with that transaction's ID, or TXN_REJECTED with it where it does not validate. -/
def Claim.StageableCommandsArmAlone : Prop :=
  ∀ (i : Instr) (d : CmdDef) (dt : Nat) (h : CmdHdr) (p : List Byte) (s : State),
    firmwareOf i = some (d, dt, h, p) → d.kind = .stageable → d.Starts dt h p s → h.txn = 0 →
    let b := s.begun dt d h p
    let id := (b.newTxnId h.mbx).1
    let staged : List Staged := [{ opcode := d.opcode, tag := h.tag, payload := p }]
    let o := { (b.newTxnId h.mbx).2 with txns := b.txns ++ [({ id := id, staged := staged, timerAt := b.clock.up } : Txn)] }
    ((o.commit id b.firstBlank staged h.tag).2 = none →
    Sys2Proof.Machine.exec i s = .next (s.ended ((o.commit id b.firstBlank staged h.tag).1.forgetTxns.complete (d.cmd h p)
      { txn := BitVec.ofNat 32 id }))) ∧
    ∀ e : Err, (o.commit id b.firstBlank staged h.tag).2 = some e →
    Sys2Proof.Machine.exec i s = .next (s.ended ((o.commit id b.firstBlank staged h.tag).1.complete (d.cmd h p)
      { status := stTxnRejected, txn := BitVec.ofNat 32 id, payload := e.detail }))

/-- A command with a check that fails answers that check's status with the detail record, and has no other effect. -/
def Claim.FailedChecksOnlyAnswer : Prop :=
  ∀ (i : Instr) (d : CmdDef) (dt : Nat) (h : CmdHdr) (p : List Byte) (s : State) (e : Err),
    firmwareOf i = some (d, dt, h, p) → s.Serving h.mbx.val → (d.cmd h p).tunnel = false →
    Err.pick ((d.cmd h p).headerErrs d (s.begun dt d h p) ++ d.checks (s.begun dt d h p) (d.cmd h p) ++
      (s.begun dt d h p).txnErrs d (d.cmd h p)) = some e →
    Sys2Proof.Machine.exec i s = .next (s.ended ((s.begun dt d h p).complete (d.cmd h p)
      { status := e.status, txn := h.txn, payload := e.detail }))

/-- Of several checks that fail, the one whose code stands first is answered. -/
def Claim.TheFirstFailingCodeIsAnswered : Prop :=
  ∀ (l : List Err) (e : Err), Err.pick l = some e → e ∈ l ∧ ∀ o ∈ l, e.status ≤ o.status

/-- A ring of a mailbox that is PENDING or RUNNING is ignored with RING_BUSY; one that no complex serves leaves its mailbox
PENDING and starts the 50 µs of STALL; one that a complex serves is RUNNING with firmware's own copy of the area. -/
def Claim.RingingAMailbox : Prop :=
  (∀ (dt : Nat) (m : Fin 8) (s : State), s.barLive = true → (s.mbx m).state = 1 ∨ (s.mbx m).state = 2 →
    Sys2Proof.Machine.exec (.ring dt m) s =
      .next (s.ended ((s.elapse dt).updMbx m fun b => { b with err := b.err ||| 2#32 }))) ∧
  (∀ (dt : Nat) (m : Fin 8) (s : State), s.barLive = true → s.serves = false → (s.mbx m).state ≠ 1 → (s.mbx m).state ≠ 2 →
    Sys2Proof.Machine.exec (.ring dt m) s =
      .next (s.ended ((s.elapse dt).updMbx m fun b => { b with state := 1, rungAt := s.clock.up + dt }))) ∧
  (∀ (dt : Nat) (m : Fin 8) (s : State), s.Serving m.val →
    Sys2Proof.Machine.exec (.ring dt m) s =
      .next (s.ended (((s.elapse dt).updMbx m fun b =>
        { b with state := 2, rungAt := s.clock.up + dt, acceptedAt := s.clock.up + dt, running := b.cmdArea }).runMbx m)))

/-- A command completes: the response stands in the area, STATE is DONE, DONE_COUNT has counted it, and every other mailbox is
as it was. -/
def Claim.CompletingACommand : Prop :=
  ∀ (s : State) (c : Cmd) (r : Resp), c.mbx < s.mailboxes.length →
    let t := s.complete c r
    (t.mbx c.mbx).state = 3 ∧ (t.mbx c.mbx).doneCount = ((s.mbx c.mbx).doneCount + 1) % 65536 ∧
    (t.mbx c.mbx).rspArea = overwrite (s.mbx c.mbx).rspArea 0 (r.bytes c) ∧ (t.mbx c.mbx).cmdArea = (s.mbx c.mbx).cmdArea ∧
    (∀ n, n ≠ c.mbx → t.mbx n = s.mbx n) ∧
    t.settings = s.settings ∧ t.txns = s.txns ∧ t.fs = s.fs ∧ t.recorder = s.recorder ∧ t.rings = s.rings ∧ t.stands = s.stands

/-! ### Firmware commands that are not stageable -/

/-- The status commands only answer: whatever they read, they change nothing but the mailbox that holds their response. -/
def Claim.StatusCommandsAnswerTheirPayload : Prop :=
  sysStatus.OnlyAnswers .sysStatus (fun s _ => s.sysStatusPayload) ∧
  sysSpares.OnlyAnswers .sysSpares (fun s _ => s.sparesPayload) ∧
  sysFaults.OnlyAnswers .sysFaults (fun s _ => s.faultsPayload) ∧
  standStatusCmd.OnlyAnswers .standStatus (fun s p => s.standStatus (u8 p 0) (u8 p 1)) ∧
  steerStatusCmd.OnlyAnswers .steerStatus (fun s p => s.steerStatus (u16 p 0)) ∧
  steerJournal.OnlyAnswers .steerJournal (fun s p => slice (s.journalSource (u8 p 2)) 0 64 ++
    slice (s.journalSource (u8 p 2)) (64 + 208 * u8 p 0) (208 * u8 p 1)) ∧
  chainStatus.OnlyAnswers .chainStatus (fun s _ => s.chainStatusBytes) ∧
  secKemKey.OnlyAnswers .secKemKey (fun s _ => s.kemPayload) ∧
  pwrStatusCmd.OnlyAnswers .pwrStatus (fun s _ => s.pwrStatus) ∧
  (∀ (dt : Nat) (h : CmdHdr) (p : List Byte) (s : State), modeGet.Starts dt h p s → ∃ payload : List Byte,
    payload.length = 16 ∧ u8 payload 0 = s.modes.mode % 256 ∧
    Sys2Proof.Machine.exec (.modeGet dt h p) s = .next (s.ended ((s.begun dt modeGet h p).answered modeGet h p payload))) ∧
  (∀ (dt : Nat) (h : CmdHdr) (p : List Byte) (s : State), txnStatus.Starts dt h p s → ∃ payload : List Byte,
    payload.length = 32 ∧ u8 payload 0 = (((s.begun dt txnStatus h p).txn h.txn.toNat).getD {}).state % 256 ∧
    Sys2Proof.Machine.exec (.txnStatus dt h p) s = .next (s.ended ((s.begun dt txnStatus h p).answered txnStatus h p payload)))

/-- TIME.GET answers the device time, its fraction, the source and its state, the offset from it, the tick and the instant of
the tick, and changes nothing. -/
def Claim.TimeGetAnswersTheTime : Prop :=
  timeGet.OnlyAnswers .timeGet (fun s _ => le 8 (s.clock.dev / 3) ++ le 2 s.fraction ++ le 1 s.tb.source ++ le 1 s.tb.state ++
    leI 4 (if s.tb.source = 0 then 0 else s.tb.offsetNs) ++ le 8 s.clock.tick ++ le 8 (s.clock.tickAt / 3))

/-- SEC.CERTS answers a fragment of a certificate: its length, the offset asked for, and at most 4,064 bytes from there. -/
def Claim.CertificateFragmentsAreAnswered : Prop :=
  secCerts.OnlyAnswers .secCerts (fun _ p =>
    let der := Config.certificate (u8 p 0) (u8 p 1)
    let n := min 4064 (der.length - u32 p 4)
    le 4 der.length ++ le 4 (u32 p 4) ++ le 2 n ++ [3] ++ zeros 5 ++ slice der (u32 p 4) n)

/-- SYS.IDENTIFY answers the identity entry and sets the revision-read flag, which PERST_N holds clear; SYS.EVENT_ROUTE replaces the sixteen routes;
SYS.ECHO answers its own payload. -/
def Claim.SysCommandsDo : Prop :=
  sysIdentify.Completes .sysIdentify (fun s _ _ => { s with pcie := { s.pcie with revRead := !s.pcie.perst } }) (fun s _ => s.identityEntry) ∧
  sysEventRoute.Only .sysEventRoute (fun s _ p => { s with routes := (List.range 16).map (u8 p) }) ∧
  sysEcho.OnlyAnswers .sysEcho (fun _ p => p)

/-- TXN.BEGIN opens a transaction with the mailbox's next ID, answered in TXN_ID: the count of IDs rises by one (from its limit
back to 1), and the ID is eight times the count plus the mailbox, hence never 0.  TIMEOUT_MS 0 stands for 5,000. -/
def Claim.BeginOpensATransaction : Prop :=
  ∀ (dt : Nat) (h : CmdHdr) (p : List Byte) (s : State), txnBegin.Starts dt h p s →
    let b := s.begun dt txnBegin h p
    let n := if s.txnCount + 1 = 0x20000000 then 1 else s.txnCount + 1
    let t : Txn := { id := 8 * n + h.mbx.val, timeoutMs := if u32 p 0 = 0 then 5000 else u32 p 0, timerAt := s.clock.up + dt,
                     both := s.modes.drone == 3 }
    Sys2Proof.Machine.exec (.txnBegin dt h p) s = .next (s.ended
      (({ b with txns := b.txns ++ [t], txnCount := n } : State).forgetTxns.complete (txnBegin.cmd h p)
        { txn := BitVec.ofNat 32 (8 * n + h.mbx.val) }))

/-- TXN.COMMIT of an open transaction that validates arms it for the blank it names, or for the first whose cut-off lies ahead:
the response gives the commit instant, the blank's tick and the number of staged commands; one that does not validate is closed
and answers TXN_REJECTED with the command at fault.  TXN.ROLLBACK closes an open or armed
transaction as rolled back. -/
def Claim.CommitAndRollback : Prop :=
  (∀ (dt : Nat) (h : CmdHdr) (p : List Byte) (s : State), txnCommit.Starts dt h p s →
    let b := s.begun dt txnCommit h p
    let o := b.commit h.txn.toNat (if u64 p 0 = 0 then b.firstBlank else u64 p 0) ((b.txn h.txn.toNat).getD {}).staged h.tag
    o.2 = none → Sys2Proof.Machine.exec (.txnCommit dt h p) s =
      .next (s.ended (o.1.answered txnCommit h p ((o.1.txn h.txn.toNat).getD {}).commitBytes))) ∧
  (∀ (dt : Nat) (h : CmdHdr) (p : List Byte) (s : State) (e : Err), txnCommit.Starts dt h p s →
    let b := s.begun dt txnCommit h p
    let o := b.commit h.txn.toNat (if u64 p 0 = 0 then b.firstBlank else u64 p 0) ((b.txn h.txn.toNat).getD {}).staged h.tag
    o.2 = some e → e.status = stTxnRejected ∧ Sys2Proof.Machine.exec (.txnCommit dt h p) s =
      .next (s.ended (o.1.complete (txnCommit.cmd h p) { status := e.status, txn := h.txn, payload := e.detail }))) ∧
  (∀ (dt : Nat) (h : CmdHdr) (p : List Byte) (s : State) (t : Txn), txnRollback.Starts dt h p s →
    (s.begun dt txnRollback h p).txn h.txn.toNat = some t →
    Sys2Proof.Machine.exec (.txnRollback dt h p) s =
      .next (s.ended (((s.begun dt txnRollback h p).closeTxn t 3).answered txnRollback h p [])))

/-- A commit that validates arms exactly the transaction it names: its state, its blank, its place in the commit order; the
settings in force stay as they are until that blank. -/
def Claim.CommittingArms : Prop :=
  ∀ (s : State) (id a : Nat) (staged : List Staged) (tag : Word) (t : Txn), s.txn id = some t → (s.commit id a staged tag).2 = none →
    let r := (s.commit id a staged tag).1
    (∃ u : Txn, r.txn id = some u ∧ u.state = 1 ∧ u.applyTick = a ∧ u.order = s.armOrder ∧ u.commitTime = s.nowNs ∧ u.tag = tag) ∧
    r.armOrder = s.armOrder + 1 ∧ r.settings = s.settings ∧ r.modes = s.modes ∧ r.clock = s.clock

/-- STREAM.QUEUES sets the polling interval and configures each queue it names with consumer index 0; STREAM.KEY stores the
unwrapped key, or clears the slot; STREAM.STATS answers the counters and clears them where it is asked to. -/
def Claim.StreamCommandsDo : Prop :=
  streamQueues.Only .streamQueues (fun s _ p =>
    (queueRecs p).foldl (fun s o => s.setQueue p o)
      { s with ingest := { s.ingest with pollUs := if u16 p 2 = 0 then 50 else u16 p 2 } }) ∧
  streamKey.Completes .streamKey (fun s _ p => s.setKey (u8 p 0) (u8 p 1) (if bitOf (u8 p 2) 0 then none else
      (unwrapKey s.security.kemGen p).map fun k => { kid := slice p 8 16, notAfter := u64 p 24, key := k }))
    (fun s p => le 1 (u8 p 1) ++ le 1 (keyMask ((s.setKey (u8 p 0) (u8 p 1) (if bitOf (u8 p 2) 0 then none else
      (unwrapKey s.security.kemGen p).map fun k => { kid := slice p 8 16, notAfter := u64 p 24, key := k })).keysOf (u8 p 0))) ++
      zeros 6 ++ le 8 s.nowNs) ∧
  streamStatsCmd.Completes .streamStats
    (fun s _ p => if bitOf (u8 p 1) 0 then s.updStream (u8 p 0) (·.clearStats) else s) (fun s p => s.streamStats (u8 p 0))

/-- COMPOSE.BLIT queues its operation behind the others and answers its SEQ and the places left of 64; COMPOSE.WATERMARK arms its
row, which fires at once where the front has passed it; COMPOSE.UPDATE takes the place of the waiting updates it contains, each
with EV_UPDATE_SUPERSEDED, and answers its SEQ and that of the update it runs behind. -/
def Claim.ComposeCommandsDo : Prop :=
  composeBlit.Completes .composeBlit
    (fun s h p =>
      let seq := if s.compose.blitSeq = 0xFFFFFFFF then 1 else s.compose.blitSeq + 1
      { s with compose := { s.compose with
        blits := s.compose.blits ++ [{ seq := seq, payload := p, tag := h.tag }], blitSeq := seq
        blitStart := if s.compose.blits = [] then s.clock.up else s.compose.blitStart
        blitFrom := if s.compose.blits = [] then 0 else s.compose.blitFrom } })
    (fun s _ => le 4 (if s.compose.blitSeq = 0xFFFFFFFF then 1 else s.compose.blitSeq + 1) ++
      le 2 (64 - (s.compose.blits.length + 1)) ++ zeros 2) ∧
  composeWatermark.Only .composeWatermark
    (fun s h p => ({ s with compose := { s.compose with watermarks := s.compose.watermarks ++
      [{ row := u32 p 0, tag := h.tag, window := s.synth.window.num + b2n (bitOf (u8 p 4) 0) }] } } : State).fireWatermarks) ∧
  composeUpdate.Completes .composeUpdate
    (fun s h p =>
      let seq := if s.compose.updateSeq = 0xFFFFFFFF then 1 else s.compose.updateSeq + 1
      let new := updateOf p seq (s.runningSeq (u8 p 0) (u8 p 1))
      let l := s.compose.layers.getD (u8 p 0) {}
      let old := s.compose.updates.filter fun u =>
        !u.running && u.layer == u8 p 0 && u.region == u8 p 1 && new.contains u l.w l.h
      old.foldl (fun s _ => s.raise evUpdateSuperseded (u8 p 0) [u8 p 1] h.tag)
        { s with compose := { s.compose with
          updates := (s.compose.updates.filter fun u => !(old.any fun o => o.seq == u.seq)) ++ [new], updateSeq := seq } })
    (fun s p => le 4 (if s.compose.updateSeq = 0xFFFFFFFF then 1 else s.compose.updateSeq + 1) ++
      le 4 (s.runningSeq (u8 p 0) (u8 p 1)))

/-- CAL.LOAD, CAL.READ and CAL.MEASURE start their operation on every stand they name, a load from stand memory with its READ_MEMORY
to the stand unless that bakes, a read of a live set that an abandoned bake left mixed not before the next bake; STAND.RELEASE darkens the stand: no kerf of it is VALID, and no sequence or admission of it goes on; STAND.ADMIT
starts an admission with an IDENTIFY. -/
def Claim.WallCommandsDo : Prop :=
  calLoad.Only .calLoad (fun s h p =>
    (forEach (s.settings.named p) s fun i s =>
      s.updCal i fun k => { k with op := 1, opParams := p, opTag := h.tag, passLeft := 0 }).askMemory (u16 p 0)) ∧
  (∀ (s : State) (i : Nat), (s.stand i).cal.op = 1 → u8 (s.stand i).cal.opParams 2 = 0 → (s.stand i).cal.baking = none →
    s.askMemory i = (s.updCal i fun c => { c with memory := [], memoryTo := 0 }).sendRead i (64 + 4 * setBytes)) ∧
  calMeasure.Only .calMeasure (fun s h p =>
    forEach (s.settings.named p) s fun i s => s.updCal i fun k => { k with op := 2, opParams := p, opTag := h.tag, passLeft := u8 p 3 }) ∧
  calRead.Only .calRead (fun s h p =>
    if u8 p 2 = 2 ∧ (s.stand (u16 p 0)).cal.mixed then s.updCal (u16 p 0) fun k => { k with parked := some (p, h.tag) } else
    forEach (s.settings.named p) s fun i s => s.updCal i fun k => { k with op := 3, opParams := p, opTag := h.tag, passLeft := 0 }) ∧
  standRelease.Only .standRelease (fun s _ p => s.updStand (u16 p 0) fun st =>
    { st.mapKerfs (fun k => { k with valid := false }) with
      released := true, releaseDone := false, parking := false, admission := 0, kss := 0, kssDue := false }) ∧
  standAdmit.Only .standAdmit (fun s h p =>
    (s.updStand (u16 p 0) fun st => { st with admission := 1, admitKeep := bitOf (u8 p 2) 0, admitTag := h.tag }).sendCmd (u16 p 0) 4 0 [])

/-- MEM.SET_POINT for the set point in force raises EV_SET_POINT at once and changes nothing else; for another it is pending,
behind a training pass where not both dies hold training data for it.  MEM.TRAIN queues a pass; MEM.STATUS answers the counters and
clears them where it is asked to. -/
def Claim.MemCommandsDo : Prop :=
  memSetPoint.Only .memSetPoint (fun s h p =>
    if u8 p 0 = s.fs.setPoint then s.raise evSetPoint noUnit [u8 p 0, u8 p 0] h.tag
    else
      let r := if bitOf s.fs.setPoints (u8 p 0) then s else s.queuePass (u8 p 0) 1 h.tag
      ({ r with fs := { r.fs with pending := some (u8 p 0), pendingTag := h.tag, changeFrom := s.clock.up } } : State).changeAtOnce) ∧
  memTrain.Only .memTrain (fun s h p => if u8 p 1 = 0 then s.queuePass 0xFF 7 h.tag else s.queuePass (u8 p 0) 6 h.tag) ∧
  memStatus.Completes .memStatus (fun s _ p => if bitOf (u8 p 2) 0 then s.memReset p else s) (fun s p => s.memStatusBytes p)

/-- TIME.PULSE programs one output and no other part of the time base; TIME.FSYNC_ARM arms the input with its edge and delay and
forgets the ignored edges; TIME.PTP configures one port, which has no master then; TIME.ACCEPT_JUMP steps the time at once in
Standby, with a record of it, and else at a blank. -/
def Obligations.TimeCommandsDo : Prop :=
  timePulse.Only .timePulse (fun s _ p => { s with tb := { s.tb with tpulse := upd s.tb.tpulse (u8 p 0) fun t => { t with
    enable := bitOf (u8 p 1) 0, periodic := bitOf (u8 p 1) 1, activeLow := bitOf (u8 p 1) 2, widthNs := u32 p 4, periodNs := u64 p 8,
    next := u64 p 16, left := u32 p 24 } } }) ∧
  timeFsyncArm.Only .timeFsyncArm (fun s _ p => { s with tb := { s.tb with fsync := { s.tb.fsync with
    armed := true, falling := bitOf (u8 p 0) 0, delayNs := s32 p 4, ignored := [] } } }) ∧
  timePtp.Only .timePtp (fun s _ p =>
    let r := s.updPtp (u8 p 0) fun _ => {
      mode := u8 p 1, flags := BitVec.ofNat 8 (u8 p 2), profile := u8 p 3, domain := u8 p 4, phy := u8 p 5, logAnnounce := s8 p 6,
      logSync := s8 p 7, logDelay := s8 p 8, announceTimeout := u8 p 9, priority1 := u8 p 10, priority2 := u8 p 11, vlan := u16 p 12,
      ipv4 := BitVec.ofNat 32 (u32 p 16), mask := BitVec.ofNat 32 (u32 p 20), gateway := BitVec.ofNat 32 (u32 p 24),
      asymNs := s32 p 28, offsetS := s64 p 32, sentAt := List.replicate 3 s.clock.up }
    if (s.ptpPort (u8 p 0)).master.isSome then r.masterLost else r) ∧
  timeAcceptJump.Only .timeAcceptJump (fun s _ _ =>
    if s.modes.mode = 0 then
      let r := ((s.applyStep (s.tb.pendingStep.getD 0)).pulsesAfterJump s.nowNs).timeStepRecord (s.tb.pendingStep.getD 0)
      { r with tb := { r.tb with state := 1, needStep := false, pendingStep := none, reportedStep := none, lockRun := 0 } }
    else { s with tb := { s.tb with acceptedJump := some (s.tb.pendingStep.getD 0), acceptedUp := s.clock.up } })

/-- SEC.ATTEST answers a report over its nonce with both signatures and changes nothing while the content-key pairs are valid (once
they are destroyed M_KEM is a free value, log entry 65); SEC.LIFECYCLE makes its transition, one to state 2 only where both
signatures verify, and else answers AUTH with EV_SIG_FAIL; SEC.FW_UPDATE copies the bundle and starts stage 1. -/
def Obligations.SecurityCommandsDo : Prop :=
  (∀ (dt : Nat) (h : CmdHdr) (p : List Byte) (s : State), secAttest.Starts dt h p s → s.security.kemValid = true →
    let b := s.begun dt secAttest h p
    let body := b.attestBody (slice p 0 48) (Config.sha384 b.kemPayload)
    Sys2Proof.Machine.exec (.secAttest dt h p) s =
      .next (s.ended (b.answered secAttest h p (body ++ signatures attestLabel body)))) ∧
  (∀ (dt : Nat) (h : CmdHdr) (p : List Byte) (s : State), secAttest.Starts dt h p s → s.security.kemValid = false →
    let b := (s.begun dt secAttest h p).freeBytes 48
    let body := b.2.attestBody (slice p 0 48) b.1
    Sys2Proof.Machine.exec (.secAttest dt h p) s =
      .next (s.ended (b.2.answered secAttest h p (body ++ signatures attestLabel body)))) ∧
  (∀ (dt : Nat) (h : CmdHdr) (p : List Byte) (s : State), secLifecycle.Starts dt h p s →
    u8 p 0 ≠ 2 → Sys2Proof.Machine.exec (.secLifecycle dt h p) s =
      .next (s.ended (((s.begun dt secLifecycle h p).lifecycleTo (u8 p 0)).answered secLifecycle h p []))) ∧
  (∀ (dt : Nat) (h : CmdHdr) (p : List Byte) (s : State), secLifecycle.Starts dt h p s → u8 p 0 = 2 →
    let sig := sigFailure Config.tabnarKeys lifecycleLabel (slice p 0 24) (slice p 24 3373)
    let b := s.begun dt secLifecycle h p
    Sys2Proof.Machine.exec (.secLifecycle dt h p) s = .next (s.ended (if sig = 0 then (b.lifecycleTo 2).answered secLifecycle h p []
      else (b.raise evSigFail noUnit [2, sig] h.tag).complete (secLifecycle.cmd h p)
        { status := stAuth, txn := h.txn, payload := ({ status := stAuth } : Err).detail }))) ∧
  secFwUpdate.Only .secFwUpdate (fun s h p => { s with
    fw := { stage := 1, flags := byteAt p 12, atTick := u64 p 16, tag := h.tag, stageAt := s.clock.up }
    security := { s.security with staging := Mem.reads s.fs.mem (u64 p 0) (u32 p 8) } })

/-- REC.FLUSH and REC.ERASE start their work on the flash, or end it at once where it is missing; PWR.DOMAIN switches the domain
it names, and the list of domains that the host keeps off follows. -/
def Claim.RecorderAndPowerCommandsDo : Prop :=
  recFlush.Only .recFlush (fun s h _ => s.flushStart h.tag true) ∧
  recErase.Only .recErase (fun s h _ =>
    if s.flash.present then { s with recorder := { s.recorder with erasing := some h.tag } }
    else s.raise evRecFlushed noUnit [2, 0] h.tag) ∧
  pwrDomain.Only .pwrDomain (fun s _ p => s.switchDomain (u16 p 0) (u8 p 2 == 1)) ∧
  (∀ (s : State) (n : Nat) (on : Bool), n < s.power.domains.length →
    let r := s.switchDomain n on
    r.domain n = b2n on ∧ (∀ k, k ≠ n → r.domain k = s.domain k) ∧ r.settings = s.settings ∧ r.fs = s.fs ∧ r.stands = s.stands ∧
    r.recorder = s.recorder ∧ (on = true → n ∉ r.power.hostOff) ∧ (on = false → n ∈ r.power.hostOff))

/-! ### What applies at a blank -/

/-- Settings that take their payload and do nothing else at their blank: placement and lift, calibration policy, pre-charge,
measurement plan, ordering, region of the wall, ready grace and power limit; a scene binding also takes the place of what earlier closes
would unbind at the next synthesis start. -/
def Claim.PlainSettingsTakeTheirPayload : Prop :=
  ∀ (s : State) (tag id : Word) (p : List Byte),
    let run := fun (op : Nat) => Staged.effect { opcode := op, tag := tag, payload := p } id s
    let put := fun (c : Settings) => { s with settings := c }
    let c := s.settings
    run 0x0501 = { put { c with bind := p } with ingest := { s.ingest with unbind := [] } } ∧
    run 0x0502 = put { c with places := upd c.places (u8 p 0) fun _ => p } ∧
    run 0x0503 = put { c with lift := p } ∧
    run 0x0704 = put { c with calPolicy := [u8 p 0, u16 p 2, u16 p 4, u16 p 6] } ∧
    run 0x0902 = put (c.updStands p fun t => { t with levelR := u16 p 2, levelG := u16 p 4, levelB := u16 p 6, preWidth := u8 p 8 }) ∧
    run 0x0903 = put { c with measFlags := BitVec.ofNat 8 (u8 p 0), measPass := u8 p 1, measLinks := BitVec.ofNat 16 (u16 p 2) } ∧
    run 0x0B02 = put { c with ordering := u8 p 0, pdOff := bitOf (u8 p 1) 0, idleNs := if u16 p 2 = 0 then 1000 else u16 p 2 } ∧
    run 0x0C02 = put { c with region := (some ⟨u32 p 0, u32 p 4, u32 p 8, u32 p 12, u32 p 16, u32 p 20⟩ : Option WallRegion) } ∧
    run 0x0C03 = put { c with graceUs := if u32 p 0 = 0 then 500000 else u32 p 0 } ∧
    run 0x1003 = put { c with capW := u16 p 0, noBoost := bitOf (u8 p 2) 0 }

/-- MODE.SET makes its mode due at the tick that ends the blank, with KEEP_TRAINING and KEEP_CAL of a Bring-up; the mode itself
stays until then.  A MODE.SET to the mode in force makes no change due. -/
def Claim.ModeSetMakesItsModeDue : Prop :=
  ∀ (s : State) (tag id : Word) (p : List Byte),
    let t := Staged.effect { opcode := 0x0201, tag := tag, payload := p } id s
    t.settings = { s.settings with mode := u8 p 0, modeFlags := byteAt p 1 } ∧ t.modes.mode = s.modes.mode ∧
    t.modes.modeDue = (if u8 p 0 = s.modes.mode then none else some (u8 p 0)) ∧
    t.modes.keepTraining = (u8 p 0 == 1 && bitOf (u8 p 1) 0) ∧ t.modes.keepCal = (u8 p 0 == 1 && bitOf (u8 p 1) 1) ∧
    t.stands = s.stands ∧ t.fs = s.fs ∧ t.links = s.links ∧ t.recorder = s.recorder ∧ t.txns = s.txns

/-- Stream, layer and dead-time settings at their blank: an open makes the stream anew with the keys delivered for it; a close
removes it, or with DRAIN lets it run dry; a layer is set or removed, with an update of its whole rectangle. -/
def Claim.StreamAndLayerSettings : Prop :=
  ∀ (s : State) (tag id : Word) (p : List Byte),
    let run := fun (op : Nat) => Staged.effect { opcode := op, tag := tag, payload := p } id s
    let c := s.settings
    (s.tb.change = none → run 0x0402 =
      let r := ({ s with settings := { c with streams := upd c.streams (u8 p 0) fun _ => some (openCfg p) } } : State).setStream (u8 p 0)
        (some { openStream p (s.clock.tick + 1) with keys := lookupD s.ingest.armedKeys (u8 p 0) (List.replicate 4 none) })
      { r with ingest := { r.ingest with armedKeys := removeKey s.ingest.armedKeys (u8 p 0) } }) ∧
    (bitOf (u8 p 1) 0 = true → run 0x0403 =
      s.updStream (u8 p 0) fun st => { st with draining := true, drainDue := st.drainDue || st.endRaised }) ∧
    (bitOf (u8 p 1) 0 = false → run 0x0403 =
      ({ s with settings := { c with streams := upd c.streams (u8 p 0) fun _ => none } } : State).closeStream (u8 p 0)) ∧
    (run 0x0601).settings = { c with layers := upd c.layers (u8 p 0) fun _ => if bitOf (u8 p 1) 0 then p else [] } ∧
    (run 0x0601).compose.layers = (upd s.compose.layers (u8 p 0) fun _ =>
      { payload := if bitOf (u8 p 1) 0 then p else [], base := u64 p 8 }) ∧
    (run 0x0601).compose.updates.length = s.compose.updates.length + 1 ∧
    run 0x0605 = { s with settings := { c with deadtimeNs := u16 p 0 }, compose := s.compose.newDeadtime (u16 p 0) s.clock.up } ∧
    (s.compose.newDeadtime (u16 p 0) s.clock.up).deadtimeNs = u16 p 0 ∧
    (s.compose.newDeadtime (u16 p 0) s.clock.up).blits = s.compose.blits

/-- Settings of the wall at their blank: calibration temperatures queue bakes, a map replaces the stands, a table goes to the
stands' use, a link retrains where its rate or clocking changes, a ray-frame pair holds the codes of the pair
before it, and a drive table is due to its stands. -/
def Claim.WallSettings : Prop :=
  ∀ (s : State) (tag id : Word) (p : List Byte),
    let run := fun (op : Nat) => Staged.effect { opcode := op, tag := tag, payload := p } id s
    let c := s.settings
    let put := fun (c : Settings) => { s with settings := c }
    (let d := c.updStands p fun t => { t with calT := (List.range 4).map fun k => s16 p (4 + 2 * k) }
     run 0x0702 = { put d with bakeQueue := (c.named p).foldl addOnce s.bakeQueue }) ∧
    (run 0x0801).settings.mapped = true ∧
    (run 0x0801).settings.pitchUm = (if u16 p 2 = 0 then 1000 else u16 p 2) ∧
    (run 0x0801).settings.stands.length = (mapStands p).length ∧ (run 0x0801).stands.length = (mapStands p).length ∧
    (run 0x0802).settings = (c.updStands p fun t => { t with lut := lutOf p }) ∧
    (run 0x0806).settings.links = (upd c.links (u8 p 0) fun _ => { rate := u8 p 1, clocking := u8 p 2, preset := u8 p 4 }) ∧
    (s.modes.mode = 0 → run 0x0806 =
      put { c with links := upd c.links (u8 p 0) fun _ => { rate := u8 p 1, clocking := u8 p 2, preset := u8 p 4 } }) ∧
    run 0x0904 = { (put { c with frameBase := upd c.frameBase (u8 p 0) fun _ => u32 p 4 }) with
      fs := { s.fs with
        moves := s.fs.moves.map fun (e : FrameMove) => if e.die = u8 p 0 ∧ e.new = u32 p 4 then { e with applied := true } else e
        mem := Mem.splice s.fs.mem (dieBase (u8 p 0) + u32 p 4 * 0x100000) (2 * c.frameMib (u8 p 0) * 0x100000)
          (Mem.spanOf s.fs.mem (dieBase (u8 p 0) + c.frameBase.getD (u8 p 0) 0 * 0x100000) (2 * c.frameMib (u8 p 0) * 0x100000)) } } ∧
    (run 0x0A01).settings = (c.updStands p fun t => { t with steer := some (p.drop 4) }) ∧
    (run 0x0A01).stands = s.stands.mapIdx fun i st => if (c.named p).contains i then { st with steerDue := true } else st

/-- SCAN.TIMING, TIME.SOURCE, CHAIN.ROLE and REC.TRIGGERS at their blank: a new rate or spread count starts a timing change and
leaves the clock as it is; a new source starts in state 1 (0 for source 0) with everything learned of the old one gone. -/
def Claim.TimingAndChainSettings : Prop :=
  ∀ (s : State) (tag id : Word) (p : List Byte),
    let run := fun (op : Nat) => Staged.effect { opcode := op, tag := tag, payload := p } id s
    let c := s.settings
    (run 0x0901).settings = { c with rate := u8 p 0, spread := u8 p 1, cls := u8 p 2 } ∧ (run 0x0901).clock = s.clock ∧
    (s.tb.change = none → u8 p 0 ≠ s.clock.rate ∨ u8 p 1 ≠ s.clock.spread → ∃ k : TimingChange, (run 0x0901).tb.change = some k ∧
      k.loadTick = s.clock.tick + 1 ∧ k.direct = decide (s.modes.mode ≤ 1) ∧ k.newRate = u8 p 0 ∧ k.newSpread = u8 p 1) ∧
    (run 0x0D01).settings = { c with source := u8 p 0, jumpUs := if u32 p 4 = 0 then 50 else u32 p 4 } ∧
    (run 0x0D01).tb.jumpUs = (if u32 p 4 = 0 then 50 else u32 p 4) ∧
    (u8 p 0 ≠ s.tb.source → (run 0x0D01).tb.source = u8 p 0 ∧ (run 0x0D01).tb.state = (if u8 p 0 = 0 then 0 else 1) ∧
      (run 0x0D01).tb.offsetNs = 0 ∧ (run 0x0D01).tb.acceptedJump = none) ∧
    (run 0x0C01).settings.chainRoot = bitOf (u8 p 1) 0 ∧ (run 0x0C01).settings.roles = roleList p ∧
    (run 0x0C01).settings.chainAddr = (if u8 p 0 = 0 then c.chainAddr else u8 p 0) ∧
    (run 0x0F01).settings.triggers.length = u8 p 0 ∧ (run 0x0F01).settings.sets.length = u8 p 1 ∧
    (run 0x0F01).recorder = { s.recorder with trigTick := [], trigMerged := [] }

/-- At its blank a transaction applies whole: its commands in the order staged, then EV_TXN_APPLIED with the tick that ends the
blank; one that is not valid any more is dropped whole with EV_TXN_DROPPED, and nothing of it applies. -/
def Obligations.TransactionsApplyWhole : Prop :=
  ∀ (s : State) (t : Txn),
    let a := s.clock.tick + 1
    let id := BitVec.ofNat 32 t.id
    (s.validateTxn true a s.settings t.staged = none → s.applyTxn t =
      (((t.staged.foldl (fun s c => c.effect id s) s).updTxn t.id fun u => { u with state := 2, applyTick := a }).forgetTxns).raise
        evTxnApplied noUnit [t.staged.length, lo32 a, hi32 a] t.tag id) ∧
    (∀ e : Err, s.validateTxn true a s.settings t.staged = some e →
      s.applyTxn t = (s.closeTxn t 6).raise evTxnDropped noUnit [e.index, e.cause] t.tag id ∧
      (s.applyTxn t).settings = s.settings ∧ (s.applyTxn t).modes = s.modes)

/-! ### Host accesses and the PCIe function -/

/-- A write of GLB_RESET_CTRL with the key requests the cold reset of each die named that is up and has none requested: BUSY reads
1 and the request is due; without the key, or for both dies outside mode 0, only a GLB_ERR bit latches. -/
def Obligations.ColdResetRequests : Prop :=
  ∀ (dt : Nat) (v : Word) (s : State), s.barLive = true →
    let e := s.elapse dt
    let w := (v ||| 1).toNat
    let x := (v ||| 2).toNat
    let ask := fun (d : Nat) => { e with bellows := { s.bellows with
      coldBusy := upd s.bellows.coldBusy d (fun _ => true), resetDue := upd s.bellows.resetDue d (fun _ => 1) } }
    (bitsOf w 31 16 = 0x5A17 → bitOf w 1 = false → s.bellows.dieOff.getD 0 none = none → s.bellows.resetDue.getD 0 0 = 0 →
      Sys2Proof.Machine.exec (.coldWest dt v) s = .next (s.ended (ask 0))) ∧
    (bitsOf x 31 16 = 0x5A17 → bitOf x 0 = false → s.bellows.dieOff.getD 1 none = none → s.bellows.resetDue.getD 1 0 = 0 →
      Sys2Proof.Machine.exec (.coldEast dt v) s = .next (s.ended (ask 1))) ∧
    (bitsOf w 31 16 = 0x5A17 → bitOf w 1 = true → s.modes.mode = 0 → s.bellows.dieOff = [none, none] → s.bellows.resetDue = [0, 0] →
      Sys2Proof.Machine.exec (.coldWest dt v) s = .next (s.ended { e with bellows := { s.bellows with
        coldBusy := upd (upd s.bellows.coldBusy 0 fun _ => true) 1 (fun _ => true), resetDue := [1, 1] } })) ∧
    (bitsOf w 31 16 ≠ 0x5A17 → Sys2Proof.Machine.exec (.coldWest dt v) s = .next (s.ended (e.glbErrSet 3))) ∧
    (bitsOf w 31 16 = 0x5A17 → bitOf w 1 = true → s.modes.mode ≠ 0 →
      Sys2Proof.Machine.exec (.coldWest dt v) s = .next (s.ended (e.glbErrSet 4)))

/-- The aperture moves only with the write of its low word: the high word is held until then, and BAR2 stays where it is. -/
def Claim.ApertureMovesWithTheLowWord : Prop :=
  ∀ (dt : Nat) (v : Word) (s : State), s.barLive = true →
    let e := s.elapse dt
    Sys2Proof.Machine.exec (.glbApertureHiWrite dt v) s = .next (s.ended { e with pcie := { s.pcie with apHi := v &&& 0x1F#32 } }) ∧
    Sys2Proof.Machine.exec (.glbApertureLoWrite dt v) s = .next (s.ended { e with pcie := { s.pcie with
      apLo := v &&& 0xFC000000#32, apBase := (s.pcie.apHi.toNat % 32) * 0x100000000 + (v &&& 0xFC000000#32).toNat } })

/-- Setting ENABLE of a ring with LOG2 from 8 to 20 clears PIDX, sets PHASE and restarts the sequence at 0; with another LOG2 it
is refused with CONFIG_ERR, ENABLE alone; ENABLE 1 on an enabled ring restarts nothing (the model's choice, log entry 112).  Clearing ENABLE discards the held records and counts them in DROPPED.  A base, mirror
or size written while ENABLE is 1 is ignored with CONFIG_ERR.  No other ring changes. -/
def Claim.RingControlWrites : Prop :=
  ∀ (dt : Nat) (r : Fin 4) (v : Word) (s : State), s.barLive = true →
    let q := s.ring r
    let fields := fun (w : Word) => BitVec.ofNat 32 (w.toNat % 0x10000000)
    let on := v ||| 0x80000000#32
    let put := fun (q : Ring) => (s.elapse dt).updRing r fun _ => q
    (q.enabled = false → 8 ≤ q.log2 → q.log2 ≤ 20 →
      Sys2Proof.Machine.exec (.ringEnable dt r v) s = .next (s.ended (put
        { q with ctrl := fields on ||| 0x80000000#32, pidx := 0, phase := true, seq := 0, unsignalled := 0 }))) ∧
    (q.enabled = false → q.log2 < 8 ∨ 20 < q.log2 →
      Sys2Proof.Machine.exec (.ringEnable dt r v) s = .next (s.ended (put { q with ctrl := fields on, configErr := true }))) ∧
    (q.enabled = true →
      Sys2Proof.Machine.exec (.ringEnable dt r v) s = .next (s.ended (put { q with ctrl := fields on ||| 0x80000000#32 }))) ∧
    (q.enabled = false →
      Sys2Proof.Machine.exec (.ringDisable dt r v) s = .next (s.ended (put { q with ctrl := fields (v &&& 0x7FFFFFFF#32) }))) ∧
    (q.enabled = true →
      Sys2Proof.Machine.exec (.ringDisable dt r v) s = .next (s.ended (put
        { q with ctrl := fields (v &&& 0x7FFFFFFF#32), held := [], unsignalled := 0, dropped := min 0xFFFF (q.dropped + q.held.length) }))) ∧
    (∀ o : Nat, o ∈ [0x00, 0x04, 0x08, 0x0C, 0x14] → q.enabled = true →
      s.ringWriteReg r o v.toNat = s.updRing r fun q => { q with configErr := true })

/-- A write of EVR_CIDX below 2^LOG2 frees entries, and held records are written; another is refused with CONFIG_ERR and leaves
EVR_CIDX unchanged. -/
def Claim.ConsumerIndexWrites : Prop :=
  ∀ (dt : Nat) (r : Fin 4) (v : Word) (s : State), s.barLive = true →
    let e := s.elapse dt
    (v.toNat % 0x100000 < 2 ^ (s.ring r).log2 → Sys2Proof.Machine.exec (.evrCidxWrite dt r v) s =
      .next (s.ended ((e.updRing r fun q => { q with cidx := v.toNat % 0x100000 }).ringDrain r))) ∧
    (2 ^ (s.ring r).log2 ≤ v.toNat % 0x100000 → Sys2Proof.Machine.exec (.evrCidxWrite dt r v) s =
      .next (s.ended (e.updRing r fun q => { q with configErr := true })))

/-- Reading EVR_STATUS returns it and clears DROPPED; reading REC_DATA returns the word at the cursor and moves the cursor on by
4; a read that covers CMDSET_REV sets the revision-read flag. -/
def Claim.ReadsWithAnEffect : Prop :=
  (∀ (dt : Nat) (r : Fin 4) (s : State), s.barLive = true →
    Sys2Proof.Machine.exec (.evrStatusRead dt r) s = .next (s.ended
      (((s.elapse dt).updRing r fun q => { q with dropped := 0 }).returned (le 4 (s.ring r).status)))) ∧
  (∀ (dt : Nat) (s : State), s.barLive = true →
    Sys2Proof.Machine.exec (.recDataRead dt) s = .next (s.ended
      (({ s.elapse dt with recorder := { s.recorder with
          cursor := BitVec.ofNat 32 ((s.recorder.cursor.toNat + 4) % recSize) } } : State).returned (le 4 s.recData)))) ∧
  (∀ (dt off len : Nat) (s : State), s.barLive = true → off ≤ 5472 → 5474 ≤ off + len → accessOf off len = .ok .cruise →
    Sys2Proof.Machine.exec (.cmdsetRevRead dt off len) s = .next (s.ended
      (({ s.elapse dt with pcie := { s.pcie with revRead := true } } : State).returned
        (slice ({ s.elapse dt with pcie := { s.pcie with revRead := true } } : State).cruise off len))))

/-- An access to no block reads zeros and latches GLB_ERR.UNMAPPED, one of bad size or alignment reads ones and latches BAD_SIZE;
the writes are ignored. -/
def Claim.RefusedAccesses : Prop :=
  ∀ (dt off len : Nat) (s : State), s.barLive = true →
    let e := s.elapse dt
    (accessOf off len = .unmapped →
      Sys2Proof.Machine.exec (.unmapped dt off len false) s = .next (s.ended ((e.glbErrSet 0).returned (zeros len))) ∧
      Sys2Proof.Machine.exec (.unmapped dt off len true) s = .next (s.ended (e.glbErrSet 0))) ∧
    (accessOf off len = .bad →
      Sys2Proof.Machine.exec (.badSize dt off len false) s = .next (s.ended ((e.glbErrSet 1).returned (List.replicate len 0xFF))) ∧
      Sys2Proof.Machine.exec (.badSize dt off len true) s = .next (s.ended (e.glbErrSet 1)))

/-- Register writes by their access codes: SCRATCH takes the value, GLB_ERR clears the bits written as ones, MBX_IRQ keeps
ENABLE and VECTOR, a command area takes the bytes of an aligned access of 1 to 64, the Cruise table and the response areas ignore them, and an 8-byte write is
two 4-byte writes, the lower address first. -/
def Claim.RegisterWrites : Prop :=
  ∀ (dt : Nat) (data : List Byte) (s : State), s.barLive = true →
    let e := s.elapse dt
    let w := BitVec.ofNat 32 (u32 data 0)
    (data.length = 4 →
      Sys2Proof.Machine.exec (.registerWrite dt 0x10020 data) s = .next (s.ended { e with pcie := { s.pcie with scratch := w } }) ∧
      Sys2Proof.Machine.exec (.registerWrite dt 0x10008 data) s =
        .next (s.ended { e with pcie := { s.pcie with glbErr := s.pcie.glbErr &&& ~~~(w &&& 0x1F#32) } }) ∧
      (∀ n < 8, Sys2Proof.Machine.exec (.registerWrite dt (0x10108 + 16 * n) data) s =
        .next (s.ended (e.updMbx n fun m => { m with irq := w &&& 0x800000FF#32 })))) ∧
    (∀ off n, accessOf off data.length = .ok (.command n) →
      Sys2Proof.Machine.exec (.registerWrite dt off data) s =
        .next (s.ended (e.updMbx n fun m => { m with cmdArea := overwrite m.cmdArea (off % 0x1000) data }))) ∧
    (∀ n < 8, ∀ o < 0x1000, 1 ≤ data.length → data.length ≤ 64 → o % alignOf data.length = 0 →
      accessOf (0x20000 + 0x2000 * n + o) data.length = .ok (.command n)) ∧
    (∀ off b, accessOf off data.length = .ok b → b = .cruise ∨ b = .pba ∨ (∃ n, b = .response n) →
      Sys2Proof.Machine.exec (.registerWrite dt off data) s = .next (s.ended e)) ∧
    (∀ off, accessOf off 8 = .ok .bellows → data.length = 8 →
      Sys2Proof.Machine.exec (.registerWrite dt off data) s = .next (s.ended ((e.regWrite (fun n s => s.doorbell n) off (u32 data 0)).regWrite
        (fun n s => s.doorbell n) (off + 4) (u32 data 4))))

/-- Through the aperture: an access of more than 512 bytes, of none, or across 4 KiB is not accepted.  A write within one granule of a
region that the host may write stores its bytes there and nowhere else and lifts the granule's poison where it covers it; a read of an
unpoisoned granule returns the bytes; both wake the stack ID they reach.  A read of a region that the host may not read returns ones; one of a
poisoned granule returns ones with the poisoned bit, is reported through AER and counted; one of the concealment region returns the entries of the kerf that lies there, and free values beside them (log entry 14).  A write that the host may not make is ignored. -/
def Claim.HostFrameStoreAccesses : Prop :=
  (∀ (dt off : Nat) (data : List Byte) (s : State), s.barLive = true → s.hostBoot = false →
    let e := s.elapse dt
    let a := s.pcie.apBase + off
    let w := e.request [(a, data.length)]
    (bar2Fits off data.length = false → Sys2Proof.Machine.exec (.bar2Write dt off data) s = .next (s.ended e)) ∧
    (bar2Fits off data.length = true → a % 256 + data.length ≤ 256 → e.apertureOk a 1 = true →
      Sys2Proof.Machine.exec (.bar2Write dt off data) s = .next (s.ended { w with
      fs := { w.fs with mem := Mem.writes e.fs.mem a data, poisoned := clearPoison e.fs.poisoned a data.length }
      pcie := { s.pcie with hostWrites := if s.settings.ordering = 1 then
        s.pcie.hostWrites ||| BitVec.ofNat 2 (if a < 64 * gib then 1 else 2) else s.pcie.hostWrites } })) ∧
    (bar2Fits off data.length = true → a % 256 + data.length ≤ 256 → e.apertureOk a 1 = false →
      Sys2Proof.Machine.exec (.bar2Write dt off data) s = .next (s.ended (e.apertureFault a)))) ∧
  (∀ (dt off len : Nat) (s : State), s.barLive = true → s.hostBoot = false →
    let e := { s.elapse dt with pcie := { s.pcie with lastPoison := false } }
    let a := s.pcie.apBase + off
    let seen := fun (t : State) (data : List Byte) => { t with pcie := { t.pcie with
      lastRead := data, hostWrites := s.pcie.hostWrites &&& ~~~(BitVec.ofNat 2 (if a < 64 * gib then 1 else 2)) } }
    let one := bar2Fits off len = true ∧ a % 256 + len ≤ 256
    (bar2Fits off len = false → Sys2Proof.Machine.exec (.bar2Read dt off len) s = .next (s.ended (s.elapse dt))) ∧
    (one → e.apertureOk a 0 = true → e.isPoisoned a = false → regionOf a ≠ 9 → Sys2Proof.Machine.exec (.bar2Read dt off len) s =
      .next (s.ended (seen (e.request [(a, len)]) (Mem.reads e.fs.mem a len)))) ∧
    (one → e.apertureOk a 0 = true → e.isPoisoned a = false → regionOf a = 9 → Sys2Proof.Machine.exec (.bar2Read dt off len) s =
      .next (s.ended (seen { e with security := { s.security with free := s.security.free + len } }
        ((List.range len).map fun i => e.mapsByte (a + i) (s.security.free + i))))) ∧
    (one → e.apertureOk a 0 = false → Sys2Proof.Machine.exec (.bar2Read dt off len) s =
      .next (s.ended (seen (e.apertureFault a) (List.replicate len 0xFF)))) ∧
    (one → e.apertureOk a 0 = true → e.isPoisoned a = true → Sys2Proof.Machine.exec (.bar2Read dt off len) s =
      .next (s.ended (seen (e.poisonRead a) (List.replicate len 0xFF))))) ∧
  (∀ (s : State) (a : Nat),
    s.poisonRead a = { s.updPc (pcOf a) fun c => { c with poisonReads := (c.poisonReads + 1) % 0x100000000 } with
      pcie := { s.pcie with lastPoison := true, aer := s.pcie.aer + 1 } })

/-- A byte written is the byte read, and every other byte reads as before. -/
def Claim.MemoryWritesOneByte : Prop :=
  ∀ (m : List Host.Cell) (a : Nat) (bs : List Byte), Memory.wf m = true →
    Memory.wf (Mem.writes m a bs) = true ∧
    (∀ i < bs.length, Mem.read (Mem.writes m a bs) (a + i) = bs.getD i 0) ∧
    (∀ b, b < a ∨ a + bs.length ≤ b → Mem.read (Mem.writes m a bs) b = Mem.read m b)

/-- In host boot a write lands in the boot buffer; one that leaves "BOOT" at offset 0 while no verification runs, or after one that
failed, starts a verification. -/
def Claim.BootBufferWrites : Prop :=
  ∀ (dt off : Nat) (data : List Byte) (s : State), s.barLive = true → s.hostBoot = true → bar2Fits off data.length = true → off + data.length ≤ 0x1000000 →
    let b := overwrite s.security.bootBuffer off data
    let e := { s.elapse dt with security := { s.security with bootBuffer := b } }
    (4 ≤ off ∨ u32 b 0 ≠ 0x544F4F42 ∨ (s.modes.bootStage ≠ 0 ∧ s.modes.bootStage < 0xE1) →
      Sys2Proof.Machine.exec (.bootBufferWrite dt off data) s = .next (s.ended e)) ∧
    (off < 4 → u32 b 0 = 0x544F4F42 → s.modes.bootStage = 0 ∨ 0xE1 ≤ s.modes.bootStage →
      Sys2Proof.Machine.exec (.bootBufferWrite dt off data) s = .next (s.ended (e.setStage 1 0)))

/-- A function-level reset and PERST_N reset what faces the host (GLB_ERR, SCRATCH, aperture, MSI-X table, recorder cursor,
revision-read flag, rings, mailbox states) and leave the wall, the settings, the transactions and the frame store; D3hot only
stops host-memory requests, and the return to D0 lets them go on.  Commands held for a handover run first, their responses discarded
(DEDUCED, log entry 96). -/
def Claim.FunctionResetsAndPowerStates : Prop :=
  ∀ (dt : Nat) (s : State),
    let e := s.elapse dt
    let first := if s.fw.armed = true then e.discardHeld else e
    let on := fun (t : State) => if isPlay s.modes.mode = true then t.resumeIngest else t
    (s.barLive = true → s.fw.armed = false → s.pcie.d3hot = false ∨ isPlay s.modes.mode = false →
      Sys2Proof.Machine.exec (.functionLevelReset dt) s = .next (s.ended e.flr)) ∧
    (s.barLive = true → s.fw.armed = false → s.pcie.d3hot = true → isPlay s.modes.mode = true →
      Sys2Proof.Machine.exec (.functionLevelReset dt) s = .next (s.ended e.flr.resumeIngest)) ∧
    (s.barLive = true → s.fw.armed = true → first.pcie.d3hot = false →
      Sys2Proof.Machine.exec (.functionLevelReset dt) s = .next (s.ended first.flr)) ∧
    (∀ n, e.discardHeld.mbx n = e.mbx n) ∧
    (s.pcie.perst = false →
      Sys2Proof.Machine.exec (.perstN dt) s = .next (s.ended { first.flr with pcie := { first.flr.pcie with perst := true } })) ∧
    (s.pcie.perst = true →
      Sys2Proof.Machine.exec (.perstNDeassert dt) s = .next (s.ended (on { e with pcie := { s.pcie with perst := false } }))) ∧
    (s.barLive = true → Sys2Proof.Machine.exec (.d3hotEntry dt) s = .next (s.ended { e with pcie := { s.pcie with d3hot := true } })) ∧
    (s.barLive = true → s.pcie.d3hot = true → Sys2Proof.Machine.exec (.d0Return dt) s =
      .next (s.ended (on (forEach (List.range 16) (forEach (List.range 4) { e with pcie := { s.pcie with d3hot := false } }
        fun r s => s.ringDrain r) fun q s => s.mirrorCidx q)))) ∧
    (let r := s.flr
     r.pcie.glbErr = 0 ∧ r.pcie.scratch = 0 ∧ r.pcie.apBase = 0 ∧ r.pcie.revRead = false ∧ r.recorder.cursor = 0 ∧
     (∀ n < 4, (r.ring n).enabled = false ∧ (r.ring n).held = []) ∧ (∀ n < 8, (r.mbx n).state = 0) ∧
     r.settings = s.settings ∧ r.txns = s.txns ∧ r.fs = s.fs ∧ r.stands = s.stands ∧ r.modes = s.modes ∧ r.links = s.links)

/-! ### The instants of a frame -/

/-- P is 16,666.667 µs at 60 Hz and 8,333.333 µs at 120 Hz, B is 100 µs, G is 50 µs, and four sub-frames and the blank fill a
frame (times in units of 1/3 ns). -/
def Obligations.FrameTimes : Prop :=
  framePeriod 60 = 50000000 ∧ framePeriod 120 = 25000000 ∧ blankTime = 300000 ∧ guardTime = 150000 ∧
  4 * subPeriod 60 + blankTime = framePeriod 60 ∧ 4 * subPeriod 120 + blankTime = framePeriod 120

/-- Timeouts act when their time is over, and not before: 50 µs PENDING sets STALL, 10 ms without a response completes a tunnelled
command with CHAIN_TIMEOUT, and TIMEOUT_MS rolls an open transaction back with EV_TXN_TIMEOUT. -/
def Obligations.TimeoutsActAtTheirTime : Prop :=
  (∀ (dt : Nat) (m : Fin 8) (s : State), (s.mbx m).state = 1 → (s.mbx m).stallEvent = false →
    ((s.mbx m).rungAt + 150000 ≤ s.clock.up + dt → Sys2Proof.Machine.exec (.mailboxStallTimeout dt m) s = .next (s.ended
      ((s.elapse dt).updMbx m fun b => { b with err := b.err ||| 1#32, stallSet := some (s.clock.up + dt), stallEvent := true }))) ∧
    (s.clock.up + dt < (s.mbx m).rungAt + 150000 →
      Sys2Proof.Machine.exec (.mailboxStallTimeout dt m) s = .next (s.ended (s.elapse dt)))) ∧
  (∀ (dt : Nat) (m : Fin 8) (s : State), (s.mbx m).state = 2 → (s.mbx m).tunnelled = true →
    (s.elapse dt).serves = true → (s.mbx m).acceptedAt + 30000000 ≤ s.clock.up + dt →
    let c := Cmd.parse m.val (s.mbx m).running
    Sys2Proof.Machine.exec (.chainTimeout dt m) s = .next (s.ended ((s.elapse dt).complete c
      { status := stChainTimeout, txn := c.txn, payload := ({ status := stChainTimeout } : Err).detail }))) ∧
  (∀ (dt id : Nat) (s : State) (t : Txn), s.txn id = some t → t.state = 0 → t.committing = false →
    (t.timerAt + 3000000 * t.timeoutMs ≤ s.clock.up + dt → Sys2Proof.Machine.exec (.txnTimeout dt id) s = .next (s.ended
      (((s.elapse dt).closeTxn t 4).raise evTxnTimeout noUnit [t.staged.length] 0 (BitVec.ofNat 32 t.id)))) ∧
    (s.clock.up + dt < t.timerAt + 3000000 * t.timeoutMs →
      Sys2Proof.Machine.exec (.txnTimeout dt id) s = .next (s.ended (s.elapse dt))))

/-- The frame blank starts when the four sub-frames are over: accepted jumps begin, sequences that end at the frame end do, the
settings of the frame that ends are kept for its bands (unless a timing change already waits with its own), the armed transactions
of this blank apply, pairs of ray frames that nothing shows any more are given back, the tick is slewed and stepped, and the next frame
is planned; each stand's first window of it follows, those of stands that packets still name among them. -/
def Claim.FrameBlankRuns : Prop :=
  ∀ (dt : Nat) (s : State), s.clock.blank = false → s.blankStart ≤ s.clock.up + dt → s.bellows.running = true → s.bellows.fresh = false →
    let t := s.clock.tick + 1
    let each := fun (f : Nat → State → State) (s : State) => forEach (List.range s.stands.length) s f
    let ended := each (fun i s => s.kssFrameEnd i) (each (fun i s => s.ackMissed i (windowOf s.clock.tick 3))
      ({ s.elapse dt with clock := { (s.elapse dt).clock with blank := true } } : State).jumpBegins)
    let waits := ended.tb.change.any fun (c : TimingChange) => decide (c.loadTick < t)
    let a := ({ ended with tb := { ended.tb with blankCfg := if waits then ended.tb.blankCfg else some ended.settings } } : State).applyArmed.releaseFrames t
    let b := if a.modes.modeDue.any fun m => m ≤ 1 || m == 6 then a.stopWindow else a
    let c := ((((b.closeDrained.remapPages).slewBlank).jumpSteps.rootEdges.sequenceStart none).sequenceStart (some 0)).sequenceStart (some 1)
    Sys2Proof.Machine.exec (.frameBlank dt) s =
      .next (s.ended (((each (fun i s => s.kssStart i) c).planFrame t).withLeft (each fun i s => s.steerWindow i t 0)))

/-- While no complex holds the chanter role, armed transactions wait; otherwise those whose tick is reached apply in the order of
blank and commit instant. -/
def Claim.ArmedTransactionsApplyInOrder : Prop :=
  ∀ s : State,
    (s.bellows.role = none → s.applyArmed = s) ∧
    (s.bellows.role ≠ none →
      s.applyArmed = (s.armed.filter fun t => t.applyTick ≤ s.clock.tick + 1).foldl (fun s t => s.applyTxn t) s) ∧
    s.armed.Pairwise (fun a b => a.applyTick < b.applyTick ∨ (a.applyTick = b.applyTick ∧ a.order ≤ b.order)) ∧
    (∀ t, t ∈ s.armed ↔ t ∈ s.txns ∧ t.state = 1)

/-- At its tick the counter of frames advances by one and sub-frame 0 begins; modes, roles and what follows of them change in the
order of the rules, and OUT pin 0 pulses. -/
def Claim.FrameTickRuns : Prop :=
  ∀ (dt : Nat) (s : State), s.clock.blank = true → s.clock.nextUp ≤ s.clock.up + dt → s.bellows.running = true → s.bellows.fresh = false →
    let e := s.elapse dt
    let t : State := { e with clock := { e.clock with
      tick := s.clock.tick + 1, tickUp := s.clock.nextUp, tickAt := e.clock.dev - (e.clock.up - s.clock.nextUp)
      nextUp := s.clock.nextUp + s.period, blank := false, sub := 0 }, tb := { e.tb with follow := false } }
    Sys2Proof.Machine.exec (.frameTick dt) s = .next (s.ended
      ((((t.timingStarts.releaseFrames (s.clock.tick + 1)).linksToStandby.modeChange.roleChange.droneSupervises).countMissing.kssEvents.bringTick.panicEvents.sparing.firstLight.linkPower.startSub 0).periodicTriggers.emit
        (.pulse 0 10000 false)))

/-- A mode that is due is in force from its tick: EV_MODE_CHANGED with the old and the new mode and the TAG and ID of its MODE.SET,
and the recorder's record 0x0031.
Entering a play mode resumes ingest with a lead deadline not before the third tick on; leaving one pauses it; mode 0 is entered
with EV_STANDBY; mode 1 starts Bring-up. -/
def Obligations.ModesChangeAtTheirTick : Prop :=
  ∀ s : State,
    (s.modes.modeDue = none → s.modeChange = s) ∧
    (∀ m, s.modes.modeDue = some m → m ≠ s.modes.mode →
      let a := ((({ s with modes := { s.modes with mode := m, modeDue := none, prevMode := s.modes.mode, enteredAt := s.clock.tick } } : State).raise
        evModeChanged noUnit [s.modes.mode, m] s.modes.modeTag s.modes.modeTxn).recFixed 0x0031
          [s.modes.mode, m, lo32 s.clock.tick]).banksForMode.abortMeasure
      let resumed := ({ a with clock := { a.clock with leadTick := max a.clock.leadTick (a.clock.tick + 3) } } : State).resumeIngest
      let old := s.modes.mode
      (1 < m → isPlay m = isPlay old → s.modeChange = a) ∧
      (isPlay m = true → isPlay old = false → s.modeChange = resumed) ∧
      (1 < m → isPlay m = false → isPlay old = true → s.modeChange = a.pauseIngest) ∧
      (m = 0 → s.modeChange = (if isPlay old then a.pauseIngest else a).enterStandby) ∧
      (m = 1 → s.modeChange = (if isPlay old then a.pauseIngest else a).bringStart))

/-- The next sub-frame begins one sub-frame period after the one before, with its sync marker and steering window; after sub-frame
3 and in the blank none begins. -/
def Claim.SubframesFollow : Prop :=
  ∀ (dt : Nat) (s : State),
    (s.clock.sub < 3 → s.clock.blank = false → s.clock.tickUp + (s.clock.sub + 1) * subPeriod s.clock.rate ≤ s.clock.up + dt →
      Sys2Proof.Machine.exec (.subframeStart dt) s = .next (s.ended
        (({ s.elapse dt with clock := { (s.elapse dt).clock with sub := s.clock.sub + 1 } } : State).startSub (s.clock.sub + 1)))) ∧
    (3 ≤ s.clock.sub ∨ s.clock.blank = true →
      Sys2Proof.Machine.exec (.subframeStart dt) s = .next (s.ended (s.elapse dt)))

/-- At the lead deadline of a tick each open stream's candidate is released, abandoned or missed, in play modes only; the next lead
deadline is that of the tick after. -/
def Claim.LeadDeadlinesRun : Prop :=
  ∀ (dt : Nat) (sizes : List (Nat × Nat × Nat × Nat)) (s : State),
    let t := max s.clock.leadTick (s.clock.tick + 1)
    let e := s.elapse dt
    let a := ({ e with clock := { e.clock with leadTick := t + 1 } } : State).anchorsFor t
    e.leadAt t ≤ s.clock.up + dt →
    (isPlay s.modes.mode = false → Sys2Proof.Machine.exec (.leadDeadline dt sizes) s = .next (s.ended a)) ∧
    (isPlay s.modes.mode = true → Sys2Proof.Machine.exec (.leadDeadline dt sizes) s = .next (s.ended
      (forEach (List.range 8) a fun n s =>
        if (s.stream n).isNone then s else (s.leadStream t (framePeriod (s.leadRate t)) n ((sizes.filter (·.1 = n)).map (·.2))).checkEnd n).decoderStates))

/-- A synthesis window starts for the next tick that has none, after the scan-out start of that tick if it is still to come; where
its time has not come nothing does. -/
def Claim.SynthesisStartsItsWindow : Prop :=
  ∀ (dt : Nat) (costs : List (Nat × Nat × Nat)) (s : State),
    let t := max s.clock.synthTick (s.clock.tick + 1)
    let e := s.elapse dt
    let f := if s.clock.scanTick < t then e.scanOut else e
    (e.synthAt t ≤ s.clock.up + dt → Sys2Proof.Machine.exec (.synthesisStart dt costs) s = .next (s.ended
      (({ f with clock := { f.clock with synthTick := t + 1 } } : State).synthStart t costs))) ∧
    (s.clock.up + dt < e.synthAt t → Sys2Proof.Machine.exec (.synthesisStart dt costs) s = .next (s.ended e))

/-- The kerf deadline ends an active window: the kerfs that no reed finished are late and stay in the list for the frame, no kerf is
late where every one was finished, and the front is beyond every row; without an active window only its time is over. -/
def Claim.KerfDeadlinesEndTheWindow : Prop :=
  ∀ (dt : Nat) (s : State), s.clock.synthTick ≠ 0 →
    let e := s.elapse dt
    let w := e.synth.window
    (s.clock.up + dt < e.kerfAtTime w.tick → Sys2Proof.Machine.exec (.kerfDeadline dt) s = .next (s.ended e)) ∧
    (e.kerfAtTime w.tick ≤ s.clock.up + dt →
      (w.active = false → Sys2Proof.Machine.exec (.kerfDeadline dt) s = .next (s.ended
        { e with synth := { e.synth with window := { w with beyond := true } } })) ∧
      (w.active = true → Sys2Proof.Machine.exec (.kerfDeadline dt) s = .next (s.ended e.kerfDeadline) ∧
        e.kerfDeadline.synth.window.todo = w.todo.filter (fun k => !w.done.contains k) ∧
        e.kerfDeadline.synth.window.lateW + e.kerfDeadline.synth.window.lateE = (w.todo.filter fun k => !w.done.contains k).length ∧
        e.kerfDeadline.synth.window.active = false ∧ e.kerfDeadline.synth.window.beyond = true))

/-- At scan-out start the sequencers latch VALID and the select bit of every kerf of every stand, with the settings the rays were
written under; the stands' loading follows, the first rays of the frame are sent, and nothing else changes. -/
def Claim.ScanOutLatches : Prop :=
  ∀ (dt : Nat) (s : State),
    let t := max s.clock.scanTick (s.clock.tick + 1)
    let e := s.elapse dt
    (s.clock.up + dt < e.scanAt t → Sys2Proof.Machine.exec (.scanOutStart dt) s = .next (s.ended e)) ∧
    (e.scanAt t ≤ s.clock.up + dt →
      Sys2Proof.Machine.exec (.scanOutStart dt) s = .next (s.ended (({ e with
        clock := { e.clock with scanTick := t + 1 }
        scanLatch := (List.range e.synth.cfg.stands.length).map e.latchedBits
        synth := { e.synth with scanCfg := e.synth.cfg, scanMoved := e.synth.window.moved }
        stands := e.stands.map fun st => { st with
          loadNext := st.wrote
          firstLit := st.firstLit || (st.admission == 5 && (s.modes.mode == 7 || st.kerfBase.valid || st.kerfs.any fun k => k.2.valid)) } } : State).sendFirst t)))

/-- The watermarks that the front has passed fire, each once with its row and TAG; a lift phase ends with its estimate in both dies' copies, or
at 2,000 µs without one, the frame marched with its colour and what the copies hold, with EV_LIFT_DEGRADED for what the rule names. -/
def Claim.FrontAndLift : Prop :=
  ∀ (dt : Nat) (s : State),
    let e := s.elapse dt
    let due := e.compose.watermarks.filter e.watermarkDue
    let rest : State := { e with compose := { e.compose with watermarks := e.compose.watermarks.filter fun w => !e.watermarkDue w } }
    (Sys2Proof.Machine.exec (.watermarkFire dt) s = .next (s.ended
      (due.foldl (fun s w => s.raise evWatermark noUnit [w.row] w.tag) rest))) ∧
    (e.synth.window.liftWait = false →
      Sys2Proof.Machine.exec (.liftPhaseEnd dt) s = .next (s.ended e) ∧
      Sys2Proof.Machine.exec (.liftTimeout dt) s = .next (s.ended e)) ∧
    (e.synth.window.liftWait = true →
      let f := e.liftFrame
      let run := if liftIsFlat (liftHistory f (e.synth.lifts.getD (if e.fs.avail.getD 0 false then 0 else 1) {}).frames) then min 60 (s.ingest.liftFlat + 1) else 0
      let o := e.liftOver (liftHistory f) e.clock.up
      let r : State := { o with ingest := { o.ingest with liftFlat := run } }
      let a := if f.saturated then r.liftDegraded e.liftStream 2 else r
      let b := if f.misaligned then a.liftDegraded e.liftStream 3 else a
      Sys2Proof.Machine.exec (.liftPhaseEnd dt) s = .next (s.ended (if run = 60 then b.liftDegraded e.liftStream 4 else b)) ∧
      (e.synth.window.startAt + 6000000 ≤ s.clock.up + dt →
        Sys2Proof.Machine.exec (.liftTimeout dt) s = .next (s.ended
          ((e.liftOver id (e.synth.window.startAt + 6000000)).liftDegraded e.liftStream 1))))

/-! ### Ingest, decoding, the 2D engine and calibration work -/

/-- A poll of a stream's queue, once the polling interval is over, reads the producer index; with one below the queue's size the
descriptors up to it are read, the time the queue was empty counts on, and those read are fetched in order; with another the stream has
a queue error of cause 10, at most one in a millisecond.  An index that cannot be read is tried again and then is a queue error of
cause 8 (the value of P0 there: log entry 122).  A queue of no stream, or whose stream does not fetch, is not polled. -/
def Claim.QueuePollsFetch : Prop :=
  (∀ (dt : Nat) (q : Fin 16) (pidx : Option Nat) (descs : List (Option (List Byte))) (s : State),
    (s.streamOfQueue q = none ∨ (∃ n, s.streamOfQueue q = some n ∧ s.fetches n = false)) →
      Sys2Proof.Machine.exec (.queuePoll dt q pidx descs) s = .next (s.ended (s.elapse dt))) ∧
  ∀ (dt : Nat) (q : Fin 16) (n : Nat) (descs : List (Option (List Byte))) (s : State),
    s.streamOfQueue q = some n → s.fetches n = true → (s.queue q).log2 ≠ 0 →
    (∀ t, (s.queue q).polled = some t → t + us s.ingest.pollUs ≤ s.clock.up + dt) →
    let x := s.queue q
    let e := s.elapse dt
    let polled := fun (s : State) => s.updQueue q fun x => { x with polled := some s.clock.up }
    let once := polled (e.emit (.hostRead x.pidxAddr 4))
    (∀ pidx, pidx < 2 ^ x.log2 →
      let count := (pidx + 2 ^ x.log2 - x.read) % 2 ^ x.log2
      let idle := (x.polled.map fun t => s.clock.up + dt - t).getD 0
      let a := once.updStream n fun st => { st with emptyFor := if count == 0 && x.fetched == [] then st.emptyFor + idle else 0 }
      let l := (descs.take count).map (Option.map (padTo 64))
      let b := (l.zipIdx).foldl (fun s d => s.readTry (x.base + 64 * ((x.read + d.2) % 2 ^ x.log2)) 64 d.1.isNone) a
      Sys2Proof.Machine.exec (.queuePoll dt q (some pidx) descs) s = .next (s.ended ((b.updQueue q (·.readDescs l)).fetchOn q n))) ∧
    (∀ pidx, 2 ^ x.log2 ≤ pidx →
      ((∀ t, x.badIdxAt = some t → t + 3000000 ≤ s.clock.up + dt) → Sys2Proof.Machine.exec (.queuePoll dt q (some pidx) descs) s =
        .next (s.ended ((once.updQueue q fun x => { x with badIdxAt := some (s.clock.up + dt) }).queueError n pidx 10))) ∧
      (∀ t, x.badIdxAt = some t → s.clock.up + dt < t + 3000000 →
        Sys2Proof.Machine.exec (.queuePoll dt q (some pidx) descs) s = .next (s.ended once))) ∧
    Sys2Proof.Machine.exec (.queuePoll dt q none descs) s = .next (s.ended
      ((polled ((e.emit (.hostRead x.pidxAddr 4)).emit (.hostRead x.pidxAddr 4))).queueError n x.read 8))

/-- The engine serves one descriptor at a time: the one whose data was read is placed with the key taken when the reading began, unless this A9
dropped it and read it for its children alone, is relayed on at a root where every read succeeded, leaves its queue, and the next is fetched; a read that failed is tried once again. -/
def Claim.PlacedDescriptorsPass : Prop :=
  ∀ (dt : Nat) (q : Fin 16) (n : Nat) (p : Placed) (d : Desc) (rest : List Desc) (v : Serve) (s : State),
    s.ingest.serving = some v → v.stream = n → s.streamOfQueue q = some n → (s.queue q).fetched = d :: rest → s.ingestOn = true →
    let e := s.elapse dt
    let a : State := { e with ingest := { e.ingest with serving := none, lastServed := n } }
    let addr := u64 d.bytes 8
    let table := u64 d.bytes 32
    let size := 8 * dSubsamples d.bytes
    let pass := fun (s : State) => ((if d.onlyRelay = true then s else s.placeDesc n d.index d.bytes v.key p).dropHead q).fetchOn q n
    (p.failed = false → dSubsamples d.bytes = 0 → p.subsFailed = false → Sys2Proof.Machine.exec (.descriptorPlaced dt q p) s =
      .next (s.ended (pass ((a.emit (.hostRead addr (dSize d.bytes))).relayFetched n d.bytes p)))) ∧
    (p.failed = false → dSubsamples d.bytes ≠ 0 → p.subsFailed = false → Sys2Proof.Machine.exec (.descriptorPlaced dt q p) s =
      .next (s.ended (pass (((a.emit (.hostRead addr (dSize d.bytes))).emit (.hostRead table size)).relayFetched n d.bytes p)))) ∧
    (p.failed = false → dSubsamples d.bytes ≠ 0 → p.subsFailed = true → Sys2Proof.Machine.exec (.descriptorPlaced dt q p) s =
      .next (s.ended (pass (((a.emit (.hostRead addr (dSize d.bytes))).emit (.hostRead table size)).emit (.hostRead table size))))) ∧
    (p.failed = true → Sys2Proof.Machine.exec (.descriptorPlaced dt q p) s =
      .next (s.ended (pass ((a.emit (.hostRead addr (dSize d.bytes))).emit (.hostRead addr (dSize d.bytes))))))

/-- A stopped stream fetches again once no more than LOW_FRAMES are held and its share has room; a drain ends after one second of
empty polls. -/
def Claim.StreamsResumeAndDrain : Prop :=
  ∀ (dt : Nat) (n : Fin 8) (s : State) (st : SceneStream), s.stream n = some st →
    let go := (s.elapse dt).updStream n fun st => { st with stopped := false }
    let fits : Prop := match s.headDesc n with
      | some d => st.used + dSize d ≤ st.share
      | none => st.used ≤ st.share
    (st.stopped = true → st.heldFrames ≤ st.low → fits → s.ingestOn = true → st.queue ≠ 0xFF →
      Sys2Proof.Machine.exec (.fetchResume dt n) s = .next (s.ended (go.fetchOn st.queue n))) ∧
    (st.stopped = true → st.heldFrames ≤ st.low → fits → s.ingestOn = false ∨ st.queue = 0xFF →
      Sys2Proof.Machine.exec (.fetchResume dt n) s = .next (s.ended go)) ∧
    (st.stopped = false ∨ st.low < st.heldFrames ∨ ¬ fits →
      Sys2Proof.Machine.exec (.fetchResume dt n) s = .next (s.ended (s.elapse dt))) ∧
    (st.draining = true → sec 1 ≤ st.emptyFor → Sys2Proof.Machine.exec (.drainTimeout dt n) s =
      .next (s.ended ((s.elapse dt).updStream n fun st => { st with drainDue := true }))) ∧
    (st.draining = false ∨ st.emptyFor < sec 1 →
      Sys2Proof.Machine.exec (.drainTimeout dt n) s = .next (s.ended (s.elapse dt)))

/-- The oldest released frame that is not decoded yet is decoded and counted; or one of its pictures is not what its substream must
carry, and the frame is lost with EV_DECODE_ERROR, its cause and the decoder that carries the substream (of several the lowest: log
entry 123), after which the stream waits for a random-access point.  Still frames behind it need no decoder. -/
def Claim.FramesAreDecodedOrLost : Prop :=
  ∀ (dt : Nat) (n : Fin 8) (found : List Picture) (s : State) (st : SceneStream), s.stream n = some st →
    let after := fun (s : State) => ((s.updStream n fun st => st.finishStills st.frames.length).decoderStates).checkEnd n
    (st.decoding = none → Sys2Proof.Machine.exec (.decodeDone dt n found) s = .next (s.ended (s.elapse dt))) ∧
    (∀ f, st.decoding = some f →
      let wrong := fun sub => st.pictureCause f (st.picture f found sub)
      let bad := ((st.dueSubs f).filter st.isVideo).find? fun sub => wrong sub != 0
      (bad = none → Sys2Proof.Machine.exec (.decodeDone dt n found) s =
        .next (s.ended (after ((s.elapse dt).updStream n (·.decodedFrame f found))))) ∧
      (∀ sub, bad = some sub →
        let unit := ((st.decoders.find? fun (e : Nat × Nat × Nat) => e.1 == sub).map fun (e : Nat × Nat × Nat) => e.2.1).getD noUnit
        Sys2Proof.Machine.exec (.decodeDone dt n found) s = .next (s.ended (after
          ((((s.elapse dt).updStream n fun st => { (st.updFrame f.num fun f => { f with bad := true }) with awaitRap := true }).updStream n
            fun st => { st with decodeErrors := (st.decodeErrors + 1) % 0x100000000 }).raise evDecodeError unit [n, wrong sub])))))

/-- The 2D engine ends its oldest operation once the bytes it moves and the dead time have taken their time: what it writes is in the
frame store with the poison it carries on, the poisoned granules it read are counted, its SEQ is the last done, EV_BLIT_DONE follows where it asks for it, and the next operation
starts; before that time nothing does. -/
def Claim.BlitsEndInOrder : Prop :=
  ∀ (dt : Nat) (s : State) (b : Blit) (rest : List Blit), s.compose.blits = b :: rest →
    let e := s.elapse dt
    let n := s.compose.blitsSince + 1
    let due := s.compose.blitStart + blitTime b.payload s.compose.deadtimeNs s.compose.blitFrom
    let done := fun (since : Nat) => { e with
      fs := { e.fs with mem := blitMem e.fs.mem b.payload }
      compose := { s.compose with blits := rest, blitDone := b.seq, blitStart := s.clock.up + dt, blitFrom := 0, blitsSince := since } }
    let poison := fun (a : State) =>
      let a := a.request (blitSpans b.payload)
      if e.fs.poisoned = [] then a else
      let m := (blitMeets e.fs.poisoned b.payload).foldl (fun s g => s.updPc (pcOf (256 * g)) fun c =>
        { c with poisonReads := (c.poisonReads + 1) % 0x100000000 }) a
      (blitPoison e.fs.poisoned b.payload).foldl (fun s g => s.poison g)
        { m with fs := { m.fs with poisoned := blitClears e.fs.poisoned b.payload } }
    (s.clock.up + dt < due → Sys2Proof.Machine.exec (.blitDone dt) s = .next (s.ended e)) ∧
    (due ≤ s.clock.up + dt →
      (bitOf (u8 b.payload 1) 0 = false → Sys2Proof.Machine.exec (.blitDone dt) s = .next (s.ended (poison (done n)))) ∧
      (bitOf (u8 b.payload 1) 0 = true → Sys2Proof.Machine.exec (.blitDone dt) s =
        .next (s.ended (poison ((done 0).raise evBlitDone noUnit [n] b.tag)))))

/-- A free die starts the first queued bake of one of its stands that has a reading, which keep coming, and no load or read; as the bake goes on it writes
the live set hogel by hogel, and at its end every hogel is written, the generation goes up by one and EV_CAL_REBAKE follows; an
operation that waited for the bake then ends, asks for its block, or starts its read. -/
def Claim.BakesRun : Prop :=
  (∀ (dt i : Nat) (die : Fin 2) (s : State), (s.supervisor die).isSome = true → s.modes.mode ≠ 6 → s.fs.avail.getD die false = true →
    (∀ k < s.stands.length, s.dieOfStand k = die.val → (s.stand k).cal.baking = none) →
    (s.bakeQueue.find? fun k => s.dieOfStand k == die.val && !(s.stand k).cal.holdsBake &&
      (s.stand k).temp.isSome && !(s.stand k).tempLost) = some i →
    Sys2Proof.Machine.exec (.bakeStart dt die) s = .next (s.ended
      { (s.elapse dt).updCal i fun c => { c with baking := (s.stand i).temp, bakeFrom := s.clock.up + dt } with
        bakeQueue := s.bakeQueue.filter (· != i) })) ∧
  (∀ (dt i : Nat) (t : Int) (s : State), (s.stand i).cal.baking = some t →
    let e := s.elapse dt
    let left := e.bakeHogels i t (fun h => s.clock.up + dt < e.bakeAt i h) e.fs.mem
    let a := ((({ e with fs := { e.fs with mem := left } } : State).updCal i
      fun c => { c with baking := none, bakeT := some t, liveGen := (c.liveGen + 1) % 65536, mixed := false }).raise evCalRebake i [p32 t]).bakeOnTemp i
    let waited : Prop := ((a.stand i).cal.op = 4 ∨ (a.stand i).cal.op = 5) ∧ (a.stand i).cal.opParams.length = 2
    let freed := fun (t : State) =>
      (t.rewritten (s.settings.liveAddr i) setBytes).request [(s.settings.setsAddr i, 4 * setBytes), (s.settings.liveAddr i, setBytes)]
    (¬ waited → Sys2Proof.Machine.exec (.bakeEnd dt i) s = .next (s.ended (freed ((a.updCal i Cal.unpark).askMemory i)))) ∧
    (waited → Sys2Proof.Machine.exec (.bakeEnd dt i) s = .next (s.ended
      (freed ((a.updStand i fun st => { st with loaded := true }).calDone i 0)))))

/-- A calibration operation ends with EV_CAL_DONE: a read writes its block, a measurement whose passes are over ends, a load takes a
block that passes every check and else ends with the check's result; with the stand gone it ends with result 6, with its link down with
result 5, and a measurement so stopped gives up its samples and slots. -/
def Claim.CalibrationOperationsEnd : Prop :=
  ∀ (dt i : Nat) (header : List Byte) (cells : List (Nat × Byte)) (s : State),
    let st := s.stand i
    let p := st.cal.opParams
    let e := s.elapse dt
    let gone := st.removed && !st.seen
    let run := Sys2Proof.Machine.exec (.calOperationEnd dt i header cells) s
    let freed := fun (t : State) => t.request
      (if st.cal.op = 2 then [] else [(s.settings.setsAddr i, 4 * setBytes), (s.settings.liveAddr i, setBytes)])
    st.cal.baking = none →
    (st.cal.op = 3 → gone = false → run = .next (s.ended
      (let a := freed ((e.writeBlock i p).calDone i 0)
       a.rewritten (u64 p 8) (64 + u32 (Mem.reads a.fs.mem (u64 p 8) 64) 28)))) ∧
    (st.cal.op = 2 → gone = false → st.cal.passLeft = 0 → run = .next (s.ended (freed (e.calDone i 0)))) ∧
    (st.cal.op = 1 ∨ st.cal.op = 3 → gone = true → run = .next (s.ended (freed (e.calDone i 6)))) ∧
    (st.cal.op = 2 → gone = true → run = .next (s.ended (freed (e.stopMeasure i (s.clock.tick + 2) 6)))) ∧
    (st.cal.op = 2 → gone = false → st.cal.passLeft ≠ 0 → s.linkUp (s.standCfg i).link = false →
      run = .next (s.ended (freed (e.stopMeasure i (s.clock.tick + 2) 5)))) ∧
    (st.cal.op = 1 → gone = false → u8 p 2 = 0 → s.linkUp (s.standCfg i).link = false → run = .next (s.ended (freed (e.calDone i 5)))) ∧
    (let store := st.cal.op == 1 && u8 p 2 != 0
     let h := if store then Mem.reads e.fs.mem (u64 p 8) 64 else (st.cal.block header cells).1
     let body := if store then Mem.spanOf e.fs.mem (u64 p 8 + 64) (u32 h 28) else (st.cal.block header cells).2
     let clear := fun (t : State) => match u8 h 6 with
       | 0 => t.rewritten (s.settings.setsAddr i) (4 * setBytes)
       | 1 => t.rewritten (s.settings.setAddr i (u8 h 7)) setBytes
       | _ => t
     gone = false → store = true ∨ s.linkUp (s.standCfg i).link = true →
      (st.cal.op = 1 →
        let r := s.blockResult i h body (bitOf (u8 p 3) 0)
        (r = 0 → run = .next (s.ended (clear (freed ((e.takeBlock i h body (bitOf (u8 p 3) 0) (bitOf (u8 p 3) 1)).calDone i 0))))) ∧
        (r ≠ 0 → run = .next (s.ended (freed (e.calDone i r))))) ∧
      (st.cal.op = 4 ∨ st.cal.op = 5 → p.length ≠ 2 →
        let r := s.blockResult i h body true
        (r = 0 → run = .next (s.ended (clear (freed ((e.takeBlock i h body true (bitOf (u8 p 0) 1)).updCal i fun c => { c with opParams := [0, byteAt p 0] }))))) ∧
        (r ≠ 0 → run = .next (s.ended (freed (e.calDone i r))))))

/-- Firmware ends the rebuilds of a stand's concealment entries while a complex supervises its die, except in Hold: the entries of each fault list
that asked for them are ready, those in force stay until a synthesis start. -/
def Claim.ConcealmentIsRebuilt : Prop :=
  ∀ (dt i : Nat) (s : State), i < s.stands.length → (∃ q ∈ (s.stand i).cal.rebuilds, q.ready = false) →
    (s.supervisor (s.dieOfStand i)).isSome = true → s.modes.mode ≠ 6 →
    let c := (s.stand i).cal
    let r := ((s.elapse dt).rebuild i)
    Sys2Proof.Machine.exec (.concealRebuildEnd dt i) s = .next (s.ended r) ∧
    (r.stand i).cal.rebuilds = (c.rebuilds.map fun (q : Rebuild) => if q.ready then q else
      { q with ready := true, entries := (({ c with faults := q.faults } : Cal).buildEntries (1048576 - s.entriesElsewhere i)).1 }) ∧
    (r.stand i).cal.entries = c.entries

/-! ### The stand links and the stand receivers -/

/-- The blocks of a link: descrambling undoes scrambling, every ordered block is read back as itself, and a lane that arrives inverted is
put upright. -/
def Claim.BlocksAreRead : Prop :=
  (∀ x body : Nat, (scramble x (scramble x body).2).2 = body) ∧
  (∀ o, o = Ordered.skip ∨ o = Ordered.doze ∨ o = Ordered.sleep ∨ (∃ f, f.length = 7 ∧ o = Ordered.train f) ∨
      (∃ lane, lane < 256 ∧ o = Ordered.wake lane) → readOrdered o.block = some o) ∧
  (∀ (k : Link) (h x : Nat), h ≤ 3 → x < 2 ^ 128 → k.inverted.getD k.retLane false = true →
    k.upright (3 - h, 2 ^ 128 - 1 - x) = (h, x))

/-- The 64 blocks of a return-lane frame are read with the lane's scrambler, and the frame is judged; the packets of one that is taken act
with it.  One with a good CRC and the next SEQ is taken and the next is expected; one with a bad CRC is counted and discarded, and so is
what follows it until a replay; the judging changes no other link and no stand.  Of a link that is down nothing is read. -/
def Claim.LinkFramesAreTakenInOrder : Prop :=
  (∀ (dt sent : Nat) (l : Fin 16) (blocks spare : List (Nat × Nat)) (s : State), s.linkUp l = true →
    let a := (s.elapse dt).framesSent l sent
    let bs := blocks.map (a.link l).upright
    let b := a.spareIn l spare
    let r := (b.link l).readFrame bs
    let c := b.updLink l fun _ => r.1
    blocks.length = 64 → (∀ x, bs.head? = some x → readOrdered x = none) →
      ((c.link l).takes r.2 = true → Sys2Proof.Machine.exec (.linkFrameReceived dt l blocks spare sent) s =
        .next (s.ended ((c.frameIn l r.2).packetsIn l r.2.body))) ∧
      ((c.link l).takes r.2 = false → Sys2Proof.Machine.exec (.linkFrameReceived dt l blocks spare sent) s =
        .next (s.ended (c.frameIn l r.2)))) ∧
  (∀ (dt sent : Nat) (l : Fin 16) (blocks spare : List (Nat × Nat)) (s : State), (s.link l).state = 0 →
    Sys2Proof.Machine.exec (.linkFrameReceived dt l blocks spare sent) s = .next (s.ended (s.elapse dt))) ∧
  (∀ (l : Nat) (f : LinkFrame) (s : State), l < s.links.length →
    let k := s.link l
    let m := s.frameIn l f
    (f.nak = false ∨ f.good = false → (∀ j, j ≠ l → m.link j = s.link j) ∧ m.stands = s.stands ∧ m.fs = s.fs ∧ m.recorder = s.recorder) ∧
    (f.good = true → f.nak = false → f.seq = k.rxExpect → k.rxDiscard = false ∨ f.replay = true →
      (m.link l).rxExpect = (k.rxExpect + 1) % 32768 ∧ (m.link l).rxDiscard = false ∧ (m.link l).rxCrc = k.rxCrc) ∧
    (f.good = true → f.nak = false → f.seq ≠ k.rxExpect ∨ (k.rxDiscard = true ∧ f.replay = false) →
      (m.link l).rxExpect = k.rxExpect ∧ (m.link l).rxDiscard = true ∧ (m.link l).rxCrc = (k.rxCrc + 1) % 0x100000000) ∧
    (f.good = false →
      (m.link l).rxExpect = k.rxExpect ∧ (m.link l).rxDiscard = true ∧ (m.link l).rxCrc = (k.rxCrc + 1) % 0x100000000 ∧
      (m.link l).txAcked = k.txAcked ∧ (m.link l).txReplay = k.txReplay ∧ (m.link l).txHeld = k.txHeld))

/-- The tag of a good frame frees what it acknowledges: an ACK_SEQ among the frames that wait ends a replay and restarts the timer;
another changes nothing.  A NAK starts a replay from the frame it asks for, unless that replay is still going out. -/
def Claim.AcknowledgementsFreeTheBuffer : Prop :=
  ∀ (l : Nat) (f : LinkFrame) (s : State), l < s.links.length → f.good = true →
    let k := s.link l
    let next := (f.ack + 1) % 32768
    let moved := seqGap k.txAcked next
    let m := s.frameIn l { f with nak := false }
    (0 < moved → moved ≤ seqGap k.txAcked k.txNext →
      (m.link l).txAcked = next ∧ (m.link l).txReplays = 0 ∧ (m.link l).txReplay = none ∧ (m.link l).txSince = s.clock.up ∧
      (m.link l).txHeld = k.txHeld.drop moved) ∧
    (moved = 0 ∨ seqGap k.txAcked k.txNext < moved →
      (m.link l).txAcked = k.txAcked ∧ (m.link l).txReplays = k.txReplays ∧ (m.link l).txReplay = k.txReplay ∧
      (m.link l).txHeld = k.txHeld) ∧
    (f.nak = true → (m.link l).txReplay ≠ some next ∨ (m.link l).txReplayTo ≤ s.clock.up →
      s.frameIn l f = m.replay l fun k => { k with naked := (k.naked + 1) % 0x100000000 }) ∧
    (f.nak = true → (m.link l).txReplay = some next → s.clock.up < (m.link l).txReplayTo → s.frameIn l f = m)

/-- 4 µs without an acknowledgement, or a full buffer, starts a replay from the oldest frame; the fourth without progress starts a
recovery.  A recovery leaves state 1, its stands dark while it lasts, with their sequences given up; the third within a second takes the
link down with STAND_SAFE and EV_LINK_DOWN.  One in which no more lanes fail than spares and narrowing can carry, in an order that the
receivers can use and within 200 µs, resumes with what waits sent again; another takes the link down. -/
def Claim.ReplaysAndRecoveries : Prop :=
  (∀ (dt : Nat) (l : Fin 16) (s : State), s.linkUp l = true → (s.link l).retDoze = 0 → (s.link l).txAcked ≠ (s.link l).txNext →
    (s.link l).txSince + 12000 ≤ s.clock.up + dt ∨ seqGap (s.link l).txAcked (s.link l).txNext = 256 →
    let a := (s.elapse dt).updLink l fun k => { k with
      timeouts := (k.timeouts + 1) % 0x100000000, txReplay := some k.txAcked, txReplays := (s.link l).txReplays + 1
      txSince := s.clock.up + dt }
    ((s.link l).txReplays < 3 → Sys2Proof.Machine.exec (.replayTimeout dt l) s = .next (s.ended (a.resend l))) ∧
    (3 ≤ (s.link l).txReplays → Sys2Proof.Machine.exec (.replayTimeout dt l) s = .next (s.ended (a.startRecovery l)))) ∧
  (∀ (dt : Nat) (l : Fin 16) (s : State), s.linkUp l = true →
    let recent := ((s.link l).recoveryTimes.filter fun t => !(s.elapse dt).since t (sec 1)) ++ [s.clock.up + dt]
    let a := (s.elapse dt).updLink l fun k => { k.wake with recoveryTimes := recent }
    (recent.length < 3 → Sys2Proof.Machine.exec (.linkRecovery dt l) s = .next (s.ended
      ((a.updLink l fun k => { k with
        awake := k.state, state := 1, recovering := some (s.clock.up + dt), txReplay := none, txReplays := 0, rxDiscard := false
        blanked := true }).onLink l
        fun st => { st with kss := 0, kssDue := st.kssDue || st.kss != 0 }))) ∧
    (3 ≤ recent.length → Sys2Proof.Machine.exec (.linkRecovery dt l) s =
      .next (s.ended ((a.linkDown l 7).recFixed 0x0060 [l.val, 1, recent.length])))) ∧
  (∀ (dt : Nat) (l : Fin 16) (lanes : List LaneReport) (order : List Nat) (ret : List (List Byte)) (s : State) (t : Nat),
    (s.link l).recovering = some t →
    let n := (s.link l).recoveryTimes.length
    let c := laneCauses false (s.settings.links.getD l {}).clocking lanes
    let resumed := (s.elapse dt).updLink l fun k => { k.lanes (lostLanes c) (!laneFailed c 8) (laneFailed c 10) (!laneFailed c 11) with
      recovering := none, recoveries := (k.recoveries + 1) % 0x100000000, txReplay := some k.txAcked, txSince := s.clock.up + dt, txDeal := 0
      litFrom := k.rayWin }
    let bad : Prop := 3 ≤ (List.range 9).countP (laneFailed c) ∨ laneFailed c 9 = true ∨ (laneFailed c 10 = true ∧ laneFailed c 11 = true) ∨
      lanesArrive c order ret = false ∨ t + 600000 < s.clock.up + dt
    (¬ bad → Sys2Proof.Machine.exec (.linkRecoveryEnd dt l lanes order ret) s =
      .next (s.ended (((resumed.resend l).recFixed 0x0060 [l.val, 0, n]).onLink l fun st =>
        if st.bands.any (·.inFlight) then { st.unknownInFlight with kssDue := true, dark := true } else st))) ∧
    (bad → Sys2Proof.Machine.exec (.linkRecoveryEnd dt l lanes order ret) s =
      .next (s.ended (((s.elapse dt).linkDown l 7).recFixed 0x0060 [l.val, 1, n]))))

/-- Taking a link down: STATE 0, STAND_SAFE asserted on it and on no other, EV_LINK_DOWN with the cause. -/
def Claim.LinksGoDown : Prop :=
  ∀ (s : State) (l cause : Nat), l < 16 → l < s.links.length →
    let t := s.linkDown l cause
    (t.link l).state = 0 ∧ (t.link l).recovering = none ∧ (∀ j, j ≠ l → t.link j = s.link j) ∧
    t.bellows.safeLinks.getLsbD l = true ∧ (∀ j, j ≠ l → t.bellows.safeLinks.getLsbD j = s.bellows.safeLinks.getLsbD j) ∧
    t.settings = s.settings ∧ t.fs = s.fs ∧ t.txns = s.txns

/-- A bring-up attempt succeeds where its steps kept their limits, its lanes trained but for those that spares carry, arrive in an order
the receivers can use, equalisation ended and no frame had a CRC error through 1.0 ms of TEST packets; it brings the link up with its
lanes, its scramblers seeded and EV_LINK_UP with rate and clocking.  One that fails, or reaches 25 ms, is made again, and the third takes the
link down and excludes its stands. -/
def Claim.BringUpAttemptsEnd : Prop :=
  ∀ (dt cause : Nat) (l : Fin 16) (steps order : List Nat) (lanes : List LaneReport) (frameErrs : Bool) (ret : List (List Byte)) (s : State),
    (s.link l).state = 1 → (s.link l).recovering = none →
    let e := s.elapse dt
    let cfg := s.settings.links.getD l {}
    let c := laneCauses true cfg.clocking lanes
    let found := attemptCause (s.link l) cfg.clocking steps lanes frameErrs order ret
    let up := ((((e.updLink l fun k => { (k.lanes (lostLanes c) (!laneFailed c 8) (laneFailed c 10) (!laneFailed c 11)).seeded with
      attempts := 0, recoveries := 0, inverted := [trainInverted (ret.getD 0 []), trainInverted (ret.getD 1 [])],
      eye := (List.range 12).map fun n => (lanes.getD n {}).eyeMv, everUp := true, txSince := s.clock.up + dt
      framing := none, blanked := false }).raise
      evLinkUp l [cfg.rate, cfg.clocking]).sparedEvents l (lostLanes c) (laneFailed c 10)).stepRecord l 3 0 l)
    let again := (e.updLink l fun k => { k with attempts := (s.link l).attempts + 1 }).startBringup l
    let down := fun (why : Nat) => (forEach (s.settings.standsOn l) ((e.updLink l fun k => { k with attempts := 0 }).linkDown l why)
      fun i s => s.exclude i).stepRecord l 3 1 l
    let run := Sys2Proof.Machine.exec (.linkBringupEnd dt l steps lanes frameErrs order ret) s
    let fails := fun (why : Nat) => ((s.link l).attempts < 2 → run = .next (s.ended again)) ∧
      (2 ≤ (s.link l).attempts → run = .next (s.ended (down why)))
    (found = none → e.testing l = false → run = .next (s.ended ((up.reloadLuts l).sequenceAfterUp l))) ∧
    (found = none → e.testing l = true → run = .next (s.ended e)) ∧
    (∀ why, found = some why → fails why) ∧
    (found = none → (∀ n < 7, steps.getD n 0 ≤ stepLimits.getD n 0) ∧ lanesArrive c order ret = true ∧ fatalCauses c = [] ∧
      (s.link l).framing.isSome = true ∧ frameErrs = false ∧ (s.link l).frameBad = false) ∧
    ((s.link l).attemptAt + 75000000 ≤ s.clock.up + dt →
      ((s.link l).attempts < 2 → Sys2Proof.Machine.exec (.linkBringupTimeout dt l cause) s = .next (s.ended again)) ∧
      (2 ≤ (s.link l).attempts → Sys2Proof.Machine.exec (.linkBringupTimeout dt l cause) s = .next (s.ended (down cause))))

/-- A lost data lane moves to the spare with EV_LANE_SPARED (state 3), a second narrows the link with EV_LINK_NARROW (state 4), and the
frames that wait go out again; a third takes it down; two lost in one frame count as one after the other; a lost return lane moves to its
spare, without one the recovery fails; a failed spare is unusable from then on; a command refused is no longer awaited, and a drive table
refused is owed again. -/
def Claim.LanesAreSpared : Prop :=
  ∀ (dt lane cmdId : Nat) (l : Fin 16) (s : State), s.linkUp l = true → (s.link l).state ≠ 5 →
    let k := s.link l
    let e := s.elapse dt
    (lane < 8 → k.narrowed ≠ lane → k.dataSpare = true → k.spared = 0xFF →
      Sys2Proof.Machine.exec (.nakReceived dt l 1 lane 0xFF cmdId) s = .next (s.ended
        (((e.updLink l fun k => { k with spared := lane, dataSpare := false, awake := 3, state := if k.state = 5 then 5 else 3 }).switchReplay l).raise
          evLaneSpared l [lane]))) ∧
    (lane < 8 → k.narrowed = 0xFF → k.dataSpare = false →
      Sys2Proof.Machine.exec (.nakReceived dt l 1 lane 0xFF cmdId) s = .next (s.ended
        (((e.updLink l fun k => { k with
          spared := if k.spared = lane then 0xFF else k.spared, narrowed := lane, narrowFrom := k.rayWin, txDeal := 0, awake := 4, state := if k.state = 5 then 5 else 4 }).switchReplay l).raise
          evLinkNarrow l [lane]))) ∧
    (∀ lane2, lane2 < 8 → Sys2Proof.Machine.exec (.nakReceived dt l 1 lane lane2 cmdId) s = .next (s.ended
      ((e.loseLane l (min lane lane2)).loseLane l (max lane lane2)))) ∧
    (lane < 8 → k.narrowed ≠ 0xFF → k.narrowed ≠ lane → k.dataSpare = false →
      Sys2Proof.Machine.exec (.nakReceived dt l 1 lane 0xFF cmdId) s = .next (s.ended (e.linkDown l 8))) ∧
    (∀ pos op, (k.cmds.find? fun c => c.1 == cmdId) = some (cmdId, pos, op) → op ≠ 1 →
      let left := e.updLink l fun k => { k with cmds := k.cmds.filter fun c => c.1 != cmdId }
      (op ≠ 2 → Sys2Proof.Machine.exec (.nakReceived dt l 2 lane 0xFF cmdId) s = .next (s.ended left)) ∧
      (op = 2 → Sys2Proof.Machine.exec (.nakReceived dt l 2 lane 0xFF cmdId) s = .next (s.ended
        (forEach ((s.settings.standsOn l).filter fun i => s.settings.position i == pos) left fun i s =>
          s.updStand i fun st => { st with steerDue := true })))) ∧
    (k.retSpare = true → k.retOnSpare = false → Sys2Proof.Machine.exec (.returnLaneLost dt l) s = .next (s.ended
      (((e.updLink l fun k => { k with retOnSpare := true, retSpare := false }).linkCmd l 5 0).raise evLaneSpared l [16]))) ∧
    (k.retSpare = false ∨ k.retOnSpare = true →
      Sys2Proof.Machine.exec (.returnLaneLost dt l) s = .next (s.ended ((e.countRecovery l).recoveryFailed l 9))) ∧
    (k.dataSpare = true → Sys2Proof.Machine.exec (.spareLaneFault dt l 8) s = .next (s.ended
      ((e.updLink l fun k => { k with dataSpare := false }).raise evLaneSpared l [8]))) ∧
    (k.retSpare = true → Sys2Proof.Machine.exec (.spareLaneFault dt l 17) s = .next (s.ended
      ((e.updLink l fun k => { k with retSpare := false }).raise evLaneSpared l [17])))

/-- A sleeping link wakes into the state it had; a link that does not sleep stays as it is. -/
def Claim.LinksWake : Prop :=
  ∀ (dt : Nat) (l : Fin 16) (s : State), (s.link l).state = 5 → l.val < s.links.length →
    let t := (s.elapse dt).updLink l Link.wake
    Sys2Proof.Machine.exec (.linkWake dt l) s = .next (s.ended t) ∧ (t.link l).state = (s.link l).awake ∧ (t.link l).doze = 0 ∧
    ∀ j, j ≠ l.val → t.link j = s.link j

/-- A TEMP packet brings each stand of the link its reading, in the order of their positions; 0x8000 is none.  60 frames without a
reading raise EV_STAND_TEMP once. -/
def Claim.TemperaturesArrive : Prop :=
  (∀ (dt : Nat) (l : Fin 16) (readings : List Int) (s : State), s.linkUp l = true →
    Sys2Proof.Machine.exec (.tempReceived dt l readings) s = .next (s.ended
      (forEach (s.settings.standsOn l) (s.elapse dt) fun i s =>
        let t := readings.getD (s.settings.position i) (-32768)
        if t = -32768 then s else s.reading i t))) ∧
  (∀ (dt i : Nat) (s : State), i < s.stands.length → 60 ≤ (s.stand i).tempMiss → (s.stand i).tempLost = false →
    Sys2Proof.Machine.exec (.tempTimeout dt i) s = .next (s.ended
      (((s.elapse dt).raise evStandTemp i [0x80000000]).updStand i fun st => { st with tempLost := true })))

/-- A STATUS packet is what the A9 knows of its stand: bytes, type, serial, flags and rails are taken, and the stand is seen; a rail
out of 15.0 V ± 5 % makes it dark with every band unknown. -/
def Claim.StatusIsTaken : Prop :=
  ∀ (dt pos i : Nat) (l : Fin 16) (b : List Byte) (s : State), s.linkUp l = true → s.standAt l pos = some i → (s.stand i).admission ≠ 1 →
    i < s.stands.length →
    let m := (s.elapse dt).statusPacket i b
    Sys2Proof.Machine.exec (.statusReceived dt l pos b) s = .next (s.ended m) ∧
    (m.stand i).statusBytes = padTo 40 b ∧ (m.stand i).stypeSeen = u8 b 4 ∧ (m.stand i).serialSeen = u64 b 8 ∧
    (m.stand i).seen = true ∧ (m.stand i).statusMiss = 0 ∧ (m.stand i).railP = u16 b 16 ∧ (m.stand i).railN = u16 b 18 ∧
    (u16 b 16 < 14250 ∨ 15750 < u16 b 16 → (m.stand i).railFault = true ∧ (m.stand i).dark = true)

/-- A DIAG packet of KIND 2 declares each fault it lists; one of KIND 3 brings the next bytes of a memory that is read; one of KIND 1 gives its samples to the slot that asked for them and, with the
slot's last sample, closes it. -/
def Claim.DiagnosticsAreTaken : Prop :=
  ∀ (dt pos i sub row tick first : Nat) (l : Fin 16) (data : List Byte) (s : State), s.linkUp l = true →
    s.standIn l pos (s.fullTick tick) = some i →
    let e := s.elapse dt
    let one := fun (s : State) (n : Nat) =>
      if u16 data (4 * n) < 16384 ∧ u8 data (4 * n + 3) % 4 < 3 then
        s.declareFault i (u16 data (4 * n)) (u8 data (4 * n + 2)) (u8 data (4 * n + 3) % 4) (bitOf (u8 data (4 * n + 3)) 2)
      else s
    Sys2Proof.Machine.exec (.diagReceived dt l pos 2 sub row tick first data) s =
      .next (s.ended ((List.range (data.length / 4)).foldl one e)) ∧
    Sys2Proof.Machine.exec (.diagReceived dt l pos 3 sub row tick first data) s =
      .next (s.ended (e.updCal i fun c => c.memoryIn first data)) ∧
    (∀ c : Cal, c.op = 1 ∨ c.op = 4 ∨ c.op = 5 → first = c.memoryTo → data.length ≤ 65536 →
      c.memoryIn first data = { c with memory := Mem.writes c.memory first data, memoryTo := first + data.length }) ∧
    (∀ slot, ((s.link l).measSlots.find? fun c => c.2.2.1 == i && c.1 % 0x100000000 == tick && (c.2.1 == sub || s.calSlot c)) = some slot →
      let cal := s.calSlot slot
      let n := first + (diagSamples data).length
      let a := e.samplesOf cal (!voidSlot slot) i (if cal then row else slot.2.2.2) first (diagSamples data)
      (n < 49152 ∨ (cal = true ∧ (row ≠ 255 ∨ sub ≠ 3)) →
        Sys2Proof.Machine.exec (.diagReceived dt l pos 1 sub row tick first data) s = .next (s.ended a)) ∧
      (49152 ≤ n → cal = false ∨ (row = 255 ∧ sub = 3) →
        Sys2Proof.Machine.exec (.diagReceived dt l pos 1 sub row tick first data) s = .next (s.ended (a.closeSlot l slot)))) ∧
    (((s.link l).measSlots.find? fun c => c.2.2.1 == i && c.1 % 0x100000000 == tick && (c.2.1 == sub || s.calSlot c)) = none →
      Sys2Proof.Machine.exec (.diagReceived dt l pos 1 sub row tick first data) s = .next (s.ended e))

/-- An ACK of a command ends its wait; the ACK of the window that a stand was last sent takes the stand's bands, its dark hogels and the
next window on, also of one that a new map has dropped while packets still name it.  An ACK of another window changes nothing. -/
def Claim.AcksAreTaken : Prop :=
  ∀ (dt pos sub cmdId tick states dark pairs : Nat) (l : Fin 16) (s : State), s.linkUp l = true →
    let e := s.elapse dt
    (∀ op, (s.link l).cmds.find? (fun c => c.1 == cmdId) = some (cmdId, pos, op) → op ≠ 1 →
      Sys2Proof.Machine.exec (.ackReceived dt l pos 0 sub cmdId tick states dark pairs) s = .next (s.ended
        (e.updLink l fun k => { k with cmds := k.cmds.filter fun c => c.1 != cmdId }))) ∧
    (let took := fun (s : State) => match s.standIn l pos (s.fullTick tick) with
      | none => s
      | some i =>
        let win := (s.stand i).steerWin - 1
        if win / 4 % 0x100000000 = tick ∧ win % 4 = sub then s.windowAck i (win / 4) sub states dark pairs else s
     Sys2Proof.Machine.exec (.ackReceived dt l pos 1 sub cmdId tick states dark pairs) s = .next (s.ended (e.withLeft took)) ∧
     (s.synth.left = [] → e.withLeft took = took e))

/-! ### The frame store -/

/-- A refresh falls due an interval after the last one.  At a pseudo-channel with an admitted real-time read it is postponed, at most
4 of them, and from then on forced and counted; without one it is issued; the stack IDs in power-down wake.  Before it is due nothing
happens.  Debt is repaid while no real-time read is held.  A stack ID without a request for IDLE_NS enters power-down. -/
def Claim.Refreshes : Prop :=
  ∀ (dt n k sid : Nat) (s : State), n < 128 → s.storeUp (n / 64) = true → s.fs.selfRefresh = false →
    let c := s.fs.pc n
    let e := s.elapse dt
    let issued (rt : Bool) (c : PseudoChannel) : PseudoChannel :=
      { c with inRt := rt, refAt := e.clock.up, powered := []
               woke := (c.woke.filter fun x => !c.powered.contains x.1) ++ c.powered.map fun k => (k, e.clock.up) }
    (e.refreshAt n ≤ e.clock.up →
      Sys2Proof.Machine.exec (.refreshDue dt n false) s = .next (s.ended (e.updPc n (issued false))) ∧
      (c.debt < 4 → Sys2Proof.Machine.exec (.refreshDue dt n true) s = .next (s.ended (e.updPc n fun c =>
        { issued true c with debt := c.debt + 1, maxDebt := max c.maxDebt (c.debt + 1) }))) ∧
      (4 ≤ c.debt → Sys2Proof.Machine.exec (.refreshDue dt n true) s = .next (s.ended (e.updPc n fun c =>
        { issued true c with forced := c.forced + 1 })))) ∧
    (e.clock.up < e.refreshAt n → ∀ rt, Sys2Proof.Machine.exec (.refreshDue dt n rt) s = .next (s.ended e)) ∧
    (0 < c.debt → Sys2Proof.Machine.exec (.refreshRepay dt n k) s =
      .next (s.ended (e.updPc n fun c => { c with inRt := false, debt := c.debt - k }))) ∧
    (c.debt = 0 → Sys2Proof.Machine.exec (.refreshRepay dt n k) s = .next (s.ended e)) ∧
    (s.settings.pdOff = false → sid ≤ 3 → e.busyId n sid = false → Sys2Proof.Machine.exec (.idlePowerDown dt n sid) s =
      .next (s.ended (e.updPc n fun c => { c with powered := addOnce c.powered sid }))) ∧
    (s.settings.pdOff = true ∨ e.busyId n sid = true → Sys2Proof.Machine.exec (.idlePowerDown dt n sid) s = .next (s.ended e))

/-- The stacks' sensors are read every millisecond, and a die throttles where one of its two stacks is above 95.0 °C.  A
real-time port whose FIFO falls below 24 KiB enters panic, counted once, also by its die; one filled to 48 KiB leaves it; one that
runs empty while data is owed has its underrun counted. -/
def Claim.SensorsAndPanics : Prop :=
  (∀ (dt : Nat) (temps : List (Option Int)) (s : State),
    let m := ((s.elapse dt).stackSample temps).stackThrottle
    Sys2Proof.Machine.exec (.stackTempSample dt temps) s = .next (s.ended m) ∧
    (∀ k < 4, m.fs.stackTemp.getD k none = (temps.getD k none).map (clampI (-32767) 32767)) ∧
    (∀ d < 2, m.power.stackThr.getD d false =
      [2 * d, 2 * d + 1].any fun k => (m.fs.stackTemp.getD k none).any fun t => 950 < t)) ∧
  (∀ (dt : Nat) (port : Fin 16) (s : State),
    let e := s.elapse dt
    let at' (fill : Nat) : FrameStore := { e.fs with rtFill := upd e.fs.rtFill port fun _ => fill }
    let enters (f : FrameStore) : FrameStore := { f with
      rtPanic := insertKey f.rtPanic port true
      panicsFrame := insertKey f.panicsFrame port (lookupD f.panicsFrame port 0 + 1)
      panics := upd f.panics (dieOfPort port) fun n => (n + 1) % 0x100000000 }
    let ran (fill : Nat) (owes : Bool) (f : FrameStore) : FrameStore := if fill = 0 ∧ owes ∧ e.fs.rtFill.getD port 0 ≠ 0
      then { f with underruns := upd f.underruns (dieOfPort port) fun n => (n + 1) % 0x100000000 } else f
    let inNow := lookupD e.fs.rtPanic port false
    ∀ (fill : Nat) (owes : Bool),
    (fill < 24576 → inNow = false → Sys2Proof.Machine.exec (.realTimePanic dt port fill owes) s =
      .next (s.ended { e with fs := enters (ran fill owes (at' fill)) })) ∧
    (fill < 24576 → inNow = true → Sys2Proof.Machine.exec (.realTimePanic dt port fill owes) s =
      .next (s.ended { e with fs := ran fill owes (at' fill) })) ∧
    (24576 ≤ fill → fill < 49152 → Sys2Proof.Machine.exec (.realTimePanic dt port fill owes) s =
      .next (s.ended { e with fs := at' fill })) ∧
    (49152 ≤ fill → Sys2Proof.Machine.exec (.realTimePanic dt port fill owes) s =
      .next (s.ended { e with fs := { at' fill with rtPanic := removeKey e.fs.rtPanic port } })))

/-- A training pass that ends is counted as a success or a failure on the dies that ran it, a full one marks its set point trained or
untrained on them (at Bring-up their soft repairs become permanent; at a rejoin a good one refills the die), and EV_TRAIN_DONE follows; a failed pass of the target of a change ends the change at the old set point. -/
def Claim.Training : Prop :=
  (∀ (dt sp kind : Nat) (tag : Word) (rest : List (Nat × Nat × Word)) (s : State),
    s.fs.trainQueue = (sp, kind, tag) :: rest → s.fs.changing = false →
    let point := if sp = 0xFF then s.fs.setPoint else sp
    let e := s.elapse dt
    let dies := e.passDies kind
    let each (l : List Nat) : List Nat := l.mapIdx fun d n => if dies.contains d then (n + 1) % 0x100000000 else n
    let temps := (List.range 4).map fun k => if dies.contains (k / 2)
      then (s.fs.stackTemp.getD k none).getD (s.fs.lastTrainTemp.getD k 0) else s.fs.lastTrainTemp.getD k 0
    let base := { e.fs with
      trainQueue := rest, lastTrainUp := e.clock.up, changeFrom := e.clock.up, lastTrainTemp := temps
      lastTrainAt := s.fs.lastTrainAt.mapIdx fun d t => if dies.contains d then e.nowNs else t }
    let good := { base with trainPasses := each s.fs.trainPasses }
    let bad := { base with trainFails := each s.fs.trainFails }
    (livePass kind = true →
      Sys2Proof.Machine.exec (.trainPassEnd dt true) s = .next (s.ended
        (({ e with fs := good } : State).raise evTrainDone noUnit [point, 0] tag).changeAtOnce) ∧
      Sys2Proof.Machine.exec (.trainPassEnd dt false) s = .next (s.ended
        (({ e with fs := bad } : State).raise evTrainDone noUnit [point, 1] tag).changeAtOnce)) ∧
    (livePass kind = false →
      (let f := { good with
          trained := s.fs.trained.mapIdx fun d m => if dies.contains d then m ||| 2 ^ point else m
          avail := s.fs.avail.mapIdx fun d a => a || dies.contains d
          scrubAt := s.fs.scrubAt.mapIdx fun d t => if dies.contains d && !s.fs.avail.getD d false then e.clock.up else t
          pcs := if kind = 3 then s.fs.pcs.map fun (c : PseudoChannel) => if dies.contains (c.pc / 64) then { c with bankSoft := [] } else c
            else s.fs.pcs }
       Sys2Proof.Machine.exec (.trainPassEnd dt true) s = .next (s.ended
         (({ e with fs := if kind = 4 ∨ kind = 5 then f.refill (kind - 4) else f } : State).raise
           evTrainDone noUnit [point, 0] tag).changeAtOnce)) ∧
      (let m := ({ e with fs := { bad with
          trained := s.fs.trained.mapIdx fun d m => if dies.contains d then m &&& (15 ^^^ 2 ^ point) else m } } : State).raise
            evTrainDone noUnit [point, 2] tag
       (s.fs.pending ≠ some point → Sys2Proof.Machine.exec (.trainPassEnd dt false) s = .next (s.ended m.changeAtOnce)) ∧
       (s.fs.pending = some point →
         Sys2Proof.Machine.exec (.trainPassEnd dt false) s = .next (s.ended (m.changeOver s.fs.setPoint s.fs.setPoint))))))

/-- A pending set-point change starts where no pass is queued and the instant lies in a gap that opened after the change was asked
for, or it needs none; one that ends verified
puts the new set point in force, one that does not leaves the old and marks the target untrained; both end with EV_SET_POINT. -/
def Claim.SetPointChanges : Prop :=
  ∀ (dt t : Nat) (s : State), s.fs.pending = some t →
    let e := s.elapse dt
    (s.fs.trainQueue = [] → s.fs.changing = false → s.needsNoGap = true ∨ (e.inGap = true ∧ s.fs.changeFrom ≤ e.gapAt) →
      Sys2Proof.Machine.exec (.setPointChangeStart dt) s = .next (s.ended { e with fs := { e.fs with changing := true } })) ∧
    (s.fs.trainQueue ≠ [] ∨ s.fs.changing = true ∨ (s.needsNoGap = false ∧ (e.inGap = false ∨ e.gapAt < s.fs.changeFrom)) →
      Sys2Proof.Machine.exec (.setPointChangeStart dt) s = .next (s.ended e)) ∧
    (s.fs.changing = true →
      Sys2Proof.Machine.exec (.setPointChangeEnd dt true) s = .next (s.ended
        (({ e with fs := { e.fs with setPoint := t } } : State).changeOver s.fs.setPoint t)) ∧
      Sys2Proof.Machine.exec (.setPointChangeEnd dt false) s = .next (s.ended
        (({ e with fs := { e.fs with trained := s.fs.trained.map fun m => m &&& (15 ^^^ 2 ^ t) } } : State).changeOver
          s.fs.setPoint s.fs.setPoint))) ∧
    (s.fs.changing = false → ∀ ok, Sys2Proof.Machine.exec (.setPointChangeEnd dt ok) s = .next (s.ended e))

/-- A corrected read counts at its pseudo-channel and at its row; the first error of a second raises EV_MEM_CORRECTED, the fourth at
one row within 24 h makes the row due for soft repair, and the eighth at one ray-frame page within 24 h retires the page. -/
def Claim.CorrectedReads : Prop :=
  ∀ (dt a : Nat) (s : State), a < 128 * gib → s.storeUp (a / (64 * gib)) = true →
    let n := pcOf (s.servedAt a)
    let row := (locOf (s.servedAt a)).rowCode
    let b := ((s.elapse dt).updPc n fun c => { c with corrected := c.corrected + 1, corrSince := c.corrSince + 1 }).correctedEvent n
    let m := { b with fs := { b.fs with rowErrs := addAt b.fs.rowErrs n row b.recent24 b.clock.up } }
    let d := if 4 ≤ countAt m.fs.rowErrs n row then m.dueRow n row else m
    let pg := pageOf a
    let x := { d with fs := { d.fs with pageErrs := addAt d.fs.pageErrs pg.1 pg.2 d.recent24 d.clock.up } }
    (regionOf a ≠ 1 → Sys2Proof.Machine.exec (.memCorrectedRead dt a) s = .next (s.ended d)) ∧
    (regionOf a = 1 → countAt x.fs.pageErrs pg.1 pg.2 < 8 → Sys2Proof.Machine.exec (.memCorrectedRead dt a) s = .next (s.ended x)) ∧
    (regionOf a = 1 → 8 ≤ countAt x.fs.pageErrs pg.1 pg.2 →
      Sys2Proof.Machine.exec (.memCorrectedRead dt a) s = .next (s.ended (x.retirePage pg.1 pg.2)))

/-- An uncorrectable read poisons its granule, counts, raises EV_MEM_UNCORRECTED with the address, makes the row due for repair
and gives the reader its region's outcome; a read of a granule poisoned before is only counted and gives that outcome. -/
def Claim.UncorrectableReads : Prop :=
  ∀ (dt a port : Nat) (s : State), a < 128 * gib → port ≤ 46 → s.storeUp (a / (64 * gib)) = true →
    let n := pcOf (s.servedAt a)
    let row := (locOf (s.servedAt a)).rowCode
    let e := s.elapse dt
    (e.isPoisoned a = true → Sys2Proof.Machine.exec (.memUncorrectableRead dt a port) s = .next (s.ended
      ((e.updPc n fun c => { c with poisonReads := (c.poisonReads + 1) % 0x100000000 }).poisonOutcome a port))) ∧
    (e.isPoisoned a = false →
      let m := ((e.updPc n fun c => { c with uncorrected := (c.uncorrected + 1) % 0x100000000 }).poison (granuleOf a)).raise
        evMemUncorrected n [lo32 a, hi32 a]
      let spent := (m.fs.pc n).bankLeft (bankOfRow row) = 0
      let o := (if spent then m else m.dueRow n row).poisonOutcome a port
      (regionOf (s.servedAt a) ≠ 10 → Sys2Proof.Machine.exec (.memUncorrectableRead dt a port) s =
        .next (s.ended (if spent then o.hardwareError 5 n 1 else o))) ∧
      (regionOf (s.servedAt a) = 10 → Sys2Proof.Machine.exec (.memUncorrectableRead dt a port) s = .next (s.ended (o.hardwareError 5 n 1))))

/-- A row that awaits soft repair is repaired in the gap, or at once where none is needed: its bank has one resource less, its errors
are forgotten, and EV_ROW_SPARED names it; outside the gap, or with no resource left, it is not repaired. -/
def Claim.RowsAreSpared : Prop :=
  ∀ (dt n row : Nat) (s : State), s.fs.rowsDue.contains (n, row) = true →
    let e := s.elapse dt
    let b := bankOfRow row
    let off := { e with fs := { e.fs with rowsDue := s.fs.rowsDue.filter (· != (n, row)) } }
    let used := off.updPc n fun c => { c with
      bankUsed := insertKey c.bankUsed b (lookupD c.bankUsed b 0 + 1), bankSoft := insertKey c.bankSoft b (lookupD c.bankSoft b 0 + 1)
      rowsSpared := (c.rowsSpared + 1) % 0x100000000 }
    (s.needsNoGap = true ∨ e.inGap = true → Sys2Proof.Machine.exec (.rowSpare dt n row) s = .next (s.ended
      (if (s.fs.pc n).bankLeft b = 0 then off else ({ used with fs := { used.fs with
          rowErrs := s.fs.rowErrs.filter fun x => !(x.1 == n && x.2.1 == row) } } : State).raise
        evRowSpared n [row]))) ∧
    (s.needsNoGap = false → e.inGap = false → Sys2Proof.Machine.exec (.rowSpare dt n row) s = .next (s.ended e))

/-- Copies that end: a retiring page is then moved at a blank; the frames of a SCAN.FRAME_BASE in hand that has not applied stand at
its new place (the frames in use are released if all it waits for is done); a fenced pseudo-channel is served from the reserve.  A
patrol scrub, once in 24 h, counts its pass and reports the corrections of its die. -/
def Claim.CopiesAndScrubsEnd : Prop :=
  ∀ (dt n page : Nat) (die : Fin 2) (s : State),
    let e := s.elapse dt
    let f := e.fs
    (Sys2Proof.Machine.exec (.pageRetireCopyEnd dt die page) s = .next (s.ended { e with fs := { f with
      retiring := f.retiring.map fun r => if r.1 == die.val && r.2.1 == page then (die.val, page, true) else r } })) ∧
    (∀ m : Nat, (f.moves.findIdx? fun v => v.die == die.val && !v.copied) = some m →
      let v := f.moves.getD m {}
      let c := if v.applied then e else e.copyFrames e.settings die v.old v.new
      Sys2Proof.Machine.exec (.frameBaseCopyEnd dt die) s = .next (s.ended
        (({ c with fs := { c.fs with moves := upd c.fs.moves m fun v => { v with copied := true } } } : State).releaseFrames
          (c.clock.tick + b2n c.clock.blank)))) ∧
    ((f.moves.findIdx? fun v => v.die == die.val && !v.copied) = none →
      Sys2Proof.Machine.exec (.frameBaseCopyEnd dt die) s = .next (s.ended e)) ∧
    (f.reserveCopy.contains n = true → Sys2Proof.Machine.exec (.reserveCopyEnd dt n) s = .next (s.ended
      (({ e with fs := { f with reserveCopy := f.reserveCopy.filter (· != n) } } : State).updPc n fun c => { c with reserve := true }))) ∧
    (s.storeUp die = true → e.since (f.scrubAt.getD die 0) (hours 24) = true → Sys2Proof.Machine.exec (.patrolScrub dt die) s = .next (s.ended
      (forEach (span (64 * die.val) (64 * die.val + 64))
        { e with fs := { f with
            scrubPasses := upd f.scrubPasses die (fun n => (n + 1) % 0x100000000), scrubAt := upd f.scrubAt die fun _ => e.clock.up } }
        fun n s => s.correctedEvent n))) ∧
    (e.since (f.scrubAt.getD die 0) (hours 24) = false → Sys2Proof.Machine.exec (.patrolScrub dt die) s = .next (s.ended e))

/-! ### The skyline -/

/-- Every 100 µs, while its lanes run, the root gives addresses, the replay timers of the ports act, and a beacon goes out on every port
that carries.  A beacon that arrives on a port that carries is what the A9 knows of that neighbour: it feeds the AND, what the neighbour's
selection says of addresses goes on, a dead port may be restored, a parent without a path to a root is lost, and one with a path tells of
a jump; where no parent is selected the best port is. -/
def Claim.Beacons : Prop :=
  (∀ (dt : Nat) (s : State),
    let e := s.elapse dt
    let a := forEach (List.range 4) e.assignAddresses fun p t => t.portTimer p
    (s.lanesRun = true → Sys2Proof.Machine.exec (.beaconSend dt) s = .next (s.ended
      (forEach ((List.range 4).filter fun p => (a.port p).carries) a fun p t => t.sendPort p 0x11 (t.beaconBytes p)))) ∧
    (s.lanesRun = false → Sys2Proof.Machine.exec (.beaconSend dt) s = .next (s.ended e))) ∧
  (∀ (dt : Nat) (p : Fin 4) (bytes : List Byte) (rx : SkyRx) (s : State), Sys2Proof.Machine.exec (.beaconReceived dt p bytes rx) s =
    .next (s.ended ((s.elapse dt).arrives p rx fun t => t.beaconReceived p bytes))) ∧
  (∀ (p : Fin 4) (bytes : List Byte) (t : State),
    let b := beaconOf bytes
    let here := b.flags.getLsbD 2
    ((t.port p).carries = false → t.beaconReceived p bytes = t) ∧
    ((t.port p).carries = true →
      let h := t.updPort p fun q => { q with
        heard := b, lastBeacon := t.clock.up, goodSince := some (q.goodSince.getD t.clock.up)
        inAnd := if q.grace.isSome && !here then q.inAnd else here && (q.up || q.inAnd)
        grace := if here && q.up then none else q.grace, leftOut := q.leftOut && !(here && q.up) }
      let c := if here then h.hear { address := b.address, serial := b.serial, port := p, path := [t.roleOrder p] }
        else { h with chain := { h.chain with claims := h.chain.claims.filter fun c => c.port != p.val } }
      let r := (if c.role p = 1 ∨ c.role p = 2 then c else c.restorePort p).noteDepths
      let fixed := r.chain.parent.isSome = true ∨ (r.chain.hadParent = true ∧ (r.port p).up = false)
      (r.settings.chainRoot = true → t.beaconReceived p bytes = r) ∧
      (r.settings.chainRoot = false → r.chain.parent = some p.val → b.depth < 0xFF → t.beaconReceived p bytes = r.followJump b) ∧
      (r.settings.chainRoot = false → r.chain.parent = some p.val → 0xFF ≤ b.depth → t.beaconReceived p bytes = r.parentLost p b.address) ∧
      (r.settings.chainRoot = false → r.chain.parent ≠ some p.val → fixed ∨ r.bestPort = none → t.beaconReceived p bytes = r) ∧
      (r.settings.chainRoot = false → ¬ fixed → ∀ q, r.bestPort = some q → t.beaconReceived p bytes = r.setParent q)))

/-- The link frames around a packet of a skyline port: the packet arrives where every frame that carried it was taken; a good frame frees
what it acknowledges; 4 µs without progress start a replay, the fourth in a row a recovery, and the third recovery within a second takes
the port down. -/
def Claim.SkylineFrames : Prop :=
  ∀ (p : Nat) (t : State),
    (∀ (rx : SkyRx) (f : State → State), ((t.portTimer p).port p).carries = false → t.arrives p rx f = f (t.portTimer p)) ∧
    (∀ (bs : List (Nat × Nat)), (t.portFrame p bs).2 = false →
      ∃ (scr : List Nat) (body : List Byte), t.portFrame p bs = ((t.updPort p fun q => { q with rxCrc := (q.rxCrc + 1) % 0x100000000, fr := { q.fr with rxScr := scr, rxDiscard := true } }).portAck
        p (frameOf bs body), false)) ∧
    (∀ (bs : List (Nat × Nat)), (t.portFrame p bs).2 = true →
      ∃ (scr : List Nat) (body : List Byte), t.portFrame p bs = ((t.updPort p fun q => { q with
        fr := { q.fr with rxScr := scr, rxExpect := ((t.port p).fr.rxExpect + 1) % 32768, rxDiscard := false } }).portAck p (frameOf bs body), true)) ∧
    (∀ (f : LinkFrame), f.good = false → t.portAck p f = t) ∧
    (∀ (f : LinkFrame), f.good = true → f.nak = false →
      let k := (t.port p).fr
      let moved := seqGap k.txAcked ((f.ack + 1) % 32768)
      (0 < moved ∧ moved ≤ seqGap k.txAcked k.txNext → t.portAck p f = t.updFr p fun k =>
        { k with txAcked := (f.ack + 1) % 32768, txSince := t.clock.up, txReplays := 0, txReplay := none, txHeld := k.txHeld.drop moved }) ∧
      (moved = 0 ∨ seqGap k.txAcked k.txNext < moved → t.portAck p f = t)) ∧
    ((t.port p).fr.recovering = none → (t.port p).carries = true → (t.port p).fr.txAcked ≠ (t.port p).fr.txNext →
      (t.port p).fr.txSince + 12000 ≤ t.clock.up → t.portTimer p = t.portReplay p) ∧
    (let n := (t.port p).fr.txReplays + 1
     let m := t.updPort p fun q => { q with
       replays := (q.replays + 1) % 0x100000000, fr := { q.fr with txReplay := some q.fr.txAcked, txReplays := n, txSince := t.clock.up } }
     (n < 4 → t.portReplay p = m.portResend p) ∧ (4 ≤ n → t.portReplay p = m.portRecovery p)) ∧
    (p < t.chain.ports.length →
      let times := ((t.port p).fr.recoveryTimes.filter fun i => !t.since i (sec 1)) ++ [t.clock.up]
      ((t.portRecovery p).port p).state = if 3 ≤ times.length then 0 else 1)

/-- A RELAY packet from the parent is relayed on and its data placed, while the lanes run; one from another parent-side port that is up
is kept, at most 16 MiB; no other port, and none that is not up, takes one. -/
def Claim.RelayPackets : Prop :=
  ∀ (seq : Nat) (p : Fin 4) (n : Fin 8) (desc : List Byte) (found : Placed),
    (∀ (dt : Nat) (rx : SkyRx) (s : State), Sys2Proof.Machine.exec (.relayReceived dt p n seq desc found rx) s =
      .next (s.ended ((s.elapse dt).arrives p rx fun t => t.relayReceived p n seq desc found))) ∧
    (∀ t : State,
      ((t.port p).up = false ∨ t.lanesRun = false → t.relayReceived p n seq desc found = t) ∧
      ((t.port p).up = true → t.lanesRun = true → t.chain.parent = some p.val →
        let o := t.relayOut n seq desc found
        t.relayReceived p n seq desc found =
          ({ o with chain := { o.chain with relayNext := upd o.chain.relayNext n fun _ => (seq + 1) % 0x100000000 } } : State).relayTake
            n seq desc found) ∧
      ((t.port p).up = true → t.lanesRun = true → t.chain.parent ≠ some p.val → t.role p = 1 ∨ t.role p = 2 →
        t.relayReceived p n seq desc found = t.updPort p fun q => { q with
          buffer := keepRelay (joinRelay q.buffer { stream := n, seq := seq, desc := desc, placed := found }) }) ∧
      ((t.port p).up = true → t.lanesRun = true → t.chain.parent ≠ some p.val → t.role p ≠ 1 → t.role p ≠ 2 →
        t.relayReceived p n seq desc found = t))

/-- A tunnelled command from the parent goes on toward its target, or runs where it is and its response goes up; at the root a
response completes the mailbox that waits for it with the same OPCODE and TAG, and no other; what an A9 farther down hears, or hears no
more, is noted; an event from a child is delivered with the sender as its origin. -/
def Claim.ManagementPackets : Prop :=
  (∀ (dt kind sender : Nat) (p : Fin 4) (m : Fin 8) (bytes : List Byte) (rx : SkyRx) (s : State),
    Sys2Proof.Machine.exec (.mgmtReceived dt p kind m bytes rx) s =
      .next (s.ended ((s.elapse dt).arrives p rx fun t => t.mgmtReceived p kind m bytes)) ∧
    Sys2Proof.Machine.exec (.eventReceived dt p sender bytes rx) s =
      .next (s.ended ((s.elapse dt).arrives p rx fun t => t.eventReceived p sender bytes))) ∧
  ∀ (sender : Nat) (p : Fin 4) (m : Fin 8) (bytes : List Byte) (s : State),
    let c : Cmd := { Cmd.parse m.val bytes with tunnelled := true }
    let run := fun (kind : Nat) => s.mgmtReceived p kind m bytes
    ((s.port p).up = false → ∀ kind, run kind = s) ∧
    ((s.port p).up = true → s.chain.parent = some p.val →
      (c.target ≠ s.ownAddress → run 0 = s.sendDown m bytes) ∧
      (c.target = s.ownAddress → s.serves = true → ∀ d, commandDef c.opcode = some d →
        run 0 = (runCmd d c s).1.sendUp m ((runCmd d c s).2.bytes c)) ∧
      (c.target = s.ownAddress → s.serves = true → commandDef c.opcode = none →
        run 0 = s.sendUp m ((({ status := stBadOpcode, field := 0 } : Err).resp c).bytes c)) ∧
      run 1 = s ∧ run 2 = s.addressIn bytes ∧ run 5 = s ∧ run 6 = s) ∧
    ((s.port p).up = true → s.chain.parent ≠ some p.val → run 0 = s ∧ run 2 = s ∧ run 6 = s.lose p (u64 bytes 0) ∧
      run 5 = s.hear { address := u8 bytes 0, serial := u64 bytes 1, port := p, path := s.roleOrder p :: (bytes.drop 9).map (·.toNat) } ∧
      (s.settings.chainRoot = false → run 1 = s.sendUp m bytes) ∧
      (s.settings.chainRoot = true →
        let b := s.mbx m
        let answers := s.serves = true ∧ b.state = 2 ∧ b.tunnelled = true ∧ u16 bytes 0 = u16 b.running 0 ∧ u32 bytes 4 = u32 b.running 4
        (answers → u16 bytes 0 ≠ 0x0101 → run 1 = s.completeBytes m (padTo (16 + min 4080 (u16 bytes 8)) bytes)) ∧
        (answers → u16 bytes 0 = 0x0101 → u16 bytes 2 = 0 →
          run 1 = s.readRevision.completeBytes m (padTo (16 + min 4080 (u16 bytes 8)) bytes)) ∧
        (¬ answers → run 1 = s))) ∧
    ((s.port p).up = true → s.chain.parent ≠ some p.val → s.eventReceived p sender bytes = s.deliver (recordOf bytes sender)) ∧
    ((s.port p).up = false ∨ s.chain.parent = some p.val → s.eventReceived p sender bytes = s)

/-- A port that is up, or was, and loses lock for 100 µs, or beacons for 300 µs, is dead: bypassed and counted, with EV_CHAIN_BYPASS and
its grace period running where its READY was in the AND; a dead parent gives way to the best port left.  A port that is dead already and
whose lanes were up again has to earn its restoration anew. -/
def Claim.PortsDie : Prop :=
  ∀ (dt : Nat) (p : Fin 4) (lockLost : Bool) (s : State),
    let e := s.elapse dt
    let live := (s.port p).carries = true ∨ (s.port p).wasUp = true
    let gone := lockLost = true ∨ (s.port p).lastBeacon + 900000 ≤ s.clock.up + dt
    let m := ((e.forget p).updPort p fun q => { q with
      state := 4, lanes := 0, goodSince := none, depthSince := none, bypasses := (q.bypasses + 1) % 0x100000000, hopReported := none,
      hopList := [], grace := if q.inAnd then some (e.forget p).clock.up else none, buffer := [], wasUp := false, fr := {} }).raise
        evChainBypass p [(s.port p).heard.address]
    (live → gone → (s.port p).state ≠ 4 → m.chain.parent ≠ some p.val →
      Sys2Proof.Machine.exec (.portDead dt p lockLost) s = .next (s.ended m)) ∧
    (live → gone → (s.port p).state ≠ 4 → m.chain.parent = some p.val → (∀ q, m.bestPort = some q →
      Sys2Proof.Machine.exec (.portDead dt p lockLost) s = .next (s.ended (m.setParent q))) ∧
      (m.bestPort = none → Sys2Proof.Machine.exec (.portDead dt p lockLost) s = .next (s.ended m.noParent))) ∧
    (live → gone → (s.port p).state = 4 → Sys2Proof.Machine.exec (.portDead dt p lockLost) s = .next (s.ended
      (e.updPort p fun q => { q with lanes := 0, goodSince := none, depthSince := none }))) ∧
    (¬ live ∨ ¬ gone → Sys2Proof.Machine.exec (.portDead dt p lockLost) s = .next (s.ended e))

/-- A port comes up at the rate its eye and the configuration allow, its frames from SEQ 0 on, a dead one with its restoration to be
earned by beacons; one whose recovery ends within 200 µs goes on where it was.  An A9 returns to a parent-side port that carried valid
beacons with a depth no greater than the parent's for one second. -/
def Claim.PortsComeUp : Prop :=
  ∀ (dt : Nat) (p : Fin 4) (full : Bool) (s : State),
    let e := s.elapse dt
    let rate := if full = true ∧ s.settings.maxRate = 0 then 2 else 3
    let again := ∃ t, (s.port p).fr.recovering = some t ∧ s.clock.up + dt ≤ t + 600000
    (s.role p ≠ 0 → (s.port p).up = false → (s.port p).state ≠ 4 → ¬ again → Sys2Proof.Machine.exec (.skylinePortUp dt p full) s =
      .next (s.ended ((e.updPort p fun q => { q with
        state := rate, goodSince := none, depthSince := none, lastBeacon := s.clock.up + dt, wasUp := true }).updFr p fun k =>
          { recoveryTimes := k.recoveryTimes }))) ∧
    (s.role p ≠ 0 → (s.port p).up = false → (s.port p).state ≠ 4 → again → Sys2Proof.Machine.exec (.skylinePortUp dt p full) s =
      .next (s.ended (((e.updPort p fun q => { q with state := rate }).updFr p fun k =>
        { k with recovering := none, txReplay := some k.txAcked, txSince := s.clock.up + dt }).portResend p))) ∧
    (s.role p ≠ 0 → (s.port p).up = false → (s.port p).state = 4 → ¬ again → Sys2Proof.Machine.exec (.skylinePortUp dt p full) s =
      .next (s.ended ((e.updPort p fun q => { q with
        lanes := rate, goodSince := none, depthSince := none, lastBeacon := s.clock.up + dt }).updFr p fun k => { recoveryTimes := k.recoveryTimes }))) ∧
    (s.role p = 0 ∨ (s.port p).up = true → Sys2Proof.Machine.exec (.skylinePortUp dt p full) s = .next (s.ended e)) ∧
    (s.settings.chainRoot = true → Sys2Proof.Machine.exec (.parentReturn dt p) s = .next (s.ended (e.restorePort p))) ∧
    (let q := s.port p
     let held (i : Option Nat) : Prop := ∃ t, i = some t ∧ t + 3000000000 ≤ s.clock.up + dt
     s.settings.chainRoot = false → s.role p = 1 ∨ s.role p = 2 → q.up = true → s.chain.parent ≠ some p.val →
      (q.heard.depth < 0xFF → q.heard.flags.getLsbD 2 = false → held q.goodSince → held q.depthSince →
        Sys2Proof.Machine.exec (.parentReturn dt p) s = .next (s.ended (e.setParent p))) ∧
      (0xFF ≤ q.heard.depth ∨ q.heard.flags.getLsbD 2 = true ∨ ¬ held q.goodSince ∨ ¬ held q.depthSince →
        Sys2Proof.Machine.exec (.parentReturn dt p) s = .next (s.ended e)))

/-- A TICK edge of the parent is forwarded FWD later on every fed port and, under source 3, measured, or followed at once where it
jumped by more than a slew; one of another port is not taken.  A jump that the parent's beacon announced is waited for, and the edge then
places the tick (log entry 133).  A READY input takes its level, which waits while a hop measurement holds it; a pulse is echoed on the READY pair. -/
def Claim.TickAndReady : Prop :=
  ∀ (dt : Nat) (p : Fin 4) (level : Bool) (s : State),
    let e := s.elapse dt
    let f := forEach s.fedPorts e fun q s => s.emit (.tickEdge q (e.clock.up + 3 * s.chain.fwdPs / 1000))
    (s.chain.parent ≠ some p.val → Sys2Proof.Machine.exec (.tickEdge dt p) s = .next (s.ended e)) ∧
    (s.chain.parent = some p.val → s.tb.source ≠ 3 → Sys2Proof.Machine.exec (.tickEdge dt p) s = .next (s.ended f)) ∧
    (∀ b : Beacon, let c := s.clock
      let told := s.tb.source = 3 ∧ s.tb.state = 2 ∧ s.tb.needStep = false ∧ s.tb.follow = false ∧ s.tb.change = none ∧
        b.nextTick = c.tick + 1 ∧ us 3 < ((3 * b.nextTime : Int) - (c.dev + (c.nextUp - c.up) : Nat)).natAbs
      (told → s.followJump b = { s with
        tb := { s.tb with follow := true }, clock := { c with nextUp := c.tickUp + 4 * subPeriod c.rate + s.period + blankTime } }) ∧
      (¬ told → s.followJump b = s)) ∧
    (s.chain.parent = some p.val → s.tb.source = 3 → s.tb.follow = true →
      let h := (s.port p).heard
      let next := e.clock.up + chainLead - 3 * f.dCum / 1000
      Sys2Proof.Machine.exec (.tickEdge dt p) s = .next (s.ended (({ f with
        tb := { f.tb with follow := false }
        clock := { f.clock with
          nextUp := next, dev := if h.nextTick = s.clock.tick + 1 then 3 * h.nextTime - (next - e.clock.up) else e.clock.dev } } :
            State).pulsesAfterJump f.nowNs))) ∧
    (s.chain.parent = some p.val → s.tb.source = 3 → s.tb.follow = false →
      let h := (s.port p).heard
      let off := phase s.period (((s.clock.up + dt : Nat) : Int) + chainLead - (3 * f.dCum / 1000 : Nat) - s.clock.nextUp)
      let jumped := s.tb.state = 2 ∧ s.tb.needStep = false ∧ us 1 < off.natAbs
      let m := if jumped then f.stepTick (off.fdiv 3) else f.measured (off.fdiv 3) (h.flags.getLsbD 0)
      (m.tb.state = 4 ∨ m.tb.state = 3 ∨ h.nextTick = 0 → Sys2Proof.Machine.exec (.tickEdge dt p) s = .next (s.ended m)) ∧
      (m.tb.state ≠ 4 → m.tb.state ≠ 3 → h.nextTick ≠ 0 → Sys2Proof.Machine.exec (.tickEdge dt p) s = .next (s.ended
        { m with clock := { m.clock with tick := h.nextTick - 1, dev := 3 * h.nextTime - (m.clock.nextUp - m.clock.up) } }))) ∧
    ((s.port p).holdUntil ≤ s.clock.up + dt → Sys2Proof.Machine.exec (.readyInputChange dt p level) s =
      .next (s.ended (e.updPort p fun q => { q with readyIn := level, readyRaw := level }))) ∧
    (s.clock.up + dt < (s.port p).holdUntil → Sys2Proof.Machine.exec (.readyInputChange dt p level) s =
      .next (s.ended (e.updPort p fun q => { q with readyRaw := level }))) ∧
    ((s.port p).up = true → Sys2Proof.Machine.exec (.hopEcho dt p) s = .next (s.ended (e.emit (.hopEcho p)))) ∧
    ((s.port p).up = false → Sys2Proof.Machine.exec (.hopEcho dt p) s = .next (s.ended e))

/-- A hop measurement of a port that is up: half the round trip less the echo time joins the last 64, their mean is the hop delay,
EV_HOP_DELAY reports the first and a change above 50 ps, and READY is held for 1 µs.  A dead port's grace period ends
after GRACE_US: its READY leaves the AND with EV_READY_GRACE. -/
def Claim.HopsAndGrace : Prop :=
  (∀ (dt roundPs : Nat) (p : Fin 4) (s : State), (s.port p).up = true →
    let q := s.port p
    let l := (q.hopList ++ [(roundPs - q.heard.echo) / 2]).drop (q.hopList.length + 1 - 64)
    let h := mean l
    let set := fun (r : Option Nat) => ((s.elapse dt).emit (.hopPulse p)).updPort p fun q =>
      { q with hopList := l, hopPs := h, hopReported := r, holdUntil := s.clock.up + dt + 3000 }
    (q.hopReported = none ∨ (∃ r, q.hopReported = some r ∧ 50 < ((h : Int) - r).natAbs) →
      Sys2Proof.Machine.exec (.hopMeasure dt p roundPs) s = .next (s.ended ((set (some h)).raise evHopDelay p [h]))) ∧
    (∀ r, q.hopReported = some r → ((h : Int) - r).natAbs ≤ 50 →
      Sys2Proof.Machine.exec (.hopMeasure dt p roundPs) s = .next (s.ended (set (some r))))) ∧
  (∀ (dt t : Nat) (p : Fin 4) (s : State), (s.port p).grace = some t →
    let e := s.elapse dt
    (t + 3000 * s.settings.graceUs ≤ s.clock.up + dt → Sys2Proof.Machine.exec (.readyGraceExpiry dt p) s = .next (s.ended
      ((e.updPort p fun q => { q with grace := none, inAnd := false, leftOut := true }).raise evReadyGrace p [s.settings.graceUs]))) ∧
    (s.clock.up + dt < t + 3000 * s.settings.graceUs →
      Sys2Proof.Machine.exec (.readyGraceExpiry dt p) s = .next (s.ended e)))

/-! ### The time base -/

/-- FSYNC_IN: an edge of a pulse shorter than 20 ns, of the other polarity, or while the input is not armed does nothing; one within 0.75 P of the last accepted is ignored, and the ninth
within a second disarms the input with EV_FSYNC_UNUSABLE; one in its place is accepted and measured.  Without an accepted edge for
2.5 P source 2 is in holdover. -/
def Claim.FrameSyncEdges : Prop :=
  ∀ (dt width : Nat) (fall : Bool) (s : State),
    let f := s.tb.fsync
    let e := s.elapse dt
    let now := s.clock.up + dt
    let put := fun (g : FsyncIn) => { e with tb := { s.tb with fsync := g } }
    let ign := (f.ignored.filter fun t => now < t + sec 1) ++ [now]
    (f.armed = false ∨ width < 20 ∨ fall ≠ f.falling → Sys2Proof.Machine.exec (.fsyncInEdge dt fall width) s = .next (s.ended e)) ∧
    (∀ l, f.armed = true → 20 ≤ width → fall = f.falling → f.last = some l → 4 * (now - l) < 3 * s.period →
      (ign.length ≤ 8 → Sys2Proof.Machine.exec (.fsyncInEdge dt fall width) s = .next (s.ended (put { f with ignored := ign }))) ∧
      (8 < ign.length → Sys2Proof.Machine.exec (.fsyncInEdge dt fall width) s = .next (s.ended
        (((put { f with armed := false, ignored := ign }).raise evFsyncUnusable noUnit [ign.length]).fsyncHoldover 3)))) ∧
    (f.armed = true → 20 ≤ width → fall = f.falling → (∀ l, f.last = some l → 5 * s.period < 2 * (now - l)) → Sys2Proof.Machine.exec (.fsyncInEdge dt fall width) s =
      .next (s.ended ((put { f with last := some now, offrate := 0, inrate := 0 }).fsyncMeasure true))) ∧
    (∀ l, f.armed = true → 20 ≤ width → fall = f.falling → f.last = some l → 3 * s.period ≤ 4 * (now - l) → 2 * (now - l) ≤ 5 * s.period →
      let off := 1000 * ((now : Int) - l - s.period).natAbs
      (off ≤ s.period → Sys2Proof.Machine.exec (.fsyncInEdge dt fall width) s = .next (s.ended
        ((put { f with last := some now, offrate := 0, inrate := f.inrate + 1 }).fsyncMeasure false))) ∧
      (s.period < off → f.offrate < 7 → Sys2Proof.Machine.exec (.fsyncInEdge dt fall width) s = .next (s.ended
        ((put { f with last := some now, offrate := f.offrate + 1, inrate := 0 }).fsyncMeasure false))) ∧
      (s.period < off → 7 ≤ f.offrate → Sys2Proof.Machine.exec (.fsyncInEdge dt fall width) s = .next (s.ended
        ((put { f with last := some now, offrate := f.offrate + 1, inrate := 0, recover := true }).fsyncHoldover 4)))) ∧
    (s.tb.source = 2 → 2 * max (f.last.getD 0) s.tb.appliedAt + 5 * s.period < 2 * now →
      Sys2Proof.Machine.exec (.fsyncStuck dt) s = .next (s.ended (e.holdover 2))) ∧
    (s.tb.source ≠ 2 ∨ 2 * now ≤ 2 * max (f.last.getD 0) s.tb.appliedAt + 5 * s.period →
      Sys2Proof.Machine.exec (.fsyncStuck dt) s = .next (s.ended e))

/-- PTP: a Sync on a port with a master is noted, and measured under source 1; an Announce that the best master clock algorithm selects
makes its grandmaster the port's master and no other port's, with EV_PTP_MASTER unless it was a port's master before; the receipt timeout loses it, and with the last master
of all ports source 1 is in holdover. -/
def Claim.PtpMasters : Prop :=
  ∀ (dt secs nanos : Nat) (n : Fin 2) (corr : Int) (identity : BitVec 64) (s : State),
    let q := s.ptpPort n
    let e := s.elapse dt
    let now := s.clock.up + dt
    (let t1 := 65536 * (((secs : Int) - q.offsetS) * 1000000000 + nanos) + corr
     let t2 : Int := (e.clock.dev * 65536 / 3 : Nat)
     let m := e.updPtp n fun q => { q with syncT1 := t1, syncT2 := t2 }
     q.mode ≠ 0 → q.master.isSome = true →
      (s.tb.source = 1 → Sys2Proof.Machine.exec (.ptpSync dt n secs nanos corr) s =
        .next (s.ended (m.measured ((t1 + 65536 * (q.pathDelayNs + q.asymNs) - t2).fdiv 65536)))) ∧
      (s.tb.source ≠ 1 → Sys2Proof.Machine.exec (.ptpSync dt n secs nanos corr) s = .next (s.ended m))) ∧
    (q.mode = 0 ∨ q.master = none → Sys2Proof.Machine.exec (.ptpSync dt n secs nanos corr) s = .next (s.ended e)) ∧
    (q.mode = 0 → ∀ sel, Sys2Proof.Machine.exec (.ptpAnnounce dt n identity sel) s = .next (s.ended e)) ∧
    (q.mode ≠ 0 → q.master = some identity → ∀ sel, Sys2Proof.Machine.exec (.ptpAnnounce dt n identity sel) s =
      .next (s.ended (e.updPtp n fun q => { q with lastAnnounce := now }))) ∧
    (q.mode ≠ 0 → q.master ≠ some identity → Sys2Proof.Machine.exec (.ptpAnnounce dt n identity false) s = .next (s.ended e)) ∧
    (let m := ({ e with tb := { s.tb with
        ptp := s.tb.ptp.mapIdx fun k (x : PtpPort) =>
          if k = n.val then { x with master := some identity, lastAnnounce := now } else { x with master := none }
        needStep := s.tb.needStep || s.tb.source == 1, lockRun := 0 } } : State)
     q.mode ≠ 0 → q.master ≠ some identity →
      ((∀ x ∈ s.tb.ptp, x.master ≠ some identity) → Sys2Proof.Machine.exec (.ptpAnnounce dt n identity true) s = .next (s.ended
        (m.raise evPtpMaster n [lo32 identity.toNat, hi32 identity.toNat]))) ∧
      ((∃ x ∈ s.tb.ptp, x.master = some identity) →
        Sys2Proof.Machine.exec (.ptpAnnounce dt n identity true) s = .next (s.ended m))) ∧
    (let late := e.since q.lastAnnounce (q.announceTimeout * logInterval q.logAnnounce)
     let m := e.updPtp n fun q => { q with master := none }
     (q.master.isSome = true → late = true →
      (s.tb.source ≠ 1 ∨ (∃ x ∈ m.tb.ptp, x.master.isSome = true) →
        Sys2Proof.Machine.exec (.ptpAnnounceTimeout dt n) s = .next (s.ended m)) ∧
      (s.tb.source = 1 → (∀ x ∈ m.tb.ptp, x.master = none) →
        Sys2Proof.Machine.exec (.ptpAnnounceTimeout dt n) s = .next (s.ended (m.holdover 1)))) ∧
     (q.master = none ∨ late = false → Sys2Proof.Machine.exec (.ptpAnnounceTimeout dt n) s = .next (s.ended e)))

/-- A PTP port that serves sends its Sync, with the time or under TWO_STEP a Follow_Up with it, and its Announce messages when their
interval is over, one with a master, or with the peer-to-peer mechanism, its delay requests; a request that arrives is answered, a
response gives the path delay from the four instants (log entry 73).  TBREF going and coming back is recorded. -/
def Claim.PtpMessages : Prop :=
  ∀ (dt secs nanos : Nat) (n : Fin 2) (corr : Int) (s : State),
    let q := s.ptpPort n
    let e := s.elapse dt
    let time : Int := (e.nowNs : Int) + q.offsetS * 1000000000
    let gm := e.grandmaster
    let due (kind : Nat) : Prop := (q.sentAt.getD kind 0) + q.interval kind ≤ s.clock.up + dt
    let sent (kind : Nat) : State := e.updPtp n fun q => { q with sent := q.sent + 1, sentAt := upd q.sentAt kind fun _ => s.clock.up + dt }
    let asked : Int := (q.lastDelayReq * 65536 / 3 : Nat)
    let t2 : Int := (e.clock.dev * 65536 / 3 : Nat)
    (q.serves = true → due 0 → q.flags.getLsbD 0 = false → Sys2Proof.Machine.exec (.ptpMessageInterval dt n 0) s = .next (s.ended
      ((sent 0).emit (.ptpSend n 0 time gm)))) ∧
    (q.serves = true → due 0 → q.flags.getLsbD 0 = true → Sys2Proof.Machine.exec (.ptpMessageInterval dt n 0) s = .next (s.ended
      (((sent 0).emit (.ptpSend n 0 0 gm)).emit (.ptpSend n 4 time gm)))) ∧
    (q.serves = true → due 1 → Sys2Proof.Machine.exec (.ptpMessageInterval dt n 1) s = .next (s.ended
      ((sent 1).emit (.ptpSend n 1 time gm)))) ∧
    (∀ kind, kind ≤ 1 → q.serves = false ∨ ¬ due kind → Sys2Proof.Machine.exec (.ptpMessageInterval dt n kind) s = .next (s.ended e)) ∧
    (q.mode ≠ 0 → q.master.isSome = true ∨ q.p2p = true → due 2 → Sys2Proof.Machine.exec (.ptpMessageInterval dt n 2) s = .next (s.ended
      (((sent 2).updPtp n fun q => { q with lastDelayReq := e.clock.dev }).emit (.ptpSend n 2 time gm)))) ∧
    (q.mode = 0 ∨ (q.master = none ∧ q.p2p = false) ∨ ¬ due 2 →
      Sys2Proof.Machine.exec (.ptpMessageInterval dt n 2) s = .next (s.ended e)) ∧
    (q.mode = 0 → ∀ kind, Sys2Proof.Machine.exec (.ptpDelayMessage dt n kind secs nanos corr) s = .next (s.ended e)) ∧
    (q.mode ≠ 0 → q.p2p = true ∨ q.serves = true → Sys2Proof.Machine.exec (.ptpDelayMessage dt n 0 secs nanos corr) s =
      .next (s.ended (e.emit (.ptpSend n 3 time gm)))) ∧
    (q.mode ≠ 0 → q.p2p = false → q.serves = false → Sys2Proof.Machine.exec (.ptpDelayMessage dt n 0 secs nanos corr) s = .next (s.ended e)) ∧
    (q.mode ≠ 0 → q.p2p = true → Sys2Proof.Machine.exec (.ptpDelayMessage dt n 1 secs nanos corr) s =
      .next (s.ended (e.updPtp n fun q => { q with pathDelayNs := (t2 - asked - corr).fdiv 131072 }))) ∧
    (q.mode ≠ 0 → q.p2p = false → Sys2Proof.Machine.exec (.ptpDelayMessage dt n 1 secs nanos corr) s =
      .next (s.ended (e.updPtp n fun q => { q with pathDelayNs := (q.syncT2 - q.syncT1 +
        (65536 * (((secs : Int) - q.offsetS) * 1000000000 + nanos) - corr - asked)).fdiv 131072 }))) ∧
    (Sys2Proof.Machine.exec (.tbrefLoss dt) s = .next (s.ended { e with clock := { e.clock with tbref := false } })) ∧
    (Sys2Proof.Machine.exec (.tbrefRestored dt) s = .next (s.ended { e with clock := { e.clock with tbref := true } }))

/-- An enabled TPULSE output drives its edge when its instant is reached: once and then off, or again a period later while pulses are
left; without its instant, or disabled, it drives none.  No other output changes. -/
def Claim.TimedPulses : Prop :=
  ∀ (dt : Nat) (n : Fin 4) (s : State) (t : TPulse), s.tb.tpulse[n.val]? = some t →
    let e := s.elapse dt
    (t.enable = true → pulseDue e.nowNs t.next = true → Sys2Proof.Machine.exec (.tpulseFire dt n) s = .next (s.ended
      (({ e with tb := { s.tb with tpulse := upd s.tb.tpulse n fun x => { x with
        enable := t.periodic && t.left != 1, next := (x.next + x.periodNs) % 2 ^ 48, left := x.left - 1, fired := x.fired + 1 } } } : State).emit
          (.pulse (1 + n) t.widthNs t.activeLow)))) ∧
    (t.enable = false ∨ pulseDue e.nowNs t.next = false → Sys2Proof.Machine.exec (.tpulseFire dt n) s = .next (s.ended e))

/-! ### The lease, region errors and recovery -/

/-- The lease: the holder's renewal restarts its time with MISSED 0; each 10 ms without one raises MISSED, and at the third the lease
lapses and its holder is taken to have stopped.  Bellows notes a valid request; while the lease is held nothing more happens, while it is
free it is granted, of two requests to the preferred complex; a
grant advances EPOCH and gives the role at a tick to come, and a lapse takes it. -/
def Claim.Leases : Prop :=
  (∀ (dt : Nat) (die : Fin 2) (s : State),
    let c := s.complex die
    let e := s.elapse dt
    (c.inReset = true ∨ c.fenced = true → Sys2Proof.Machine.exec (.leaseRenewal dt die) s = .next (s.ended e)) ∧
    (c.inReset = false → c.fenced = false → s.bellows.holder = some die.val → Sys2Proof.Machine.exec (.leaseRenewal dt die) s =
      .next (s.ended (({ e with bellows := { s.bellows with renewAt := s.clock.up + dt, missed := 0 } } : State).updComplex die
        fun c => { c with stopped := false }))) ∧
    (c.inReset = false → c.fenced = false → s.bellows.holder ≠ some die.val → c.stopped = false →
      Sys2Proof.Machine.exec (.leaseRenewal dt die) s = .next (s.ended e)) ∧
    (c.inReset = false → c.fenced = false → s.bellows.holder = none → c.stopped = true →
      Sys2Proof.Machine.exec (.leaseRenewal dt die) s = .next (s.ended
        ((e.updComplex die fun c => { c with stopped := false }).selfFence die (if c.lapseAt.isSome then 1 else 3) 3))) ∧
    (∀ o, c.inReset = false → c.fenced = false → s.bellows.holder = some o → o ≠ die.val → c.stopped = true →
      Sys2Proof.Machine.exec (.leaseRenewal dt die) s = .next (s.ended
        ((({ e with bellows := { s.bellows with staleDropped := (s.bellows.staleDropped + 1) % 0x100000000 } } : State).updComplex die
          fun c => { c with stopped := false }).selfFence die (if c.lapseAt.isSome then 1 else 3) 3)))) ∧
  (∀ (dt d : Nat) (s : State), s.bellows.holder = some d →
    let e := s.elapse dt
    let u : State := { e with bellows := { s.bellows with missed := s.bellows.missed + 1 } }
    let m := u.updComplex d fun c => { c with stopped := true }
    (s.clock.up + dt < s.bellows.renewAt + 30000000 * (s.bellows.missed + 1) →
      Sys2Proof.Machine.exec (.leaseMissed dt) s = .next (s.ended e)) ∧
    (s.bellows.renewAt + 30000000 * (s.bellows.missed + 1) ≤ s.clock.up + dt → s.bellows.missed < 2 →
      Sys2Proof.Machine.exec (.leaseMissed dt) s = .next (s.ended u)) ∧
    (s.bellows.renewAt + 30000000 * (s.bellows.missed + 1) ≤ s.clock.up + dt → 2 ≤ s.bellows.missed →
      Sys2Proof.Machine.exec (.leaseMissed dt) s = .next (s.ended (m.leaseEnd 1)) ∧
      (m.leaseEnd 1).bellows.holder = none ∧ (m.leaseEnd 1).bellows.role = none)) ∧
  (∀ (dt : Nat) (west east : Bool) (s : State),
    let w := west && s.mayRequest 0
    let x := east && s.mayRequest 1
    let e : State := { s.elapse dt with bellows := { s.bellows with complexes := s.bellows.complexes.mapIdx fun d (c : Machine.Complex) =>
      if (d = 0 ∧ w = true) ∨ (d = 1 ∧ x = true) then { c with requested := true } else c } }
    let run := Sys2Proof.Machine.exec (.leaseRequest dt west east) s
    (s.bellows.holder.isSome = true → run = .next (s.ended e)) ∧
    (s.bellows.holder = none →
      (w = true → x = true → run = .next (s.ended (e.grant s.modes.leadPref))) ∧
      (w = true → x = false → run = .next (s.ended (e.grant 0))) ∧
      (w = false → x = true → run = .next (s.ended (e.grant 1))) ∧
      (w = false → x = false → run = .next (s.ended e)))) ∧
  (∀ (s : State) (d : Nat),
    let g := s.grant d
    g.bellows.holder = some d ∧ g.bellows.epoch = (s.bellows.epoch + 1) % 0x1000000 ∧ g.bellows.renewAt = s.clock.up ∧
    g.bellows.missed = 0 ∧ g.bellows.roleDue = true ∧ g.bellows.role = s.bellows.role ∧ g.settings = s.settings ∧ g.fs = s.fs)

/-- A complex without a route for 100 µs fences itself; Bellows resets its domain 1 ms after its request, or 10 ms after a lapse
without one, and a released one boots as the drone, in sync once it has mirrored the configuration. -/
def Claim.ComplexesRestart : Prop :=
  ∀ (dt : Nat) (die : Fin 2) (s : State),
    let e := s.elapse dt
    let c := s.complex die
    (∀ t, s.faults.routeLostAt.getD die none = some t → t + 300000 ≤ s.clock.up + dt →
      Sys2Proof.Machine.exec (.routeLossTimeout dt die) s = .next (s.ended (e.selfFence die 2 4).escalate)) ∧
    (s.faults.routeLostAt.getD die none = none → Sys2Proof.Machine.exec (.routeLossTimeout dt die) s = .next (s.ended e)) ∧
    (c.inReset = false → (∃ t, c.fenceAt = some t ∧ t + 3000000 ≤ s.clock.up + dt) ∨
        (c.fenceAt = none ∧ ∃ t, c.lapseAt = some t ∧ t + 30000000 ≤ s.clock.up + dt) →
      let m := (e.updComplex die fun c => { c with
        inReset := true, passed := false, requested := false, stopped := false, fenceAt := none, lapseAt := none,
        supervises := false }).setDomain (domainBase die + 29) 0
      (s.bellows.holder.isSome = true ∨ (m.complex (otherDie die)).runs = true →
        Sys2Proof.Machine.exec (.mcDomainReset dt die 0) s = .next (s.ended m)) ∧
      (s.bellows.holder = none → (m.complex (otherDie die)).runs = false → Sys2Proof.Machine.exec (.mcDomainReset dt die 0) s =
        .next (s.ended { m with bellows := { m.bellows with bothReset := some (s.clock.up + dt) } }))) ∧
    (c.inReset = true ∨ (c.fenceAt = none ∧ c.lapseAt = none) → ∀ cut,
      Sys2Proof.Machine.exec (.mcDomainReset dt die cut) s = .next (s.ended e)) ∧
    (c.inReset = true → Sys2Proof.Machine.exec (.mcDomainRelease dt die) s = .next (s.ended
      (let m := (e.updComplex die fun c => { c with inReset := false }).setDomain (domainBase die + 29) 1
       { m with modes := { s.modes with drone := 1 } }))) ∧
    (c.inReset = false → Sys2Proof.Machine.exec (.mcDomainRelease dt die) s = .next (s.ended e)) ∧
    (let m : State := { e with modes := { s.modes with drone := 3 },
                               txns := s.txns.map fun (t : Txn) => if t.state = 1 then { t with both := true } else t }
     (s.modes.drone = 2 → s.modes.mode ≠ 1 ∨ s.modes.step = 7 → Sys2Proof.Machine.exec (.droneInSync dt) s = .next (s.ended m)) ∧
     (s.modes.drone = 2 → s.modes.mode = 1 → s.modes.step ≠ 7 → Sys2Proof.Machine.exec (.droneInSync dt) s =
      .next (s.ended (m.stepEnded 1 0)))) ∧
    (s.modes.drone ≠ 2 → Sys2Proof.Machine.exec (.droneInSync dt) s = .next (s.ended e))

/-- A complex fences itself: no more issuing, its handlers' records wait again, its lease is released, Bellows counts it and DRONE_STATE
is 0; a fenced one changes nothing by it. -/
def Claim.SelfFences : Prop :=
  ∀ (s : State) (d cause cls : Nat),
    ((s.complex d).fenced = true → s.selfFence d cause cls = s) ∧
    ((s.complex d).fenced = false → d < s.bellows.complexes.length →
      let t := s.selfFence d cause cls
      (t.complex d).fenced = true ∧ (t.complex d).passed = false ∧ (t.complex d).supervises = false ∧
      (t.complex d).fenceAt = some s.clock.up ∧ t.bellows.selfFences = (s.bellows.selfFences + 1) % 0x100000000 ∧
      (s.bellows.holder = some d → t.bellows.holder = none ∧ t.bellows.role = none) ∧ t.modes.drone = 0 ∧
      (∀ r ∈ t.faults.regions, r.handler = d → r.state ≠ 1) ∧ t.settings = s.settings ∧ t.fs = s.fs ∧ t.links = s.links)

/-- An error that hardware sees, and a watchdog that expires, go to the region they name, or to a region around it that is handled;
one of a region that does not exist changes nothing.  A firmware fault that struck a running command also completes it with INTERNAL. -/
def Claim.RegionErrors : Prop :=
  ∀ (dt kind unit cls : Nat) (hit : Option (Fin 8)) (s : State),
    let e := s.elapse dt
    let record := fun (cls : Nat) => match s.outerHandled 4 kind unit with
      | some o => e.recordError o.1 o.2 cls
      | none => e.recordError kind unit cls
    (hit = none ∨ cls ≠ 6 → regionExists kind unit = true → 1 ≤ cls → cls ≤ 7 → kind ≠ 8 → (s.faults.region kind unit).state ≠ 3 →
      Sys2Proof.Machine.exec (.regionErrorDetected dt kind unit cls hit) s = .next (s.ended (record cls).escalate)) ∧
    (hit = none ∨ cls ≠ 6 → kind = 8 → unit < 2 → 1 ≤ cls → cls ≤ 7 → (s.faults.region 8 unit).state ≠ 3 → s.outerHandled 4 8 unit = none →
      (s.complex unit).fenced = false → Sys2Proof.Machine.exec (.regionErrorDetected dt kind unit cls hit) s =
        .next (s.ended (e.selfFence unit 5 cls).escalate)) ∧
    (∀ n, hit = some n → cls = 6 → regionExists kind unit = true →
      let c := Cmd.parse n (s.mbx n).running
      let resp : Resp := { status := stInternal, txn := c.txn, payload := ({ status := stInternal } : Err).detail }
      ((s.mbx n).state = 2 → Sys2Proof.Machine.exec (.regionErrorDetected dt kind unit cls hit) s =
        .next (s.ended ((e.complete c resp).hardwareError kind unit 6))) ∧
      ((s.mbx n).state ≠ 2 → Sys2Proof.Machine.exec (.regionErrorDetected dt kind unit cls hit) s =
        .next (s.ended (e.hardwareError kind unit 6)))) ∧
    (regionExists kind unit = false ∨ cls = 0 ∨ 7 < cls →
      Sys2Proof.Machine.exec (.regionErrorDetected dt kind unit cls hit) s = .next (s.ended e)) ∧
    (regionExists kind unit = true → kind = 2 ∨ kind = 3 ∨ kind = 5 ∨ kind = 6 ∨ kind = 7 ∨ kind = 10 → (s.faults.region kind unit).state ≠ 3 →
      Sys2Proof.Machine.exec (.watchdogExpiry dt kind unit 0) s = .next (s.ended (record 3).escalate)) ∧
    (unit < 2 → (s.complex unit).fenced = false →
      Sys2Proof.Machine.exec (.watchdogExpiry dt 8 unit 0) s = .next (s.ended (e.selfFence unit 4 3).escalate)) ∧
    (kind = 1 ∨ kind = 4 ∨ kind = 9 ∨ regionExists kind unit = false →
      Sys2Proof.Machine.exec (.watchdogExpiry dt kind unit 0) s = .next (s.ended e))

/-- A free complex starts the oldest queued record, a fatal one first; its test, once it runs, passes and restores the region, or fails
and fences it, as it does where the test takes twice its limit; a fenced region is queued for a retest an hour after it was fenced. -/
def Claim.Handlers : Prop :=
  ∀ (dt : Nat) (die : Fin 2) (s : State),
    let e := s.elapse dt
    (∀ r, (s.complex die).runs = true → s.handling die = none → s.nextRecord die = some r →
      let m := e.updRegion r.kind r.unit fun r => { r with state := 1, handler := die, startAt := s.clock.up + dt }
      Sys2Proof.Machine.exec (.handlerStart dt die) s =
        .next (s.ended (m.recFixed 0x0040 [r.kind, r.unit, r.cls, r.records, (m.recent24 r.times).length]))) ∧
    ((s.complex die).runs = false ∨ (s.handling die).isSome = true ∨ s.nextRecord die = none →
      Sys2Proof.Machine.exec (.handlerStart dt die) s = .next (s.ended e)) ∧
    (∀ r, s.handling die = some r →
      let done := fun (result : Nat) => e.recFixed 0x0041 [r.kind, r.unit, result, (s.clock.up + dt - r.startAt) / 3000, b2n r.retest]
      (∀ t, e.testFrom r = some t →
        (r.records < 2 → Sys2Proof.Machine.exec (.handlerTestEnd dt die true) s = .next (s.ended ((done 0).handlerPass r))) ∧
        (2 ≤ r.records →
          Sys2Proof.Machine.exec (.handlerTestEnd dt die true) s = .next (s.ended ((done 0).handlerFail r false).escalate)) ∧
        (Sys2Proof.Machine.exec (.handlerTestEnd dt die false) s = .next (s.ended ((done 1).handlerFail r true).escalate)) ∧
        (t + 2 * testLimit r.kind ≤ s.clock.up + dt →
          Sys2Proof.Machine.exec (.handlerTestTimeout dt die) s = .next (s.ended ((done 2).handlerFail r true).escalate)) ∧
        (s.clock.up + dt < t + 2 * testLimit r.kind →
          Sys2Proof.Machine.exec (.handlerTestTimeout dt die) s = .next (s.ended e))) ∧
      (r.kind ≠ 5 → e.testFrom r = some r.startAt) ∧
      (e.testFrom r = none → Sys2Proof.Machine.exec (.handlerTestTimeout dt die) s = .next (s.ended e) ∧
        ∀ pass, Sys2Proof.Machine.exec (.handlerTestEnd dt die pass) s = .next (s.ended e))) ∧
    (s.handling die = none → Sys2Proof.Machine.exec (.handlerTestTimeout dt die) s = .next (s.ended e) ∧
      ∀ pass, Sys2Proof.Machine.exec (.handlerTestEnd dt die pass) s = .next (s.ended e)) ∧
    (∀ kind unit, (s.faults.region kind unit).state = 2 → (s.faults.region kind unit).fencedAt + hours 1 ≤ s.clock.up + dt →
      let m := e.makeRoom (e.queueOf kind unit)
      Sys2Proof.Machine.exec (.regionRetest dt kind unit) s = .next (s.ended
        (({ m with faults := { m.faults with nextOrder := m.faults.nextOrder + 1 } } : State).updRegion kind unit fun r =>
          { r with state := 0, records := 1, cls := 8, retest := true, fencedAt := m.clock.up, order := m.faults.nextOrder }))) ∧
    (∀ kind unit, (s.faults.region kind unit).state ≠ 2 ∨ s.clock.up + dt < (s.faults.region kind unit).fencedAt + hours 1 →
      Sys2Proof.Machine.exec (.regionRetest dt kind unit) s = .next (s.ended e))

/-- A requested cold reset of a die asserts STAND_SAFE on its links, discards the commits recorded there alone, releases a lease it holds
and takes the die off, with a 0x0050
record; where the other die is off it restarts both.  After 1 ms the die powers up: its domains on, its complex out of
reset, and, outside Standby, its links brought up again.  An I/O block that is not
fenced resumes 1 ms after its reset, its domain on again and the routes with it. -/
def Obligations.DiesRestart : Prop :=
  (∀ (dt : Nat) (die : Fin 2) (s : State),
    let e := s.elapse dt
    let cause := s.bellows.resetDue.getD die 0
    let safe := e.safeLoss (dieLinkMask die)
    let kept := safe.commitsLost die
    let freed := if kept.bellows.holder = some die.val then kept.leaseEnd 3 else kept
    let off := freed.dieGoesOff die
    let run := Sys2Proof.Machine.exec (.dieColdReset dt die) s
    (cause = 0 ∨ s.canBoot = false ∨ (s.bellows.dieOff.getD die none).isSome = true → run = .next (s.ended e)) ∧
    (cause ≠ 0 → s.canBoot = true → s.bellows.dieOff.getD die none = none → s.bellows.dieOff.getD (otherDie die) none = none →
      run = .next (s.ended (({ off with bellows := { off.bellows with
        dieOff := upd off.bellows.dieOff die (fun _ => some off.clock.up), dieCause := upd off.bellows.dieCause die (fun _ => cause)
        rejoin := upd off.bellows.rejoin die fun _ => 0 } } : State).recFixed 0x0050 [die, cause, off.bellows.starts]))) ∧
    (cause ≠ 0 → s.canBoot = true → s.bellows.dieOff.getD die none = none → (s.bellows.dieOff.getD (otherDie die) none).isSome = true →
      run = .next (s.ended ((e.safeLoss 0xFFFF).coldRestart (if die = 0 then cause else s.bellows.dieCause.getD 0 1)
        (if die = 1 then cause else s.bellows.dieCause.getD 1 1) false)))) ∧
  (∀ (dt t : Nat) (die : Fin 2) (s : State), s.bellows.dieOff.getD die none = some t → t + 3000000 ≤ s.clock.up + dt → s.canBoot = true →
    (s.faults.region 9 die).state ≠ 3 → s.power.coreFault.getD die false = false → die.val < s.bellows.complexes.length →
    die.val < s.bellows.dieOff.length → die.val < s.bellows.rejoin.length →
    let m := (s.elapse dt).diePowerUp die
    Sys2Proof.Machine.exec (.diePowerUp dt die) s = .next (s.ended m) ∧ m.bellows.dieOff.getD die none = none ∧
    m.bellows.coldBusy.getD die false = false ∧ m.bellows.resetDue.getD die 0 = 0 ∧ (m.complex die).inReset = false ∧
    m.bellows.starts = (s.bellows.starts + 1) % 0x100000000 ∧ m.settings = s.settings ∧
    m.bellows.rejoin.getD die 0 = (if s.modes.mode = 0 then 0 else 3) ∧ (s.modes.mode = 0 → m.links = s.links)) ∧
  (∀ (dt : Nat) (die : Fin 2) (s : State), s.bellows.dieOff.getD die none = none →
    Sys2Proof.Machine.exec (.diePowerUp dt die) s = .next (s.ended (s.elapse dt))) ∧
  (∀ (dt unit : Nat) (s : State),
    let r := s.faults.region 10 unit
    let e := s.elapse dt
    let a := ((e.updRegion 10 unit fun r => { r with out := false }).setDomain unit 1).settleRoutes
    (r.out = false ∨ regionExists 10 unit = false ∨ r.handled = false ∨ r.fenced = true ∨ s.clock.up + dt < r.fencedAt + 3000000 →
      Sys2Proof.Machine.exec (.ioBlockResume dt unit) s = .next (s.ended e)) ∧
    (r.out = true → regionExists 10 unit = true → r.handled = true → r.fenced = false → r.fencedAt + 3000000 ≤ s.clock.up + dt →
      let done := fun (m : State) => Sys2Proof.Machine.exec (.ioBlockResume dt unit) s = .next (s.ended m)
      (domainKind unit = 9 → done a.flr) ∧
      (domainKind unit = 10 → done (a.ptpRestart (domainUnit unit))) ∧
      (domainKind unit = 11 → done (a.portDead (domainUnit unit) true)) ∧
      (domainKind unit = 12 → done a.eraseAllKeys) ∧
      (domainKind unit = 13 → done a.recorderResumes) ∧
      (domainKind unit = 14 → done a.timeBaseBack) ∧
      (domainKind unit = 16 → done a.ingestLost) ∧
      (domainKind unit = 15 → done a)))

/-! ### Boot, loss of power, and the power monitors -/

/-- SYS_RST_N low holds all but Bellows in reset with STAND_SAFE asserted on every link; its release samples the straps, counts
a start and boots where the A9 can run and the history is restored; a level it has already changes nothing. -/
def Claim.SystemReset : Prop :=
  ∀ (dt : Nat) (straps : BitVec 3) (s : State),
    let e := s.elapse dt
    (s.modes.rst = true → Sys2Proof.Machine.exec (.sysRstNAssert dt) s = .next (s.ended e)) ∧
    (s.modes.rst = false → s.bellows.running = true → s.bellows.powerLost = false →
      let m := (e.safeLoss 0xFFFF).halt true
      Sys2Proof.Machine.exec (.sysRstNAssert dt) s = .next (s.ended { m with modes := { m.modes with rst := true } }) ∧
      m.modes.mode = 0 ∧ m.settings = {} ∧ m.txns = [] ∧ m.rings = (List.range 4).map ringReset ∧
      m.mailboxes = (List.range 8).map mailboxReset ∧ m.bellows.safeLinks = 0xFFFF#16 ∧ m.bellows.holder = none ∧
      m.recorder.sram = s.recorder.sram ∧ m.recorder.head = s.recorder.head ∧ m.flash.serviceHours = s.flash.serviceHours) ∧
    (s.modes.rst = false → s.bellows.running = false ∨ s.bellows.powerLost = true →
      Sys2Proof.Machine.exec (.sysRstNAssert dt) s = .next (s.ended { e with modes := { s.modes with rst := true } })) ∧
    (let up := { e with modes := { s.modes with rst := false, strapSrc := straps.toNat % 4, strapPref := straps.toNat / 4 } }
     (s.modes.rst = false → Sys2Proof.Machine.exec (.sysRstNRelease dt straps) s = .next (s.ended e)) ∧
     (s.modes.rst = true → up.canBoot = false → Sys2Proof.Machine.exec (.sysRstNRelease dt straps) s = .next (s.ended up)) ∧
     (s.modes.rst = true → up.canBoot = true → s.bellows.fresh = false → Sys2Proof.Machine.exec (.sysRstNRelease dt straps) s = .next (s.ended
       ({ up with bellows := { s.bellows with starts := (s.bellows.starts + 1) % 0x100000000 } } : State).bootWhenRestored)) ∧
     (s.modes.rst = true → up.canBoot = true → s.bellows.fresh = true → Sys2Proof.Machine.exec (.sysRstNRelease dt straps) s = .next (s.ended
       ({ up.startClock with bellows := { up.startClock.bellows with starts := (s.bellows.starts + 1) % 0x100000000 } } : State).bootWhenRestored)))

/-- A bundle is verified in boot stage 1, or as it comes over the skyline: verdict 2 releases the complexes, another stage is entered with
that failure code.  Elsewhere, and where the A9 cannot run, nothing is verified. -/
def Claim.BundlesAreVerified : Prop :=
  ∀ (dt : Nat) (sent : List Byte) (s : State),
    let e := s.elapse dt
    let run := Sys2Proof.Machine.exec (.bundleVerifyEnd dt sent) s
    (s.canBoot = false ∨ s.modes.standby = true → run = .next (s.ended e)) ∧
    (s.canBoot = true → s.modes.standby = false → s.modes.bootStage ≠ 1 → s.modes.bootSource ≠ 2 → run = .next (s.ended e)) ∧
    (s.canBoot = true → s.modes.standby = false → s.modes.bootStage = 1 →
      (e.bundleInHand sent = none → run = .next (s.ended (e.verifyFails 0xE1 0))) ∧
      (∀ b, e.bundleInHand sent = some b →
        let v := bootVerdict b s.security.lifecycle s.security.fuses
        run = .next (s.ended (if v = 2 then (e.verifyRecords b).releaseComplexes b
          else (e.verifyRecords b).verifyFails v (manifestRollback b))))) ∧
    (s.canBoot = true → s.modes.standby = false → s.modes.bootSource = 2 → s.modes.bootStage = 0 ∨ 0xE1 ≤ s.modes.bootStage →
      let a := e.setStage 1 0
      (a.bundleInHand sent = none → run = .next (s.ended (a.verifyFails 0xE1 0))) ∧
      (∀ b, a.bundleInHand sent = some b →
        let v := bootVerdict b a.security.lifecycle a.security.fuses
        run = .next (s.ended (if v = 2 then (a.verifyRecords b).releaseComplexes b
          else (a.verifyRecords b).verifyFails v (manifestRollback b)))))

/-- A complex that passes its boot self-test in stage 2 brings stage 3, one that fails fences itself with cause 5; one that has not
asked for the lease 600 ms after its release is left absent; without a lease 2 s after stage 3, or later 2 s after a reset that left
neither complex running, both dies restart, three times at most. -/
def Claim.ComplexesBoot : Prop :=
  ∀ (dt : Nat) (die : Fin 2) (s : State),
    let e := s.elapse dt
    let test := fun (ok : Bool) => e.updComplex die fun c =>
      { c with present := ok || c.present, passed := ok, stopped := false, epochSeen := s.bellows.epoch }
    let rb := manifestRollback s.security.image
    (s.booting die = false → ∀ ok, Sys2Proof.Machine.exec (.complexSelfTestEnd dt die ok) s = .next (s.ended e)) ∧
    (s.booting die = true →
      let m := fun (ok : Bool) => match s.handling (otherDie die) with
        | some r => if r.kind = 8 ∧ r.unit = die.val then (test ok).handlerEnd (otherDie die) (b2n (!ok)) else test ok
        | none => test ok
      let t := m true
      (Sys2Proof.Machine.exec (.complexSelfTestEnd dt die false) s = .next (s.ended ((m false).selfFence die 5 2).escalate)) ∧
      (t.modes.bootStage = 2 → Sys2Proof.Machine.exec (.complexSelfTestEnd dt die true) s =
        .next (s.ended (t.setStage 3 (manifestRollback t.security.image)))) ∧
      (t.modes.bootStage ≠ 2 → t.modes.standby = true → (t.complex die).fenced = false → t.bellows.role ≠ some die.val →
        Sys2Proof.Machine.exec (.complexSelfTestEnd dt die true) s = .next (s.ended { t with modes := { t.modes with drone := 2 } })) ∧
      (t.modes.bootStage ≠ 2 → t.modes.standby = false ∨ (t.complex die).fenced = true ∨ t.bellows.role = some die.val →
        Sys2Proof.Machine.exec (.complexSelfTestEnd dt die true) s = .next (s.ended t))) ∧
    (2 ≤ s.modes.bootStage → s.modes.bootStage ≤ 3 → (s.complex die).requested = false → s.modes.releasedAt + ms 600 ≤ s.clock.up + dt →
      let m := e.updComplex die fun c => { c with absent := true }
      (s.modes.bootStage = 2 → (m.complex (otherDie die)).absent = true →
        Sys2Proof.Machine.exec (.complexAbsent dt die) s = .next (s.ended (m.setStage 3 rb))) ∧
      (s.modes.bootStage = 3 ∨ (m.complex (otherDie die)).absent = false →
        Sys2Proof.Machine.exec (.complexAbsent dt die) s = .next (s.ended m))) ∧
    (s.modes.bootStage < 2 ∨ 3 < s.modes.bootStage ∨ (s.complex die).requested = true ∨ s.clock.up + dt < s.modes.releasedAt + ms 600 →
      Sys2Proof.Machine.exec (.complexAbsent dt die) s = .next (s.ended e)) ∧
    (s.modes.bootStage = 3 → s.bellows.holder = none → s.modes.stageAt + sec 2 ≤ s.clock.up + dt →
      (s.bellows.bootTries < 3 → Sys2Proof.Machine.exec (.leadershipTimeout dt) s = .next (s.ended
        (({ e with bellows := { s.bellows with bootTries := s.bellows.bootTries + 1 } } : State).coldRestart 3 3 false))) ∧
      (3 ≤ s.bellows.bootTries → Sys2Proof.Machine.exec (.leadershipTimeout dt) s = .next (s.ended e))) ∧
    (3 < s.modes.bootStage → s.bellows.holder = none → ∀ t, s.bellows.bothReset = some t →
      (s.bellows.bootTries < 3 → t + sec 2 ≤ s.clock.up + dt → Sys2Proof.Machine.exec (.leadershipTimeout dt) s = .next (s.ended
        (({ e with bellows := { s.bellows with bootTries := s.bellows.bootTries + 1, bothReset := none } } : State).coldRestart 3 3 false))) ∧
      (3 ≤ s.bellows.bootTries ∨ s.clock.up + dt < t + sec 2 →
        Sys2Proof.Machine.exec (.leadershipTimeout dt) s = .next (s.ended e))) ∧
    (s.modes.bootStage < 3 ∨ s.bellows.holder ≠ none ∨ (3 < s.modes.bootStage ∧ s.bellows.bothReset = none) →
      Sys2Proof.Machine.exec (.leadershipTimeout dt) s = .next (s.ended e))

/-- Boot reaches Standby only from stage 3 with the lease held and no self-test outstanding: stage 4, mode 0, the holder as the chanter, EV_STANDBY with the boot
source, and the fuse not behind the bundle's rollback value; absent complexes are errors, and a loss of power or a low bank is told. -/
def Claim.StandbyIsReached : Prop :=
  (∀ (dt d : Nat) (s : State), s.bellows.holder = some d → s.modes.bootStage = 3 → s.canBoot = true → s.awaitsComplex = false →
    let e := s.elapse dt
    let rb := manifestRollback s.security.image
    let a := (e.setStage 4 rb).abortRunning
    let b : State := { a with
      modes := { a.modes with standby := true, mode := 0, enteredAt := a.clock.tick }
      fs := { a.fs with selfRefresh := true }
      bellows := { a.bellows with role := some d, roleDue := false, chanterBit := d, bootTries := 0 } }
    let c := (((b.updComplex d fun c => { c with supervises := true }).raise evStandby noUnit [a.modes.bootSource]).advanceFuses rb).countBoot
    let absent := (List.range 2).filter fun k => (b.complex k).absent
    let f := absent.foldl (fun s k => if (s.faults.region 8 k).state = 3 then s else s.recordError 8 k 3) c
    let g := if f.bellows.latch.getLsbD 4 then f.raise evPowerLoss noUnit [f.bellows.journalSt, f.bellows.recorderSt] else f
    let h := if g.holdupOk then g else g.holdupEvent
    Sys2Proof.Machine.exec (.standbyReached dt) s = .next (s.ended h.droneDown.endBootHold) ∧
    c.modes.standby = true ∧ c.modes.mode = 0 ∧ c.modes.bootStage = 4 ∧ c.bellows.role = some d ∧
    c.security.fuses = max s.security.fuses (min 64 rb)) ∧
  (∀ (dt : Nat) (s : State), s.bellows.holder = none ∨ s.modes.bootStage ≠ 3 ∨ s.canBoot = false ∨ s.awaitsComplex = true →
    Sys2Proof.Machine.exec (.standbyReached dt) s = .next (s.ended (s.elapse dt)))

/-- An A9 from boot stage 2 to 4 serves a child's bundle request from the image it runs; a child without a bundle asks again every
2 s over its parent port and shows stage 0xE3. -/
def Claim.BundlesOverTheSkyline : Prop :=
  ∀ (dt : Nat) (p : Fin 4) (s : State),
    let e := s.elapse dt
    (2 ≤ s.modes.bootStage → s.modes.bootStage ≤ 4 → s.security.image ≠ [] →
      Sys2Proof.Machine.exec (.skylineBundleRequest dt p) s = .next (s.ended
        (({ e with modes := { s.modes with served := s.modes.served + 1 } } : State).sendPort p 0x12 (4 :: s.security.image)))) ∧
    (s.modes.bootStage < 2 ∨ 4 < s.modes.bootStage ∨ s.security.image = [] →
      Sys2Proof.Machine.exec (.skylineBundleRequest dt p) s = .next (s.ended e)) ∧
    (s.canBoot = true → s.modes.bootSource = 2 → s.modes.bootRetryAt + sec 2 ≤ s.clock.up + dt →
      (s.modes.bootStage = 0 → Sys2Proof.Machine.exec (.skylineBootRetry dt) s = .next (s.ended (e.setStage 0xE3 0).askBundle)) ∧
      (0xE1 ≤ s.modes.bootStage → Sys2Proof.Machine.exec (.skylineBootRetry dt) s = .next (s.ended e.askBundle))) ∧
    (let a : State := { e with modes := { s.modes with bootRetryAt := s.clock.up + dt } }
     (∀ q, s.settings.roles.findIdx? (· == 1) = some q → e.askBundle = a.sendPort q 0x12 [3]) ∧
     (s.settings.roles.findIdx? (· == 1) = none → e.askBundle = a)) ∧
    (s.canBoot = false ∨ s.modes.bootSource ≠ 2 ∨ s.clock.up + dt < s.modes.bootRetryAt + sec 2 →
      Sys2Proof.Machine.exec (.skylineBootRetry dt) s = .next (s.ended e))

/-- Loss of power, of BELLOWS_IN, VDD_IOD or VDDIO: STAND_SAFE on every link, the loss recorded, everything but Bellows in reset, and
the journal flush running; it ends before the recorder's, and with the rails back both dies restart.  A loss while one is declared,
or with Bellows stopped, changes nothing more. -/
def Claim.PowerLossAndRestore : Prop :=
  ∀ (dt : Nat) (ok : Bool) (s : State),
    let e := s.elapse dt
    (∀ rail, rail = 3 ∨ rail = 9 → Sys2Proof.Machine.exec (.powerLoss dt rail) s = .next (s.ended e.powerLoss)) ∧
    (∀ rail, rail ≠ 3 → rail ≠ 9 → rail ≠ 10 → Sys2Proof.Machine.exec (.powerLoss dt rail) s = .next (s.ended e)) ∧
    (Sys2Proof.Machine.exec (.powerLoss dt 10) s = .next (s.ended e.onBank.powerLoss)) ∧
    (s.bellows.powerLost = true ∨ s.bellows.running = false → e.powerLoss = e) ∧
    (s.bellows.powerLost = false → s.bellows.running = true →
      let t := e.powerLoss
      t.bellows.powerLost = true ∧ t.bellows.safeLinks = 0xFFFF#16 ∧ t.bellows.latch = s.bellows.latch ||| 16#32 ∧
      t.bellows.journalSt = 1 ∧ t.bellows.recorderSt = 0 ∧ t.bellows.holder = none ∧ t.bellows.lossValid = true ∧
      t.bellows.lossTick = s.clock.tick ∧ t.settings = {} ∧ t.txns = []) ∧
    (s.bellows.journalSt = 1 →
      let f := e.flushJournal (ok && s.flash.present)
      Sys2Proof.Machine.exec (.journalFlushEnd dt ok) s = .next (s.ended { f with bellows := { f.bellows with recorderSt := 1 } })) ∧
    (s.bellows.journalSt ≠ 1 → Sys2Proof.Machine.exec (.journalFlushEnd dt ok) s = .next (s.ended e)) ∧
    (s.bellows.recorderSt = 1 → ok = true → s.flash.present = true → s.flash.history.length < 59 →
      let f := e.powerFlush true
      Sys2Proof.Machine.exec (.recorderFlushEnd dt ok) s = .next (s.ended { f with bellows := { f.bellows with recorderSt := 2 } })) ∧
    (s.bellows.recorderSt = 1 → ok = false ∨ s.flash.present = false ∨ 59 ≤ s.flash.history.length →
      let f := e.powerFlush false
      Sys2Proof.Machine.exec (.recorderFlushEnd dt ok) s =
        .next (s.ended (({ f with bellows := { f.bellows with recorderSt := 3 } } : State).latch 4#32))) ∧
    (s.bellows.recorderSt ≠ 1 → Sys2Proof.Machine.exec (.recorderFlushEnd dt ok) s = .next (s.ended e)) ∧
    (s.bellows.powerLost = true → s.bellows.running = true →
      let b := { e with bellows := { s.bellows with powerLost := false, inOk := true, onHoldup := false } }
      (s.modes.rst = true → Sys2Proof.Machine.exec (.powerRestore dt) s = .next (s.ended b)) ∧
      (s.modes.rst = false → Sys2Proof.Machine.exec (.powerRestore dt) s = .next (s.ended (b.coldRestart 3 3 true)))) ∧
    (s.bellows.powerLost = false → s.bellows.running = true → Sys2Proof.Machine.exec (.powerRestore dt) s =
      .next (s.ended { e with bellows := { s.bellows with inOk := true, onHoldup := false } })) ∧
    (s.bellows.running = false → Sys2Proof.Machine.exec (.powerRestore dt) s = .next (s.ended e))

/-- A rail out of range is recorded with its reading and EV_RAIL_FAULT; a core rail is an error of its die, a rail of the I/O die a loss
of power, BELLOWS_IN one below 3,135 mV, and above its range Bellows no longer runs from it; a core rail back in range lets its die power up. -/
def Claim.RailFaults : Prop :=
  ∀ (dt rail mv : Nat) (s : State),
    let e := s.elapse dt
    let f := ({ e with power := { s.power with railMv := upd s.power.railMv rail fun _ => sat 0xFFFF mv } } : State).railEvent rail
    (s.bellows.running = true → e.railOut rail mv = true →
      (rail < 2 → Sys2Proof.Machine.exec (.railFault dt rail mv) s = .next (s.ended
        (({ f with power := { f.power with coreFault := upd f.power.coreFault rail fun _ => true } } : State).hardwareError 9 rail 7))) ∧
      (2 ≤ rail → rail < 10 → Sys2Proof.Machine.exec (.railFault dt rail mv) s = .next (s.ended f.powerLoss)) ∧
      (rail = 10 → mv < 3135 → Sys2Proof.Machine.exec (.railFault dt rail mv) s = .next (s.ended f.onBank.powerLoss)) ∧
      (rail = 10 → 3135 ≤ mv → Sys2Proof.Machine.exec (.railFault dt rail mv) s = .next (s.ended f.onBank)) ∧
      (rail = 11 → Sys2Proof.Machine.exec (.railFault dt rail mv) s = .next (s.ended (f.bankReads mv)))) ∧
    (s.bellows.running = false ∨ 11 < rail ∨ e.railOut rail mv = false → Sys2Proof.Machine.exec (.railFault dt rail mv) s = .next (s.ended e)) ∧
    (∀ die : Fin 2, s.power.coreFault.getD die false = true → Sys2Proof.Machine.exec (.coreRailRestored dt die) s = .next (s.ended
      (({ e with power := { s.power with coreFault := upd s.power.coreFault die fun _ => false } } : State).diePowerUp die))) ∧
    (∀ die : Fin 2, s.power.coreFault.getD die false = false →
      Sys2Proof.Machine.exec (.coreRailRestored dt die) s = .next (s.ended e))

/-- The hold-up bank below 10.5 V raises EV_HOLDUP_LOW where BELLOWS_IN is in range and the bank was charged, and it is charged again
from 10.5 V; without BELLOWS_IN Bellows stops with STAND_SAFE asserted everywhere, and at its power-up its state, log and clock start
anew. -/
def Claim.BellowsSupply : Prop :=
  ∀ (dt mv : Nat) (s : State),
    let e := s.elapse dt
    let v := sat 0xFFFF mv
    let low : State := { e with bellows := { s.bellows with capMv := v }, power := { s.power with railMv := upd s.power.railMv 11 fun _ => v } }
    (mv < 10500 → s.bellows.running = true → 10500 ≤ s.bellows.capMv → s.bellows.inOk = true →
      Sys2Proof.Machine.exec (.holdupLow dt mv) s = .next (s.ended
        (low.latch 2#32).holdupEvent)) ∧
    (mv < 10500 → s.bellows.running = true → s.bellows.capMv < 10500 ∨ s.bellows.inOk = false →
      Sys2Proof.Machine.exec (.holdupLow dt mv) s = .next (s.ended low)) ∧
    (10500 ≤ mv ∨ s.bellows.running = false → Sys2Proof.Machine.exec (.holdupLow dt mv) s = .next (s.ended e)) ∧
    (10500 ≤ mv → mv ≤ 11500 → s.bellows.running = true → s.bellows.inOk = true →
      Sys2Proof.Machine.exec (.holdupOkSet dt mv) s = .next (s.ended low)) ∧
    (s.bellows.inOk = false → s.bellows.running = true →
      let h := e.halt true
      let b : Bellows := { h.bellows with running := false, onHoldup := false, safeLinks := 0xFFFF, capMv := 0 }
      Sys2Proof.Machine.exec (.bellowsStop dt) s = .next (s.ended
        { h with bellows := b, power := { h.power with railMv := upd h.power.railMv 11 fun _ => 0 } })) ∧
    (s.bellows.inOk = true ∨ s.bellows.running = false → Sys2Proof.Machine.exec (.bellowsStop dt) s = .next (s.ended e)) ∧
    (s.bellows.running = true → Sys2Proof.Machine.exec (.bellowsPowerUp dt) s = .next (s.ended e)) ∧
    (s.bellows.running = false →
      let t := e.bellowsPowerUp
      Sys2Proof.Machine.exec (.bellowsPowerUp dt) s = .next (s.ended t) ∧ t.bellows.running = true ∧
      t.bellows.powerUps = s.bellows.powerUps + 1 ∧ t.bellows.epoch = 0 ∧ t.recorder = {} ∧ t.clock.tick = 0 ∧ t.settings = {}) ∧
    (s.recorder.restoring = true → s.bellows.running = true → Sys2Proof.Machine.exec (.historyRestoreEnd dt) s =
      .next (s.ended e.restoreEnd.bootWhenRestored)) ∧
    (s.recorder.restoring = false ∨ s.bellows.running = false → Sys2Proof.Machine.exec (.historyRestoreEnd dt) s = .next (s.ended e))

/-- Junction samples, of each die its hottest sensor: a die at 100.0 °C throttles and one below 97.0 °C no more, the time at 110.0 °C runs from its first sample, and a
reading above 105.0 °C or below the grade is an excursion; 10 ms at 110.0 °C fence the die, or are a loss of power for the I/O die. -/
def Claim.JunctionTemperatures : Prop :=
  ∀ (dt : Nat) (temps : List Int) (k : Fin 3) (s : State),
    let e := s.elapse dt
    let tj := (List.range 3).map fun k => clampI (-32768) 32767 (hottest (sensorsOf temps k))
    let a := { e with power := { s.power with
      tj := tj
      hotSince := s.power.hotSince.mapIdx fun k (h : Option Nat) =>
        if 1100 ≤ tj.getD k 0 then (if h.isSome then h else some (s.clock.up + dt)) else none
      throttle := s.power.throttle.mapIdx fun k t => if 1000 ≤ tj.getD k 0 then true else if tj.getD k 0 < 970 then false else t } }
    let out := tj.any fun t => 1050 < t || t < gradeFloor
    let b := if out then a.excursion else a
    (Sys2Proof.Machine.exec (.junctionSample dt temps) s =
      .next (s.ended ((b.throttleEvent 0 (s.throttled 0)).throttleEvent 1 (s.throttled 1)))) ∧
    (∀ t, s.power.hotSince.getD k none = some t → t + 30000000 ≤ s.clock.up + dt →
      (k.val < 2 → Sys2Proof.Machine.exec (.thermalFence dt k) s = .next (s.ended (e.hardwareError 9 k 7))) ∧
      (k.val = 2 → Sys2Proof.Machine.exec (.thermalFence dt k) s = .next (s.ended e.powerLoss))) ∧
    (s.power.hotSince.getD k none = none → Sys2Proof.Machine.exec (.thermalFence dt k) s = .next (s.ended e))

/-- Each millisecond the reed clocks step by the throttle and the cap; the package power above CAP_W caps, and more than 5 W below it
caps no more; the bank's voltage is read with the rails.  A die sets the lowest core voltage that its clock, or the step above it, wants,
at most once in 100 µs, and not after its bus failed. -/
def Claim.ClocksAndVoltages : Prop :=
  ∀ (dt mw mv : Nat) (rails : List (Nat × Nat)) (die : Fin 2) (s : State),
    let e := s.elapse dt
    let cap := s.settings.capW
    let thr := s.throttled 0 || s.throttled 1
    (cap = 0 ∨ s.power.powerMw ≤ cap * 1000 → Sys2Proof.Machine.exec (.reedClockStep dt) s = .next (s.ended { e with power := { s.power with
      reedMhz := [s.nextMhz 0, s.nextMhz 1], throttleMs := (s.power.throttleMs + b2n thr) % 0x100000000
      cappedMs := s.power.cappedMs % 0x100000000 } })) ∧
    (cap ≠ 0 → cap * 1000 < s.power.powerMw →
      let lower := s.nextMhz 0 < s.power.reedMhz.getD 0 1500 || s.nextMhz 1 < s.power.reedMhz.getD 1 1500
      Sys2Proof.Machine.exec (.reedClockStep dt) s = .next (s.ended { e with power := { s.power with
        reedMhz := [s.nextMhz 0, s.nextMhz 1], throttleMs := (s.power.throttleMs + b2n thr) % 0x100000000
        cappedMs := (s.power.cappedMs + b2n lower) % 0x100000000 } })) ∧
    (let read := { e with power := { s.power with
       powerMw := sat 0xFFFFFFFF mw
       railMv := s.power.railMv.mapIdx fun k v => (rails[k]?.map fun e => sat 0xFFFF e.1).getD v
       railDa := s.power.railDa.mapIdx fun k v => (rails[k]?.map fun e => sat 0xFFFF e.2).getD v } }
     let set := fun (b : Bool) => { read with power := { read.power with capped := b } }
     let run := Sys2Proof.Machine.exec (.powerCapSample dt mw rails) s
     let bank := fun (t : State) => match rails[11]? with
       | some r => if s.bellows.running then t.bankReads r.1 else t
       | none => t
     (cap = 0 ∨ (mw ≤ cap * 1000 ∧ mw + 5000 < cap * 1000) → run = .next (s.ended (bank (set false)))) ∧
     (cap ≠ 0 → cap * 1000 < mw → run = .next (s.ended (bank (set true)))) ∧
     (cap ≠ 0 → mw ≤ cap * 1000 → cap * 1000 ≤ mw + 5000 → run = .next (s.ended (bank read)))) ∧
    (let may := 2 ≤ s.modes.bootStage ∧ s.modes.bootStage ≤ 4 ∧ mv ∈ s.wantedMv die ∧
       s.power.avsLimited.getD die false = false ∧ (∀ t, s.power.avsAt.getD die none = some t → t + 300000 ≤ s.clock.up + dt)
     (may → Sys2Proof.Machine.exec (.avsAdjust dt die mv) s = .next (s.ended { e with power := { s.power with
       vcore := upd s.power.vcore die (fun _ => mv), avsAt := upd s.power.avsAt die fun _ => some (s.clock.up + dt) } })) ∧
     (¬ may → Sys2Proof.Machine.exec (.avsAdjust dt die mv) s = .next (s.ended e))) ∧
    (s.power.avsLimited.getD die false = false → Sys2Proof.Machine.exec (.avsFailure dt die) s = .next (s.ended
      (({ e with power := { s.power with avsLimited := upd s.power.avsLimited die fun _ => true } } : State).railEvent die))) ∧
    (s.power.avsLimited.getD die false = true → Sys2Proof.Machine.exec (.avsFailure dt die) s = .next (s.ended e))

/-! ### Events, the recorder, live update and management -/

/-- Events are routed by their class: a FATAL one to ring 0 whatever the routes are, one routed to 0xFF is discarded; at a ring that is
disabled a record is dropped and counted, at a full one, or with the host out of reach, it is held, at most 64 and counted beyond,
and else it is written and signalled.  While no complex serves, events are owed. -/
def Claim.EventRouting : Prop :=
  (∀ (s : State) (r : EventRec), s.settings.chainRoot = true →
    let ring := s.routes.getD (r.code / 256 - 1) 0xFF
    (r.sev = 4 → s.deliver r = s.ringPut 0 r) ∧
    (r.sev ≠ 4 → ring ≠ 0xFF → s.deliver r = s.ringPut ring r) ∧
    (r.sev ≠ 4 → ring = 0xFF → s.deliver r = s)) ∧
  (∀ (s : State) (r : EventRec), s.settings.chainRoot = false →
    (∀ p, s.chain.parent = some p →
      s.deliver r = (s.emit (.portEvent p (r.body ++ zeros 4))).portStream p 0x13 (r.body ++ zeros 4)) ∧
    (s.chain.parent = none → (s.deliver r).out = s.out ∧ (s.deliver r).chain.heldEvents.length ≤ s.chain.heldEvents.length + 1)) ∧
  (∀ (s : State) (i : Nat) (r : EventRec), i < s.rings.length →
    let q := s.ring i
    let put := fun (q : Ring) => s.updRing i fun _ => q
    (q.enabled = false → s.ringPut i r = put { q with dropped := min 0xFFFF (q.dropped + 1) }) ∧
    (q.enabled = true → q.full = true ∨ s.hostReach = false ∨ q.held ≠ [] →
      (∀ k, q.held.findIdx? (·.same r) = some k → s.ringPut i r = put { q with
        held := q.held.modify k (·.fold r.count), dropped := min 0xFFFF q.dropped }) ∧
      (q.held.findIdx? (·.same r) = none → q.held.length < 64 →
        s.ringPut i r = put { q with held := q.held ++ [r], dropped := min 0xFFFF q.dropped }) ∧
      (q.held.findIdx? (·.same r) = none → 64 ≤ q.held.length →
        s.ringPut i r = put { q with dropped := min 0xFFFF (q.dropped + 1) })) ∧
    (q.enabled = true → q.full = false → s.hostReach = true → q.held = [] → s.ringPut i r = (s.ringWrite i r).ringSignal i)) ∧
  (∀ (s : State) (code unit : Nat) (ps : List Nat) (tag txn : Word), s.modes.mode ≤ 1 →
    (s.serves = true → s.raise code unit ps tag txn = s.deliver (s.mkRec code unit ps tag txn)) ∧
    (s.serves = false → s.raise code unit ps tag txn = { s with owed := s.owed ++ [s.mkRec code unit ps tag txn] }))

/-- A record goes to the ring's entry at PIDX: the 60 bytes of its body, then the last word with PHASE and the sequence number; PIDX moves
on and wraps with PHASE changed.  No other ring changes. -/
def Claim.RecordsAreWritten : Prop :=
  ∀ (s : State) (i : Nat) (r : EventRec), i < s.rings.length →
    let q := s.ring i
    let a := q.base + 64 * q.pidx
    let t := s.ringWrite i r
    t.out = s.out ++ [.hostWrite a r.body, .hostWrite (a + 60) (le 4 (b2n q.phase * 0x80000000 + q.seq % 0x80000000))] ∧
    (t.ring i).pidx = (q.pidx + 1) % 2 ^ q.log2 ∧ (t.ring i).seq = (q.seq + 1) % 0x80000000 ∧
    (q.pidx + 1 = 2 ^ q.log2 → (t.ring i).phase = !q.phase) ∧ (q.pidx + 1 ≠ 2 ^ q.log2 → (t.ring i).phase = q.phase) ∧
    (t.ring i).unsignalled = q.unsignalled + 1 ∧ (∀ j, j ≠ i → t.ring j = s.ring j) ∧ r.body.length = 60

/-- Records wait to be signalled for at most COAL_US: then the message is sent, or left pending where it is masked; a failed write to host memory disables the ring, its
held records counted as dropped, with MIRROR_FAULT. -/
def Claim.RingTimeoutsAndFaults : Prop :=
  ∀ (dt : Nat) (r : Fin 4) (s : State),
    let q := s.ring r
    let e := s.elapse dt
    let due := q.enabled = true ∧ s.hostReach = true ∧ q.unsignalled ≠ 0 ∧ q.coalWait ≠ 0 ∧ q.oldest + q.coalWait ≤ s.clock.up + dt
    (due → Sys2Proof.Machine.exec (.evrCoalesceTimeout dt r) s =
      .next (s.ended ((e.msixSend q.vector).updRing r fun q => { q with unsignalled := 0 }))) ∧
    (¬ due → Sys2Proof.Machine.exec (.evrCoalesceTimeout dt r) s = .next (s.ended e)) ∧
    (q.enabled = true → Sys2Proof.Machine.exec (.mirrorFault dt r) s = .next (s.ended (e.updRing r fun q => { q with
      ctrl := q.ctrl &&& 0x7FFFFFFF#32, held := [], unsignalled := 0, dropped := min 0xFFFF (q.dropped + q.held.length), mirrorFault := true
      faultSet := some (s.clock.up + dt) }))) ∧
    (q.enabled = false → Sys2Proof.Machine.exec (.mirrorFault dt r) s = .next (s.ended e))

/-- A fixed record is written at the head with its mark and pass count, and the head moves on by its 32 bytes; what stood before it stays,
and on the first pass what stands behind it; while the log is in reset the record waits. -/
def Claim.LogRecords : Prop :=
  ∀ (s : State) (code : Nat) (ps : List Nat), s.recorder.head + 32 ≤ recSize →
    let t := s.recFixed code ps
    let b := overwrite (fixedRec code s.nowNs ps) 2 (recMark s.recorder.wraps)
    b.length = 32 ∧
    (s.recorder.inReset = false → Memory.wf s.recorder.sram = true →
      (∀ i < 32, Mem.read t.recorder.sram (s.recorder.head + i) = b.getD i 0) ∧ u16 b 0 = code % 0x10000 ∧ u64 b 4 = s.nowNs % 2 ^ 64 ∧
      t.recorder.head = (s.recorder.head + 32) % recSize ∧
      (∀ a, a < s.recorder.head ∨ (s.recorder.wraps = 0 ∧ s.recorder.head + 32 ≤ a) →
        Mem.read t.recorder.sram a = Mem.read s.recorder.sram a)) ∧
    (s.recorder.inReset = true → t.recorder.sram = s.recorder.sram ∧ t.recorder.head = s.recorder.head) ∧
    t.settings = s.settings ∧ t.fs = s.fs ∧ t.rings = s.rings ∧ t.mailboxes = s.mailboxes

/-- The chanter flushes the log where 16 KiB are unflushed, or 10 s after the oldest; a flush that ends appends the records to the
history and answers EV_REC_FLUSHED with result 0 and their bytes, or 1; an erase forgets the history; a record still open after 10 ms
becomes a pad. -/
def Claim.FlushesAndPads : Prop :=
  ∀ (dt : Nat) (s : State),
    let r := s.recorder
    let e := s.elapse dt
    let due := s.serves = true ∧ r.flushing = none ∧ r.erasing = none ∧ r.inReset = false ∧
      (16384 ≤ r.unflushed ∨ (r.unflushed ≠ 0 ∧ r.oldestAt + sec 10 ≤ s.clock.up + dt))
    (due → s.flash.present = true → Sys2Proof.Machine.exec (.recFlushTrigger dt) s =
      .next (s.ended { e with recorder := { r with flushing := some (min r.unflushed recSize, 0), commanded := false } })) ∧
    (due → s.flash.present = false → Sys2Proof.Machine.exec (.recFlushTrigger dt) s =
      .next (s.ended (({ e with recorder := { r with oldestAt := s.clock.up + dt } } : State).raise evRecFlushed noUnit [2, 0] 0))) ∧
    (¬ due → Sys2Proof.Machine.exec (.recFlushTrigger dt) s = .next (s.ended e)) ∧
    (∀ n tag, r.flushing = some (n, tag) →
      let b := { e with recorder := { r with flushing := none } }
      Sys2Proof.Machine.exec (.recFlushEnd dt true) s = .next (s.ended ((b.flushBytes n).raise evRecFlushed noUnit [0, n] tag)) ∧
      Sys2Proof.Machine.exec (.recFlushEnd dt false) s = .next (s.ended (b.raise evRecFlushed noUnit [1, 0] tag))) ∧
    (∀ tag, r.flushing = none → r.erasing = some tag →
      Sys2Proof.Machine.exec (.recFlushEnd dt true) s = .next (s.ended
        (({ e with recorder := { r with erasing := none }, flash := { s.flash with history := [] } } : State).raise
          evRecFlushed noUnit [0, 0] tag)) ∧
      Sys2Proof.Machine.exec (.recFlushEnd dt false) s = .next (s.ended
        (({ e with recorder := { r with erasing := none } } : State).raise evRecFlushed noUnit [1, 0] tag))) ∧
    (r.flushing = none → r.erasing = none → ∀ ok, Sys2Proof.Machine.exec (.recFlushEnd dt ok) s = .next (s.ended e)) ∧
    (∀ off n t pass, (r.openRecs.find? fun x => x.1 == off) = some (off, n, t, pass) →
      (t + ms 10 ≤ s.clock.up + dt → Sys2Proof.Machine.exec (.recordPadTimeout dt off) s = .next (s.ended { e with recorder := { r with
        sram := Mem.writes r.sram off (recPad pass e.nowNs n), openRecs := r.openRecs.filter fun x => x.1 != off } })) ∧
      (s.clock.up + dt < t + ms 10 → Sys2Proof.Machine.exec (.recordPadTimeout dt off) s = .next (s.ended e))) ∧
    (∀ off, (r.openRecs.find? fun x => x.1 == off) = none →
      Sys2Proof.Machine.exec (.recordPadTimeout dt off) s = .next (s.ended e))

/-- The stages of a live update: a verified bundle reboots the drone from it, the booted drone mirrors, then the handover tick is set; at
2.5 ms before it the handover is armed and at 1 µs before it the lease is granted to the drone with grant cause 4; the former chanter
reboots, the rollback value advances, and the bundle is written where the command asked for it.  A stage that fails, or ends after its
limit, ends the update. -/
def Claim.LiveUpdateStages : Prop :=
  ∀ (dt outcome : Nat) (s : State),
    let e := s.elapse dt
    let run := fun (o : Nat) => Sys2Proof.Machine.exec (.fwUpdateStageEnd dt o) s
    let late : Prop := s.fw.stageAt + stageLimit s.fw.stage < s.clock.up + dt
    (s.fw.stage = 1 → run outcome = .next (s.ended (
      if e.fwVerdict = 0 then
        let m : State := { e.fwEvent 1 0 with fw := { s.fw with newChanter := e.fwDie } }
        (m.fwReboot m.fwDie 4).fwNext 2
      else if e.fwVerdict = 1 then (e.raise evSigFail noUnit [1, bundleSigs s.security.staging] s.fw.tag).fwFails 1
      else e.fwFails e.fwVerdict))) ∧
    (s.fw.stage = 2 → ¬ late → run 0 = .next (s.ended (((e.fwBooted s.fw.newChanter 2).fwEvent 2 0).fwNext 3))) ∧
    (s.fw.stage = 3 → ¬ late →
      let m := ({ e with modes := { s.modes with drone := 3 } } : State).fwEvent 3 0
      let n : State := { m with fw := { s.fw with stage := 4 } }
      run 0 = .next (s.ended { n with fw := { n.fw with handover := n.handoverTick } })) ∧
    (s.fw.stage = 2 ∨ s.fw.stage = 3 → outcome ≠ 0 ∨ late → run outcome = .next (s.ended (e.fwFails 4))) ∧
    (s.fw.stage = 5 → (s.complex s.fwDie).inReset = false → (s.complex s.fwDie).fenced = false →
      (let m := e.fwFails 4
       outcome ≠ 0 ∨ late → run outcome = .next (s.ended { m with modes := { m.modes with drone := 1 } })) ∧
      (¬ late → let m := ((e.fwBooted s.fwDie 3).advanceFuses (manifestRollback s.security.staging)).fwEvent 5 0
       (m.fw.flags.getLsbD 0 = true → run 0 = .next (s.ended (m.fwNext 6))) ∧
       (m.fw.flags.getLsbD 0 = false → run 0 = .next (s.ended m.fwOver)))) ∧
    (s.fw.stage = 6 → outcome ≠ 0 ∨ ¬ late → run outcome = .next (s.ended (e.fwFlash outcome))) ∧
    (s.fw.stage = 6 → late → run 0 = .next (s.ended (e.fwFlash 2))) ∧
    (s.fw.stage = 0 ∨ s.fw.stage = 4 ∨ 6 < s.fw.stage → run outcome = .next (s.ended e)) ∧
    (s.fw.stage = 4 → s.fw.armed = false → s.tickInstant s.fw.handover ≤ s.clock.up + dt + 7500000 →
      Sys2Proof.Machine.exec (.handoverArm dt) s = .next (s.ended { e with fw := { s.fw with armed := true } })) ∧
    (s.fw.stage ≠ 4 ∨ s.fw.armed = true → Sys2Proof.Machine.exec (.handoverArm dt) s = .next (s.ended e)) ∧
    (s.fw.stage = 4 → s.fw.armed = true → s.fw.granted = false → s.tickInstant s.fw.handover ≤ s.clock.up + dt + 3000 →
      Sys2Proof.Machine.exec (.handoverGrant dt) s = .next (s.ended
        (({ e with fw := { s.fw with granted := true }, bellows := { s.bellows with grantCause := 4 } } : State).grant s.fw.newChanter))) ∧
    (s.fw.stage ≠ 4 ∨ s.fw.armed = false ∨ s.fw.granted = true →
      Sys2Proof.Machine.exec (.handoverGrant dt) s = .next (s.ended e))

/-- SERVICE_HOURS rises by one each hour while BELLOWS_IN is there and the A9 is deployed, and not otherwise. -/
def Claim.ServiceHours : Prop :=
  ∀ (dt : Nat) (s : State),
    let e := s.elapse dt
    (s.bellows.running = true → s.bellows.inOk = true → s.security.lifecycle = 1 → Sys2Proof.Machine.exec (.serviceHour dt) s =
      .next (s.ended { e with flash := { s.flash with serviceHours := (s.flash.serviceHours + 1) % 0x100000000 } })) ∧
    (s.bellows.running = false ∨ s.bellows.inOk = false ∨ s.security.lifecycle ≠ 1 →
      Sys2Proof.Machine.exec (.serviceHour dt) s = .next (s.ended e))

/-- Management datagrams: a port that is closed, and bytes that are no datagram, change nothing; a query is answered with the serial
number and session; a refused command only raises EV_SIG_FAIL, at most once a second; an accepted one takes its COUNTER and runs in
mailbox 7, or is answered BUSY where that is in use. -/
def Claim.ManagementDatagrams : Prop :=
  ∀ (dt : Nat) (n : Fin 2) (b : List Byte) (s : State),
    let e := s.elapse dt
    let run := Sys2Proof.Machine.exec (.mgmtDatagram dt n b) s
    let k := u8 b 5
    (s.mgmtOpen n = false ∨ 8192 < b.length ∨ b.length < 40 ∨ u32 b 0 ≠ 0x544D4752 → run = .next (s.ended e)) ∧
    (s.mgmtOpen n = true → 40 ≤ b.length → b.length ≤ 8192 → u32 b 0 = 0x544D4752 →
      (u8 b 4 = 0 → run = .next (s.ended (e.emit (.mgmtSend n (s.mgmtHeader k 0))))) ∧
      (1 < u8 b 4 → run = .next (s.ended e)) ∧
      (u8 b 4 = 1 →
        let accepted := fun (t : State) => if s.mgmtRefusal b = 0 then t else e.mgmtRefused (s.mgmtRefusal b)
        let body := slice b 40 (16 + u16 b 48)
        let a := { e with security := { s.security with lastCounter := upd s.security.lastCounter k fun _ => u64 b 32 } }
        let c := Cmd.parse 7 body
        ((s.mbx 7).state = 1 ∨ (s.mbx 7).state = 2 → run = .next (s.ended (accepted (a.emit (.mgmtSend n
          (a.mgmtHeader k (u64 b 32) ++ (({ status := stBusy } : Err).resp c).bytes c)))))) ∧
        ((s.mbx 7).state ≠ 1 → (s.mbx 7).state ≠ 2 →
          let taken := a.updMbx 7 fun m => { m with running := body, mgmt := some (n.val, k, u64 b 32), rungAt := s.clock.up + dt }
          (s.serves = true → s.fw.armed = false → run = .next (s.ended (accepted
            ((taken.updMbx 7 fun m => { m with state := 2, acceptedAt := s.clock.up + dt }).runMbx 7)))) ∧
          (s.serves = true → s.fw.armed = true → run = .next (s.ended (accepted
            ((taken.updMbx 7 fun m => { m with state := 2, acceptedAt := s.clock.up + dt }).acceptHeld 7)))) ∧
          (s.serves = false → run = .next (s.ended (accepted (taken.updMbx 7 fun m => { m with state := 1 })))))))

/-! ### Rules of the whole machine -/

/-- The stageable commands: each is one that the two rules of staging speak of. -/
def Claim.StageableRows : Prop :=
  ∀ (dt : Nat) (h : CmdHdr) (p : List Byte),
    let staged := fun (i : Instr) => ∃ d, firmwareOf i = some (d, dt, h, p) ∧ d.kind = .stageable
    staged (.modeSet dt h p) ∧ staged (.streamOpen dt h p) ∧ staged (.streamClose dt h p) ∧ staged (.sceneBind dt h p) ∧
    staged (.scenePlace dt h p) ∧ staged (.sceneLift dt h p) ∧ staged (.composeLayer dt h p) ∧ staged (.composeDeadtime dt h p) ∧
    staged (.calSets dt h p) ∧ staged (.calPolicy dt h p) ∧ staged (.standMap dt h p) ∧ staged (.standLut dt h p) ∧
    staged (.standLink dt h p) ∧ staged (.scanTiming dt h p) ∧ staged (.scanPrecharge dt h p) ∧ staged (.scanMeasurePlan dt h p) ∧
    staged (.scanFrameBase dt h p) ∧ staged (.steerTable dt h p) ∧ staged (.memOrdering dt h p) ∧ staged (.chainRole dt h p) ∧
    staged (.chainRegion dt h p) ∧ staged (.chainGrace dt h p) ∧ staged (.timeSource dt h p) ∧ staged (.recTriggers dt h p) ∧
    staged (.pwrLimit dt h p)

/-- CAL.MEASURE gives BAD_MODE in every mode but Calibrate, STAND.ADMIT in Standby and in Bring-up before it is complete, and in no other
mode; where a check whose code stands before BAD_MODE fails as well, that code is the one answered. -/
def Obligations.ModeGates : Prop :=
  ∀ (dt : Nat) (h : CmdHdr) (p : List Byte) (s : State),
    let gate := fun (d : CmdDef) (i : Instr) (shut : Prop) =>
      let b := s.begun dt d h p
      let errs := (d.cmd h p).headerErrs d b ++ d.checks b (d.cmd h p) ++ b.txnErrs d (d.cmd h p)
      ((∃ e ∈ errs, e.status = stBadMode) ↔ shut) ∧
      (s.Serving h.mbx.val → (d.cmd h p).tunnel = false → shut → ∃ e ∈ errs,
        Sys2Proof.Machine.exec i s = .next (s.ended (b.complete (d.cmd h p) { status := e.status, txn := h.txn, payload := e.detail })) ∧
        e.status ≤ stBadMode ∧ ((∀ o ∈ errs, stBadMode ≤ o.status) → e.status = stBadMode))
    gate calMeasure (.calMeasure dt h p) (s.modes.mode ≠ 7) ∧
    gate standAdmit (.standAdmit dt h p) (s.modes.mode = 0 ∨ (s.modes.mode = 1 ∧ s.modes.ready = false))

/-- A transition between modes: the table; a MODE.SET whose transition is "no" does not validate, one that is "ready" does not at its
blank without Bring-up complete, one to Bring-up not without a stand map or with a link of the map without a rate, each with BAD_MODE
where no setting it meets fails first; else it validates. -/
def Obligations.ModeTransitionsValidate : Prop :=
  ((List.range 8).map fun old => (List.range 8).map (transition old)) =
    [[1, 1, 0, 0, 0, 0, 0, 0], [1, 0, 2, 2, 2, 2, 0, 2], [1, 1, 1, 1, 1, 1, 1, 1], [1, 1, 1, 1, 1, 1, 1, 1],
     [1, 1, 1, 1, 1, 1, 1, 1], [1, 1, 1, 1, 1, 1, 1, 1], [1, 1, 1, 1, 1, 1, 1, 1], [1, 1, 1, 1, 1, 1, 0, 1]] ∧
  ∀ (s : State) (atBlank : Bool) (a : Nat) (base : Settings) (tag : Word) (p : List Byte),
    let m := u8 p 0
    let c : Staged := { opcode := 0x0201, tag := tag, payload := p }
    let fin := { base with mode := m, modeFlags := byteAt p 1 }
    let v := s.validateTxn atBlank a base [c]
    let bad := some ({ status := stBadMode, field := 16, index := 0, cause := stBadMode } : Err)
    (s.comboErrs a [c] base fin = [] →
      (transition base.mode m = 0 → v = bad) ∧
      (transition base.mode m = 1 → v = none) ∧
      (transition base.mode m = 2 → atBlank = false ∨ (s.modes.mode = 1 ∧ s.modes.ready = true) → v = none) ∧
      (transition base.mode m = 2 → atBlank = true → s.modes.mode ≠ 1 ∨ s.modes.ready = false → v = bad)) ∧
    (m = 1 → base.mode ≠ 1 → base.mapped = false ∨ (∃ l ∈ base.linksUsed, (base.links.getD l {}).rate = 0) →
      ∃ e, v = some e ∧ e.status ≤ stBadMode)

/-- Firmware starts a live training pass by itself 10 s after the previous pass, and where a stack's temperature has moved 5 °C since its
last pass, while a die answers and no other pass or change is under way; a pass of any kind that ends restarts the 10 s, and a live
pass that fails keeps the training data. -/
def Obligations.LiveTraining : Prop :=
  (∀ (dt : Nat) (s : State), s.storeUp 0 = true ∨ s.storeUp 1 = true → s.fs.selfRefresh = false → s.fs.trainQueue = [] →
    s.fs.trainAfter = [] → s.fs.changing = false →
    let e := s.elapse dt
    let moved := ∃ k < 4, s.storeUp (k / 2) = true ∧ ∃ t, s.fs.stackTemp.getD k none = some t ∧ 50 ≤ (t - s.fs.lastTrainTemp.getD k 0).natAbs
    (s.fs.lastTrainUp + sec 10 ≤ s.clock.up + dt ∨ moved →
      Sys2Proof.Machine.exec (.liveTrainAuto dt) s = .next (s.ended (e.queuePass 0xFF 2 0))) ∧
    (s.clock.up + dt < s.fs.lastTrainUp + sec 10 → ¬ moved →
      Sys2Proof.Machine.exec (.liveTrainAuto dt) s = .next (s.ended e))) ∧
  (∀ (dt : Nat) (s : State),
    ((s.storeUp 0 || s.storeUp 1) && !s.fs.selfRefresh && s.fs.trainQueue == [] && s.fs.trainAfter == [] && !s.fs.changing) = false →
    Sys2Proof.Machine.exec (.liveTrainAuto dt) s = .next (s.ended (s.elapse dt))) ∧
  (∀ (dt sp kind : Nat) (tag : Word) (rest : List (Nat × Nat × Word)) (s : State),
    s.fs.trainQueue = (sp, kind, tag) :: rest → livePass kind = true → s.fs.changing = false →
    let m := (s.elapse dt).passEnd false
    Sys2Proof.Machine.exec (.trainPassEnd dt false) s = .next (s.ended m) ∧ m.fs.trained = s.fs.trained ∧
    m.fs.trainFails = (s.fs.trainFails.mapIdx fun d n => if (s.passDies kind).contains d then (n + 1) % 0x100000000 else n) ∧ m.fs.setPoint = s.fs.setPoint ∧ m.fs.mem = (s.elapse dt).fs.mem) ∧
  (∀ (dt sp kind : Nat) (ok : Bool) (tag : Word) (rest : List (Nat × Nat × Word)) (s : State),
    s.fs.trainQueue = (sp, kind, tag) :: rest → s.fs.changing = false →
    ((s.elapse dt).passEnd ok).fs.lastTrainUp = s.clock.up + dt)

/-- A port that died stays dead until it is brought up again and has carried valid beacons for 1 s: it is restored then, with
EV_CHAIN_RESTORED, and not before. -/
def Claim.DeadPortsStayDead : Prop :=
  ∀ (s : State) (p : Nat), (s.port p).state = 4 → p < s.chain.ports.length →
    ((s.port p).lanes = 0 ∨ (∀ t, (s.port p).goodSince = some t → s.clock.up < t + 3000000000) → s.restorePort p = s) ∧
    (∀ t, (s.port p).lanes ≠ 0 → (s.port p).goodSince = some t → t + 3000000000 ≤ s.clock.up →
      let here := (s.port p).heard.flags.getLsbD 2
      s.restorePort p = (s.updPort p fun q => { q with
        state := q.lanes, lanes := 0, wasUp := true, inAnd := q.inAnd || here, grace := if here then none else q.grace
        leftOut := q.leftOut && !here }).raise evChainRestored p [(s.port p).heard.address])

/-- REC.ERASE: a KEY other than 0x45534152 gives BAD_FIELD, nonzero reserved bytes RESERVED, the deployed state LIFECYCLE, a running flush
or erase BUSY, and no other check of its own exists; the erase that ends forgets every history sector with EV_REC_FLUSHED, P1 0,
and the log in SRAM is not touched. -/
def Obligations.EraseNeedsItsKey : Prop :=
  (∀ (s : State) (c : Cmd), recErase.checks s c = [] ↔
    u32 c.payload 0 = 0x45534152 ∧ rsvBytes c.payload 4 8 = [] ∧ s.recorder.erasing = none ∧ s.recorder.flushing = none ∧
    s.security.lifecycle ≠ 1) ∧
  (∀ (s : State) (c : Cmd),
    (u32 c.payload 0 ≠ 0x45534152 → ({ status := stBadField, field := 16 } : Err) ∈ recErase.checks s c) ∧
    (s.security.lifecycle = 1 → ({ status := stLifecycle } : Err) ∈ recErase.checks s c)) ∧
  (∀ (dt : Nat) (h : CmdHdr) (p : List Byte) (s : State), recErase.Starts dt h p s → s.flash.present = true →
    let b := s.begun dt recErase h p
    Sys2Proof.Machine.exec (.recErase dt h p) s = .next (s.ended
      (({ b with recorder := { s.recorder with erasing := some h.tag } } : State).answered recErase h p []))) ∧
  (∀ (dt : Nat) (tag : Word) (s : State), s.recorder.flushing = none → s.recorder.erasing = some tag →
    let m := ({ s.elapse dt with recorder := { s.recorder with erasing := none }, flash := { s.flash with history := [] } } : State).raise
      evRecFlushed noUnit [0, 0] tag
    Sys2Proof.Machine.exec (.recFlushEnd dt true) s = .next (s.ended m) ∧ m.flash.history = [] ∧
    m.recorder.sram = s.recorder.sram ∧ m.recorder.head = s.recorder.head)

/-- A stand without STATUS for five consecutive frames is declared removed with EV_STAND_REMOVED, UNIT the stand and P0 its link: dark
and its bands unknown where it was not released, and excluded where step 6 runs for it; before that, or declared already and not seen since, nothing
changes.  Each frame of a link that carries packets counts one more without STATUS, and a STATUS starts the count anew. -/
def Obligations.StandsAreRemoved : Prop :=
  ∀ (dt i : Nat) (s : State), i < s.stands.length →
    let e := s.elapse dt
    (5 ≤ (s.stand i).statusMiss → (s.stand i).removed = false ∨ (s.stand i).seen = true → (s.stand i).released = false →
      Sys2Proof.Machine.exec (.standRemoved dt i) s = .next (s.ended
        (((e.updStand i fun st => { ({ st with removed := true, seen := false } : Stand).unknownAll with
          dark := true, kss := 0, kssDue := false }).raise evStandRemoved i [(s.standCfg i).link]).undriven i))) ∧
    (5 ≤ (s.stand i).statusMiss → (s.stand i).removed = false ∨ (s.stand i).seen = true → (s.stand i).released = true →
      Sys2Proof.Machine.exec (.standRemoved dt i) s = .next (s.ended
        (((e.updStand i fun st => { st with removed := true, seen := false }).raise evStandRemoved i [(s.standCfg i).link]).undriven i))) ∧
    ((s.stand i).statusMiss < 5 ∨ ((s.stand i).removed = true ∧ (s.stand i).seen = false) →
      Sys2Proof.Machine.exec (.standRemoved dt i) s = .next (s.ended e)) ∧
    ((s.stand i).unknownAll.bands.all (!·.known) = true) ∧
    (s.linkRuns (s.standCfg i).link = true → (s.countMissing.stand i).statusMiss = (s.stand i).statusMiss + 1) ∧
    (∀ b, ((s.statusPacket i b).stand i).statusMiss = 0)

/-- After a rail fault, 100 ms of rails in range end it and let the stand's known-state sequence start; less, or no fault, does not. -/
def Claim.RailsRecover : Prop :=
  ∀ (dt i t : Nat) (s : State), (s.stand i).railOkAt = some t →
    ((s.stand i).railFault = true → t + 300000000 ≤ s.clock.up + dt →
      Sys2Proof.Machine.exec (.standRailRecovered dt i) s = .next (s.ended
        ((s.elapse dt).updStand i fun st => { st with kssDue := true, railOkAt := none, railFault := false }))) ∧
    ((s.stand i).railFault = false ∨ s.clock.up + dt < t + 300000000 →
      Sys2Proof.Machine.exec (.standRailRecovered dt i) s = .next (s.ended (s.elapse dt)))

/-- The word of a ray holds three 10-bit codes under two zero bits; the code of a failed channel is 0, any other differs by at
most one from the code of the ray's drive fraction (the latitude is a free value, log entry 20).  The code of a drive fraction v in 0 to
1 is round(1,023 × v^(5/12)), halves up, and a fraction outside is clamped. -/
def Claim.DriveCodes : Prop :=
  (∀ (s : State) (i j k r : Nat),
    let w := s.writtenRay i j k r
    w < 2 ^ 30 ∧ w / 2 ^ 20 = s.rayCode i j k r 0 ∧ w / 2 ^ 10 % 2 ^ 10 = s.rayCode i j k r 1 ∧ w % 2 ^ 10 = s.rayCode i j k r 2 ∧
    ∀ ch, ch < 3 →
      ((s.stand j).cal.failedCh (rayHogel k r) (rayEmitter r) ch = true → s.rayCode i j k r ch = 0) ∧
      ((s.stand j).cal.failedCh (rayHogel k r) (rayEmitter r) ch = false →
        s.rayCode i j k r ch ≤ driveCode ((s.rayDrive i j k r).getD ch 0) + 1 ∧
        driveCode ((s.rayDrive i j k r).getD ch 0) ≤ s.rayCode i j k r ch + 1)) ∧
  (∀ v : Rat, 0 ≤ v → v ≤ 1 →
    driveCode v ≤ 1023 ∧
    (0 < driveCode v → ((2 * (driveCode v : Rat) - 1) / 2046) ^ 12 ≤ v ^ 5) ∧
    (driveCode v < 1023 → v ^ 5 < ((2 * (driveCode v : Rat) + 1) / 2046) ^ 12)) ∧
  (∀ v : Rat, (v < 0 → driveCode v = 0) ∧ (1 < v → driveCode v = 1023))

/-- A kerf's words stand in its ray frame in the four steering states, two hogels of 256 emitters in each, and no byte outside them
changes.  A kerf written in time is valid, not late, and its other ray frame is the current one; a late kerf keeps all it shows.  A kerf
context takes 64 bytes. -/
def Claim.KerfsGoToTheirFrame : Prop :=
  (∀ (s : State) (c : Settings) (i k frame state n : Nat) (m : List Host.Cell), Memory.wf m = true → state < 4 → n < 512 →
    u32 (Mem.reads (s.writeFrame c i k frame m) (c.rayAddr i frame state k + 4 * n) 4) 0 = (s.kerfWords i k state).getD n 0) ∧
  (∀ (s : State) (c : Settings) (i k frame a : Nat) (m : List Host.Cell), Memory.wf m = true →
    (∀ state < 4, a < c.rayAddr i frame state k ∨ c.rayAddr i frame state k + 2048 ≤ a) →
    Mem.read (s.writeFrame c i k frame m) a = Mem.read m a) ∧
  (∀ (s : State) (i k : Nat) (x : Kerf), x.select ≤ 1 →
    let y := s.writtenKerf i k x
    y.valid = true ∧ y.late = false ∧ y.lateRun = 0 ∧ y.invalid = false ∧ y.select ≠ x.select ∧ y.select ≤ 1 ∧
    y.sceneGen = s.synth.window.latchScene ∧ y.composeDone = x.composeWant ∧ y.lastTick = s.synth.window.tick % 2 ^ 32 ∧
    x.lateKerf.late = true ∧ x.lateKerf.valid = x.valid ∧ x.lateKerf.select = x.select ∧ x.lateKerf.sceneGen = x.sceneGen ∧
    x.lateKerf.lateRun = min 0xFFFF (x.lateRun + 1)) ∧
  (∀ (s : State) (dt : Nat), s.synth.window.active = false → (s.elapse dt).fs.mem = s.bakeWrites dt s.fs.mem) ∧
  (∀ (s : State) (i k : Nat), ((s.stand i).kerf k).insetGen.length = 3 → (s.kerfRecord i k).length = 64)

/-- A RAY packet carries 512 codes of 30 bits, the first lowest: code 0 of a kerf that was not valid at scan-out start, LEVEL in each
colour for a stand that shows a test pattern, and else what stands in the ray frame that the kerf's latched bit names, code 0 in a poisoned
granule. -/
def Claim.RayPacketsCarryTheCodes : Prop :=
  (∀ (l : List Nat) (n : Nat), l.length = 512 → n < 512 →
    (packCodes l).length = 1920 ∧ uN (packCodes l) 0 1920 / 2 ^ (30 * n) % 2 ^ 30 = l.getD n 0 % 2 ^ 30) ∧
  (∀ (s : State) (i k sub tick : Nat) (level : Option Nat), (s.rayBody i k sub tick level).length = 1933) ∧
  (∀ (s : State) (i k sub tick : Nat),
    let bits := s.scanLatch.getD i []
    let b := lookupD bits k (lookupD bits 8192 (false, 0))
    let a := (s.shownFrames s.synth.scanCfg tick).rayAddr i b.2 sub k
    (b.1 = false → ∀ n, (s.scanCodes i k sub tick none).getD n 0 = 0) ∧
    (b.1 = true → ∀ n < 512,
      (s.isPoisoned (a + 4 * n) = true → (s.scanCodes i k sub tick none).getD n 0 = 0) ∧
      (s.isPoisoned (a + 4 * n) = false →
        (s.scanCodes i k sub tick none).getD n 0 = u32 (Mem.reads s.fs.mem (a + 4 * n) 4) 0 % 2 ^ 30)) ∧
    (∀ level n, level < 1024 → n < 512 →
      (s.scanCodes i k sub tick (some level)).getD n 0 = level * 2 ^ 20 + level * 2 ^ 10 + level))

/-! ### Every command that is no firmware command, by its name -/

/-- Commands of host accesses, and resets and power states of the PCIe function answer, in every state, what their effect leaves once the time before it has passed. -/
def Claim.HostCommandsRun : Prop :=
  (∀ (dt : Nat) (m : Fin 8) (s : State), let e := s.elapse dt
    Sys2Proof.Machine.exec (.ring dt m) s = .next (s.ended (e.live fun s => s.doorbell m))) ∧
  (∀ (dt : Nat) (v : Word) (s : State), let e := s.elapse dt
    Sys2Proof.Machine.exec (.coldWest dt v) s = .next (s.ended (e.live fun s => s.globalWrite (fun n s => s.doorbell n) 0x00C (v ||| 1).toNat))) ∧
  (∀ (dt : Nat) (v : Word) (s : State), let e := s.elapse dt
    Sys2Proof.Machine.exec (.coldEast dt v) s = .next (s.ended (e.live fun s => s.globalWrite (fun n s => s.doorbell n) 0x00C (v ||| 2).toNat))) ∧
  (∀ (dt : Nat) (v : Word) (s : State), let e := s.elapse dt
    Sys2Proof.Machine.exec (.glbApertureHiWrite dt v) s = .next (s.ended (e.live fun s => s.globalWrite (fun n s => s.doorbell n) 0x01C v.toNat))) ∧
  (∀ (dt : Nat) (v : Word) (s : State), let e := s.elapse dt
    Sys2Proof.Machine.exec (.glbApertureLoWrite dt v) s = .next (s.ended (e.live fun s => s.globalWrite (fun n s => s.doorbell n) 0x018 v.toNat))) ∧
  (∀ (dt : Nat) (r : Fin 4) (v : Word) (s : State), let e := s.elapse dt
    Sys2Proof.Machine.exec (.ringEnable dt r v) s = .next (s.ended (e.live fun s => s.ringWriteReg r 0x10 (v ||| 0x80000000).toNat))) ∧
  (∀ (dt : Nat) (r : Fin 4) (v : Word) (s : State), let e := s.elapse dt
    Sys2Proof.Machine.exec (.ringDisable dt r v) s = .next (s.ended (e.live fun s => s.ringWriteReg r 0x10 (v &&& 0x7FFFFFFF).toNat))) ∧
  (∀ (dt : Nat) (r : Fin 4) (v : Word) (s : State), let e := s.elapse dt
    Sys2Proof.Machine.exec (.evrCidxWrite dt r v) s = .next (s.ended (e.live fun s => s.ringWriteReg r 0x1C v.toNat))) ∧
  (∀ (dt : Nat) (r : Fin 4) (s : State), let e := s.elapse dt
    Sys2Proof.Machine.exec (.evrStatusRead dt r) s = .next (s.ended (e.bar0Read (ringOff + 0x40 * r.val + 0x20) 4))) ∧
  (∀ (dt : Nat) (s : State), let e := s.elapse dt
    Sys2Proof.Machine.exec (.recDataRead dt) s = .next (s.ended (e.bar0Read (recorderOff + 4) 4))) ∧
  (∀ (dt : Nat) (off : Nat) (len : Nat) (s : State), let e := s.elapse dt
    Sys2Proof.Machine.exec (.cmdsetRevRead dt off len) s = .next (s.ended (if off ≤ cmdsetRevOff ∧ cmdsetRevOff + 2 ≤ off + len then e.bar0Read off len else e))) ∧
  (∀ (dt : Nat) (off : Nat) (data : List Byte) (s : State), let e := s.elapse dt
    Sys2Proof.Machine.exec (.registerWrite dt off data) s = .next (s.ended (e.bar0Write (fun n s => s.doorbell n) off data))) ∧
  (∀ (dt : Nat) (off : Nat) (len : Nat) (write : Bool) (s : State), let e := s.elapse dt
    Sys2Proof.Machine.exec (.unmapped dt off len write) s = .next (s.ended (if accessOf off len = .unmapped then e.touchBad off len write else e))) ∧
  (∀ (dt : Nat) (off : Nat) (len : Nat) (write : Bool) (s : State), let e := s.elapse dt
    Sys2Proof.Machine.exec (.badSize dt off len write) s = .next (s.ended (if accessOf off len = .bad then e.touchBad off len write else e))) ∧
  (∀ (dt : Nat) (off : Nat) (len : Nat) (s : State), let e := s.elapse dt
    Sys2Proof.Machine.exec (.bar2Read dt off len) s = .next (s.ended (e.bar2Read off len))) ∧
  (∀ (dt : Nat) (off : Nat) (data : List Byte) (s : State), let e := s.elapse dt
    Sys2Proof.Machine.exec (.bar2Write dt off data) s = .next (s.ended (e.bar2Write off data))) ∧
  (∀ (dt : Nat) (off : Nat) (data : List Byte) (s : State), let e := s.elapse dt
    Sys2Proof.Machine.exec (.bootBufferWrite dt off data) s = .next (s.ended (if e.hostBoot then e.bar2Write off data else e))) ∧
  (∀ (dt : Nat) (s : State), let e := s.elapse dt
    Sys2Proof.Machine.exec (.functionLevelReset dt) s = .next (s.ended (e.live fun s => s.functionReset))) ∧
  (∀ (dt : Nat) (s : State), let e := s.elapse dt
    Sys2Proof.Machine.exec (.perstN dt) s = .next (s.ended (State.perstAssert e))) ∧
  (∀ (dt : Nat) (s : State), let e := s.elapse dt
    Sys2Proof.Machine.exec (.d3hotEntry dt) s = .next (s.ended (e.live fun s => s.d3hotEnter))) ∧
  (∀ (dt : Nat) (s : State), let e := s.elapse dt
    Sys2Proof.Machine.exec (.d0Return dt) s = .next (s.ended (e.live fun s => s.d0Return)))

/-- Commands of instants of a frame answer, in every state, what their effect leaves once the time before it has passed. -/
def Claim.FrameCommandsRun : Prop :=
  (∀ (dt : Nat) (m : Fin 8) (s : State), let e := s.elapse dt
    Sys2Proof.Machine.exec (.mailboxStallTimeout dt m) s = .next (s.ended (e.mailboxStall m))) ∧
  (∀ (dt : Nat) (m : Fin 8) (s : State), let e := s.elapse dt
    Sys2Proof.Machine.exec (.chainTimeout dt m) s = .next (s.ended (e.chainTimeout m))) ∧
  (∀ (dt : Nat) (id : Nat) (s : State), let e := s.elapse dt
    Sys2Proof.Machine.exec (.txnTimeout dt id) s = .next (s.ended (e.txnTimeout id))) ∧
  (∀ (dt : Nat) (s : State), let e := s.elapse dt
    Sys2Proof.Machine.exec (.frameTick dt) s = .next (s.ended (State.frameTick e))) ∧
  (∀ (dt : Nat) (s : State), let e := s.elapse dt
    Sys2Proof.Machine.exec (.frameBlank dt) s = .next (s.ended (State.frameBlank e))) ∧
  (∀ (dt : Nat) (s : State), let e := s.elapse dt
    Sys2Proof.Machine.exec (.subframeStart dt) s = .next (s.ended (State.subframeStart e))) ∧
  (∀ (dt : Nat) (sizes : List (Nat × Nat × Nat × Nat)) (s : State), let e := s.elapse dt
    Sys2Proof.Machine.exec (.leadDeadline dt sizes) s = .next (s.ended (e.leadDeadline sizes))) ∧
  (∀ (dt : Nat) (costs : List (Nat × Nat × Nat)) (s : State), let e := s.elapse dt
    Sys2Proof.Machine.exec (.synthesisStart dt costs) s = .next (s.ended (e.synthesisStart costs))) ∧
  (∀ (dt : Nat) (s : State), let e := s.elapse dt
    Sys2Proof.Machine.exec (.kerfDeadline dt) s = .next (s.ended (State.kerfDeadlineAt e))) ∧
  (∀ (dt : Nat) (s : State), let e := s.elapse dt
    Sys2Proof.Machine.exec (.scanOutStart dt) s = .next (s.ended (State.scanOut e))) ∧
  (∀ (dt : Nat) (s : State), let e := s.elapse dt
    Sys2Proof.Machine.exec (.watermarkFire dt) s = .next (s.ended (State.fireWatermarks e))) ∧
  (∀ (dt : Nat) (s : State), let e := s.elapse dt
    Sys2Proof.Machine.exec (.liftPhaseEnd dt) s = .next (s.ended (State.liftEnd e))) ∧
  (∀ (dt : Nat) (s : State), let e := s.elapse dt
    Sys2Proof.Machine.exec (.liftTimeout dt) s = .next (s.ended (State.liftTimeout e)))

/-- Commands of ingest, the 2D engine and calibration answer, in every state, what their effect leaves once the time before it has passed. -/
def Claim.IngestCommandsRun : Prop :=
  (∀ (dt : Nat) (q : Fin 16) (pidx : Option Nat) (descs : List (Option (List Byte))) (s : State), let e := s.elapse dt
    Sys2Proof.Machine.exec (.queuePoll dt q pidx descs) s = .next (s.ended (e.queuePoll q pidx descs))) ∧
  (∀ (dt : Nat) (q : Fin 16) (found : Placed) (s : State), let e := s.elapse dt
    Sys2Proof.Machine.exec (.descriptorPlaced dt q found) s = .next (s.ended (e.descriptorPlaced q found))) ∧
  (∀ (dt : Nat) (n : Fin 8) (s : State), let e := s.elapse dt
    Sys2Proof.Machine.exec (.fetchResume dt n) s = .next (s.ended (e.fetchResume n))) ∧
  (∀ (dt : Nat) (n : Fin 8) (found : List Picture) (s : State), let e := s.elapse dt
    Sys2Proof.Machine.exec (.decodeDone dt n found) s = .next (s.ended (e.decodeDone n found))) ∧
  (∀ (dt : Nat) (n : Fin 8) (s : State), let e := s.elapse dt
    Sys2Proof.Machine.exec (.drainTimeout dt n) s = .next (s.ended (e.drainTimeout n))) ∧
  (∀ (dt : Nat) (s : State), let e := s.elapse dt
    Sys2Proof.Machine.exec (.blitDone dt) s = .next (s.ended (State.blitDoneNow e))) ∧
  (∀ (dt : Nat) (die : Fin 2) (s : State), let e := s.elapse dt
    Sys2Proof.Machine.exec (.bakeStart dt die) s = .next (s.ended (e.bakeStarts die))) ∧
  (∀ (dt : Nat) (stand : Nat) (s : State), let e := s.elapse dt
    Sys2Proof.Machine.exec (.bakeEnd dt stand) s = .next (s.ended (e.bakeEnds stand))) ∧
  (∀ (dt : Nat) (stand : Nat) (header : List Byte) (cells : List (Nat × Byte)) (s : State), let e := s.elapse dt
    Sys2Proof.Machine.exec (.calOperationEnd dt stand header cells) s = .next (s.ended (e.calOpEnds stand header cells))) ∧
  (∀ (dt : Nat) (stand : Nat) (s : State), let e := s.elapse dt
    Sys2Proof.Machine.exec (.concealRebuildEnd dt stand) s = .next (s.ended (e.concealRebuilt stand)))

/-- Commands of stand links answer, in every state, what their effect leaves once the time before it has passed. -/
def Claim.LinkCommandsRun : Prop :=
  (∀ (dt : Nat) (l : Fin 16) (blocks : List (Nat × Nat)) (spare : List (Nat × Nat)) (sent : Nat) (s : State), let e := s.elapse dt
    Sys2Proof.Machine.exec (.linkFrameReceived dt l blocks spare sent) s = .next (s.ended (e.blocksReceived l blocks spare sent))) ∧
  (∀ (dt : Nat) (l : Fin 16) (s : State), let e := s.elapse dt
    Sys2Proof.Machine.exec (.replayTimeout dt l) s = .next (s.ended (e.replayTimeout l))) ∧
  (∀ (dt : Nat) (l : Fin 16) (pos : Nat) (kind : Nat) (sub : Nat) (row : Nat) (tick : Nat) (first : Nat) (data : List Byte) (s : State), let e := s.elapse dt
    Sys2Proof.Machine.exec (.diagReceived dt l pos kind sub row tick first data) s = .next (s.ended (e.diagReceived l pos kind sub row tick first data))) ∧
  (∀ (dt : Nat) (l : Fin 16) (readings : List Int) (s : State), let e := s.elapse dt
    Sys2Proof.Machine.exec (.tempReceived dt l readings) s = .next (s.ended (if e.linkUp l then e.tempPacket l readings else e))) ∧
  (∀ (dt : Nat) (l : Fin 16) (pos : Nat) (kind : Nat) (sub : Nat) (cmdId : Nat) (tick : Nat) (states : Nat) (dark : Nat) (pairs : Nat) (s : State), let e := s.elapse dt
    Sys2Proof.Machine.exec (.ackReceived dt l pos kind sub cmdId tick states dark pairs) s = .next (s.ended (e.ackReceived l pos kind sub cmdId tick states dark pairs))) ∧
  (∀ (dt : Nat) (l : Fin 16) (cause : Nat) (lane : Nat) (lane2 : Nat) (cmdId : Nat) (s : State), let e := s.elapse dt
    Sys2Proof.Machine.exec (.nakReceived dt l cause lane lane2 cmdId) s = .next (s.ended (e.nakPacket l cause lane lane2 cmdId))) ∧
  (∀ (dt : Nat) (l : Fin 16) (pos : Nat) (data : List Byte) (s : State), let e := s.elapse dt
    Sys2Proof.Machine.exec (.statusReceived dt l pos data) s = .next (s.ended (e.statusReceived l pos data))) ∧
  (∀ (dt : Nat) (l : Fin 16) (s : State), let e := s.elapse dt
    Sys2Proof.Machine.exec (.returnLaneLost dt l) s = .next (s.ended (e.returnLost l))) ∧
  (∀ (dt : Nat) (l : Fin 16) (lane : Nat) (s : State), let e := s.elapse dt
    Sys2Proof.Machine.exec (.spareLaneFault dt l lane) s = .next (s.ended (e.spareFault l lane))) ∧
  (∀ (dt : Nat) (l : Fin 16) (s : State), let e := s.elapse dt
    Sys2Proof.Machine.exec (.linkRecovery dt l) s = .next (s.ended (e.startRecovery l))) ∧
  (∀ (dt : Nat) (l : Fin 16) (lanes : List LaneReport) (order : List Nat) (ret : List (List Byte)) (s : State), let e := s.elapse dt
    Sys2Proof.Machine.exec (.linkRecoveryEnd dt l lanes order ret) s = .next (s.ended (e.recoveryEnd l lanes order ret))) ∧
  (∀ (dt : Nat) (l : Fin 16) (steps : List Nat) (lanes : List LaneReport) (frameErrs : Bool) (order : List Nat) (ret : List (List Byte)) (s : State), let e := s.elapse dt
    Sys2Proof.Machine.exec (.linkBringupEnd dt l steps lanes frameErrs order ret) s = .next (s.ended (e.bringupEnd l steps lanes frameErrs order ret))) ∧
  (∀ (dt : Nat) (l : Fin 16) (cause : Nat) (s : State), let e := s.elapse dt
    Sys2Proof.Machine.exec (.linkBringupTimeout dt l cause) s = .next (s.ended (e.bringupTimeout l cause))) ∧
  (∀ (dt : Nat) (l : Fin 16) (s : State), let e := s.elapse dt
    Sys2Proof.Machine.exec (.linkWake dt l) s = .next (s.ended (e.linkWake l))) ∧
  (∀ (dt : Nat) (stand : Nat) (s : State), let e := s.elapse dt
    Sys2Proof.Machine.exec (.tempTimeout dt stand) s = .next (s.ended (e.tempTimeout stand))) ∧
  (∀ (dt : Nat) (stand : Nat) (s : State), let e := s.elapse dt
    Sys2Proof.Machine.exec (.standRemoved dt stand) s = .next (s.ended (e.standRemoved stand))) ∧
  (∀ (dt : Nat) (stand : Nat) (s : State), let e := s.elapse dt
    Sys2Proof.Machine.exec (.standRailRecovered dt stand) s = .next (s.ended (e.railRecovered stand)))

/-- Commands of the frame store answer, in every state, what their effect leaves once the time before it has passed. -/
def Claim.MemCommandsRun : Prop :=
  (∀ (dt : Nat) (pc : Nat) (realTime : Bool) (s : State), let e := s.elapse dt
    Sys2Proof.Machine.exec (.refreshDue dt pc realTime) s = .next (s.ended (if pc < 128 then e.refreshDue pc realTime else e))) ∧
  (∀ (dt : Nat) (s : State), let e := s.elapse dt
    Sys2Proof.Machine.exec (.liveTrainAuto dt) s = .next (s.ended (State.liveAuto e))) ∧
  (∀ (dt : Nat) (ok : Bool) (s : State), let e := s.elapse dt
    Sys2Proof.Machine.exec (.trainPassEnd dt ok) s = .next (s.ended (e.passEnd ok))) ∧
  (∀ (dt : Nat) (s : State), let e := s.elapse dt
    Sys2Proof.Machine.exec (.setPointChangeStart dt) s = .next (s.ended (State.changeStart e))) ∧
  (∀ (dt : Nat) (ok : Bool) (s : State), let e := s.elapse dt
    Sys2Proof.Machine.exec (.setPointChangeEnd dt ok) s = .next (s.ended (e.changeEnd ok))) ∧
  (∀ (dt : Nat) (addr : Nat) (s : State), let e := s.elapse dt
    Sys2Proof.Machine.exec (.memCorrectedRead dt addr) s = .next (s.ended (if e.storeUp (addr / (64 * gib)) then e.corrected addr else e))) ∧
  (∀ (dt : Nat) (addr : Nat) (port : Nat) (s : State), let e := s.elapse dt
    Sys2Proof.Machine.exec (.memUncorrectableRead dt addr port) s = .next (s.ended (e.uncorrectable addr port))) ∧
  (∀ (dt : Nat) (pc : Nat) (row : Nat) (s : State), let e := s.elapse dt
    Sys2Proof.Machine.exec (.rowSpare dt pc row) s = .next (s.ended (e.rowSpare pc row))) ∧
  (∀ (dt : Nat) (die : Fin 2) (page : Nat) (s : State), let e := s.elapse dt
    Sys2Proof.Machine.exec (.pageRetireCopyEnd dt die page) s = .next (s.ended (e.pageCopied die page))) ∧
  (∀ (dt : Nat) (die : Fin 2) (s : State), let e := s.elapse dt
    Sys2Proof.Machine.exec (.frameBaseCopyEnd dt die) s = .next (s.ended (e.frameBaseCopied die))) ∧
  (∀ (dt : Nat) (die : Fin 2) (s : State), let e := s.elapse dt
    Sys2Proof.Machine.exec (.patrolScrub dt die) s = .next (s.ended (if e.storeUp die then e.scrubEnd die else e)))

/-- Commands of the skyline answer, in every state, what their effect leaves once the time before it has passed. -/
def Claim.ChainCommandsRun : Prop :=
  (∀ (dt : Nat) (s : State), let e := s.elapse dt
    Sys2Proof.Machine.exec (.beaconSend dt) s = .next (s.ended (State.beaconSend e))) ∧
  (∀ (dt : Nat) (p : Fin 4) (data : List Byte) (rx : SkyRx) (s : State), let e := s.elapse dt
    Sys2Proof.Machine.exec (.beaconReceived dt p data rx) s = .next (s.ended (e.arrives p rx fun s => s.beaconReceived p data))) ∧
  (∀ (dt : Nat) (p : Fin 4) (n : Fin 8) (seq : Nat) (desc : List Byte) (found : Placed) (rx : SkyRx) (s : State), let e := s.elapse dt
    Sys2Proof.Machine.exec (.relayReceived dt p n seq desc found rx) s = .next (s.ended (e.arrives p rx fun s => s.relayReceived p n seq desc found))) ∧
  (∀ (dt : Nat) (p : Fin 4) (kind : Nat) (m : Fin 8) (data : List Byte) (rx : SkyRx) (s : State), let e := s.elapse dt
    Sys2Proof.Machine.exec (.mgmtReceived dt p kind m data rx) s = .next (s.ended (e.arrives p rx fun s => s.mgmtReceived p kind m data))) ∧
  (∀ (dt : Nat) (p : Fin 4) (sender : Nat) (record : List Byte) (rx : SkyRx) (s : State), let e := s.elapse dt
    Sys2Proof.Machine.exec (.eventReceived dt p sender record rx) s = .next (s.ended (e.arrives p rx fun s => s.eventReceived p sender record))) ∧
  (∀ (dt : Nat) (p : Fin 4) (lockLost : Bool) (s : State), let e := s.elapse dt
    Sys2Proof.Machine.exec (.portDead dt p lockLost) s = .next (s.ended (e.portDead p lockLost))) ∧
  (∀ (dt : Nat) (p : Fin 4) (s : State), let e := s.elapse dt
    Sys2Proof.Machine.exec (.parentReturn dt p) s = .next (s.ended (e.parentReturn p))) ∧
  (∀ (dt : Nat) (p : Fin 4) (full : Bool) (s : State), let e := s.elapse dt
    Sys2Proof.Machine.exec (.skylinePortUp dt p full) s = .next (s.ended (e.portUp p full))) ∧
  (∀ (dt : Nat) (p : Fin 4) (s : State), let e := s.elapse dt
    Sys2Proof.Machine.exec (.tickEdge dt p) s = .next (s.ended (e.tickEdge p))) ∧
  (∀ (dt : Nat) (p : Fin 4) (level : Bool) (s : State), let e := s.elapse dt
    Sys2Proof.Machine.exec (.readyInputChange dt p level) s = .next (s.ended (e.readyInput p level))) ∧
  (∀ (dt : Nat) (p : Fin 4) (roundPs : Nat) (s : State), let e := s.elapse dt
    Sys2Proof.Machine.exec (.hopMeasure dt p roundPs) s = .next (s.ended (e.hopMeasure p roundPs))) ∧
  (∀ (dt : Nat) (p : Fin 4) (s : State), let e := s.elapse dt
    Sys2Proof.Machine.exec (.readyGraceExpiry dt p) s = .next (s.ended (e.graceEnd p)))

/-- Commands of the time base answer, in every state, what their effect leaves once the time before it has passed. -/
def Claim.TimeCommandsRun : Prop :=
  (∀ (dt : Nat) (falling : Bool) (widthNs : Nat) (s : State), let e := s.elapse dt
    Sys2Proof.Machine.exec (.fsyncInEdge dt falling widthNs) s = .next (s.ended (e.fsyncEdge falling widthNs))) ∧
  (∀ (dt : Nat) (s : State), let e := s.elapse dt
    Sys2Proof.Machine.exec (.fsyncStuck dt) s = .next (s.ended (State.fsyncStuck e))) ∧
  (∀ (dt : Nat) (n : Fin 2) (secs : Nat) (nanos : Nat) (corr : Int) (s : State), let e := s.elapse dt
    Sys2Proof.Machine.exec (.ptpSync dt n secs nanos corr) s = .next (s.ended (e.ptpSync n secs nanos corr))) ∧
  (∀ (dt : Nat) (n : Fin 2) (identity : BitVec 64) (selects : Bool) (s : State), let e := s.elapse dt
    Sys2Proof.Machine.exec (.ptpAnnounce dt n identity selects) s = .next (s.ended (e.ptpAnnounce n identity selects))) ∧
  (∀ (dt : Nat) (n : Fin 2) (s : State), let e := s.elapse dt
    Sys2Proof.Machine.exec (.ptpAnnounceTimeout dt n) s = .next (s.ended (e.announceTimeout n))) ∧
  (∀ (dt : Nat) (n : Fin 4) (s : State), let e := s.elapse dt
    Sys2Proof.Machine.exec (.tpulseFire dt n) s = .next (s.ended (e.pulseFire n)))

/-- Commands of the lease, region errors and the dies answer, in every state, what their effect leaves once the time before it has passed. -/
def Claim.ContainCommandsRun : Prop :=
  (∀ (dt : Nat) (die : Fin 2) (s : State), let e := s.elapse dt
    Sys2Proof.Machine.exec (.leaseRenewal dt die) s = .next (s.ended (e.leaseRenew die))) ∧
  (∀ (dt : Nat) (s : State), let e := s.elapse dt
    Sys2Proof.Machine.exec (.leaseMissed dt) s = .next (s.ended (State.leaseMissed e))) ∧
  (∀ (dt : Nat) (west : Bool) (east : Bool) (s : State), let e := s.elapse dt
    Sys2Proof.Machine.exec (.leaseRequest dt west east) s = .next (s.ended (e.leaseRequest west east))) ∧
  (∀ (dt : Nat) (die : Fin 2) (s : State), let e := s.elapse dt
    Sys2Proof.Machine.exec (.routeLossTimeout dt die) s = .next (s.ended (e.routeLoss die))) ∧
  (∀ (dt : Nat) (die : Fin 2) (cut : Nat) (s : State), let e := s.elapse dt
    Sys2Proof.Machine.exec (.mcDomainReset dt die cut) s = .next (s.ended (e.domainResetCut die cut))) ∧
  (∀ (dt : Nat) (kind : Nat) (unit : Nat) (cut : Nat) (s : State), let e := s.elapse dt
    Sys2Proof.Machine.exec (.watchdogExpiry dt kind unit cut) s = .next (s.ended ((e.watchdog kind unit).openRecord cut))) ∧
  (∀ (dt : Nat) (kind : Nat) (unit : Nat) (cls : Nat) (hit : Option (Fin 8)) (s : State), let e := s.elapse dt
    Sys2Proof.Machine.exec (.regionErrorDetected dt kind unit cls hit) s = .next (s.ended (if regionExists kind unit ∧ 1 ≤ cls ∧ cls ≤ 7 then (e.internal cls hit).hardwareError kind unit cls else e))) ∧
  (∀ (dt : Nat) (die : Fin 2) (s : State), let e := s.elapse dt
    Sys2Proof.Machine.exec (.handlerStart dt die) s = .next (s.ended (e.handlerStart die))) ∧
  (∀ (dt : Nat) (die : Fin 2) (pass : Bool) (s : State), let e := s.elapse dt
    Sys2Proof.Machine.exec (.handlerTestEnd dt die pass) s = .next (s.ended (e.handlerEnd die (b2n (!pass))))) ∧
  (∀ (dt : Nat) (kind : Nat) (unit : Nat) (s : State), let e := s.elapse dt
    Sys2Proof.Machine.exec (.regionRetest dt kind unit) s = .next (s.ended (e.regionRetest kind unit))) ∧
  (∀ (dt : Nat) (die : Fin 2) (s : State), let e := s.elapse dt
    Sys2Proof.Machine.exec (.dieColdReset dt die) s = .next (s.ended (e.dieColdReset die))) ∧
  (∀ (dt : Nat) (die : Fin 2) (s : State), let e := s.elapse dt
    Sys2Proof.Machine.exec (.diePowerUp dt die) s = .next (s.ended (e.diePowerUp die))) ∧
  (∀ (dt : Nat) (unit : Nat) (s : State), let e := s.elapse dt
    Sys2Proof.Machine.exec (.ioBlockResume dt unit) s = .next (s.ended (e.ioResume unit)))

/-- Commands of boot and loss of power answer, in every state, what their effect leaves once the time before it has passed. -/
def Claim.BootCommandsRun : Prop :=
  (∀ (dt : Nat) (s : State), let e := s.elapse dt
    Sys2Proof.Machine.exec (.bellowsPowerUp dt) s = .next (s.ended (State.bellowsPowerUp e))) ∧
  (∀ (dt : Nat) (s : State), let e := s.elapse dt
    Sys2Proof.Machine.exec (.historyRestoreEnd dt) s = .next (s.ended (State.historyRestored e))) ∧
  (∀ (dt : Nat) (s : State), let e := s.elapse dt
    Sys2Proof.Machine.exec (.sysRstNAssert dt) s = .next (s.ended (State.rstAssert e))) ∧
  (∀ (dt : Nat) (straps : BitVec 3) (s : State), let e := s.elapse dt
    Sys2Proof.Machine.exec (.sysRstNRelease dt straps) s = .next (s.ended (e.rstRelease straps))) ∧
  (∀ (dt : Nat) (sent : List Byte) (s : State), let e := s.elapse dt
    Sys2Proof.Machine.exec (.bundleVerifyEnd dt sent) s = .next (s.ended (e.bundleVerified sent))) ∧
  (∀ (dt : Nat) (die : Fin 2) (ok : Bool) (s : State), let e := s.elapse dt
    Sys2Proof.Machine.exec (.complexSelfTestEnd dt die ok) s = .next (s.ended (e.selfTestEnd die ok))) ∧
  (∀ (dt : Nat) (die : Fin 2) (s : State), let e := s.elapse dt
    Sys2Proof.Machine.exec (.complexAbsent dt die) s = .next (s.ended (e.complexAbsent die))) ∧
  (∀ (dt : Nat) (s : State), let e := s.elapse dt
    Sys2Proof.Machine.exec (.leadershipTimeout dt) s = .next (s.ended (State.leadershipTimeout e))) ∧
  (∀ (dt : Nat) (s : State), let e := s.elapse dt
    Sys2Proof.Machine.exec (.standbyReached dt) s = .next (s.ended (State.standbyReached e))) ∧
  (∀ (dt : Nat) (p : Fin 4) (s : State), let e := s.elapse dt
    Sys2Proof.Machine.exec (.skylineBundleRequest dt p) s = .next (s.ended (e.serveBundle p))) ∧
  (∀ (dt : Nat) (s : State), let e := s.elapse dt
    Sys2Proof.Machine.exec (.skylineBootRetry dt) s = .next (s.ended (State.bootRetry e))) ∧
  (∀ (dt : Nat) (rail : Nat) (s : State), let e := s.elapse dt
    Sys2Proof.Machine.exec (.powerLoss dt rail) s = .next (s.ended (e.powerLossBy rail))) ∧
  (∀ (dt : Nat) (ok : Bool) (s : State), let e := s.elapse dt
    Sys2Proof.Machine.exec (.journalFlushEnd dt ok) s = .next (s.ended (e.journalFlushed ok))) ∧
  (∀ (dt : Nat) (ok : Bool) (s : State), let e := s.elapse dt
    Sys2Proof.Machine.exec (.recorderFlushEnd dt ok) s = .next (s.ended (e.recorderFlushed ok))) ∧
  (∀ (dt : Nat) (s : State), let e := s.elapse dt
    Sys2Proof.Machine.exec (.powerRestore dt) s = .next (s.ended (State.powerRestore e))) ∧
  (∀ (dt : Nat) (die : Fin 2) (s : State), let e := s.elapse dt
    Sys2Proof.Machine.exec (.coreRailRestored dt die) s = .next (s.ended (e.coreRestored die))) ∧
  (∀ (dt : Nat) (rail : Nat) (mv : Nat) (s : State), let e := s.elapse dt
    Sys2Proof.Machine.exec (.railFault dt rail mv) s = .next (s.ended (e.railFault rail mv))) ∧
  (∀ (dt : Nat) (mv : Nat) (s : State), let e := s.elapse dt
    Sys2Proof.Machine.exec (.holdupLow dt mv) s = .next (s.ended (e.holdupLow mv))) ∧
  (∀ (dt : Nat) (s : State), let e := s.elapse dt
    Sys2Proof.Machine.exec (.tbrefLoss dt) s = .next (s.ended (e.tbrefTo false)))

/-- Commands of temperature and power answer, in every state, what their effect leaves once the time before it has passed. -/
def Claim.PowerCommandsRun : Prop :=
  (∀ (dt : Nat) (temps : List Int) (s : State), let e := s.elapse dt
    Sys2Proof.Machine.exec (.junctionSample dt temps) s = .next (s.ended (e.junctionSample temps))) ∧
  (∀ (dt : Nat) (k : Fin 3) (s : State), let e := s.elapse dt
    Sys2Proof.Machine.exec (.thermalFence dt k) s = .next (s.ended (e.thermalFence k))) ∧
  (∀ (dt : Nat) (s : State), let e := s.elapse dt
    Sys2Proof.Machine.exec (.reedClockStep dt) s = .next (s.ended (State.clockStep e))) ∧
  (∀ (dt : Nat) (mw : Nat) (rails : List (Nat × Nat)) (s : State), let e := s.elapse dt
    Sys2Proof.Machine.exec (.powerCapSample dt mw rails) s = .next (s.ended (e.capSample mw rails))) ∧
  (∀ (dt : Nat) (die : Fin 2) (mv : Nat) (s : State), let e := s.elapse dt
    Sys2Proof.Machine.exec (.avsAdjust dt die mv) s = .next (s.ended (e.avsAdjust die mv))) ∧
  (∀ (dt : Nat) (die : Fin 2) (s : State), let e := s.elapse dt
    Sys2Proof.Machine.exec (.avsFailure dt die) s = .next (s.ended (e.avsFailure die)))

/-- Commands of service, and what was found beside the first rows answer, in every state, what their effect leaves once the time before it has passed. -/
def Claim.ServiceCommandsRun : Prop :=
  (∀ (dt : Nat) (r : Fin 4) (s : State), let e := s.elapse dt
    Sys2Proof.Machine.exec (.evrCoalesceTimeout dt r) s = .next (s.ended (e.coalesce r))) ∧
  (∀ (dt : Nat) (r : Fin 4) (s : State), let e := s.elapse dt
    Sys2Proof.Machine.exec (.mirrorFault dt r) s = .next (s.ended (e.mirrorFault r))) ∧
  (∀ (dt : Nat) (outcome : Nat) (s : State), let e := s.elapse dt
    Sys2Proof.Machine.exec (.fwUpdateStageEnd dt outcome) s = .next (s.ended (e.fwStageEnd outcome))) ∧
  (∀ (dt : Nat) (s : State), let e := s.elapse dt
    Sys2Proof.Machine.exec (.handoverArm dt) s = .next (s.ended (State.handoverArm e))) ∧
  (∀ (dt : Nat) (s : State), let e := s.elapse dt
    Sys2Proof.Machine.exec (.handoverGrant dt) s = .next (s.ended (State.handoverGrant e))) ∧
  (∀ (dt : Nat) (off : Nat) (s : State), let e := s.elapse dt
    Sys2Proof.Machine.exec (.recordPadTimeout dt off) s = .next (s.ended (e.padOpen off))) ∧
  (∀ (dt : Nat) (s : State), let e := s.elapse dt
    Sys2Proof.Machine.exec (.recFlushTrigger dt) s = .next (s.ended (State.flushTrigger e))) ∧
  (∀ (dt : Nat) (ok : Bool) (s : State), let e := s.elapse dt
    Sys2Proof.Machine.exec (.recFlushEnd dt ok) s = .next (s.ended (e.flushEnd ok))) ∧
  (∀ (dt : Nat) (s : State), let e := s.elapse dt
    Sys2Proof.Machine.exec (.serviceHour dt) s = .next (s.ended (State.serviceHour e))) ∧
  (∀ (dt : Nat) (n : Fin 2) (data : List Byte) (s : State), let e := s.elapse dt
    Sys2Proof.Machine.exec (.mgmtDatagram dt n data) s = .next (s.ended (e.mgmtDatagram (fun s => s.runMbx 7) n data))) ∧
  (∀ (dt : Nat) (s : State), let e := s.elapse dt
    Sys2Proof.Machine.exec (.droneInSync dt) s = .next (s.ended (State.droneInSync e))) ∧
  (∀ (dt : Nat) (die : Fin 2) (s : State), let e := s.elapse dt
    Sys2Proof.Machine.exec (.mcDomainRelease dt die) s = .next (s.ended (e.domainRelease die))) ∧
  (∀ (dt : Nat) (die : Fin 2) (s : State), let e := s.elapse dt
    Sys2Proof.Machine.exec (.handlerTestTimeout dt die) s = .next (s.ended (e.handlerTimeout die))) ∧
  (∀ (dt : Nat) (pc : Nat) (s : State), let e := s.elapse dt
    Sys2Proof.Machine.exec (.reserveCopyEnd dt pc) s = .next (s.ended (e.reserveCopied pc))) ∧
  (∀ (dt : Nat) (pc : Nat) (sid : Nat) (s : State), let e := s.elapse dt
    Sys2Proof.Machine.exec (.idlePowerDown dt pc sid) s = .next (s.ended (if pc < 128 then e.powerDown pc sid else e))) ∧
  (∀ (dt : Nat) (temps : List (Option Int)) (s : State), let e := s.elapse dt
    Sys2Proof.Machine.exec (.stackTempSample dt temps) s = .next (s.ended ((e.stackSample temps).stackThrottle))) ∧
  (∀ (dt : Nat) (pc : Nat) (count : Nat) (s : State), let e := s.elapse dt
    Sys2Proof.Machine.exec (.refreshRepay dt pc count) s = .next (s.ended (e.refreshRepay pc count))) ∧
  (∀ (dt : Nat) (port : Fin 16) (fill : Nat) (owes : Bool) (s : State), let e := s.elapse dt
    Sys2Proof.Machine.exec (.realTimePanic dt port fill owes) s = .next (s.ended (e.rtPanicChange port fill owes))) ∧
  (∀ (dt : Nat) (p : Fin 4) (s : State), let e := s.elapse dt
    Sys2Proof.Machine.exec (.hopEcho dt p) s = .next (s.ended (e.hopEcho p))) ∧
  (∀ (dt : Nat) (n : Fin 2) (kind : Nat) (s : State), let e := s.elapse dt
    Sys2Proof.Machine.exec (.ptpMessageInterval dt n kind) s = .next (s.ended (e.ptpInterval n kind))) ∧
  (∀ (dt : Nat) (n : Fin 2) (kind : Nat) (secs : Nat) (nanos : Nat) (corr : Int) (s : State), let e := s.elapse dt
    Sys2Proof.Machine.exec (.ptpDelayMessage dt n kind secs nanos corr) s = .next (s.ended (e.ptpDelay n kind secs nanos corr))) ∧
  (∀ (dt : Nat) (s : State), let e := s.elapse dt
    Sys2Proof.Machine.exec (.tbrefRestored dt) s = .next (s.ended (e.tbrefTo true))) ∧
  (∀ (dt : Nat) (s : State), let e := s.elapse dt
    Sys2Proof.Machine.exec (.perstNDeassert dt) s = .next (s.ended (State.perstRelease e))) ∧
  (∀ (dt : Nat) (mv : Nat) (s : State), let e := s.elapse dt
    Sys2Proof.Machine.exec (.holdupOkSet dt mv) s = .next (s.ended (e.holdupSet mv))) ∧
  (∀ (dt : Nat) (s : State), let e := s.elapse dt
    Sys2Proof.Machine.exec (.bellowsStop dt) s = .next (s.ended (State.bellowsStop e)))

/-! ### Statements made of several of the claims above -/

/-- Every command answers a next state and keeps the queue; each that is no firmware command is named with what it leaves. -/
def Obligations.EveryCommandAnswersANextState : Prop :=
  Claim.EveryCommandAnswers ∧
  Claim.HostCommandsRun ∧
  Claim.FrameCommandsRun ∧
  Claim.IngestCommandsRun ∧
  Claim.LinkCommandsRun ∧
  Claim.MemCommandsRun ∧
  Claim.ChainCommandsRun ∧
  Claim.TimeCommandsRun ∧
  Claim.ContainCommandsRun ∧
  Claim.BootCommandsRun ∧
  Claim.PowerCommandsRun ∧
  Claim.ServiceCommandsRun

/-- Stageable commands are staged, or form an armed transaction of their own. -/
def Obligations.StageableCommandsAreHeldOrArmed : Prop :=
  Claim.StageableCommandsAreStaged ∧ Claim.StageableCommandsArmAlone ∧ Claim.StageableRows

/-- A failed check is answered, the first code of several, and has no other effect. -/
def Obligations.FailedChecksHaveNoEffect : Prop :=
  Claim.FailedChecksOnlyAnswer ∧ Claim.TheFirstFailingCodeIsAnswered

/-- What ringing a mailbox does, and what completing a command leaves. -/
def Obligations.MailboxesRingAndComplete : Prop :=
  Claim.RingingAMailbox ∧ Claim.CompletingACommand

/-- The status commands complete OK and only answer. -/
def Obligations.StatusCommandsOnlyAnswer : Prop :=
  Claim.StatusCommandsAnswerTheirPayload ∧ Claim.TimeGetAnswersTheTime ∧ Claim.CertificateFragmentsAreAnswered

/-- SYS.IDENTIFY, SYS.EVENT_ROUTE, SYS.ECHO, REC.FLUSH, REC.ERASE and PWR.DOMAIN do their effect. -/
def Obligations.SystemAndRecorderCommandsDo : Prop :=
  Claim.SysCommandsDo ∧ Claim.RecorderAndPowerCommandsDo

/-- TXN.BEGIN, TXN.COMMIT and TXN.ROLLBACK open, arm and close a transaction. -/
def Obligations.TransactionCommandsDo : Prop :=
  Claim.BeginOpensATransaction ∧ Claim.CommitAndRollback ∧ Claim.CommittingArms

/-- The stream and compose commands do their effect. -/
def Obligations.StreamAndComposeCommandsDo : Prop :=
  Claim.StreamCommandsDo ∧ Claim.ComposeCommandsDo

/-- The calibration, stand and memory commands do their effect. -/
def Obligations.WallAndMemoryCommandsDo : Prop :=
  Claim.WallCommandsDo ∧ Claim.MemCommandsDo

/-- What each stageable command does at its blank. -/
def Obligations.SettingsApplyAtTheirBlank : Prop :=
  Claim.PlainSettingsTakeTheirPayload ∧
  Claim.ModeSetMakesItsModeDue ∧
  Claim.StreamAndLayerSettings ∧
  Claim.WallSettings ∧
  Claim.TimingAndChainSettings

/-- Host reads and writes of registers and areas. -/
def Obligations.RegisterAccesses : Prop :=
  Claim.ApertureMovesWithTheLowWord ∧ Claim.ReadsWithAnEffect ∧ Claim.RefusedAccesses ∧ Claim.RegisterWrites

/-- Ring control, the consumer index, the signalling wait and a failed write to host memory. -/
def Obligations.EventRingRegisters : Prop :=
  Claim.RingControlWrites ∧ Claim.ConsumerIndexWrites ∧ Claim.RingTimeoutsAndFaults

/-- BAR2 accesses read and write the frame store by region (free values: log entry 14). -/
def Obligations.ApertureAccesses : Prop :=
  Claim.HostFrameStoreAccesses ∧ Claim.MemoryWritesOneByte

/-- Boot-buffer writes, function-level reset, PERST_N and D3hot (log entry 96). -/
def Obligations.HostBootAndFunctionReset : Prop :=
  Claim.BootBufferWrites ∧ Claim.FunctionResetsAndPowerStates ∧ Claim.HostCommandsRun

/-- The frame blank, the tick and the sub-frames run in the order of the rules. -/
def Obligations.FrameInstantsRun : Prop :=
  Claim.FrameBlankRuns ∧ Claim.ArmedTransactionsApplyInOrder ∧ Claim.FrameTickRuns ∧ Claim.SubframesFollow

/-- Lead deadline, synthesis start, kerf deadline, scan-out start, front and lift phase. -/
def Obligations.SynthesisWindows : Prop :=
  Claim.LeadDeadlinesRun ∧
  Claim.SynthesisStartsItsWindow ∧
  Claim.KerfDeadlinesEndTheWindow ∧
  Claim.ScanOutLatches ∧
  Claim.FrontAndLift

/-- Queue polls, placed descriptors, resumed fetches and drains. -/
def Obligations.IngestFetchesInOrder : Prop :=
  Claim.QueuePollsFetch ∧ Claim.PlacedDescriptorsPass ∧ Claim.StreamsResumeAndDrain

/-- Frames are decoded or lost, and the 2D engine ends its operations in order. -/
def Obligations.DecodingAndBlits : Prop :=
  Claim.FramesAreDecodedOrLost ∧ Claim.BlitsEndInOrder ∧ Claim.IngestCommandsRun

/-- Bakes, calibration operations and concealment rebuilds start and end. -/
def Obligations.CalibrationWorkEnds : Prop :=
  Claim.BakesRun ∧ Claim.CalibrationOperationsEnd ∧ Claim.ConcealmentIsRebuilt

/-- Link frames in order, acknowledgement, replay, recovery and loss. -/
def Obligations.LinkFramesAndReplay : Prop :=
  Claim.BlocksAreRead ∧
  Claim.LinkFramesAreTakenInOrder ∧
  Claim.AcknowledgementsFreeTheBuffer ∧
  Claim.ReplaysAndRecoveries ∧
  Claim.LinksGoDown

/-- Bring-up attempts, lane sparing and waking of a stand link. -/
def Obligations.LinkBringUpAndLanes : Prop :=
  Claim.BringUpAttemptsEnd ∧ Claim.LanesAreSpared ∧ Claim.LinksWake ∧ Claim.LinkCommandsRun

/-- What TEMP, STATUS, DIAG and ACK packets of a stand do, and its rails back in range. -/
def Obligations.StandReports : Prop :=
  Claim.TemperaturesArrive ∧ Claim.StatusIsTaken ∧ Claim.DiagnosticsAreTaken ∧ Claim.AcksAreTaken ∧ Claim.RailsRecover

/-- Refresh debt, power-down, stack sensors and port panics. -/
def Obligations.RefreshAndPorts : Prop :=
  Claim.Refreshes ∧ Claim.SensorsAndPanics

/-- Training passes end, and set-point changes start and end. -/
def Obligations.TrainingAndSetPoints : Prop :=
  Claim.Training ∧ Claim.SetPointChanges

/-- Corrected and uncorrectable reads, row repair, page and bank copies, scrubs. -/
def Obligations.MemoryErrors : Prop :=
  Claim.CorrectedReads ∧ Claim.UncorrectableReads ∧ Claim.RowsAreSpared ∧ Claim.CopiesAndScrubsEnd

/-- Beacons, relayed data, tunnelled commands and events of the skyline, and the frames that carry them. -/
def Obligations.SkylinePackets : Prop :=
  Claim.Beacons ∧ Claim.SkylineFrames ∧ Claim.RelayPackets ∧ Claim.ManagementPackets

/-- When a skyline port is dead, and how long it stays dead. -/
def Obligations.DeadPortsAreBypassed : Prop :=
  Claim.PortsDie ∧ Claim.DeadPortsStayDead

/-- Ports come up; TICK, READY, hop delay and grace period. -/
def Obligations.SkylineTickAndReady : Prop :=
  Claim.PortsComeUp ∧ Claim.TickAndReady ∧ Claim.HopsAndGrace

/-- FSYNC_IN, PTP, TBREF and the timed outputs. -/
def Obligations.TimeBaseEvents : Prop :=
  Claim.FrameSyncEdges ∧ Claim.PtpMasters ∧ Claim.PtpMessages ∧ Claim.TimedPulses

/-- The lease, self-fencing, and the restart of a management complex. -/
def Obligations.LeasesAndComplexes : Prop :=
  Claim.Leases ∧ Claim.ComplexesRestart ∧ Claim.SelfFences

/-- Region errors are recorded, handled, fenced and retested. -/
def Obligations.RegionErrorsAreHandled : Prop :=
  Claim.RegionErrors ∧ Claim.Handlers

/-- System reset, verification, self-tests and the end of boot. -/
def Obligations.BootReachesStandby : Prop :=
  Claim.SystemReset ∧
  Claim.BundlesAreVerified ∧
  Claim.ComplexesBoot ∧
  Claim.StandbyIsReached ∧
  Claim.BundlesOverTheSkyline

/-- Loss and return of power, rail faults and the supply of Bellows. -/
def Obligations.PowerLossAndSupplies : Prop :=
  Claim.PowerLossAndRestore ∧ Claim.RailFaults ∧ Claim.BellowsSupply

/-- Junction samples, thermal fences, clock steps, the power cap and AVS. -/
def Obligations.TemperatureAndPowerControl : Prop :=
  Claim.JunctionTemperatures ∧ Claim.ClocksAndVoltages

/-- Events go to the ring of their class, are held or dropped, and are written with PHASE and sequence. -/
def Obligations.EventsAreRouted : Prop :=
  Claim.EventRouting ∧ Claim.RecordsAreWritten

/-- Log records, flushes, erases and pads. -/
def Obligations.RecorderLog : Prop :=
  Claim.LogRecords ∧ Claim.FlushesAndPads

/-- Live update, service hours and management datagrams. -/
def Obligations.LiveServiceAndManagement : Prop :=
  Claim.LiveUpdateStages ∧ Claim.ServiceHours ∧ Claim.ManagementDatagrams

/-- Codes of the rays, the ray frames they are written to, and the RAY packets that carry them (log entries 20, 127). -/
def Obligations.RayCodes : Prop :=
  Claim.DriveCodes ∧ Claim.KerfsGoToTheirFrame ∧ Claim.RayPacketsCarryTheCodes
end

