-- ==== Sys2Proof/Laws/Exec.lean ====
section
/-! SUPPORT. What `exec` is on each command of the block: time passes, the command acts, what follows of itself happens. -/

namespace Sys2Proof.Machine

theorem exec_sys_identify (dt : Nat) (h : CmdHdr) (p : List Byte) (s : State) : exec (.sysIdentify dt h p) s = s.act dt ((State.submit sysIdentify h p)) := rfl
theorem exec_sys_status (dt : Nat) (h : CmdHdr) (p : List Byte) (s : State) : exec (.sysStatus dt h p) s = s.act dt ((State.submit sysStatus h p)) := rfl
theorem exec_sys_event_route (dt : Nat) (h : CmdHdr) (p : List Byte) (s : State) : exec (.sysEventRoute dt h p) s = s.act dt ((State.submit sysEventRoute h p)) := rfl
theorem exec_sys_echo (dt : Nat) (h : CmdHdr) (p : List Byte) (s : State) : exec (.sysEcho dt h p) s = s.act dt ((State.submit sysEcho h p)) := rfl
theorem exec_sys_spares (dt : Nat) (h : CmdHdr) (p : List Byte) (s : State) : exec (.sysSpares dt h p) s = s.act dt ((State.submit sysSpares h p)) := rfl
theorem exec_sys_faults (dt : Nat) (h : CmdHdr) (p : List Byte) (s : State) : exec (.sysFaults dt h p) s = s.act dt ((State.submit sysFaults h p)) := rfl
theorem exec_mode_set (dt : Nat) (h : CmdHdr) (p : List Byte) (s : State) : exec (.modeSet dt h p) s = s.act dt ((State.submit modeSet h p)) := rfl
theorem exec_mode_get (dt : Nat) (h : CmdHdr) (p : List Byte) (s : State) : exec (.modeGet dt h p) s = s.act dt ((State.submit modeGet h p)) := rfl
theorem exec_txn_begin (dt : Nat) (h : CmdHdr) (p : List Byte) (s : State) : exec (.txnBegin dt h p) s = s.act dt ((State.submit txnBegin h p)) := rfl
theorem exec_txn_commit (dt : Nat) (h : CmdHdr) (p : List Byte) (s : State) : exec (.txnCommit dt h p) s = s.act dt ((State.submit txnCommit h p)) := rfl
theorem exec_txn_rollback (dt : Nat) (h : CmdHdr) (p : List Byte) (s : State) : exec (.txnRollback dt h p) s = s.act dt ((State.submit txnRollback h p)) := rfl
theorem exec_txn_status (dt : Nat) (h : CmdHdr) (p : List Byte) (s : State) : exec (.txnStatus dt h p) s = s.act dt ((State.submit txnStatus h p)) := rfl
theorem exec_stream_queues (dt : Nat) (h : CmdHdr) (p : List Byte) (s : State) : exec (.streamQueues dt h p) s = s.act dt ((State.submit streamQueues h p)) := rfl
theorem exec_stream_open (dt : Nat) (h : CmdHdr) (p : List Byte) (s : State) : exec (.streamOpen dt h p) s = s.act dt ((State.submit streamOpen h p)) := rfl
theorem exec_stream_close (dt : Nat) (h : CmdHdr) (p : List Byte) (s : State) : exec (.streamClose dt h p) s = s.act dt ((State.submit streamClose h p)) := rfl
theorem exec_stream_key (dt : Nat) (h : CmdHdr) (p : List Byte) (s : State) : exec (.streamKey dt h p) s = s.act dt ((State.submit streamKey h p)) := rfl
theorem exec_stream_stats (dt : Nat) (h : CmdHdr) (p : List Byte) (s : State) : exec (.streamStats dt h p) s = s.act dt ((State.submit streamStatsCmd h p)) := rfl
theorem exec_scene_bind (dt : Nat) (h : CmdHdr) (p : List Byte) (s : State) : exec (.sceneBind dt h p) s = s.act dt ((State.submit sceneBind h p)) := rfl
theorem exec_scene_place (dt : Nat) (h : CmdHdr) (p : List Byte) (s : State) : exec (.scenePlace dt h p) s = s.act dt ((State.submit scenePlace h p)) := rfl
theorem exec_scene_lift (dt : Nat) (h : CmdHdr) (p : List Byte) (s : State) : exec (.sceneLift dt h p) s = s.act dt ((State.submit sceneLift h p)) := rfl
theorem exec_compose_layer (dt : Nat) (h : CmdHdr) (p : List Byte) (s : State) : exec (.composeLayer dt h p) s = s.act dt ((State.submit composeLayer h p)) := rfl
theorem exec_compose_update (dt : Nat) (h : CmdHdr) (p : List Byte) (s : State) : exec (.composeUpdate dt h p) s = s.act dt ((State.submit composeUpdate h p)) := rfl
theorem exec_compose_blit (dt : Nat) (h : CmdHdr) (p : List Byte) (s : State) : exec (.composeBlit dt h p) s = s.act dt ((State.submit composeBlit h p)) := rfl
theorem exec_compose_watermark (dt : Nat) (h : CmdHdr) (p : List Byte) (s : State) : exec (.composeWatermark dt h p) s = s.act dt ((State.submit composeWatermark h p)) := rfl
theorem exec_compose_deadtime (dt : Nat) (h : CmdHdr) (p : List Byte) (s : State) : exec (.composeDeadtime dt h p) s = s.act dt ((State.submit composeDeadtime h p)) := rfl
theorem exec_cal_load (dt : Nat) (h : CmdHdr) (p : List Byte) (s : State) : exec (.calLoad dt h p) s = s.act dt ((State.submit calLoad h p)) := rfl
theorem exec_cal_sets (dt : Nat) (h : CmdHdr) (p : List Byte) (s : State) : exec (.calSets dt h p) s = s.act dt ((State.submit calSets h p)) := rfl
theorem exec_cal_measure (dt : Nat) (h : CmdHdr) (p : List Byte) (s : State) : exec (.calMeasure dt h p) s = s.act dt ((State.submit calMeasure h p)) := rfl
theorem exec_cal_policy (dt : Nat) (h : CmdHdr) (p : List Byte) (s : State) : exec (.calPolicy dt h p) s = s.act dt ((State.submit calPolicy h p)) := rfl
theorem exec_cal_read (dt : Nat) (h : CmdHdr) (p : List Byte) (s : State) : exec (.calRead dt h p) s = s.act dt ((State.submit calRead h p)) := rfl
theorem exec_stand_map (dt : Nat) (h : CmdHdr) (p : List Byte) (s : State) : exec (.standMap dt h p) s = s.act dt ((State.submit standMap h p)) := rfl
theorem exec_stand_lut (dt : Nat) (h : CmdHdr) (p : List Byte) (s : State) : exec (.standLut dt h p) s = s.act dt ((State.submit standLut h p)) := rfl
theorem exec_stand_status (dt : Nat) (h : CmdHdr) (p : List Byte) (s : State) : exec (.standStatus dt h p) s = s.act dt ((State.submit standStatusCmd h p)) := rfl
theorem exec_stand_release (dt : Nat) (h : CmdHdr) (p : List Byte) (s : State) : exec (.standRelease dt h p) s = s.act dt ((State.submit standRelease h p)) := rfl
theorem exec_stand_admit (dt : Nat) (h : CmdHdr) (p : List Byte) (s : State) : exec (.standAdmit dt h p) s = s.act dt ((State.submit standAdmit h p)) := rfl
theorem exec_stand_link (dt : Nat) (h : CmdHdr) (p : List Byte) (s : State) : exec (.standLink dt h p) s = s.act dt ((State.submit standLink h p)) := rfl
theorem exec_scan_timing (dt : Nat) (h : CmdHdr) (p : List Byte) (s : State) : exec (.scanTiming dt h p) s = s.act dt ((State.submit scanTiming h p)) := rfl
theorem exec_scan_precharge (dt : Nat) (h : CmdHdr) (p : List Byte) (s : State) : exec (.scanPrecharge dt h p) s = s.act dt ((State.submit scanPrecharge h p)) := rfl
theorem exec_scan_measure_plan (dt : Nat) (h : CmdHdr) (p : List Byte) (s : State) : exec (.scanMeasurePlan dt h p) s = s.act dt ((State.submit scanMeasurePlan h p)) := rfl
theorem exec_scan_frame_base (dt : Nat) (h : CmdHdr) (p : List Byte) (s : State) : exec (.scanFrameBase dt h p) s = s.act dt ((State.submit scanFrameBase h p)) := rfl
theorem exec_steer_table (dt : Nat) (h : CmdHdr) (p : List Byte) (s : State) : exec (.steerTable dt h p) s = s.act dt ((State.submit steerTable h p)) := rfl
theorem exec_steer_status (dt : Nat) (h : CmdHdr) (p : List Byte) (s : State) : exec (.steerStatus dt h p) s = s.act dt ((State.submit steerStatusCmd h p)) := rfl
theorem exec_steer_journal (dt : Nat) (h : CmdHdr) (p : List Byte) (s : State) : exec (.steerJournal dt h p) s = s.act dt ((State.submit steerJournal h p)) := rfl
theorem exec_mem_set_point (dt : Nat) (h : CmdHdr) (p : List Byte) (s : State) : exec (.memSetPoint dt h p) s = s.act dt ((State.submit memSetPoint h p)) := rfl
theorem exec_mem_ordering (dt : Nat) (h : CmdHdr) (p : List Byte) (s : State) : exec (.memOrdering dt h p) s = s.act dt ((State.submit memOrdering h p)) := rfl
theorem exec_mem_train (dt : Nat) (h : CmdHdr) (p : List Byte) (s : State) : exec (.memTrain dt h p) s = s.act dt ((State.submit memTrain h p)) := rfl
theorem exec_mem_status (dt : Nat) (h : CmdHdr) (p : List Byte) (s : State) : exec (.memStatus dt h p) s = s.act dt ((State.submit memStatus h p)) := rfl
theorem exec_chain_role (dt : Nat) (h : CmdHdr) (p : List Byte) (s : State) : exec (.chainRole dt h p) s = s.act dt ((State.submit chainRole h p)) := rfl
theorem exec_chain_region (dt : Nat) (h : CmdHdr) (p : List Byte) (s : State) : exec (.chainRegion dt h p) s = s.act dt ((State.submit chainRegion h p)) := rfl
theorem exec_chain_grace (dt : Nat) (h : CmdHdr) (p : List Byte) (s : State) : exec (.chainGrace dt h p) s = s.act dt ((State.submit chainGrace h p)) := rfl
theorem exec_chain_status (dt : Nat) (h : CmdHdr) (p : List Byte) (s : State) : exec (.chainStatus dt h p) s = s.act dt ((State.submit chainStatus h p)) := rfl
theorem exec_time_source (dt : Nat) (h : CmdHdr) (p : List Byte) (s : State) : exec (.timeSource dt h p) s = s.act dt ((State.submit timeSource h p)) := rfl
theorem exec_time_ptp (dt : Nat) (h : CmdHdr) (p : List Byte) (s : State) : exec (.timePtp dt h p) s = s.act dt ((State.submit timePtp h p)) := rfl
theorem exec_time_get (dt : Nat) (h : CmdHdr) (p : List Byte) (s : State) : exec (.timeGet dt h p) s = s.act dt ((State.submit timeGet h p)) := rfl
theorem exec_time_accept_jump (dt : Nat) (h : CmdHdr) (p : List Byte) (s : State) : exec (.timeAcceptJump dt h p) s = s.act dt ((State.submit timeAcceptJump h p)) := rfl
theorem exec_time_pulse (dt : Nat) (h : CmdHdr) (p : List Byte) (s : State) : exec (.timePulse dt h p) s = s.act dt ((State.submit timePulse h p)) := rfl
theorem exec_time_fsync_arm (dt : Nat) (h : CmdHdr) (p : List Byte) (s : State) : exec (.timeFsyncArm dt h p) s = s.act dt ((State.submit timeFsyncArm h p)) := rfl
theorem exec_sec_certs (dt : Nat) (h : CmdHdr) (p : List Byte) (s : State) : exec (.secCerts dt h p) s = s.act dt ((State.submit secCerts h p)) := rfl
theorem exec_sec_attest (dt : Nat) (h : CmdHdr) (p : List Byte) (s : State) : exec (.secAttest dt h p) s = s.act dt ((State.submit secAttest h p)) := rfl
theorem exec_sec_kem_key (dt : Nat) (h : CmdHdr) (p : List Byte) (s : State) : exec (.secKemKey dt h p) s = s.act dt ((State.submit secKemKey h p)) := rfl
theorem exec_sec_fw_update (dt : Nat) (h : CmdHdr) (p : List Byte) (s : State) : exec (.secFwUpdate dt h p) s = s.act dt ((State.submit secFwUpdate h p)) := rfl
theorem exec_sec_lifecycle (dt : Nat) (h : CmdHdr) (p : List Byte) (s : State) : exec (.secLifecycle dt h p) s = s.act dt ((State.submit secLifecycle h p)) := rfl
theorem exec_rec_triggers (dt : Nat) (h : CmdHdr) (p : List Byte) (s : State) : exec (.recTriggers dt h p) s = s.act dt ((State.submit recTriggers h p)) := rfl
theorem exec_rec_flush (dt : Nat) (h : CmdHdr) (p : List Byte) (s : State) : exec (.recFlush dt h p) s = s.act dt ((State.submit recFlush h p)) := rfl
theorem exec_rec_erase (dt : Nat) (h : CmdHdr) (p : List Byte) (s : State) : exec (.recErase dt h p) s = s.act dt ((State.submit recErase h p)) := rfl
theorem exec_pwr_domain (dt : Nat) (h : CmdHdr) (p : List Byte) (s : State) : exec (.pwrDomain dt h p) s = s.act dt ((State.submit pwrDomain h p)) := rfl
theorem exec_pwr_status (dt : Nat) (h : CmdHdr) (p : List Byte) (s : State) : exec (.pwrStatus dt h p) s = s.act dt ((State.submit pwrStatusCmd h p)) := rfl
theorem exec_pwr_limit (dt : Nat) (h : CmdHdr) (p : List Byte) (s : State) : exec (.pwrLimit dt h p) s = s.act dt ((State.submit pwrLimit h p)) := rfl
theorem exec_ring (dt : Nat) (m : Fin 8) (s : State) : exec (.ring dt m) s = s.act dt (fun s => s.live fun s => s.doorbell m) := rfl
theorem exec_cold_west (dt : Nat) (v : Word) (s : State) : exec (.coldWest dt v) s = s.act dt (fun s => s.live fun s => s.globalWrite (fun n s => s.doorbell n) 0x00C (v ||| 1).toNat) := rfl
theorem exec_cold_east (dt : Nat) (v : Word) (s : State) : exec (.coldEast dt v) s = s.act dt (fun s => s.live fun s => s.globalWrite (fun n s => s.doorbell n) 0x00C (v ||| 2).toNat) := rfl
theorem exec_glb_aperture_hi_write (dt : Nat) (v : Word) (s : State) : exec (.glbApertureHiWrite dt v) s = s.act dt (fun s => s.live fun s => s.globalWrite (fun n s => s.doorbell n) 0x01C v.toNat) := rfl
theorem exec_glb_aperture_lo_write (dt : Nat) (v : Word) (s : State) : exec (.glbApertureLoWrite dt v) s = s.act dt (fun s => s.live fun s => s.globalWrite (fun n s => s.doorbell n) 0x018 v.toNat) := rfl
theorem exec_ring_enable (dt : Nat) (r : Fin 4) (v : Word) (s : State) : exec (.ringEnable dt r v) s = s.act dt (fun s => s.live fun s => s.ringWriteReg r 0x10 (v ||| 0x80000000).toNat) := rfl
theorem exec_ring_disable (dt : Nat) (r : Fin 4) (v : Word) (s : State) : exec (.ringDisable dt r v) s = s.act dt (fun s => s.live fun s => s.ringWriteReg r 0x10 (v &&& 0x7FFFFFFF).toNat) := rfl
theorem exec_evr_cidx_write (dt : Nat) (r : Fin 4) (v : Word) (s : State) : exec (.evrCidxWrite dt r v) s = s.act dt (fun s => s.live fun s => s.ringWriteReg r 0x1C v.toNat) := rfl
theorem exec_evr_status_read (dt : Nat) (r : Fin 4) (s : State) : exec (.evrStatusRead dt r) s = s.act dt (fun s => s.bar0Read (ringOff + 0x40 * r.val + 0x20) 4) := rfl
theorem exec_rec_data_read (dt : Nat) (s : State) : exec (.recDataRead dt) s = s.act dt (fun s => s.bar0Read (recorderOff + 4) 4) := rfl
theorem exec_cmdset_rev_read (dt : Nat) (off : Nat) (len : Nat) (s : State) : exec (.cmdsetRevRead dt off len) s = s.act dt (fun s => if off ≤ cmdsetRevOff ∧ cmdsetRevOff + 2 ≤ off + len then s.bar0Read off len else s) := rfl
theorem exec_register_write (dt : Nat) (off : Nat) (data : List Byte) (s : State) : exec (.registerWrite dt off data) s = s.act dt (fun s => s.bar0Write (fun n s => s.doorbell n) off data) := rfl
theorem exec_unmapped (dt : Nat) (off : Nat) (len : Nat) (write : Bool) (s : State) : exec (.unmapped dt off len write) s = s.act dt (fun s => if accessOf off len = .unmapped then s.touchBad off len write else s) := rfl
theorem exec_bad_size (dt : Nat) (off : Nat) (len : Nat) (write : Bool) (s : State) : exec (.badSize dt off len write) s = s.act dt (fun s => if accessOf off len = .bad then s.touchBad off len write else s) := rfl
theorem exec_bar2_read (dt : Nat) (off : Nat) (len : Nat) (s : State) : exec (.bar2Read dt off len) s = s.act dt (fun s => s.bar2Read off len) := rfl
theorem exec_bar2_write (dt : Nat) (off : Nat) (data : List Byte) (s : State) : exec (.bar2Write dt off data) s = s.act dt (fun s => s.bar2Write off data) := rfl
theorem exec_boot_buffer_write (dt : Nat) (off : Nat) (data : List Byte) (s : State) : exec (.bootBufferWrite dt off data) s = s.act dt (fun s => if s.hostBoot then s.bar2Write off data else s) := rfl
theorem exec_function_level_reset (dt : Nat) (s : State) : exec (.functionLevelReset dt) s = s.act dt (fun s => s.live fun s => s.functionReset) := rfl
theorem exec_perst_n (dt : Nat) (s : State) : exec (.perstN dt) s = s.act dt (State.perstAssert) := rfl
theorem exec_d3hot_entry (dt : Nat) (s : State) : exec (.d3hotEntry dt) s = s.act dt (fun s => s.live fun s => s.d3hotEnter) := rfl
theorem exec_d0_return (dt : Nat) (s : State) : exec (.d0Return dt) s = s.act dt (fun s => s.live fun s => s.d0Return) := rfl
theorem exec_mailbox_stall_timeout (dt : Nat) (m : Fin 8) (s : State) : exec (.mailboxStallTimeout dt m) s = s.act dt (fun s => s.mailboxStall m) := rfl
theorem exec_chain_timeout (dt : Nat) (m : Fin 8) (s : State) : exec (.chainTimeout dt m) s = s.act dt (fun s => s.chainTimeout m) := rfl
theorem exec_txn_timeout (dt : Nat) (id : Nat) (s : State) : exec (.txnTimeout dt id) s = s.act dt (fun s => s.txnTimeout id) := rfl
theorem exec_frame_tick (dt : Nat) (s : State) : exec (.frameTick dt) s = s.act dt (State.frameTick) := rfl
theorem exec_frame_blank (dt : Nat) (s : State) : exec (.frameBlank dt) s = s.act dt (State.frameBlank) := rfl
theorem exec_subframe_start (dt : Nat) (s : State) : exec (.subframeStart dt) s = s.act dt (State.subframeStart) := rfl
theorem exec_lead_deadline (dt : Nat) (sizes : List (Nat × Nat × Nat × Nat)) (s : State) : exec (.leadDeadline dt sizes) s = s.act dt (fun s => s.leadDeadline sizes) := rfl
theorem exec_synthesis_start (dt : Nat) (costs : List (Nat × Nat × Nat)) (s : State) : exec (.synthesisStart dt costs) s = s.act dt (fun s => s.synthesisStart costs) := rfl
theorem exec_kerf_deadline (dt : Nat) (s : State) : exec (.kerfDeadline dt) s = s.act dt (State.kerfDeadlineAt) := rfl
theorem exec_scan_out_start (dt : Nat) (s : State) : exec (.scanOutStart dt) s = s.act dt (State.scanOut) := rfl
theorem exec_watermark_fire (dt : Nat) (s : State) : exec (.watermarkFire dt) s = s.act dt (State.fireWatermarks) := rfl
theorem exec_lift_phase_end (dt : Nat) (s : State) : exec (.liftPhaseEnd dt) s = s.act dt (State.liftEnd) := rfl
theorem exec_lift_timeout (dt : Nat) (s : State) : exec (.liftTimeout dt) s = s.act dt (State.liftTimeout) := rfl
theorem exec_queue_poll (dt : Nat) (q : Fin 16) (pidx : Option Nat) (descs : List (Option (List Byte))) (s : State) : exec (.queuePoll dt q pidx descs) s = s.act dt (fun s => s.queuePoll q pidx descs) := rfl
theorem exec_descriptor_placed (dt : Nat) (q : Fin 16) (found : Placed) (s : State) : exec (.descriptorPlaced dt q found) s = s.act dt (fun s => s.descriptorPlaced q found) := rfl
theorem exec_fetch_resume (dt : Nat) (n : Fin 8) (s : State) : exec (.fetchResume dt n) s = s.act dt (fun s => s.fetchResume n) := rfl
theorem exec_decode_done (dt : Nat) (n : Fin 8) (found : List Picture) (s : State) : exec (.decodeDone dt n found) s = s.act dt (fun s => s.decodeDone n found) := rfl
theorem exec_drain_timeout (dt : Nat) (n : Fin 8) (s : State) : exec (.drainTimeout dt n) s = s.act dt (fun s => s.drainTimeout n) := rfl
theorem exec_blit_done (dt : Nat) (s : State) : exec (.blitDone dt) s = s.act dt (State.blitDoneNow) := rfl
theorem exec_bake_start (dt : Nat) (die : Fin 2) (s : State) : exec (.bakeStart dt die) s = s.act dt (fun s => s.bakeStarts die) := rfl
theorem exec_bake_end (dt : Nat) (stand : Nat) (s : State) : exec (.bakeEnd dt stand) s = s.act dt (fun s => s.bakeEnds stand) := rfl
theorem exec_cal_operation_end (dt : Nat) (stand : Nat) (header : List Byte) (cells : List (Nat × Byte)) (s : State) : exec (.calOperationEnd dt stand header cells) s = s.act dt (fun s => s.calOpEnds stand header cells) := rfl
theorem exec_conceal_rebuild_end (dt : Nat) (stand : Nat) (s : State) : exec (.concealRebuildEnd dt stand) s = s.act dt (fun s => s.concealRebuilt stand) := rfl
theorem exec_link_frame_received (dt : Nat) (l : Fin 16) (blocks : List (Nat × Nat)) (spare : List (Nat × Nat)) (sent : Nat) (s : State) : exec (.linkFrameReceived dt l blocks spare sent) s = s.act dt (fun s => s.blocksReceived l blocks spare sent) := rfl
theorem exec_replay_timeout (dt : Nat) (l : Fin 16) (s : State) : exec (.replayTimeout dt l) s = s.act dt (fun s => s.replayTimeout l) := rfl
theorem exec_diag_received (dt : Nat) (l : Fin 16) (pos : Nat) (kind : Nat) (sub : Nat) (row : Nat) (tick : Nat) (first : Nat) (data : List Byte) (s : State) : exec (.diagReceived dt l pos kind sub row tick first data) s = s.act dt (fun s => s.diagReceived l pos kind sub row tick first data) := rfl
theorem exec_temp_received (dt : Nat) (l : Fin 16) (readings : List Int) (s : State) : exec (.tempReceived dt l readings) s = s.act dt (fun s => if s.linkUp l then s.tempPacket l readings else s) := rfl
theorem exec_ack_received (dt : Nat) (l : Fin 16) (pos : Nat) (kind : Nat) (sub : Nat) (cmdId : Nat) (tick : Nat) (states : Nat) (dark : Nat) (pairs : Nat) (s : State) : exec (.ackReceived dt l pos kind sub cmdId tick states dark pairs) s = s.act dt (fun s => s.ackReceived l pos kind sub cmdId tick states dark pairs) := rfl
theorem exec_nak_received (dt : Nat) (l : Fin 16) (cause : Nat) (lane : Nat) (lane2 : Nat) (cmdId : Nat) (s : State) : exec (.nakReceived dt l cause lane lane2 cmdId) s = s.act dt (fun s => s.nakPacket l cause lane lane2 cmdId) := rfl
theorem exec_status_received (dt : Nat) (l : Fin 16) (pos : Nat) (data : List Byte) (s : State) : exec (.statusReceived dt l pos data) s = s.act dt (fun s => s.statusReceived l pos data) := rfl
theorem exec_return_lane_lost (dt : Nat) (l : Fin 16) (s : State) : exec (.returnLaneLost dt l) s = s.act dt (fun s => s.returnLost l) := rfl
theorem exec_spare_lane_fault (dt : Nat) (l : Fin 16) (lane : Nat) (s : State) : exec (.spareLaneFault dt l lane) s = s.act dt (fun s => s.spareFault l lane) := rfl
theorem exec_link_recovery (dt : Nat) (l : Fin 16) (s : State) : exec (.linkRecovery dt l) s = s.act dt (fun s => s.startRecovery l) := rfl
theorem exec_link_recovery_end (dt : Nat) (l : Fin 16) (lanes : List LaneReport) (order : List Nat) (ret : List (List Byte)) (s : State) : exec (.linkRecoveryEnd dt l lanes order ret) s = s.act dt (fun s => s.recoveryEnd l lanes order ret) := rfl
theorem exec_link_bringup_end (dt : Nat) (l : Fin 16) (steps : List Nat) (lanes : List LaneReport) (frameErrs : Bool) (order : List Nat) (ret : List (List Byte)) (s : State) : exec (.linkBringupEnd dt l steps lanes frameErrs order ret) s = s.act dt (fun s => s.bringupEnd l steps lanes frameErrs order ret) := rfl
theorem exec_link_bringup_timeout (dt : Nat) (l : Fin 16) (cause : Nat) (s : State) : exec (.linkBringupTimeout dt l cause) s = s.act dt (fun s => s.bringupTimeout l cause) := rfl
theorem exec_link_wake (dt : Nat) (l : Fin 16) (s : State) : exec (.linkWake dt l) s = s.act dt (fun s => s.linkWake l) := rfl
theorem exec_temp_timeout (dt : Nat) (stand : Nat) (s : State) : exec (.tempTimeout dt stand) s = s.act dt (fun s => s.tempTimeout stand) := rfl
theorem exec_stand_removed (dt : Nat) (stand : Nat) (s : State) : exec (.standRemoved dt stand) s = s.act dt (fun s => s.standRemoved stand) := rfl
theorem exec_stand_rail_recovered (dt : Nat) (stand : Nat) (s : State) : exec (.standRailRecovered dt stand) s = s.act dt (fun s => s.railRecovered stand) := rfl
theorem exec_refresh_due (dt : Nat) (pc : Nat) (realTime : Bool) (s : State) : exec (.refreshDue dt pc realTime) s = s.act dt (fun s => if pc < 128 then s.refreshDue pc realTime else s) := rfl
theorem exec_live_train_auto (dt : Nat) (s : State) : exec (.liveTrainAuto dt) s = s.act dt (State.liveAuto) := rfl
theorem exec_train_pass_end (dt : Nat) (ok : Bool) (s : State) : exec (.trainPassEnd dt ok) s = s.act dt (fun s => s.passEnd ok) := rfl
theorem exec_set_point_change_start (dt : Nat) (s : State) : exec (.setPointChangeStart dt) s = s.act dt (State.changeStart) := rfl
theorem exec_set_point_change_end (dt : Nat) (ok : Bool) (s : State) : exec (.setPointChangeEnd dt ok) s = s.act dt (fun s => s.changeEnd ok) := rfl
theorem exec_mem_corrected_read (dt : Nat) (addr : Nat) (s : State) : exec (.memCorrectedRead dt addr) s = s.act dt (fun s => if s.storeUp (addr / (64 * gib)) then s.corrected addr else s) := rfl
theorem exec_mem_uncorrectable_read (dt : Nat) (addr : Nat) (port : Nat) (s : State) : exec (.memUncorrectableRead dt addr port) s = s.act dt (fun s => s.uncorrectable addr port) := rfl
theorem exec_row_spare (dt : Nat) (pc : Nat) (row : Nat) (s : State) : exec (.rowSpare dt pc row) s = s.act dt (fun s => s.rowSpare pc row) := rfl
theorem exec_page_retire_copy_end (dt : Nat) (die : Fin 2) (page : Nat) (s : State) : exec (.pageRetireCopyEnd dt die page) s = s.act dt (fun s => s.pageCopied die page) := rfl
theorem exec_frame_base_copy_end (dt : Nat) (die : Fin 2) (s : State) : exec (.frameBaseCopyEnd dt die) s = s.act dt (fun s => s.frameBaseCopied die) := rfl
theorem exec_patrol_scrub (dt : Nat) (die : Fin 2) (s : State) : exec (.patrolScrub dt die) s = s.act dt (fun s => if s.storeUp die then s.scrubEnd die else s) := rfl
theorem exec_beacon_send (dt : Nat) (s : State) : exec (.beaconSend dt) s = s.act dt (State.beaconSend) := rfl
theorem exec_beacon_received (dt : Nat) (p : Fin 4) (data : List Byte) (rx : SkyRx) (s : State) : exec (.beaconReceived dt p data rx) s = s.act dt (fun s => s.arrives p rx fun s => s.beaconReceived p data) := rfl
theorem exec_relay_received (dt : Nat) (p : Fin 4) (n : Fin 8) (seq : Nat) (desc : List Byte) (found : Placed) (rx : SkyRx) (s : State) : exec (.relayReceived dt p n seq desc found rx) s = s.act dt (fun s => s.arrives p rx fun s => s.relayReceived p n seq desc found) := rfl
theorem exec_mgmt_received (dt : Nat) (p : Fin 4) (kind : Nat) (m : Fin 8) (data : List Byte) (rx : SkyRx) (s : State) : exec (.mgmtReceived dt p kind m data rx) s = s.act dt (fun s => s.arrives p rx fun s => s.mgmtReceived p kind m data) := rfl
theorem exec_event_received (dt : Nat) (p : Fin 4) (sender : Nat) (record : List Byte) (rx : SkyRx) (s : State) : exec (.eventReceived dt p sender record rx) s = s.act dt (fun s => s.arrives p rx fun s => s.eventReceived p sender record) := rfl
theorem exec_port_dead (dt : Nat) (p : Fin 4) (lockLost : Bool) (s : State) : exec (.portDead dt p lockLost) s = s.act dt (fun s => s.portDead p lockLost) := rfl
theorem exec_parent_return (dt : Nat) (p : Fin 4) (s : State) : exec (.parentReturn dt p) s = s.act dt (fun s => s.parentReturn p) := rfl
theorem exec_skyline_port_up (dt : Nat) (p : Fin 4) (full : Bool) (s : State) : exec (.skylinePortUp dt p full) s = s.act dt (fun s => s.portUp p full) := rfl
theorem exec_tick_edge (dt : Nat) (p : Fin 4) (s : State) : exec (.tickEdge dt p) s = s.act dt (fun s => s.tickEdge p) := rfl
theorem exec_ready_input_change (dt : Nat) (p : Fin 4) (level : Bool) (s : State) : exec (.readyInputChange dt p level) s = s.act dt (fun s => s.readyInput p level) := rfl
theorem exec_hop_measure (dt : Nat) (p : Fin 4) (roundPs : Nat) (s : State) : exec (.hopMeasure dt p roundPs) s = s.act dt (fun s => s.hopMeasure p roundPs) := rfl
theorem exec_ready_grace_expiry (dt : Nat) (p : Fin 4) (s : State) : exec (.readyGraceExpiry dt p) s = s.act dt (fun s => s.graceEnd p) := rfl
theorem exec_fsync_in_edge (dt : Nat) (falling : Bool) (widthNs : Nat) (s : State) : exec (.fsyncInEdge dt falling widthNs) s = s.act dt (fun s => s.fsyncEdge falling widthNs) := rfl
theorem exec_fsync_stuck (dt : Nat) (s : State) : exec (.fsyncStuck dt) s = s.act dt (State.fsyncStuck) := rfl
theorem exec_ptp_sync (dt : Nat) (n : Fin 2) (secs : Nat) (nanos : Nat) (corr : Int) (s : State) : exec (.ptpSync dt n secs nanos corr) s = s.act dt (fun s => s.ptpSync n secs nanos corr) := rfl
theorem exec_ptp_announce (dt : Nat) (n : Fin 2) (identity : BitVec 64) (selects : Bool) (s : State) : exec (.ptpAnnounce dt n identity selects) s = s.act dt (fun s => s.ptpAnnounce n identity selects) := rfl
theorem exec_ptp_announce_timeout (dt : Nat) (n : Fin 2) (s : State) : exec (.ptpAnnounceTimeout dt n) s = s.act dt (fun s => s.announceTimeout n) := rfl
theorem exec_tpulse_fire (dt : Nat) (n : Fin 4) (s : State) : exec (.tpulseFire dt n) s = s.act dt (fun s => s.pulseFire n) := rfl
theorem exec_lease_renewal (dt : Nat) (die : Fin 2) (s : State) : exec (.leaseRenewal dt die) s = s.act dt (fun s => s.leaseRenew die) := rfl
theorem exec_lease_missed (dt : Nat) (s : State) : exec (.leaseMissed dt) s = s.act dt (State.leaseMissed) := rfl
theorem exec_lease_request (dt : Nat) (west : Bool) (east : Bool) (s : State) : exec (.leaseRequest dt west east) s = s.act dt (fun s => s.leaseRequest west east) := rfl
theorem exec_route_loss_timeout (dt : Nat) (die : Fin 2) (s : State) : exec (.routeLossTimeout dt die) s = s.act dt (fun s => s.routeLoss die) := rfl
theorem exec_mc_domain_reset (dt : Nat) (die : Fin 2) (cut : Nat) (s : State) : exec (.mcDomainReset dt die cut) s = s.act dt (fun s => s.domainResetCut die cut) := rfl
theorem exec_watchdog_expiry (dt : Nat) (kind : Nat) (unit : Nat) (cut : Nat) (s : State) : exec (.watchdogExpiry dt kind unit cut) s = s.act dt (fun s => (s.watchdog kind unit).openRecord cut) := rfl
theorem exec_region_error_detected (dt : Nat) (kind : Nat) (unit : Nat) (cls : Nat) (hit : Option (Fin 8)) (s : State) : exec (.regionErrorDetected dt kind unit cls hit) s = s.act dt (fun s => if regionExists kind unit ∧ 1 ≤ cls ∧ cls ≤ 7 then (s.internal cls hit).hardwareError kind unit cls else s) := rfl
theorem exec_handler_start (dt : Nat) (die : Fin 2) (s : State) : exec (.handlerStart dt die) s = s.act dt (fun s => s.handlerStart die) := rfl
theorem exec_handler_test_end (dt : Nat) (die : Fin 2) (pass : Bool) (s : State) : exec (.handlerTestEnd dt die pass) s = s.act dt (fun s => s.handlerEnd die (b2n (!pass))) := rfl
theorem exec_region_retest (dt : Nat) (kind : Nat) (unit : Nat) (s : State) : exec (.regionRetest dt kind unit) s = s.act dt (fun s => s.regionRetest kind unit) := rfl
theorem exec_die_cold_reset (dt : Nat) (die : Fin 2) (s : State) : exec (.dieColdReset dt die) s = s.act dt (fun s => s.dieColdReset die) := rfl
theorem exec_die_power_up (dt : Nat) (die : Fin 2) (s : State) : exec (.diePowerUp dt die) s = s.act dt (fun s => s.diePowerUp die) := rfl
theorem exec_io_block_resume (dt : Nat) (unit : Nat) (s : State) : exec (.ioBlockResume dt unit) s = s.act dt (fun s => s.ioResume unit) := rfl
theorem exec_bellows_power_up (dt : Nat) (s : State) : exec (.bellowsPowerUp dt) s = s.act dt (State.bellowsPowerUp) := rfl
theorem exec_history_restore_end (dt : Nat) (s : State) : exec (.historyRestoreEnd dt) s = s.act dt (State.historyRestored) := rfl
theorem exec_sys_rst_n_assert (dt : Nat) (s : State) : exec (.sysRstNAssert dt) s = s.act dt (State.rstAssert) := rfl
theorem exec_sys_rst_n_release (dt : Nat) (straps : BitVec 3) (s : State) :
    exec (.sysRstNRelease dt straps) s = s.act dt (fun s => s.rstRelease straps) := rfl
theorem exec_bundle_verify_end (dt : Nat) (sent : List Byte) (s : State) : exec (.bundleVerifyEnd dt sent) s = s.act dt (fun s => s.bundleVerified sent) := rfl
theorem exec_complex_self_test_end (dt : Nat) (die : Fin 2) (ok : Bool) (s : State) : exec (.complexSelfTestEnd dt die ok) s = s.act dt (fun s => s.selfTestEnd die ok) := rfl
theorem exec_complex_absent (dt : Nat) (die : Fin 2) (s : State) : exec (.complexAbsent dt die) s = s.act dt (fun s => s.complexAbsent die) := rfl
theorem exec_leadership_timeout (dt : Nat) (s : State) : exec (.leadershipTimeout dt) s = s.act dt (State.leadershipTimeout) := rfl
theorem exec_standby_reached (dt : Nat) (s : State) : exec (.standbyReached dt) s = s.act dt (State.standbyReached) := rfl
theorem exec_skyline_bundle_request (dt : Nat) (p : Fin 4) (s : State) : exec (.skylineBundleRequest dt p) s = s.act dt (fun s => s.serveBundle p) := rfl
theorem exec_skyline_boot_retry (dt : Nat) (s : State) : exec (.skylineBootRetry dt) s = s.act dt (State.bootRetry) := rfl
theorem exec_power_loss (dt : Nat) (rail : Nat) (s : State) : exec (.powerLoss dt rail) s = s.act dt (fun s => s.powerLossBy rail) := rfl
theorem exec_journal_flush_end (dt : Nat) (ok : Bool) (s : State) : exec (.journalFlushEnd dt ok) s = s.act dt (fun s => s.journalFlushed ok) := rfl
theorem exec_recorder_flush_end (dt : Nat) (ok : Bool) (s : State) : exec (.recorderFlushEnd dt ok) s = s.act dt (fun s => s.recorderFlushed ok) := rfl
theorem exec_power_restore (dt : Nat) (s : State) : exec (.powerRestore dt) s = s.act dt (State.powerRestore) := rfl
theorem exec_core_rail_restored (dt : Nat) (die : Fin 2) (s : State) : exec (.coreRailRestored dt die) s = s.act dt (fun s => s.coreRestored die) := rfl
theorem exec_rail_fault (dt : Nat) (rail : Nat) (mv : Nat) (s : State) : exec (.railFault dt rail mv) s = s.act dt (fun s => s.railFault rail mv) := rfl
theorem exec_holdup_low (dt : Nat) (mv : Nat) (s : State) : exec (.holdupLow dt mv) s = s.act dt (fun s => s.holdupLow mv) := rfl
theorem exec_tbref_loss (dt : Nat) (s : State) : exec (.tbrefLoss dt) s = s.act dt (fun s => s.tbrefTo false) := rfl
theorem exec_junction_sample (dt : Nat) (temps : List Int) (s : State) : exec (.junctionSample dt temps) s = s.act dt (fun s => s.junctionSample temps) := rfl
theorem exec_thermal_fence (dt : Nat) (k : Fin 3) (s : State) : exec (.thermalFence dt k) s = s.act dt (fun s => s.thermalFence k) := rfl
theorem exec_reed_clock_step (dt : Nat) (s : State) : exec (.reedClockStep dt) s = s.act dt (State.clockStep) := rfl
theorem exec_power_cap_sample (dt : Nat) (mw : Nat) (rails : List (Nat × Nat)) (s : State) : exec (.powerCapSample dt mw rails) s = s.act dt (fun s => s.capSample mw rails) := rfl
theorem exec_avs_adjust (dt : Nat) (die : Fin 2) (mv : Nat) (s : State) : exec (.avsAdjust dt die mv) s = s.act dt (fun s => s.avsAdjust die mv) := rfl
theorem exec_avs_failure (dt : Nat) (die : Fin 2) (s : State) : exec (.avsFailure dt die) s = s.act dt (fun s => s.avsFailure die) := rfl
theorem exec_evr_coalesce_timeout (dt : Nat) (r : Fin 4) (s : State) : exec (.evrCoalesceTimeout dt r) s = s.act dt (fun s => s.coalesce r) := rfl
theorem exec_mirror_fault (dt : Nat) (r : Fin 4) (s : State) : exec (.mirrorFault dt r) s = s.act dt (fun s => s.mirrorFault r) := rfl
theorem exec_fw_update_stage_end (dt : Nat) (outcome : Nat) (s : State) : exec (.fwUpdateStageEnd dt outcome) s = s.act dt (fun s => s.fwStageEnd outcome) := rfl
theorem exec_handover_arm (dt : Nat) (s : State) : exec (.handoverArm dt) s = s.act dt (State.handoverArm) := rfl
theorem exec_handover_grant (dt : Nat) (s : State) : exec (.handoverGrant dt) s = s.act dt (State.handoverGrant) := rfl
theorem exec_record_pad_timeout (dt : Nat) (off : Nat) (s : State) : exec (.recordPadTimeout dt off) s = s.act dt (fun s => s.padOpen off) := rfl
theorem exec_rec_flush_trigger (dt : Nat) (s : State) : exec (.recFlushTrigger dt) s = s.act dt (State.flushTrigger) := rfl
theorem exec_rec_flush_end (dt : Nat) (ok : Bool) (s : State) : exec (.recFlushEnd dt ok) s = s.act dt (fun s => s.flushEnd ok) := rfl
theorem exec_service_hour (dt : Nat) (s : State) : exec (.serviceHour dt) s = s.act dt (State.serviceHour) := rfl
theorem exec_mgmt_datagram (dt : Nat) (n : Fin 2) (data : List Byte) (s : State) : exec (.mgmtDatagram dt n data) s = s.act dt (fun s => s.mgmtDatagram (fun s => s.runMbx 7) n data) := rfl
theorem exec_drone_in_sync (dt : Nat) (s : State) : exec (.droneInSync dt) s = s.act dt (State.droneInSync) := rfl
theorem exec_mc_domain_release (dt : Nat) (die : Fin 2) (s : State) : exec (.mcDomainRelease dt die) s = s.act dt (fun s => s.domainRelease die) := rfl
theorem exec_handler_test_timeout (dt : Nat) (die : Fin 2) (s : State) : exec (.handlerTestTimeout dt die) s = s.act dt (fun s => s.handlerTimeout die) := rfl
theorem exec_reserve_copy_end (dt : Nat) (pc : Nat) (s : State) : exec (.reserveCopyEnd dt pc) s = s.act dt (fun s => s.reserveCopied pc) := rfl
theorem exec_idle_power_down (dt : Nat) (pc : Nat) (sid : Nat) (s : State) : exec (.idlePowerDown dt pc sid) s = s.act dt (fun s => if pc < 128 then s.powerDown pc sid else s) := rfl
theorem exec_stack_temp_sample (dt : Nat) (temps : List (Option Int)) (s : State) : exec (.stackTempSample dt temps) s = s.act dt (fun s => (s.stackSample temps).stackThrottle) := rfl
theorem exec_refresh_repay (dt : Nat) (pc : Nat) (count : Nat) (s : State) : exec (.refreshRepay dt pc count) s = s.act dt (fun s => s.refreshRepay pc count) := rfl
theorem exec_real_time_panic (dt : Nat) (port : Fin 16) (fill : Nat) (owes : Bool) (s : State) : exec (.realTimePanic dt port fill owes) s = s.act dt (fun s => s.rtPanicChange port fill owes) := rfl
theorem exec_hop_echo (dt : Nat) (p : Fin 4) (s : State) : exec (.hopEcho dt p) s = s.act dt (fun s => s.hopEcho p) := rfl
theorem exec_ptp_message_interval (dt : Nat) (n : Fin 2) (kind : Nat) (s : State) : exec (.ptpMessageInterval dt n kind) s = s.act dt (fun s => s.ptpInterval n kind) := rfl
theorem exec_ptp_delay_message (dt : Nat) (n : Fin 2) (kind : Nat) (secs : Nat) (nanos : Nat) (corr : Int) (s : State) : exec (.ptpDelayMessage dt n kind secs nanos corr) s = s.act dt (fun s => s.ptpDelay n kind secs nanos corr) := rfl
theorem exec_tbref_restored (dt : Nat) (s : State) : exec (.tbrefRestored dt) s = s.act dt (fun s => s.tbrefTo true) := rfl
theorem exec_perst_n_deassert (dt : Nat) (s : State) : exec (.perstNDeassert dt) s = s.act dt (State.perstRelease) := rfl
theorem exec_holdup_ok_set (dt : Nat) (mv : Nat) (s : State) : exec (.holdupOkSet dt mv) s = s.act dt (fun s => s.holdupSet mv) := rfl
theorem exec_bellows_stop (dt : Nat) (s : State) : exec (.bellowsStop dt) s = s.act dt (State.bellowsStop) := rfl

end Sys2Proof.Machine
end

