-- ==== Sys2Proof/Laws/State.lean ====
section
/-! SUPPORT. What each update of the state leaves as it was, one lemma per update and field, each true by unfolding. -/

namespace Sys2Proof.Machine

variable (s : State)

/-! updMbx: everything but `mailboxes` stays. -/
@[simp] theorem State.updMbx_clock (n : Nat) (f : Mailbox → Mailbox) : (s.updMbx n f).clock = s.clock := rfl
@[simp] theorem State.updMbx_tb (n : Nat) (f : Mailbox → Mailbox) : (s.updMbx n f).tb = s.tb := rfl
@[simp] theorem State.updMbx_pcie (n : Nat) (f : Mailbox → Mailbox) : (s.updMbx n f).pcie = s.pcie := rfl
@[simp] theorem State.updMbx_rings (n : Nat) (f : Mailbox → Mailbox) : (s.updMbx n f).rings = s.rings := rfl
@[simp] theorem State.updMbx_routes (n : Nat) (f : Mailbox → Mailbox) : (s.updMbx n f).routes = s.routes := rfl
@[simp] theorem State.updMbx_txns (n : Nat) (f : Mailbox → Mailbox) : (s.updMbx n f).txns = s.txns := rfl
@[simp] theorem State.updMbx_txnCount (n : Nat) (f : Mailbox → Mailbox) : (s.updMbx n f).txnCount = s.txnCount := rfl
@[simp] theorem State.updMbx_armOrder (n : Nat) (f : Mailbox → Mailbox) : (s.updMbx n f).armOrder = s.armOrder := rfl
@[simp] theorem State.updMbx_settings (n : Nat) (f : Mailbox → Mailbox) : (s.updMbx n f).settings = s.settings := rfl
@[simp] theorem State.updMbx_synth (n : Nat) (f : Mailbox → Mailbox) : (s.updMbx n f).synth = s.synth := rfl
@[simp] theorem State.updMbx_modes (n : Nat) (f : Mailbox → Mailbox) : (s.updMbx n f).modes = s.modes := rfl
@[simp] theorem State.updMbx_ingest (n : Nat) (f : Mailbox → Mailbox) : (s.updMbx n f).ingest = s.ingest := rfl
@[simp] theorem State.updMbx_compose (n : Nat) (f : Mailbox → Mailbox) : (s.updMbx n f).compose = s.compose := rfl
@[simp] theorem State.updMbx_stands (n : Nat) (f : Mailbox → Mailbox) : (s.updMbx n f).stands = s.stands := rfl
@[simp] theorem State.updMbx_bakeQueue (n : Nat) (f : Mailbox → Mailbox) : (s.updMbx n f).bakeQueue = s.bakeQueue := rfl
@[simp] theorem State.updMbx_links (n : Nat) (f : Mailbox → Mailbox) : (s.updMbx n f).links = s.links := rfl
@[simp] theorem State.updMbx_scanLatch (n : Nat) (f : Mailbox → Mailbox) : (s.updMbx n f).scanLatch = s.scanLatch := rfl
@[simp] theorem State.updMbx_fs (n : Nat) (f : Mailbox → Mailbox) : (s.updMbx n f).fs = s.fs := rfl
@[simp] theorem State.updMbx_chain (n : Nat) (f : Mailbox → Mailbox) : (s.updMbx n f).chain = s.chain := rfl
@[simp] theorem State.updMbx_faults (n : Nat) (f : Mailbox → Mailbox) : (s.updMbx n f).faults = s.faults := rfl
@[simp] theorem State.updMbx_bellows (n : Nat) (f : Mailbox → Mailbox) : (s.updMbx n f).bellows = s.bellows := rfl
@[simp] theorem State.updMbx_flash (n : Nat) (f : Mailbox → Mailbox) : (s.updMbx n f).flash = s.flash := rfl
@[simp] theorem State.updMbx_recorder (n : Nat) (f : Mailbox → Mailbox) : (s.updMbx n f).recorder = s.recorder := rfl
@[simp] theorem State.updMbx_security (n : Nat) (f : Mailbox → Mailbox) : (s.updMbx n f).security = s.security := rfl
@[simp] theorem State.updMbx_fw (n : Nat) (f : Mailbox → Mailbox) : (s.updMbx n f).fw = s.fw := rfl
@[simp] theorem State.updMbx_power (n : Nat) (f : Mailbox → Mailbox) : (s.updMbx n f).power = s.power := rfl
@[simp] theorem State.updMbx_out (n : Nat) (f : Mailbox → Mailbox) : (s.updMbx n f).out = s.out := rfl
@[simp] theorem State.updMbx_owed (n : Nat) (f : Mailbox → Mailbox) : (s.updMbx n f).owed = s.owed := rfl
@[simp] theorem State.updMbx_pending (n : Nat) (f : Mailbox → Mailbox) : (s.updMbx n f).pending = s.pending := rfl

/-! updRing: everything but `rings` stays. -/
@[simp] theorem State.updRing_clock (n : Nat) (f : Ring → Ring) : (s.updRing n f).clock = s.clock := rfl
@[simp] theorem State.updRing_tb (n : Nat) (f : Ring → Ring) : (s.updRing n f).tb = s.tb := rfl
@[simp] theorem State.updRing_pcie (n : Nat) (f : Ring → Ring) : (s.updRing n f).pcie = s.pcie := rfl
@[simp] theorem State.updRing_mailboxes (n : Nat) (f : Ring → Ring) : (s.updRing n f).mailboxes = s.mailboxes := rfl
@[simp] theorem State.updRing_routes (n : Nat) (f : Ring → Ring) : (s.updRing n f).routes = s.routes := rfl
@[simp] theorem State.updRing_txns (n : Nat) (f : Ring → Ring) : (s.updRing n f).txns = s.txns := rfl
@[simp] theorem State.updRing_txnCount (n : Nat) (f : Ring → Ring) : (s.updRing n f).txnCount = s.txnCount := rfl
@[simp] theorem State.updRing_armOrder (n : Nat) (f : Ring → Ring) : (s.updRing n f).armOrder = s.armOrder := rfl
@[simp] theorem State.updRing_settings (n : Nat) (f : Ring → Ring) : (s.updRing n f).settings = s.settings := rfl
@[simp] theorem State.updRing_synth (n : Nat) (f : Ring → Ring) : (s.updRing n f).synth = s.synth := rfl
@[simp] theorem State.updRing_modes (n : Nat) (f : Ring → Ring) : (s.updRing n f).modes = s.modes := rfl
@[simp] theorem State.updRing_ingest (n : Nat) (f : Ring → Ring) : (s.updRing n f).ingest = s.ingest := rfl
@[simp] theorem State.updRing_compose (n : Nat) (f : Ring → Ring) : (s.updRing n f).compose = s.compose := rfl
@[simp] theorem State.updRing_stands (n : Nat) (f : Ring → Ring) : (s.updRing n f).stands = s.stands := rfl
@[simp] theorem State.updRing_bakeQueue (n : Nat) (f : Ring → Ring) : (s.updRing n f).bakeQueue = s.bakeQueue := rfl
@[simp] theorem State.updRing_links (n : Nat) (f : Ring → Ring) : (s.updRing n f).links = s.links := rfl
@[simp] theorem State.updRing_scanLatch (n : Nat) (f : Ring → Ring) : (s.updRing n f).scanLatch = s.scanLatch := rfl
@[simp] theorem State.updRing_fs (n : Nat) (f : Ring → Ring) : (s.updRing n f).fs = s.fs := rfl
@[simp] theorem State.updRing_chain (n : Nat) (f : Ring → Ring) : (s.updRing n f).chain = s.chain := rfl
@[simp] theorem State.updRing_faults (n : Nat) (f : Ring → Ring) : (s.updRing n f).faults = s.faults := rfl
@[simp] theorem State.updRing_bellows (n : Nat) (f : Ring → Ring) : (s.updRing n f).bellows = s.bellows := rfl
@[simp] theorem State.updRing_flash (n : Nat) (f : Ring → Ring) : (s.updRing n f).flash = s.flash := rfl
@[simp] theorem State.updRing_recorder (n : Nat) (f : Ring → Ring) : (s.updRing n f).recorder = s.recorder := rfl
@[simp] theorem State.updRing_security (n : Nat) (f : Ring → Ring) : (s.updRing n f).security = s.security := rfl
@[simp] theorem State.updRing_fw (n : Nat) (f : Ring → Ring) : (s.updRing n f).fw = s.fw := rfl
@[simp] theorem State.updRing_power (n : Nat) (f : Ring → Ring) : (s.updRing n f).power = s.power := rfl
@[simp] theorem State.updRing_out (n : Nat) (f : Ring → Ring) : (s.updRing n f).out = s.out := rfl
@[simp] theorem State.updRing_owed (n : Nat) (f : Ring → Ring) : (s.updRing n f).owed = s.owed := rfl
@[simp] theorem State.updRing_pending (n : Nat) (f : Ring → Ring) : (s.updRing n f).pending = s.pending := rfl

/-! updStand: everything but `stands` stays. -/
@[simp] theorem State.updStand_clock (n : Nat) (f : Stand → Stand) : (s.updStand n f).clock = s.clock := rfl
@[simp] theorem State.updStand_tb (n : Nat) (f : Stand → Stand) : (s.updStand n f).tb = s.tb := rfl
@[simp] theorem State.updStand_pcie (n : Nat) (f : Stand → Stand) : (s.updStand n f).pcie = s.pcie := rfl
@[simp] theorem State.updStand_mailboxes (n : Nat) (f : Stand → Stand) : (s.updStand n f).mailboxes = s.mailboxes := rfl
@[simp] theorem State.updStand_rings (n : Nat) (f : Stand → Stand) : (s.updStand n f).rings = s.rings := rfl
@[simp] theorem State.updStand_routes (n : Nat) (f : Stand → Stand) : (s.updStand n f).routes = s.routes := rfl
@[simp] theorem State.updStand_txns (n : Nat) (f : Stand → Stand) : (s.updStand n f).txns = s.txns := rfl
@[simp] theorem State.updStand_txnCount (n : Nat) (f : Stand → Stand) : (s.updStand n f).txnCount = s.txnCount := rfl
@[simp] theorem State.updStand_armOrder (n : Nat) (f : Stand → Stand) : (s.updStand n f).armOrder = s.armOrder := rfl
@[simp] theorem State.updStand_settings (n : Nat) (f : Stand → Stand) : (s.updStand n f).settings = s.settings := rfl
@[simp] theorem State.updStand_synth (n : Nat) (f : Stand → Stand) : (s.updStand n f).synth = s.synth := rfl
@[simp] theorem State.updStand_modes (n : Nat) (f : Stand → Stand) : (s.updStand n f).modes = s.modes := rfl
@[simp] theorem State.updStand_ingest (n : Nat) (f : Stand → Stand) : (s.updStand n f).ingest = s.ingest := rfl
@[simp] theorem State.updStand_compose (n : Nat) (f : Stand → Stand) : (s.updStand n f).compose = s.compose := rfl
@[simp] theorem State.updStand_bakeQueue (n : Nat) (f : Stand → Stand) : (s.updStand n f).bakeQueue = s.bakeQueue := rfl
@[simp] theorem State.updStand_links (n : Nat) (f : Stand → Stand) : (s.updStand n f).links = s.links := rfl
@[simp] theorem State.updStand_scanLatch (n : Nat) (f : Stand → Stand) : (s.updStand n f).scanLatch = s.scanLatch := rfl
@[simp] theorem State.updStand_fs (n : Nat) (f : Stand → Stand) : (s.updStand n f).fs = s.fs := rfl
@[simp] theorem State.updStand_chain (n : Nat) (f : Stand → Stand) : (s.updStand n f).chain = s.chain := rfl
@[simp] theorem State.updStand_faults (n : Nat) (f : Stand → Stand) : (s.updStand n f).faults = s.faults := rfl
@[simp] theorem State.updStand_bellows (n : Nat) (f : Stand → Stand) : (s.updStand n f).bellows = s.bellows := rfl
@[simp] theorem State.updStand_flash (n : Nat) (f : Stand → Stand) : (s.updStand n f).flash = s.flash := rfl
@[simp] theorem State.updStand_recorder (n : Nat) (f : Stand → Stand) : (s.updStand n f).recorder = s.recorder := rfl
@[simp] theorem State.updStand_security (n : Nat) (f : Stand → Stand) : (s.updStand n f).security = s.security := rfl
@[simp] theorem State.updStand_fw (n : Nat) (f : Stand → Stand) : (s.updStand n f).fw = s.fw := rfl
@[simp] theorem State.updStand_power (n : Nat) (f : Stand → Stand) : (s.updStand n f).power = s.power := rfl
@[simp] theorem State.updStand_out (n : Nat) (f : Stand → Stand) : (s.updStand n f).out = s.out := rfl
@[simp] theorem State.updStand_owed (n : Nat) (f : Stand → Stand) : (s.updStand n f).owed = s.owed := rfl
@[simp] theorem State.updStand_pending (n : Nat) (f : Stand → Stand) : (s.updStand n f).pending = s.pending := rfl

/-! updLink: everything but `links` stays. -/
@[simp] theorem State.updLink_clock (n : Nat) (f : Link → Link) : (s.updLink n f).clock = s.clock := rfl
@[simp] theorem State.updLink_tb (n : Nat) (f : Link → Link) : (s.updLink n f).tb = s.tb := rfl
@[simp] theorem State.updLink_pcie (n : Nat) (f : Link → Link) : (s.updLink n f).pcie = s.pcie := rfl
@[simp] theorem State.updLink_mailboxes (n : Nat) (f : Link → Link) : (s.updLink n f).mailboxes = s.mailboxes := rfl
@[simp] theorem State.updLink_rings (n : Nat) (f : Link → Link) : (s.updLink n f).rings = s.rings := rfl
@[simp] theorem State.updLink_routes (n : Nat) (f : Link → Link) : (s.updLink n f).routes = s.routes := rfl
@[simp] theorem State.updLink_txns (n : Nat) (f : Link → Link) : (s.updLink n f).txns = s.txns := rfl
@[simp] theorem State.updLink_txnCount (n : Nat) (f : Link → Link) : (s.updLink n f).txnCount = s.txnCount := rfl
@[simp] theorem State.updLink_armOrder (n : Nat) (f : Link → Link) : (s.updLink n f).armOrder = s.armOrder := rfl
@[simp] theorem State.updLink_settings (n : Nat) (f : Link → Link) : (s.updLink n f).settings = s.settings := rfl
@[simp] theorem State.updLink_synth (n : Nat) (f : Link → Link) : (s.updLink n f).synth = s.synth := rfl
@[simp] theorem State.updLink_modes (n : Nat) (f : Link → Link) : (s.updLink n f).modes = s.modes := rfl
@[simp] theorem State.updLink_ingest (n : Nat) (f : Link → Link) : (s.updLink n f).ingest = s.ingest := rfl
@[simp] theorem State.updLink_compose (n : Nat) (f : Link → Link) : (s.updLink n f).compose = s.compose := rfl
@[simp] theorem State.updLink_stands (n : Nat) (f : Link → Link) : (s.updLink n f).stands = s.stands := rfl
@[simp] theorem State.updLink_bakeQueue (n : Nat) (f : Link → Link) : (s.updLink n f).bakeQueue = s.bakeQueue := rfl
@[simp] theorem State.updLink_scanLatch (n : Nat) (f : Link → Link) : (s.updLink n f).scanLatch = s.scanLatch := rfl
@[simp] theorem State.updLink_fs (n : Nat) (f : Link → Link) : (s.updLink n f).fs = s.fs := rfl
@[simp] theorem State.updLink_chain (n : Nat) (f : Link → Link) : (s.updLink n f).chain = s.chain := rfl
@[simp] theorem State.updLink_faults (n : Nat) (f : Link → Link) : (s.updLink n f).faults = s.faults := rfl
@[simp] theorem State.updLink_bellows (n : Nat) (f : Link → Link) : (s.updLink n f).bellows = s.bellows := rfl
@[simp] theorem State.updLink_flash (n : Nat) (f : Link → Link) : (s.updLink n f).flash = s.flash := rfl
@[simp] theorem State.updLink_recorder (n : Nat) (f : Link → Link) : (s.updLink n f).recorder = s.recorder := rfl
@[simp] theorem State.updLink_security (n : Nat) (f : Link → Link) : (s.updLink n f).security = s.security := rfl
@[simp] theorem State.updLink_fw (n : Nat) (f : Link → Link) : (s.updLink n f).fw = s.fw := rfl
@[simp] theorem State.updLink_power (n : Nat) (f : Link → Link) : (s.updLink n f).power = s.power := rfl
@[simp] theorem State.updLink_out (n : Nat) (f : Link → Link) : (s.updLink n f).out = s.out := rfl
@[simp] theorem State.updLink_owed (n : Nat) (f : Link → Link) : (s.updLink n f).owed = s.owed := rfl
@[simp] theorem State.updLink_pending (n : Nat) (f : Link → Link) : (s.updLink n f).pending = s.pending := rfl

/-! updPort: everything but `chain` stays. -/
@[simp] theorem State.updPort_clock (n : Nat) (f : Port → Port) : (s.updPort n f).clock = s.clock := rfl
@[simp] theorem State.updPort_tb (n : Nat) (f : Port → Port) : (s.updPort n f).tb = s.tb := rfl
@[simp] theorem State.updPort_pcie (n : Nat) (f : Port → Port) : (s.updPort n f).pcie = s.pcie := rfl
@[simp] theorem State.updPort_mailboxes (n : Nat) (f : Port → Port) : (s.updPort n f).mailboxes = s.mailboxes := rfl
@[simp] theorem State.updPort_rings (n : Nat) (f : Port → Port) : (s.updPort n f).rings = s.rings := rfl
@[simp] theorem State.updPort_routes (n : Nat) (f : Port → Port) : (s.updPort n f).routes = s.routes := rfl
@[simp] theorem State.updPort_txns (n : Nat) (f : Port → Port) : (s.updPort n f).txns = s.txns := rfl
@[simp] theorem State.updPort_txnCount (n : Nat) (f : Port → Port) : (s.updPort n f).txnCount = s.txnCount := rfl
@[simp] theorem State.updPort_armOrder (n : Nat) (f : Port → Port) : (s.updPort n f).armOrder = s.armOrder := rfl
@[simp] theorem State.updPort_settings (n : Nat) (f : Port → Port) : (s.updPort n f).settings = s.settings := rfl
@[simp] theorem State.updPort_synth (n : Nat) (f : Port → Port) : (s.updPort n f).synth = s.synth := rfl
@[simp] theorem State.updPort_modes (n : Nat) (f : Port → Port) : (s.updPort n f).modes = s.modes := rfl
@[simp] theorem State.updPort_ingest (n : Nat) (f : Port → Port) : (s.updPort n f).ingest = s.ingest := rfl
@[simp] theorem State.updPort_compose (n : Nat) (f : Port → Port) : (s.updPort n f).compose = s.compose := rfl
@[simp] theorem State.updPort_stands (n : Nat) (f : Port → Port) : (s.updPort n f).stands = s.stands := rfl
@[simp] theorem State.updPort_bakeQueue (n : Nat) (f : Port → Port) : (s.updPort n f).bakeQueue = s.bakeQueue := rfl
@[simp] theorem State.updPort_links (n : Nat) (f : Port → Port) : (s.updPort n f).links = s.links := rfl
@[simp] theorem State.updPort_scanLatch (n : Nat) (f : Port → Port) : (s.updPort n f).scanLatch = s.scanLatch := rfl
@[simp] theorem State.updPort_fs (n : Nat) (f : Port → Port) : (s.updPort n f).fs = s.fs := rfl
@[simp] theorem State.updPort_faults (n : Nat) (f : Port → Port) : (s.updPort n f).faults = s.faults := rfl
@[simp] theorem State.updPort_bellows (n : Nat) (f : Port → Port) : (s.updPort n f).bellows = s.bellows := rfl
@[simp] theorem State.updPort_flash (n : Nat) (f : Port → Port) : (s.updPort n f).flash = s.flash := rfl
@[simp] theorem State.updPort_recorder (n : Nat) (f : Port → Port) : (s.updPort n f).recorder = s.recorder := rfl
@[simp] theorem State.updPort_security (n : Nat) (f : Port → Port) : (s.updPort n f).security = s.security := rfl
@[simp] theorem State.updPort_fw (n : Nat) (f : Port → Port) : (s.updPort n f).fw = s.fw := rfl
@[simp] theorem State.updPort_power (n : Nat) (f : Port → Port) : (s.updPort n f).power = s.power := rfl
@[simp] theorem State.updPort_out (n : Nat) (f : Port → Port) : (s.updPort n f).out = s.out := rfl
@[simp] theorem State.updPort_owed (n : Nat) (f : Port → Port) : (s.updPort n f).owed = s.owed := rfl
@[simp] theorem State.updPort_pending (n : Nat) (f : Port → Port) : (s.updPort n f).pending = s.pending := rfl

/-! setStream: everything but `ingest` stays. -/
@[simp] theorem State.setStream_clock (n : Nat) (v : Option SceneStream) : (s.setStream n v).clock = s.clock := rfl
@[simp] theorem State.setStream_tb (n : Nat) (v : Option SceneStream) : (s.setStream n v).tb = s.tb := rfl
@[simp] theorem State.setStream_pcie (n : Nat) (v : Option SceneStream) : (s.setStream n v).pcie = s.pcie := rfl
@[simp] theorem State.setStream_mailboxes (n : Nat) (v : Option SceneStream) : (s.setStream n v).mailboxes = s.mailboxes := rfl
@[simp] theorem State.setStream_rings (n : Nat) (v : Option SceneStream) : (s.setStream n v).rings = s.rings := rfl
@[simp] theorem State.setStream_routes (n : Nat) (v : Option SceneStream) : (s.setStream n v).routes = s.routes := rfl
@[simp] theorem State.setStream_txns (n : Nat) (v : Option SceneStream) : (s.setStream n v).txns = s.txns := rfl
@[simp] theorem State.setStream_txnCount (n : Nat) (v : Option SceneStream) : (s.setStream n v).txnCount = s.txnCount := rfl
@[simp] theorem State.setStream_armOrder (n : Nat) (v : Option SceneStream) : (s.setStream n v).armOrder = s.armOrder := rfl
@[simp] theorem State.setStream_settings (n : Nat) (v : Option SceneStream) : (s.setStream n v).settings = s.settings := rfl
@[simp] theorem State.setStream_synth (n : Nat) (v : Option SceneStream) : (s.setStream n v).synth = s.synth := rfl
@[simp] theorem State.setStream_modes (n : Nat) (v : Option SceneStream) : (s.setStream n v).modes = s.modes := rfl
@[simp] theorem State.setStream_compose (n : Nat) (v : Option SceneStream) : (s.setStream n v).compose = s.compose := rfl
@[simp] theorem State.setStream_stands (n : Nat) (v : Option SceneStream) : (s.setStream n v).stands = s.stands := rfl
@[simp] theorem State.setStream_bakeQueue (n : Nat) (v : Option SceneStream) : (s.setStream n v).bakeQueue = s.bakeQueue := rfl
@[simp] theorem State.setStream_links (n : Nat) (v : Option SceneStream) : (s.setStream n v).links = s.links := rfl
@[simp] theorem State.setStream_scanLatch (n : Nat) (v : Option SceneStream) : (s.setStream n v).scanLatch = s.scanLatch := rfl
@[simp] theorem State.setStream_fs (n : Nat) (v : Option SceneStream) : (s.setStream n v).fs = s.fs := rfl
@[simp] theorem State.setStream_chain (n : Nat) (v : Option SceneStream) : (s.setStream n v).chain = s.chain := rfl
@[simp] theorem State.setStream_faults (n : Nat) (v : Option SceneStream) : (s.setStream n v).faults = s.faults := rfl
@[simp] theorem State.setStream_bellows (n : Nat) (v : Option SceneStream) : (s.setStream n v).bellows = s.bellows := rfl
@[simp] theorem State.setStream_flash (n : Nat) (v : Option SceneStream) : (s.setStream n v).flash = s.flash := rfl
@[simp] theorem State.setStream_recorder (n : Nat) (v : Option SceneStream) : (s.setStream n v).recorder = s.recorder := rfl
@[simp] theorem State.setStream_security (n : Nat) (v : Option SceneStream) : (s.setStream n v).security = s.security := rfl
@[simp] theorem State.setStream_fw (n : Nat) (v : Option SceneStream) : (s.setStream n v).fw = s.fw := rfl
@[simp] theorem State.setStream_power (n : Nat) (v : Option SceneStream) : (s.setStream n v).power = s.power := rfl
@[simp] theorem State.setStream_out (n : Nat) (v : Option SceneStream) : (s.setStream n v).out = s.out := rfl
@[simp] theorem State.setStream_owed (n : Nat) (v : Option SceneStream) : (s.setStream n v).owed = s.owed := rfl
@[simp] theorem State.setStream_pending (n : Nat) (v : Option SceneStream) : (s.setStream n v).pending = s.pending := rfl

/-! updStream: everything but `ingest` stays. -/
@[simp] theorem State.updStream_clock (n : Nat) (f : SceneStream → SceneStream) : (s.updStream n f).clock = s.clock := rfl
@[simp] theorem State.updStream_tb (n : Nat) (f : SceneStream → SceneStream) : (s.updStream n f).tb = s.tb := rfl
@[simp] theorem State.updStream_pcie (n : Nat) (f : SceneStream → SceneStream) : (s.updStream n f).pcie = s.pcie := rfl
@[simp] theorem State.updStream_mailboxes (n : Nat) (f : SceneStream → SceneStream) : (s.updStream n f).mailboxes = s.mailboxes := rfl
@[simp] theorem State.updStream_rings (n : Nat) (f : SceneStream → SceneStream) : (s.updStream n f).rings = s.rings := rfl
@[simp] theorem State.updStream_routes (n : Nat) (f : SceneStream → SceneStream) : (s.updStream n f).routes = s.routes := rfl
@[simp] theorem State.updStream_txns (n : Nat) (f : SceneStream → SceneStream) : (s.updStream n f).txns = s.txns := rfl
@[simp] theorem State.updStream_txnCount (n : Nat) (f : SceneStream → SceneStream) : (s.updStream n f).txnCount = s.txnCount := rfl
@[simp] theorem State.updStream_armOrder (n : Nat) (f : SceneStream → SceneStream) : (s.updStream n f).armOrder = s.armOrder := rfl
@[simp] theorem State.updStream_settings (n : Nat) (f : SceneStream → SceneStream) : (s.updStream n f).settings = s.settings := rfl
@[simp] theorem State.updStream_synth (n : Nat) (f : SceneStream → SceneStream) : (s.updStream n f).synth = s.synth := rfl
@[simp] theorem State.updStream_modes (n : Nat) (f : SceneStream → SceneStream) : (s.updStream n f).modes = s.modes := rfl
@[simp] theorem State.updStream_compose (n : Nat) (f : SceneStream → SceneStream) : (s.updStream n f).compose = s.compose := rfl
@[simp] theorem State.updStream_stands (n : Nat) (f : SceneStream → SceneStream) : (s.updStream n f).stands = s.stands := rfl
@[simp] theorem State.updStream_bakeQueue (n : Nat) (f : SceneStream → SceneStream) : (s.updStream n f).bakeQueue = s.bakeQueue := rfl
@[simp] theorem State.updStream_links (n : Nat) (f : SceneStream → SceneStream) : (s.updStream n f).links = s.links := rfl
@[simp] theorem State.updStream_scanLatch (n : Nat) (f : SceneStream → SceneStream) : (s.updStream n f).scanLatch = s.scanLatch := rfl
@[simp] theorem State.updStream_fs (n : Nat) (f : SceneStream → SceneStream) : (s.updStream n f).fs = s.fs := rfl
@[simp] theorem State.updStream_chain (n : Nat) (f : SceneStream → SceneStream) : (s.updStream n f).chain = s.chain := rfl
@[simp] theorem State.updStream_faults (n : Nat) (f : SceneStream → SceneStream) : (s.updStream n f).faults = s.faults := rfl
@[simp] theorem State.updStream_bellows (n : Nat) (f : SceneStream → SceneStream) : (s.updStream n f).bellows = s.bellows := rfl
@[simp] theorem State.updStream_flash (n : Nat) (f : SceneStream → SceneStream) : (s.updStream n f).flash = s.flash := rfl
@[simp] theorem State.updStream_recorder (n : Nat) (f : SceneStream → SceneStream) : (s.updStream n f).recorder = s.recorder := rfl
@[simp] theorem State.updStream_security (n : Nat) (f : SceneStream → SceneStream) : (s.updStream n f).security = s.security := rfl
@[simp] theorem State.updStream_fw (n : Nat) (f : SceneStream → SceneStream) : (s.updStream n f).fw = s.fw := rfl
@[simp] theorem State.updStream_power (n : Nat) (f : SceneStream → SceneStream) : (s.updStream n f).power = s.power := rfl
@[simp] theorem State.updStream_out (n : Nat) (f : SceneStream → SceneStream) : (s.updStream n f).out = s.out := rfl
@[simp] theorem State.updStream_owed (n : Nat) (f : SceneStream → SceneStream) : (s.updStream n f).owed = s.owed := rfl
@[simp] theorem State.updStream_pending (n : Nat) (f : SceneStream → SceneStream) : (s.updStream n f).pending = s.pending := rfl

/-! updQueue: everything but `ingest` stays. -/
@[simp] theorem State.updQueue_clock (n : Nat) (f : Queue → Queue) : (s.updQueue n f).clock = s.clock := rfl
@[simp] theorem State.updQueue_tb (n : Nat) (f : Queue → Queue) : (s.updQueue n f).tb = s.tb := rfl
@[simp] theorem State.updQueue_pcie (n : Nat) (f : Queue → Queue) : (s.updQueue n f).pcie = s.pcie := rfl
@[simp] theorem State.updQueue_mailboxes (n : Nat) (f : Queue → Queue) : (s.updQueue n f).mailboxes = s.mailboxes := rfl
@[simp] theorem State.updQueue_rings (n : Nat) (f : Queue → Queue) : (s.updQueue n f).rings = s.rings := rfl
@[simp] theorem State.updQueue_routes (n : Nat) (f : Queue → Queue) : (s.updQueue n f).routes = s.routes := rfl
@[simp] theorem State.updQueue_txns (n : Nat) (f : Queue → Queue) : (s.updQueue n f).txns = s.txns := rfl
@[simp] theorem State.updQueue_txnCount (n : Nat) (f : Queue → Queue) : (s.updQueue n f).txnCount = s.txnCount := rfl
@[simp] theorem State.updQueue_armOrder (n : Nat) (f : Queue → Queue) : (s.updQueue n f).armOrder = s.armOrder := rfl
@[simp] theorem State.updQueue_settings (n : Nat) (f : Queue → Queue) : (s.updQueue n f).settings = s.settings := rfl
@[simp] theorem State.updQueue_synth (n : Nat) (f : Queue → Queue) : (s.updQueue n f).synth = s.synth := rfl
@[simp] theorem State.updQueue_modes (n : Nat) (f : Queue → Queue) : (s.updQueue n f).modes = s.modes := rfl
@[simp] theorem State.updQueue_compose (n : Nat) (f : Queue → Queue) : (s.updQueue n f).compose = s.compose := rfl
@[simp] theorem State.updQueue_stands (n : Nat) (f : Queue → Queue) : (s.updQueue n f).stands = s.stands := rfl
@[simp] theorem State.updQueue_bakeQueue (n : Nat) (f : Queue → Queue) : (s.updQueue n f).bakeQueue = s.bakeQueue := rfl
@[simp] theorem State.updQueue_links (n : Nat) (f : Queue → Queue) : (s.updQueue n f).links = s.links := rfl
@[simp] theorem State.updQueue_scanLatch (n : Nat) (f : Queue → Queue) : (s.updQueue n f).scanLatch = s.scanLatch := rfl
@[simp] theorem State.updQueue_fs (n : Nat) (f : Queue → Queue) : (s.updQueue n f).fs = s.fs := rfl
@[simp] theorem State.updQueue_chain (n : Nat) (f : Queue → Queue) : (s.updQueue n f).chain = s.chain := rfl
@[simp] theorem State.updQueue_faults (n : Nat) (f : Queue → Queue) : (s.updQueue n f).faults = s.faults := rfl
@[simp] theorem State.updQueue_bellows (n : Nat) (f : Queue → Queue) : (s.updQueue n f).bellows = s.bellows := rfl
@[simp] theorem State.updQueue_flash (n : Nat) (f : Queue → Queue) : (s.updQueue n f).flash = s.flash := rfl
@[simp] theorem State.updQueue_recorder (n : Nat) (f : Queue → Queue) : (s.updQueue n f).recorder = s.recorder := rfl
@[simp] theorem State.updQueue_security (n : Nat) (f : Queue → Queue) : (s.updQueue n f).security = s.security := rfl
@[simp] theorem State.updQueue_fw (n : Nat) (f : Queue → Queue) : (s.updQueue n f).fw = s.fw := rfl
@[simp] theorem State.updQueue_power (n : Nat) (f : Queue → Queue) : (s.updQueue n f).power = s.power := rfl
@[simp] theorem State.updQueue_out (n : Nat) (f : Queue → Queue) : (s.updQueue n f).out = s.out := rfl
@[simp] theorem State.updQueue_owed (n : Nat) (f : Queue → Queue) : (s.updQueue n f).owed = s.owed := rfl
@[simp] theorem State.updQueue_pending (n : Nat) (f : Queue → Queue) : (s.updQueue n f).pending = s.pending := rfl

/-! updComplex: everything but `bellows` stays. -/
@[simp] theorem State.updComplex_clock (n : Nat) (f : Complex → Complex) : (s.updComplex n f).clock = s.clock := rfl
@[simp] theorem State.updComplex_tb (n : Nat) (f : Complex → Complex) : (s.updComplex n f).tb = s.tb := rfl
@[simp] theorem State.updComplex_pcie (n : Nat) (f : Complex → Complex) : (s.updComplex n f).pcie = s.pcie := rfl
@[simp] theorem State.updComplex_mailboxes (n : Nat) (f : Complex → Complex) : (s.updComplex n f).mailboxes = s.mailboxes := rfl
@[simp] theorem State.updComplex_rings (n : Nat) (f : Complex → Complex) : (s.updComplex n f).rings = s.rings := rfl
@[simp] theorem State.updComplex_routes (n : Nat) (f : Complex → Complex) : (s.updComplex n f).routes = s.routes := rfl
@[simp] theorem State.updComplex_txns (n : Nat) (f : Complex → Complex) : (s.updComplex n f).txns = s.txns := rfl
@[simp] theorem State.updComplex_txnCount (n : Nat) (f : Complex → Complex) : (s.updComplex n f).txnCount = s.txnCount := rfl
@[simp] theorem State.updComplex_armOrder (n : Nat) (f : Complex → Complex) : (s.updComplex n f).armOrder = s.armOrder := rfl
@[simp] theorem State.updComplex_settings (n : Nat) (f : Complex → Complex) : (s.updComplex n f).settings = s.settings := rfl
@[simp] theorem State.updComplex_synth (n : Nat) (f : Complex → Complex) : (s.updComplex n f).synth = s.synth := rfl
@[simp] theorem State.updComplex_modes (n : Nat) (f : Complex → Complex) : (s.updComplex n f).modes = s.modes := rfl
@[simp] theorem State.updComplex_ingest (n : Nat) (f : Complex → Complex) : (s.updComplex n f).ingest = s.ingest := rfl
@[simp] theorem State.updComplex_compose (n : Nat) (f : Complex → Complex) : (s.updComplex n f).compose = s.compose := rfl
@[simp] theorem State.updComplex_stands (n : Nat) (f : Complex → Complex) : (s.updComplex n f).stands = s.stands := rfl
@[simp] theorem State.updComplex_bakeQueue (n : Nat) (f : Complex → Complex) : (s.updComplex n f).bakeQueue = s.bakeQueue := rfl
@[simp] theorem State.updComplex_links (n : Nat) (f : Complex → Complex) : (s.updComplex n f).links = s.links := rfl
@[simp] theorem State.updComplex_scanLatch (n : Nat) (f : Complex → Complex) : (s.updComplex n f).scanLatch = s.scanLatch := rfl
@[simp] theorem State.updComplex_fs (n : Nat) (f : Complex → Complex) : (s.updComplex n f).fs = s.fs := rfl
@[simp] theorem State.updComplex_chain (n : Nat) (f : Complex → Complex) : (s.updComplex n f).chain = s.chain := rfl
@[simp] theorem State.updComplex_faults (n : Nat) (f : Complex → Complex) : (s.updComplex n f).faults = s.faults := rfl
@[simp] theorem State.updComplex_flash (n : Nat) (f : Complex → Complex) : (s.updComplex n f).flash = s.flash := rfl
@[simp] theorem State.updComplex_recorder (n : Nat) (f : Complex → Complex) : (s.updComplex n f).recorder = s.recorder := rfl
@[simp] theorem State.updComplex_security (n : Nat) (f : Complex → Complex) : (s.updComplex n f).security = s.security := rfl
@[simp] theorem State.updComplex_fw (n : Nat) (f : Complex → Complex) : (s.updComplex n f).fw = s.fw := rfl
@[simp] theorem State.updComplex_power (n : Nat) (f : Complex → Complex) : (s.updComplex n f).power = s.power := rfl
@[simp] theorem State.updComplex_out (n : Nat) (f : Complex → Complex) : (s.updComplex n f).out = s.out := rfl
@[simp] theorem State.updComplex_owed (n : Nat) (f : Complex → Complex) : (s.updComplex n f).owed = s.owed := rfl
@[simp] theorem State.updComplex_pending (n : Nat) (f : Complex → Complex) : (s.updComplex n f).pending = s.pending := rfl

/-! emit: everything but `out` stays. -/
@[simp] theorem State.emit_clock (o : Out) : (s.emit o).clock = s.clock := rfl
@[simp] theorem State.emit_tb (o : Out) : (s.emit o).tb = s.tb := rfl
@[simp] theorem State.emit_pcie (o : Out) : (s.emit o).pcie = s.pcie := rfl
@[simp] theorem State.emit_mailboxes (o : Out) : (s.emit o).mailboxes = s.mailboxes := rfl
@[simp] theorem State.emit_rings (o : Out) : (s.emit o).rings = s.rings := rfl
@[simp] theorem State.emit_routes (o : Out) : (s.emit o).routes = s.routes := rfl
@[simp] theorem State.emit_txns (o : Out) : (s.emit o).txns = s.txns := rfl
@[simp] theorem State.emit_txnCount (o : Out) : (s.emit o).txnCount = s.txnCount := rfl
@[simp] theorem State.emit_armOrder (o : Out) : (s.emit o).armOrder = s.armOrder := rfl
@[simp] theorem State.emit_settings (o : Out) : (s.emit o).settings = s.settings := rfl
@[simp] theorem State.emit_synth (o : Out) : (s.emit o).synth = s.synth := rfl
@[simp] theorem State.emit_modes (o : Out) : (s.emit o).modes = s.modes := rfl
@[simp] theorem State.emit_ingest (o : Out) : (s.emit o).ingest = s.ingest := rfl
@[simp] theorem State.emit_compose (o : Out) : (s.emit o).compose = s.compose := rfl
@[simp] theorem State.emit_stands (o : Out) : (s.emit o).stands = s.stands := rfl
@[simp] theorem State.emit_bakeQueue (o : Out) : (s.emit o).bakeQueue = s.bakeQueue := rfl
@[simp] theorem State.emit_links (o : Out) : (s.emit o).links = s.links := rfl
@[simp] theorem State.emit_scanLatch (o : Out) : (s.emit o).scanLatch = s.scanLatch := rfl
@[simp] theorem State.emit_fs (o : Out) : (s.emit o).fs = s.fs := rfl
@[simp] theorem State.emit_chain (o : Out) : (s.emit o).chain = s.chain := rfl
@[simp] theorem State.emit_faults (o : Out) : (s.emit o).faults = s.faults := rfl
@[simp] theorem State.emit_bellows (o : Out) : (s.emit o).bellows = s.bellows := rfl
@[simp] theorem State.emit_flash (o : Out) : (s.emit o).flash = s.flash := rfl
@[simp] theorem State.emit_recorder (o : Out) : (s.emit o).recorder = s.recorder := rfl
@[simp] theorem State.emit_security (o : Out) : (s.emit o).security = s.security := rfl
@[simp] theorem State.emit_fw (o : Out) : (s.emit o).fw = s.fw := rfl
@[simp] theorem State.emit_power (o : Out) : (s.emit o).power = s.power := rfl
@[simp] theorem State.emit_owed (o : Out) : (s.emit o).owed = s.owed := rfl
@[simp] theorem State.emit_pending (o : Out) : (s.emit o).pending = s.pending := rfl

/-! updCal: everything but `stands` stays. -/
@[simp] theorem State.updCal_clock (n : Nat) (f : Cal → Cal) : (s.updCal n f).clock = s.clock := rfl
@[simp] theorem State.updCal_tb (n : Nat) (f : Cal → Cal) : (s.updCal n f).tb = s.tb := rfl
@[simp] theorem State.updCal_pcie (n : Nat) (f : Cal → Cal) : (s.updCal n f).pcie = s.pcie := rfl
@[simp] theorem State.updCal_mailboxes (n : Nat) (f : Cal → Cal) : (s.updCal n f).mailboxes = s.mailboxes := rfl
@[simp] theorem State.updCal_rings (n : Nat) (f : Cal → Cal) : (s.updCal n f).rings = s.rings := rfl
@[simp] theorem State.updCal_routes (n : Nat) (f : Cal → Cal) : (s.updCal n f).routes = s.routes := rfl
@[simp] theorem State.updCal_txns (n : Nat) (f : Cal → Cal) : (s.updCal n f).txns = s.txns := rfl
@[simp] theorem State.updCal_txnCount (n : Nat) (f : Cal → Cal) : (s.updCal n f).txnCount = s.txnCount := rfl
@[simp] theorem State.updCal_armOrder (n : Nat) (f : Cal → Cal) : (s.updCal n f).armOrder = s.armOrder := rfl
@[simp] theorem State.updCal_settings (n : Nat) (f : Cal → Cal) : (s.updCal n f).settings = s.settings := rfl
@[simp] theorem State.updCal_synth (n : Nat) (f : Cal → Cal) : (s.updCal n f).synth = s.synth := rfl
@[simp] theorem State.updCal_modes (n : Nat) (f : Cal → Cal) : (s.updCal n f).modes = s.modes := rfl
@[simp] theorem State.updCal_ingest (n : Nat) (f : Cal → Cal) : (s.updCal n f).ingest = s.ingest := rfl
@[simp] theorem State.updCal_compose (n : Nat) (f : Cal → Cal) : (s.updCal n f).compose = s.compose := rfl
@[simp] theorem State.updCal_bakeQueue (n : Nat) (f : Cal → Cal) : (s.updCal n f).bakeQueue = s.bakeQueue := rfl
@[simp] theorem State.updCal_links (n : Nat) (f : Cal → Cal) : (s.updCal n f).links = s.links := rfl
@[simp] theorem State.updCal_scanLatch (n : Nat) (f : Cal → Cal) : (s.updCal n f).scanLatch = s.scanLatch := rfl
@[simp] theorem State.updCal_fs (n : Nat) (f : Cal → Cal) : (s.updCal n f).fs = s.fs := rfl
@[simp] theorem State.updCal_chain (n : Nat) (f : Cal → Cal) : (s.updCal n f).chain = s.chain := rfl
@[simp] theorem State.updCal_faults (n : Nat) (f : Cal → Cal) : (s.updCal n f).faults = s.faults := rfl
@[simp] theorem State.updCal_bellows (n : Nat) (f : Cal → Cal) : (s.updCal n f).bellows = s.bellows := rfl
@[simp] theorem State.updCal_flash (n : Nat) (f : Cal → Cal) : (s.updCal n f).flash = s.flash := rfl
@[simp] theorem State.updCal_recorder (n : Nat) (f : Cal → Cal) : (s.updCal n f).recorder = s.recorder := rfl
@[simp] theorem State.updCal_security (n : Nat) (f : Cal → Cal) : (s.updCal n f).security = s.security := rfl
@[simp] theorem State.updCal_fw (n : Nat) (f : Cal → Cal) : (s.updCal n f).fw = s.fw := rfl
@[simp] theorem State.updCal_power (n : Nat) (f : Cal → Cal) : (s.updCal n f).power = s.power := rfl
@[simp] theorem State.updCal_out (n : Nat) (f : Cal → Cal) : (s.updCal n f).out = s.out := rfl
@[simp] theorem State.updCal_owed (n : Nat) (f : Cal → Cal) : (s.updCal n f).owed = s.owed := rfl
@[simp] theorem State.updCal_pending (n : Nat) (f : Cal → Cal) : (s.updCal n f).pending = s.pending := rfl

/-! updPtp: everything but `tb` stays. -/
@[simp] theorem State.updPtp_clock (n : Nat) (f : PtpPort → PtpPort) : (s.updPtp n f).clock = s.clock := rfl
@[simp] theorem State.updPtp_pcie (n : Nat) (f : PtpPort → PtpPort) : (s.updPtp n f).pcie = s.pcie := rfl
@[simp] theorem State.updPtp_mailboxes (n : Nat) (f : PtpPort → PtpPort) : (s.updPtp n f).mailboxes = s.mailboxes := rfl
@[simp] theorem State.updPtp_rings (n : Nat) (f : PtpPort → PtpPort) : (s.updPtp n f).rings = s.rings := rfl
@[simp] theorem State.updPtp_routes (n : Nat) (f : PtpPort → PtpPort) : (s.updPtp n f).routes = s.routes := rfl
@[simp] theorem State.updPtp_txns (n : Nat) (f : PtpPort → PtpPort) : (s.updPtp n f).txns = s.txns := rfl
@[simp] theorem State.updPtp_txnCount (n : Nat) (f : PtpPort → PtpPort) : (s.updPtp n f).txnCount = s.txnCount := rfl
@[simp] theorem State.updPtp_armOrder (n : Nat) (f : PtpPort → PtpPort) : (s.updPtp n f).armOrder = s.armOrder := rfl
@[simp] theorem State.updPtp_settings (n : Nat) (f : PtpPort → PtpPort) : (s.updPtp n f).settings = s.settings := rfl
@[simp] theorem State.updPtp_synth (n : Nat) (f : PtpPort → PtpPort) : (s.updPtp n f).synth = s.synth := rfl
@[simp] theorem State.updPtp_modes (n : Nat) (f : PtpPort → PtpPort) : (s.updPtp n f).modes = s.modes := rfl
@[simp] theorem State.updPtp_ingest (n : Nat) (f : PtpPort → PtpPort) : (s.updPtp n f).ingest = s.ingest := rfl
@[simp] theorem State.updPtp_compose (n : Nat) (f : PtpPort → PtpPort) : (s.updPtp n f).compose = s.compose := rfl
@[simp] theorem State.updPtp_stands (n : Nat) (f : PtpPort → PtpPort) : (s.updPtp n f).stands = s.stands := rfl
@[simp] theorem State.updPtp_bakeQueue (n : Nat) (f : PtpPort → PtpPort) : (s.updPtp n f).bakeQueue = s.bakeQueue := rfl
@[simp] theorem State.updPtp_links (n : Nat) (f : PtpPort → PtpPort) : (s.updPtp n f).links = s.links := rfl
@[simp] theorem State.updPtp_scanLatch (n : Nat) (f : PtpPort → PtpPort) : (s.updPtp n f).scanLatch = s.scanLatch := rfl
@[simp] theorem State.updPtp_fs (n : Nat) (f : PtpPort → PtpPort) : (s.updPtp n f).fs = s.fs := rfl
@[simp] theorem State.updPtp_chain (n : Nat) (f : PtpPort → PtpPort) : (s.updPtp n f).chain = s.chain := rfl
@[simp] theorem State.updPtp_faults (n : Nat) (f : PtpPort → PtpPort) : (s.updPtp n f).faults = s.faults := rfl
@[simp] theorem State.updPtp_bellows (n : Nat) (f : PtpPort → PtpPort) : (s.updPtp n f).bellows = s.bellows := rfl
@[simp] theorem State.updPtp_flash (n : Nat) (f : PtpPort → PtpPort) : (s.updPtp n f).flash = s.flash := rfl
@[simp] theorem State.updPtp_recorder (n : Nat) (f : PtpPort → PtpPort) : (s.updPtp n f).recorder = s.recorder := rfl
@[simp] theorem State.updPtp_security (n : Nat) (f : PtpPort → PtpPort) : (s.updPtp n f).security = s.security := rfl
@[simp] theorem State.updPtp_fw (n : Nat) (f : PtpPort → PtpPort) : (s.updPtp n f).fw = s.fw := rfl
@[simp] theorem State.updPtp_power (n : Nat) (f : PtpPort → PtpPort) : (s.updPtp n f).power = s.power := rfl
@[simp] theorem State.updPtp_out (n : Nat) (f : PtpPort → PtpPort) : (s.updPtp n f).out = s.out := rfl
@[simp] theorem State.updPtp_owed (n : Nat) (f : PtpPort → PtpPort) : (s.updPtp n f).owed = s.owed := rfl
@[simp] theorem State.updPtp_pending (n : Nat) (f : PtpPort → PtpPort) : (s.updPtp n f).pending = s.pending := rfl

/-! updPc: everything but `fs` stays. -/
@[simp] theorem State.updPc_clock (n : Nat) (f : PseudoChannel → PseudoChannel) : (s.updPc n f).clock = s.clock := rfl
@[simp] theorem State.updPc_tb (n : Nat) (f : PseudoChannel → PseudoChannel) : (s.updPc n f).tb = s.tb := rfl
@[simp] theorem State.updPc_pcie (n : Nat) (f : PseudoChannel → PseudoChannel) : (s.updPc n f).pcie = s.pcie := rfl
@[simp] theorem State.updPc_mailboxes (n : Nat) (f : PseudoChannel → PseudoChannel) : (s.updPc n f).mailboxes = s.mailboxes := rfl
@[simp] theorem State.updPc_rings (n : Nat) (f : PseudoChannel → PseudoChannel) : (s.updPc n f).rings = s.rings := rfl
@[simp] theorem State.updPc_routes (n : Nat) (f : PseudoChannel → PseudoChannel) : (s.updPc n f).routes = s.routes := rfl
@[simp] theorem State.updPc_txns (n : Nat) (f : PseudoChannel → PseudoChannel) : (s.updPc n f).txns = s.txns := rfl
@[simp] theorem State.updPc_txnCount (n : Nat) (f : PseudoChannel → PseudoChannel) : (s.updPc n f).txnCount = s.txnCount := rfl
@[simp] theorem State.updPc_armOrder (n : Nat) (f : PseudoChannel → PseudoChannel) : (s.updPc n f).armOrder = s.armOrder := rfl
@[simp] theorem State.updPc_settings (n : Nat) (f : PseudoChannel → PseudoChannel) : (s.updPc n f).settings = s.settings := rfl
@[simp] theorem State.updPc_synth (n : Nat) (f : PseudoChannel → PseudoChannel) : (s.updPc n f).synth = s.synth := rfl
@[simp] theorem State.updPc_modes (n : Nat) (f : PseudoChannel → PseudoChannel) : (s.updPc n f).modes = s.modes := rfl
@[simp] theorem State.updPc_ingest (n : Nat) (f : PseudoChannel → PseudoChannel) : (s.updPc n f).ingest = s.ingest := rfl
@[simp] theorem State.updPc_compose (n : Nat) (f : PseudoChannel → PseudoChannel) : (s.updPc n f).compose = s.compose := rfl
@[simp] theorem State.updPc_stands (n : Nat) (f : PseudoChannel → PseudoChannel) : (s.updPc n f).stands = s.stands := rfl
@[simp] theorem State.updPc_bakeQueue (n : Nat) (f : PseudoChannel → PseudoChannel) : (s.updPc n f).bakeQueue = s.bakeQueue := rfl
@[simp] theorem State.updPc_links (n : Nat) (f : PseudoChannel → PseudoChannel) : (s.updPc n f).links = s.links := rfl
@[simp] theorem State.updPc_scanLatch (n : Nat) (f : PseudoChannel → PseudoChannel) : (s.updPc n f).scanLatch = s.scanLatch := rfl
@[simp] theorem State.updPc_chain (n : Nat) (f : PseudoChannel → PseudoChannel) : (s.updPc n f).chain = s.chain := rfl
@[simp] theorem State.updPc_faults (n : Nat) (f : PseudoChannel → PseudoChannel) : (s.updPc n f).faults = s.faults := rfl
@[simp] theorem State.updPc_bellows (n : Nat) (f : PseudoChannel → PseudoChannel) : (s.updPc n f).bellows = s.bellows := rfl
@[simp] theorem State.updPc_flash (n : Nat) (f : PseudoChannel → PseudoChannel) : (s.updPc n f).flash = s.flash := rfl
@[simp] theorem State.updPc_recorder (n : Nat) (f : PseudoChannel → PseudoChannel) : (s.updPc n f).recorder = s.recorder := rfl
@[simp] theorem State.updPc_security (n : Nat) (f : PseudoChannel → PseudoChannel) : (s.updPc n f).security = s.security := rfl
@[simp] theorem State.updPc_fw (n : Nat) (f : PseudoChannel → PseudoChannel) : (s.updPc n f).fw = s.fw := rfl
@[simp] theorem State.updPc_power (n : Nat) (f : PseudoChannel → PseudoChannel) : (s.updPc n f).power = s.power := rfl
@[simp] theorem State.updPc_out (n : Nat) (f : PseudoChannel → PseudoChannel) : (s.updPc n f).out = s.out := rfl
@[simp] theorem State.updPc_owed (n : Nat) (f : PseudoChannel → PseudoChannel) : (s.updPc n f).owed = s.owed := rfl
@[simp] theorem State.updPc_pending (n : Nat) (f : PseudoChannel → PseudoChannel) : (s.updPc n f).pending = s.pending := rfl

/-! updTxn: everything but `txns` stays. -/
@[simp] theorem State.updTxn_clock (n : Nat) (f : Txn → Txn) : (s.updTxn n f).clock = s.clock := rfl
@[simp] theorem State.updTxn_tb (n : Nat) (f : Txn → Txn) : (s.updTxn n f).tb = s.tb := rfl
@[simp] theorem State.updTxn_pcie (n : Nat) (f : Txn → Txn) : (s.updTxn n f).pcie = s.pcie := rfl
@[simp] theorem State.updTxn_mailboxes (n : Nat) (f : Txn → Txn) : (s.updTxn n f).mailboxes = s.mailboxes := rfl
@[simp] theorem State.updTxn_rings (n : Nat) (f : Txn → Txn) : (s.updTxn n f).rings = s.rings := rfl
@[simp] theorem State.updTxn_routes (n : Nat) (f : Txn → Txn) : (s.updTxn n f).routes = s.routes := rfl
@[simp] theorem State.updTxn_txnCount (n : Nat) (f : Txn → Txn) : (s.updTxn n f).txnCount = s.txnCount := rfl
@[simp] theorem State.updTxn_armOrder (n : Nat) (f : Txn → Txn) : (s.updTxn n f).armOrder = s.armOrder := rfl
@[simp] theorem State.updTxn_settings (n : Nat) (f : Txn → Txn) : (s.updTxn n f).settings = s.settings := rfl
@[simp] theorem State.updTxn_synth (n : Nat) (f : Txn → Txn) : (s.updTxn n f).synth = s.synth := rfl
@[simp] theorem State.updTxn_modes (n : Nat) (f : Txn → Txn) : (s.updTxn n f).modes = s.modes := rfl
@[simp] theorem State.updTxn_ingest (n : Nat) (f : Txn → Txn) : (s.updTxn n f).ingest = s.ingest := rfl
@[simp] theorem State.updTxn_compose (n : Nat) (f : Txn → Txn) : (s.updTxn n f).compose = s.compose := rfl
@[simp] theorem State.updTxn_stands (n : Nat) (f : Txn → Txn) : (s.updTxn n f).stands = s.stands := rfl
@[simp] theorem State.updTxn_bakeQueue (n : Nat) (f : Txn → Txn) : (s.updTxn n f).bakeQueue = s.bakeQueue := rfl
@[simp] theorem State.updTxn_links (n : Nat) (f : Txn → Txn) : (s.updTxn n f).links = s.links := rfl
@[simp] theorem State.updTxn_scanLatch (n : Nat) (f : Txn → Txn) : (s.updTxn n f).scanLatch = s.scanLatch := rfl
@[simp] theorem State.updTxn_fs (n : Nat) (f : Txn → Txn) : (s.updTxn n f).fs = s.fs := rfl
@[simp] theorem State.updTxn_chain (n : Nat) (f : Txn → Txn) : (s.updTxn n f).chain = s.chain := rfl
@[simp] theorem State.updTxn_faults (n : Nat) (f : Txn → Txn) : (s.updTxn n f).faults = s.faults := rfl
@[simp] theorem State.updTxn_bellows (n : Nat) (f : Txn → Txn) : (s.updTxn n f).bellows = s.bellows := rfl
@[simp] theorem State.updTxn_flash (n : Nat) (f : Txn → Txn) : (s.updTxn n f).flash = s.flash := rfl
@[simp] theorem State.updTxn_recorder (n : Nat) (f : Txn → Txn) : (s.updTxn n f).recorder = s.recorder := rfl
@[simp] theorem State.updTxn_security (n : Nat) (f : Txn → Txn) : (s.updTxn n f).security = s.security := rfl
@[simp] theorem State.updTxn_fw (n : Nat) (f : Txn → Txn) : (s.updTxn n f).fw = s.fw := rfl
@[simp] theorem State.updTxn_power (n : Nat) (f : Txn → Txn) : (s.updTxn n f).power = s.power := rfl
@[simp] theorem State.updTxn_out (n : Nat) (f : Txn → Txn) : (s.updTxn n f).out = s.out := rfl
@[simp] theorem State.updTxn_owed (n : Nat) (f : Txn → Txn) : (s.updTxn n f).owed = s.owed := rfl
@[simp] theorem State.updTxn_pending (n : Nat) (f : Txn → Txn) : (s.updTxn n f).pending = s.pending := rfl

/-! updRegion: everything but `faults` stays. -/
@[simp] theorem State.updRegion_clock (k n : Nat) (f : RegionRec → RegionRec) : (s.updRegion k n f).clock = s.clock := rfl
@[simp] theorem State.updRegion_tb (k n : Nat) (f : RegionRec → RegionRec) : (s.updRegion k n f).tb = s.tb := rfl
@[simp] theorem State.updRegion_pcie (k n : Nat) (f : RegionRec → RegionRec) : (s.updRegion k n f).pcie = s.pcie := rfl
@[simp] theorem State.updRegion_mailboxes (k n : Nat) (f : RegionRec → RegionRec) : (s.updRegion k n f).mailboxes = s.mailboxes := rfl
@[simp] theorem State.updRegion_rings (k n : Nat) (f : RegionRec → RegionRec) : (s.updRegion k n f).rings = s.rings := rfl
@[simp] theorem State.updRegion_routes (k n : Nat) (f : RegionRec → RegionRec) : (s.updRegion k n f).routes = s.routes := rfl
@[simp] theorem State.updRegion_txns (k n : Nat) (f : RegionRec → RegionRec) : (s.updRegion k n f).txns = s.txns := rfl
@[simp] theorem State.updRegion_txnCount (k n : Nat) (f : RegionRec → RegionRec) : (s.updRegion k n f).txnCount = s.txnCount := rfl
@[simp] theorem State.updRegion_armOrder (k n : Nat) (f : RegionRec → RegionRec) : (s.updRegion k n f).armOrder = s.armOrder := rfl
@[simp] theorem State.updRegion_settings (k n : Nat) (f : RegionRec → RegionRec) : (s.updRegion k n f).settings = s.settings := rfl
@[simp] theorem State.updRegion_synth (k n : Nat) (f : RegionRec → RegionRec) : (s.updRegion k n f).synth = s.synth := rfl
@[simp] theorem State.updRegion_modes (k n : Nat) (f : RegionRec → RegionRec) : (s.updRegion k n f).modes = s.modes := rfl
@[simp] theorem State.updRegion_ingest (k n : Nat) (f : RegionRec → RegionRec) : (s.updRegion k n f).ingest = s.ingest := rfl
@[simp] theorem State.updRegion_compose (k n : Nat) (f : RegionRec → RegionRec) : (s.updRegion k n f).compose = s.compose := rfl
@[simp] theorem State.updRegion_stands (k n : Nat) (f : RegionRec → RegionRec) : (s.updRegion k n f).stands = s.stands := rfl
@[simp] theorem State.updRegion_bakeQueue (k n : Nat) (f : RegionRec → RegionRec) : (s.updRegion k n f).bakeQueue = s.bakeQueue := rfl
@[simp] theorem State.updRegion_links (k n : Nat) (f : RegionRec → RegionRec) : (s.updRegion k n f).links = s.links := rfl
@[simp] theorem State.updRegion_scanLatch (k n : Nat) (f : RegionRec → RegionRec) : (s.updRegion k n f).scanLatch = s.scanLatch := rfl
@[simp] theorem State.updRegion_fs (k n : Nat) (f : RegionRec → RegionRec) : (s.updRegion k n f).fs = s.fs := rfl
@[simp] theorem State.updRegion_chain (k n : Nat) (f : RegionRec → RegionRec) : (s.updRegion k n f).chain = s.chain := rfl
@[simp] theorem State.updRegion_bellows (k n : Nat) (f : RegionRec → RegionRec) : (s.updRegion k n f).bellows = s.bellows := rfl
@[simp] theorem State.updRegion_flash (k n : Nat) (f : RegionRec → RegionRec) : (s.updRegion k n f).flash = s.flash := rfl
@[simp] theorem State.updRegion_recorder (k n : Nat) (f : RegionRec → RegionRec) : (s.updRegion k n f).recorder = s.recorder := rfl
@[simp] theorem State.updRegion_security (k n : Nat) (f : RegionRec → RegionRec) : (s.updRegion k n f).security = s.security := rfl
@[simp] theorem State.updRegion_fw (k n : Nat) (f : RegionRec → RegionRec) : (s.updRegion k n f).fw = s.fw := rfl
@[simp] theorem State.updRegion_power (k n : Nat) (f : RegionRec → RegionRec) : (s.updRegion k n f).power = s.power := rfl
@[simp] theorem State.updRegion_out (k n : Nat) (f : RegionRec → RegionRec) : (s.updRegion k n f).out = s.out := rfl
@[simp] theorem State.updRegion_owed (k n : Nat) (f : RegionRec → RegionRec) : (s.updRegion k n f).owed = s.owed := rfl
@[simp] theorem State.updRegion_pending (k n : Nat) (f : RegionRec → RegionRec) : (s.updRegion k n f).pending = s.pending := rfl

/-! glbErrSet: everything but `pcie` stays. -/
@[simp] theorem State.glbErrSet_clock (n : Nat) : (s.glbErrSet n).clock = s.clock := rfl
@[simp] theorem State.glbErrSet_tb (n : Nat) : (s.glbErrSet n).tb = s.tb := rfl
@[simp] theorem State.glbErrSet_mailboxes (n : Nat) : (s.glbErrSet n).mailboxes = s.mailboxes := rfl
@[simp] theorem State.glbErrSet_rings (n : Nat) : (s.glbErrSet n).rings = s.rings := rfl
@[simp] theorem State.glbErrSet_routes (n : Nat) : (s.glbErrSet n).routes = s.routes := rfl
@[simp] theorem State.glbErrSet_txns (n : Nat) : (s.glbErrSet n).txns = s.txns := rfl
@[simp] theorem State.glbErrSet_txnCount (n : Nat) : (s.glbErrSet n).txnCount = s.txnCount := rfl
@[simp] theorem State.glbErrSet_armOrder (n : Nat) : (s.glbErrSet n).armOrder = s.armOrder := rfl
@[simp] theorem State.glbErrSet_settings (n : Nat) : (s.glbErrSet n).settings = s.settings := rfl
@[simp] theorem State.glbErrSet_synth (n : Nat) : (s.glbErrSet n).synth = s.synth := rfl
@[simp] theorem State.glbErrSet_modes (n : Nat) : (s.glbErrSet n).modes = s.modes := rfl
@[simp] theorem State.glbErrSet_ingest (n : Nat) : (s.glbErrSet n).ingest = s.ingest := rfl
@[simp] theorem State.glbErrSet_compose (n : Nat) : (s.glbErrSet n).compose = s.compose := rfl
@[simp] theorem State.glbErrSet_stands (n : Nat) : (s.glbErrSet n).stands = s.stands := rfl
@[simp] theorem State.glbErrSet_bakeQueue (n : Nat) : (s.glbErrSet n).bakeQueue = s.bakeQueue := rfl
@[simp] theorem State.glbErrSet_links (n : Nat) : (s.glbErrSet n).links = s.links := rfl
@[simp] theorem State.glbErrSet_scanLatch (n : Nat) : (s.glbErrSet n).scanLatch = s.scanLatch := rfl
@[simp] theorem State.glbErrSet_fs (n : Nat) : (s.glbErrSet n).fs = s.fs := rfl
@[simp] theorem State.glbErrSet_chain (n : Nat) : (s.glbErrSet n).chain = s.chain := rfl
@[simp] theorem State.glbErrSet_faults (n : Nat) : (s.glbErrSet n).faults = s.faults := rfl
@[simp] theorem State.glbErrSet_bellows (n : Nat) : (s.glbErrSet n).bellows = s.bellows := rfl
@[simp] theorem State.glbErrSet_flash (n : Nat) : (s.glbErrSet n).flash = s.flash := rfl
@[simp] theorem State.glbErrSet_recorder (n : Nat) : (s.glbErrSet n).recorder = s.recorder := rfl
@[simp] theorem State.glbErrSet_security (n : Nat) : (s.glbErrSet n).security = s.security := rfl
@[simp] theorem State.glbErrSet_fw (n : Nat) : (s.glbErrSet n).fw = s.fw := rfl
@[simp] theorem State.glbErrSet_power (n : Nat) : (s.glbErrSet n).power = s.power := rfl
@[simp] theorem State.glbErrSet_out (n : Nat) : (s.glbErrSet n).out = s.out := rfl
@[simp] theorem State.glbErrSet_owed (n : Nat) : (s.glbErrSet n).owed = s.owed := rfl
@[simp] theorem State.glbErrSet_pending (n : Nat) : (s.glbErrSet n).pending = s.pending := rfl

/-! returned: everything but `pcie` stays. -/
@[simp] theorem State.returned_clock (b : List Byte) : (s.returned b).clock = s.clock := rfl
@[simp] theorem State.returned_tb (b : List Byte) : (s.returned b).tb = s.tb := rfl
@[simp] theorem State.returned_mailboxes (b : List Byte) : (s.returned b).mailboxes = s.mailboxes := rfl
@[simp] theorem State.returned_rings (b : List Byte) : (s.returned b).rings = s.rings := rfl
@[simp] theorem State.returned_routes (b : List Byte) : (s.returned b).routes = s.routes := rfl
@[simp] theorem State.returned_txns (b : List Byte) : (s.returned b).txns = s.txns := rfl
@[simp] theorem State.returned_txnCount (b : List Byte) : (s.returned b).txnCount = s.txnCount := rfl
@[simp] theorem State.returned_armOrder (b : List Byte) : (s.returned b).armOrder = s.armOrder := rfl
@[simp] theorem State.returned_settings (b : List Byte) : (s.returned b).settings = s.settings := rfl
@[simp] theorem State.returned_synth (b : List Byte) : (s.returned b).synth = s.synth := rfl
@[simp] theorem State.returned_modes (b : List Byte) : (s.returned b).modes = s.modes := rfl
@[simp] theorem State.returned_ingest (b : List Byte) : (s.returned b).ingest = s.ingest := rfl
@[simp] theorem State.returned_compose (b : List Byte) : (s.returned b).compose = s.compose := rfl
@[simp] theorem State.returned_stands (b : List Byte) : (s.returned b).stands = s.stands := rfl
@[simp] theorem State.returned_bakeQueue (b : List Byte) : (s.returned b).bakeQueue = s.bakeQueue := rfl
@[simp] theorem State.returned_links (b : List Byte) : (s.returned b).links = s.links := rfl
@[simp] theorem State.returned_scanLatch (b : List Byte) : (s.returned b).scanLatch = s.scanLatch := rfl
@[simp] theorem State.returned_fs (b : List Byte) : (s.returned b).fs = s.fs := rfl
@[simp] theorem State.returned_chain (b : List Byte) : (s.returned b).chain = s.chain := rfl
@[simp] theorem State.returned_faults (b : List Byte) : (s.returned b).faults = s.faults := rfl
@[simp] theorem State.returned_bellows (b : List Byte) : (s.returned b).bellows = s.bellows := rfl
@[simp] theorem State.returned_flash (b : List Byte) : (s.returned b).flash = s.flash := rfl
@[simp] theorem State.returned_recorder (b : List Byte) : (s.returned b).recorder = s.recorder := rfl
@[simp] theorem State.returned_security (b : List Byte) : (s.returned b).security = s.security := rfl
@[simp] theorem State.returned_fw (b : List Byte) : (s.returned b).fw = s.fw := rfl
@[simp] theorem State.returned_power (b : List Byte) : (s.returned b).power = s.power := rfl
@[simp] theorem State.returned_out (b : List Byte) : (s.returned b).out = s.out := rfl
@[simp] theorem State.returned_owed (b : List Byte) : (s.returned b).owed = s.owed := rfl
@[simp] theorem State.returned_pending (b : List Byte) : (s.returned b).pending = s.pending := rfl

/-! recFixed: everything but `recorder` stays. -/
@[simp] theorem State.recFixed_clock (c : Nat) (ps : List Nat) : (s.recFixed c ps).clock = s.clock := rfl
@[simp] theorem State.recFixed_tb (c : Nat) (ps : List Nat) : (s.recFixed c ps).tb = s.tb := rfl
@[simp] theorem State.recFixed_pcie (c : Nat) (ps : List Nat) : (s.recFixed c ps).pcie = s.pcie := rfl
@[simp] theorem State.recFixed_mailboxes (c : Nat) (ps : List Nat) : (s.recFixed c ps).mailboxes = s.mailboxes := rfl
@[simp] theorem State.recFixed_rings (c : Nat) (ps : List Nat) : (s.recFixed c ps).rings = s.rings := rfl
@[simp] theorem State.recFixed_routes (c : Nat) (ps : List Nat) : (s.recFixed c ps).routes = s.routes := rfl
@[simp] theorem State.recFixed_txns (c : Nat) (ps : List Nat) : (s.recFixed c ps).txns = s.txns := rfl
@[simp] theorem State.recFixed_txnCount (c : Nat) (ps : List Nat) : (s.recFixed c ps).txnCount = s.txnCount := rfl
@[simp] theorem State.recFixed_armOrder (c : Nat) (ps : List Nat) : (s.recFixed c ps).armOrder = s.armOrder := rfl
@[simp] theorem State.recFixed_settings (c : Nat) (ps : List Nat) : (s.recFixed c ps).settings = s.settings := rfl
@[simp] theorem State.recFixed_synth (c : Nat) (ps : List Nat) : (s.recFixed c ps).synth = s.synth := rfl
@[simp] theorem State.recFixed_modes (c : Nat) (ps : List Nat) : (s.recFixed c ps).modes = s.modes := rfl
@[simp] theorem State.recFixed_ingest (c : Nat) (ps : List Nat) : (s.recFixed c ps).ingest = s.ingest := rfl
@[simp] theorem State.recFixed_compose (c : Nat) (ps : List Nat) : (s.recFixed c ps).compose = s.compose := rfl
@[simp] theorem State.recFixed_stands (c : Nat) (ps : List Nat) : (s.recFixed c ps).stands = s.stands := rfl
@[simp] theorem State.recFixed_bakeQueue (c : Nat) (ps : List Nat) : (s.recFixed c ps).bakeQueue = s.bakeQueue := rfl
@[simp] theorem State.recFixed_links (c : Nat) (ps : List Nat) : (s.recFixed c ps).links = s.links := rfl
@[simp] theorem State.recFixed_scanLatch (c : Nat) (ps : List Nat) : (s.recFixed c ps).scanLatch = s.scanLatch := rfl
@[simp] theorem State.recFixed_fs (c : Nat) (ps : List Nat) : (s.recFixed c ps).fs = s.fs := rfl
@[simp] theorem State.recFixed_chain (c : Nat) (ps : List Nat) : (s.recFixed c ps).chain = s.chain := rfl
@[simp] theorem State.recFixed_faults (c : Nat) (ps : List Nat) : (s.recFixed c ps).faults = s.faults := rfl
@[simp] theorem State.recFixed_bellows (c : Nat) (ps : List Nat) : (s.recFixed c ps).bellows = s.bellows := rfl
@[simp] theorem State.recFixed_flash (c : Nat) (ps : List Nat) : (s.recFixed c ps).flash = s.flash := rfl
@[simp] theorem State.recFixed_security (c : Nat) (ps : List Nat) : (s.recFixed c ps).security = s.security := rfl
@[simp] theorem State.recFixed_fw (c : Nat) (ps : List Nat) : (s.recFixed c ps).fw = s.fw := rfl
@[simp] theorem State.recFixed_power (c : Nat) (ps : List Nat) : (s.recFixed c ps).power = s.power := rfl
@[simp] theorem State.recFixed_out (c : Nat) (ps : List Nat) : (s.recFixed c ps).out = s.out := rfl
@[simp] theorem State.recFixed_owed (c : Nat) (ps : List Nat) : (s.recFixed c ps).owed = s.owed := rfl
@[simp] theorem State.recFixed_pending (c : Nat) (ps : List Nat) : (s.recFixed c ps).pending = s.pending := rfl

/-! setDomain: everything but `power` stays. -/
@[simp] theorem State.setDomain_clock (n v : Nat) : (s.setDomain n v).clock = s.clock := rfl
@[simp] theorem State.setDomain_tb (n v : Nat) : (s.setDomain n v).tb = s.tb := rfl
@[simp] theorem State.setDomain_pcie (n v : Nat) : (s.setDomain n v).pcie = s.pcie := rfl
@[simp] theorem State.setDomain_mailboxes (n v : Nat) : (s.setDomain n v).mailboxes = s.mailboxes := rfl
@[simp] theorem State.setDomain_rings (n v : Nat) : (s.setDomain n v).rings = s.rings := rfl
@[simp] theorem State.setDomain_routes (n v : Nat) : (s.setDomain n v).routes = s.routes := rfl
@[simp] theorem State.setDomain_txns (n v : Nat) : (s.setDomain n v).txns = s.txns := rfl
@[simp] theorem State.setDomain_txnCount (n v : Nat) : (s.setDomain n v).txnCount = s.txnCount := rfl
@[simp] theorem State.setDomain_armOrder (n v : Nat) : (s.setDomain n v).armOrder = s.armOrder := rfl
@[simp] theorem State.setDomain_settings (n v : Nat) : (s.setDomain n v).settings = s.settings := rfl
@[simp] theorem State.setDomain_synth (n v : Nat) : (s.setDomain n v).synth = s.synth := rfl
@[simp] theorem State.setDomain_modes (n v : Nat) : (s.setDomain n v).modes = s.modes := rfl
@[simp] theorem State.setDomain_ingest (n v : Nat) : (s.setDomain n v).ingest = s.ingest := rfl
@[simp] theorem State.setDomain_compose (n v : Nat) : (s.setDomain n v).compose = s.compose := rfl
@[simp] theorem State.setDomain_stands (n v : Nat) : (s.setDomain n v).stands = s.stands := rfl
@[simp] theorem State.setDomain_bakeQueue (n v : Nat) : (s.setDomain n v).bakeQueue = s.bakeQueue := rfl
@[simp] theorem State.setDomain_links (n v : Nat) : (s.setDomain n v).links = s.links := rfl
@[simp] theorem State.setDomain_scanLatch (n v : Nat) : (s.setDomain n v).scanLatch = s.scanLatch := rfl
@[simp] theorem State.setDomain_fs (n v : Nat) : (s.setDomain n v).fs = s.fs := rfl
@[simp] theorem State.setDomain_chain (n v : Nat) : (s.setDomain n v).chain = s.chain := rfl
@[simp] theorem State.setDomain_faults (n v : Nat) : (s.setDomain n v).faults = s.faults := rfl
@[simp] theorem State.setDomain_bellows (n v : Nat) : (s.setDomain n v).bellows = s.bellows := rfl
@[simp] theorem State.setDomain_flash (n v : Nat) : (s.setDomain n v).flash = s.flash := rfl
@[simp] theorem State.setDomain_recorder (n v : Nat) : (s.setDomain n v).recorder = s.recorder := rfl
@[simp] theorem State.setDomain_security (n v : Nat) : (s.setDomain n v).security = s.security := rfl
@[simp] theorem State.setDomain_fw (n v : Nat) : (s.setDomain n v).fw = s.fw := rfl
@[simp] theorem State.setDomain_out (n v : Nat) : (s.setDomain n v).out = s.out := rfl
@[simp] theorem State.setDomain_owed (n v : Nat) : (s.setDomain n v).owed = s.owed := rfl
@[simp] theorem State.setDomain_pending (n v : Nat) : (s.setDomain n v).pending = s.pending := rfl

/-! cruiseTouch: everything but `pcie` stays. -/
@[simp] theorem State.cruiseTouch_clock (t i : Nat) : (s.cruiseTouch t i).clock = s.clock := rfl
@[simp] theorem State.cruiseTouch_tb (t i : Nat) : (s.cruiseTouch t i).tb = s.tb := rfl
@[simp] theorem State.cruiseTouch_mailboxes (t i : Nat) : (s.cruiseTouch t i).mailboxes = s.mailboxes := rfl
@[simp] theorem State.cruiseTouch_rings (t i : Nat) : (s.cruiseTouch t i).rings = s.rings := rfl
@[simp] theorem State.cruiseTouch_routes (t i : Nat) : (s.cruiseTouch t i).routes = s.routes := rfl
@[simp] theorem State.cruiseTouch_txns (t i : Nat) : (s.cruiseTouch t i).txns = s.txns := rfl
@[simp] theorem State.cruiseTouch_txnCount (t i : Nat) : (s.cruiseTouch t i).txnCount = s.txnCount := rfl
@[simp] theorem State.cruiseTouch_armOrder (t i : Nat) : (s.cruiseTouch t i).armOrder = s.armOrder := rfl
@[simp] theorem State.cruiseTouch_settings (t i : Nat) : (s.cruiseTouch t i).settings = s.settings := rfl
@[simp] theorem State.cruiseTouch_synth (t i : Nat) : (s.cruiseTouch t i).synth = s.synth := rfl
@[simp] theorem State.cruiseTouch_modes (t i : Nat) : (s.cruiseTouch t i).modes = s.modes := rfl
@[simp] theorem State.cruiseTouch_ingest (t i : Nat) : (s.cruiseTouch t i).ingest = s.ingest := rfl
@[simp] theorem State.cruiseTouch_compose (t i : Nat) : (s.cruiseTouch t i).compose = s.compose := rfl
@[simp] theorem State.cruiseTouch_stands (t i : Nat) : (s.cruiseTouch t i).stands = s.stands := rfl
@[simp] theorem State.cruiseTouch_bakeQueue (t i : Nat) : (s.cruiseTouch t i).bakeQueue = s.bakeQueue := rfl
@[simp] theorem State.cruiseTouch_links (t i : Nat) : (s.cruiseTouch t i).links = s.links := rfl
@[simp] theorem State.cruiseTouch_scanLatch (t i : Nat) : (s.cruiseTouch t i).scanLatch = s.scanLatch := rfl
@[simp] theorem State.cruiseTouch_fs (t i : Nat) : (s.cruiseTouch t i).fs = s.fs := rfl
@[simp] theorem State.cruiseTouch_chain (t i : Nat) : (s.cruiseTouch t i).chain = s.chain := rfl
@[simp] theorem State.cruiseTouch_faults (t i : Nat) : (s.cruiseTouch t i).faults = s.faults := rfl
@[simp] theorem State.cruiseTouch_bellows (t i : Nat) : (s.cruiseTouch t i).bellows = s.bellows := rfl
@[simp] theorem State.cruiseTouch_flash (t i : Nat) : (s.cruiseTouch t i).flash = s.flash := rfl
@[simp] theorem State.cruiseTouch_recorder (t i : Nat) : (s.cruiseTouch t i).recorder = s.recorder := rfl
@[simp] theorem State.cruiseTouch_security (t i : Nat) : (s.cruiseTouch t i).security = s.security := rfl
@[simp] theorem State.cruiseTouch_fw (t i : Nat) : (s.cruiseTouch t i).fw = s.fw := rfl
@[simp] theorem State.cruiseTouch_power (t i : Nat) : (s.cruiseTouch t i).power = s.power := rfl
@[simp] theorem State.cruiseTouch_out (t i : Nat) : (s.cruiseTouch t i).out = s.out := rfl
@[simp] theorem State.cruiseTouch_owed (t i : Nat) : (s.cruiseTouch t i).owed = s.owed := rfl
@[simp] theorem State.cruiseTouch_pending (t i : Nat) : (s.cruiseTouch t i).pending = s.pending := rfl

/-! rewritten: everything but `fs` stays. -/
@[simp] theorem State.rewritten_clock (a n : Nat) : (s.rewritten a n).clock = s.clock := rfl
@[simp] theorem State.rewritten_tb (a n : Nat) : (s.rewritten a n).tb = s.tb := rfl
@[simp] theorem State.rewritten_pcie (a n : Nat) : (s.rewritten a n).pcie = s.pcie := rfl
@[simp] theorem State.rewritten_mailboxes (a n : Nat) : (s.rewritten a n).mailboxes = s.mailboxes := rfl
@[simp] theorem State.rewritten_rings (a n : Nat) : (s.rewritten a n).rings = s.rings := rfl
@[simp] theorem State.rewritten_routes (a n : Nat) : (s.rewritten a n).routes = s.routes := rfl
@[simp] theorem State.rewritten_txns (a n : Nat) : (s.rewritten a n).txns = s.txns := rfl
@[simp] theorem State.rewritten_txnCount (a n : Nat) : (s.rewritten a n).txnCount = s.txnCount := rfl
@[simp] theorem State.rewritten_armOrder (a n : Nat) : (s.rewritten a n).armOrder = s.armOrder := rfl
@[simp] theorem State.rewritten_settings (a n : Nat) : (s.rewritten a n).settings = s.settings := rfl
@[simp] theorem State.rewritten_synth (a n : Nat) : (s.rewritten a n).synth = s.synth := rfl
@[simp] theorem State.rewritten_modes (a n : Nat) : (s.rewritten a n).modes = s.modes := rfl
@[simp] theorem State.rewritten_ingest (a n : Nat) : (s.rewritten a n).ingest = s.ingest := rfl
@[simp] theorem State.rewritten_compose (a n : Nat) : (s.rewritten a n).compose = s.compose := rfl
@[simp] theorem State.rewritten_stands (a n : Nat) : (s.rewritten a n).stands = s.stands := rfl
@[simp] theorem State.rewritten_bakeQueue (a n : Nat) : (s.rewritten a n).bakeQueue = s.bakeQueue := rfl
@[simp] theorem State.rewritten_links (a n : Nat) : (s.rewritten a n).links = s.links := rfl
@[simp] theorem State.rewritten_scanLatch (a n : Nat) : (s.rewritten a n).scanLatch = s.scanLatch := rfl
@[simp] theorem State.rewritten_chain (a n : Nat) : (s.rewritten a n).chain = s.chain := rfl
@[simp] theorem State.rewritten_faults (a n : Nat) : (s.rewritten a n).faults = s.faults := rfl
@[simp] theorem State.rewritten_bellows (a n : Nat) : (s.rewritten a n).bellows = s.bellows := rfl
@[simp] theorem State.rewritten_flash (a n : Nat) : (s.rewritten a n).flash = s.flash := rfl
@[simp] theorem State.rewritten_recorder (a n : Nat) : (s.rewritten a n).recorder = s.recorder := rfl
@[simp] theorem State.rewritten_security (a n : Nat) : (s.rewritten a n).security = s.security := rfl
@[simp] theorem State.rewritten_fw (a n : Nat) : (s.rewritten a n).fw = s.fw := rfl
@[simp] theorem State.rewritten_power (a n : Nat) : (s.rewritten a n).power = s.power := rfl
@[simp] theorem State.rewritten_out (a n : Nat) : (s.rewritten a n).out = s.out := rfl
@[simp] theorem State.rewritten_owed (a n : Nat) : (s.rewritten a n).owed = s.owed := rfl
@[simp] theorem State.rewritten_pending (a n : Nat) : (s.rewritten a n).pending = s.pending := rfl

/-! poison: everything but `fs` stays. -/
@[simp] theorem State.poison_clock (g : Nat) : (s.poison g).clock = s.clock := rfl
@[simp] theorem State.poison_tb (g : Nat) : (s.poison g).tb = s.tb := rfl
@[simp] theorem State.poison_pcie (g : Nat) : (s.poison g).pcie = s.pcie := rfl
@[simp] theorem State.poison_mailboxes (g : Nat) : (s.poison g).mailboxes = s.mailboxes := rfl
@[simp] theorem State.poison_rings (g : Nat) : (s.poison g).rings = s.rings := rfl
@[simp] theorem State.poison_routes (g : Nat) : (s.poison g).routes = s.routes := rfl
@[simp] theorem State.poison_txns (g : Nat) : (s.poison g).txns = s.txns := rfl
@[simp] theorem State.poison_txnCount (g : Nat) : (s.poison g).txnCount = s.txnCount := rfl
@[simp] theorem State.poison_armOrder (g : Nat) : (s.poison g).armOrder = s.armOrder := rfl
@[simp] theorem State.poison_settings (g : Nat) : (s.poison g).settings = s.settings := rfl
@[simp] theorem State.poison_synth (g : Nat) : (s.poison g).synth = s.synth := rfl
@[simp] theorem State.poison_modes (g : Nat) : (s.poison g).modes = s.modes := rfl
@[simp] theorem State.poison_ingest (g : Nat) : (s.poison g).ingest = s.ingest := rfl
@[simp] theorem State.poison_compose (g : Nat) : (s.poison g).compose = s.compose := rfl
@[simp] theorem State.poison_stands (g : Nat) : (s.poison g).stands = s.stands := rfl
@[simp] theorem State.poison_bakeQueue (g : Nat) : (s.poison g).bakeQueue = s.bakeQueue := rfl
@[simp] theorem State.poison_links (g : Nat) : (s.poison g).links = s.links := rfl
@[simp] theorem State.poison_scanLatch (g : Nat) : (s.poison g).scanLatch = s.scanLatch := rfl
@[simp] theorem State.poison_chain (g : Nat) : (s.poison g).chain = s.chain := rfl
@[simp] theorem State.poison_faults (g : Nat) : (s.poison g).faults = s.faults := rfl
@[simp] theorem State.poison_bellows (g : Nat) : (s.poison g).bellows = s.bellows := rfl
@[simp] theorem State.poison_flash (g : Nat) : (s.poison g).flash = s.flash := rfl
@[simp] theorem State.poison_recorder (g : Nat) : (s.poison g).recorder = s.recorder := rfl
@[simp] theorem State.poison_security (g : Nat) : (s.poison g).security = s.security := rfl
@[simp] theorem State.poison_fw (g : Nat) : (s.poison g).fw = s.fw := rfl
@[simp] theorem State.poison_power (g : Nat) : (s.poison g).power = s.power := rfl
@[simp] theorem State.poison_out (g : Nat) : (s.poison g).out = s.out := rfl
@[simp] theorem State.poison_owed (g : Nat) : (s.poison g).owed = s.owed := rfl
@[simp] theorem State.poison_pending (g : Nat) : (s.poison g).pending = s.pending := rfl

/-! elapse: everything but the clock, the ray frames, the window in progress and what was sent out stays. -/
@[simp] theorem State.elapse_tb (dt : Nat) : (s.elapse dt).tb = s.tb := rfl
@[simp] theorem State.elapse_pcie (dt : Nat) : (s.elapse dt).pcie = s.pcie := rfl
@[simp] theorem State.elapse_mailboxes (dt : Nat) : (s.elapse dt).mailboxes = s.mailboxes := rfl
@[simp] theorem State.elapse_rings (dt : Nat) : (s.elapse dt).rings = s.rings := rfl
@[simp] theorem State.elapse_routes (dt : Nat) : (s.elapse dt).routes = s.routes := rfl
@[simp] theorem State.elapse_txns (dt : Nat) : (s.elapse dt).txns = s.txns := rfl
@[simp] theorem State.elapse_txnCount (dt : Nat) : (s.elapse dt).txnCount = s.txnCount := rfl
@[simp] theorem State.elapse_armOrder (dt : Nat) : (s.elapse dt).armOrder = s.armOrder := rfl
@[simp] theorem State.elapse_settings (dt : Nat) : (s.elapse dt).settings = s.settings := rfl
@[simp] theorem State.elapse_modes (dt : Nat) : (s.elapse dt).modes = s.modes := rfl
@[simp] theorem State.elapse_ingest (dt : Nat) : (s.elapse dt).ingest = s.ingest := rfl
@[simp] theorem State.elapse_compose (dt : Nat) : (s.elapse dt).compose = s.compose := rfl
@[simp] theorem State.elapse_stands (dt : Nat) : (s.elapse dt).stands = s.stands := rfl
@[simp] theorem State.elapse_bakeQueue (dt : Nat) : (s.elapse dt).bakeQueue = s.bakeQueue := rfl
@[simp] theorem State.elapse_links (dt : Nat) : (s.elapse dt).links = s.links := rfl
@[simp] theorem State.elapse_scanLatch (dt : Nat) : (s.elapse dt).scanLatch = s.scanLatch := rfl
@[simp] theorem State.elapse_chain (dt : Nat) : (s.elapse dt).chain = s.chain := rfl
@[simp] theorem State.elapse_faults (dt : Nat) : (s.elapse dt).faults = s.faults := rfl
@[simp] theorem State.elapse_bellows (dt : Nat) : (s.elapse dt).bellows = s.bellows := rfl
@[simp] theorem State.elapse_flash (dt : Nat) : (s.elapse dt).flash = s.flash := rfl
@[simp] theorem State.elapse_recorder (dt : Nat) : (s.elapse dt).recorder = s.recorder := rfl
@[simp] theorem State.elapse_security (dt : Nat) : (s.elapse dt).security = s.security := rfl
@[simp] theorem State.elapse_fw (dt : Nat) : (s.elapse dt).fw = s.fw := rfl
@[simp] theorem State.elapse_power (dt : Nat) : (s.elapse dt).power = s.power := rfl
@[simp] theorem State.elapse_owed (dt : Nat) : (s.elapse dt).owed = s.owed := rfl
@[simp] theorem State.elapse_pending (dt : Nat) : (s.elapse dt).pending = s.pending := rfl
@[simp] theorem State.elapse_out (dt : Nat) : (s.elapse dt).out = [] := rfl
@[simp] theorem State.elapse_up (dt : Nat) : (s.elapse dt).clock.up = s.clock.up + dt := rfl
@[simp] theorem State.elapse_dev (dt : Nat) : (s.elapse dt).clock.dev = s.clock.dev + dt := rfl
@[simp] theorem State.elapse_tick (dt : Nat) : (s.elapse dt).clock.tick = s.clock.tick := rfl
@[simp] theorem State.elapse_window (dt : Nat) : (s.elapse dt).synth = { s.synth with window := s.reelTo (s.clock.up + dt) } := rfl

/-- With no window in progress the reeds stand still. -/
theorem State.reelTo_quiet (h : s.synth.window.active = false) (t : Nat) : s.reelTo t = s.synth.window := by
  simp [State.reelTo, h]

/-- With no window in progress and no bake running, time passing changes the clock and what was sent out alone. -/
theorem State.elapse_quiet (h : s.synth.window.active = false) (hb : s.bakers = []) (dt : Nat) :
    s.elapse dt = { s with clock := { s.clock with up := s.clock.up + dt, dev := s.clock.dev + dt }, out := [] } := by
  simp [State.elapse, s.reelTo_quiet h, State.bakeWrites, hb]

/-- With no window in progress and no bake running the frame store stays as time passes. -/
theorem State.elapse_fs_quiet (h : s.synth.window.active = false) (hb : s.bakers = []) (dt : Nat) : (s.elapse dt).fs = s.fs := by
  rw [s.elapse_quiet h hb]

@[simp] theorem State.emit_out (o : Out) : (s.emit o).out = s.out ++ [o] := rfl

end Sys2Proof.Machine
end

