-- ==== Sys2Proof/Laws/Ops.lean ====
section
/-! SUPPORT. The shared operations: time, lists of parts, and a command's passage through `act`. -/

namespace Sys2Proof.Machine

/-- A command answers what its effect leaves after the elapsed time, once what follows of itself has happened. -/
theorem State.act_eq {s m : State} {dt : Nat} {f : State → State} (h : f (s.elapse dt) = m) :
    s.act dt f = .next (s.ended m) := by subst h; rfl

/-- Every command answers a next state that leaves the queue. -/
theorem State.act_next (s : State) (dt : Nat) (f : State → State) : ∃ t, s.act dt f = .next t ∧ t.pending = s.pending :=
  ⟨_, rfl, rfl⟩

/-! ### Time -/

@[simp] theorem State.elapse_nextUp (s : State) (dt : Nat) : (s.elapse dt).clock.nextUp = s.clock.nextUp := rfl
@[simp] theorem State.elapse_tickUp (s : State) (dt : Nat) : (s.elapse dt).clock.tickUp = s.clock.tickUp := rfl
@[simp] theorem State.elapse_rate (s : State) (dt : Nat) : (s.elapse dt).clock.rate = s.clock.rate := rfl

/-- Whether an instant lies `d` back after time has passed. -/
theorem State.since_elapse (s : State) (dt t d : Nat) : (s.elapse dt).since t d = decide (t + d ≤ s.clock.up + dt) := rfl

/-- It does from `d` on. -/
theorem State.since_elapse_true {s : State} {dt t d : Nat} (h : t + d ≤ s.clock.up + dt) : (s.elapse dt).since t d = true :=
  decide_eq_true h

/-- It does not before `d`. -/
theorem State.since_elapse_false {s : State} {dt t d : Nat} (h : s.clock.up + dt < t + d) : (s.elapse dt).since t d = false :=
  decide_eq_false (Nat.not_le.2 h)

/-! ### Lists of parts -/

@[simp] theorem upd_length {α : Type} (l : List α) (n : Nat) (f : α → α) : (upd l n f).length = l.length := by simp [upd]

/-- A changed entry reads as changed. -/
theorem upd_getD_self {α : Type} {l : List α} {n : Nat} (f : α → α) (d : α) (h : n < l.length) :
    (upd l n f).getD n d = f (l.getD n d) := by
  simp [upd, List.getD_eq_getElem?_getD, h]

/-- Every other entry stays. -/
theorem upd_getD_ne {α : Type} (l : List α) {n k : Nat} (f : α → α) (d : α) (h : k ≠ n) : (upd l n f).getD k d = l.getD k d := by
  simp [upd, List.getD_eq_getElem?_getD, Ne.symm h]

/-- Two changes of one entry are one. -/
theorem upd_upd {α : Type} (l : List α) (n : Nat) (f g : α → α) : upd (upd l n f) n g = upd l n (g ∘ f) := by
  simp [upd, List.modify_modify_eq]

/-- A mailbox changed reads as changed. -/
theorem State.mbx_updMbx_self {s : State} {n : Nat} (f : Mailbox → Mailbox) (h : n < s.mailboxes.length) :
    (s.updMbx n f).mbx n = f (s.mbx n) := upd_getD_self f {} h

/-- Changing nothing of an entry changes nothing. -/
theorem upd_id {α : Type} (l : List α) (n : Nat) : upd l n id = l := by simp [upd]

/-- The other mailboxes stay. -/
theorem State.mbx_updMbx_ne (s : State) {n k : Nat} (f : Mailbox → Mailbox) (h : k ≠ n) : (s.updMbx n f).mbx k = s.mbx k :=
  upd_getD_ne _ f {} h

/-- A ring changed reads as changed. -/
theorem State.ring_updRing_self {s : State} {n : Nat} (f : Ring → Ring) (h : n < s.rings.length) :
    (s.updRing n f).ring n = f (s.ring n) := upd_getD_self f {} h

/-- The other rings stay. -/
theorem State.ring_updRing_ne (s : State) {n k : Nat} (f : Ring → Ring) (h : k ≠ n) : (s.updRing n f).ring k = s.ring k :=
  upd_getD_ne _ f {} h

/-- The other links stay. -/
theorem State.link_updLink_ne (s : State) {n k : Nat} (f : Link → Link) (h : k ≠ n) : (s.updLink n f).link k = s.link k :=
  upd_getD_ne _ f {} h

/-- The other stands stay. -/
theorem State.stand_updStand_ne (s : State) {n k : Nat} (f : Stand → Stand) (h : k ≠ n) : (s.updStand n f).stand k = s.stand k :=
  upd_getD_ne _ f {} h

/-- Actions that do nothing, each on its number, do nothing together. -/
theorem forEach_id (l : List Nat) (s : State) (f : Nat → State → State) (h : ∀ n ∈ l, f n s = s) : forEach l s f = s := by
  induction l with
  | nil => rfl
  | cons a t ih =>
    unfold forEach at *
    simp only [List.foldl_cons]
    rw [h a (by simp)]
    exact ih fun n hn => h n (by simp [hn])

/-- What each action keeps, all of them keep. -/
theorem forEach_keeps {P : State → Prop} (l : List Nat) (f : Nat → State → State) (h : ∀ n ∈ l, ∀ s, P s → P (f n s)) :
    ∀ {s : State}, P s → P (forEach l s f) := by
  unfold forEach
  induction l with
  | nil => intro s hs; exact hs
  | cons a t ih =>
    intro s hs
    exact ih (fun n hn => h n (List.mem_cons_of_mem _ hn)) (h a (List.mem_cons_self ..) s hs)

end Sys2Proof.Machine
end

