-- ==== Sys2Proof/Laws/Command.lean ====
section
/-! SUPPORT. Firmware commands: which one a row is, what submitting one where firmware serves comes to, and which of several failed
checks is answered. -/

namespace Sys2Proof.Machine

open Sys2Proof

/-- A row that is a firmware command submits that command. -/
theorem exec_of_firmware {i : Instr} {d : CmdDef} {dt : Nat} {h : CmdHdr} {p : List Byte} {s : State}
    (hi : firmwareOf i = some (d, dt, h, p)) : exec i s = s.act dt (State.submit d h p) := by
  cases i <;> simp only [firmwareOf, Option.some.injEq, Prod.mk.injEq, reduceCtorEq] at hi
  all_goals (obtain ⟨rfl, rfl, rfl, rfl⟩ := hi; rfl)

/-- Where firmware serves, a submitted command is in its mailbox's area, taken and RUNNING, and runs. -/
theorem State.submit_serving {s : State} {d : CmdDef} {dt : Nat} {h : CmdHdr} {p : List Byte} (hs : s.Serving h.mbx.val) :
    State.submit d h p (s.elapse dt) =
      ((s.elapse dt).updMbx h.mbx fun m =>
        let area := overwrite m.cmdArea 0 (d.cmd h p).bytes
        { m with cmdArea := area, running := area, state := 2, rungAt := (s.elapse dt).clock.up,
                 acceptedAt := (s.elapse dt).clock.up }).runIn (some d) (d.cmd h p) := by
  obtain ⟨h1, h2, h3, h4, h5⟩ := hs
  have live : (s.elapse dt).barLive = true := h1
  unfold State.submit
  simp only [live, Bool.not_true, Bool.false_eq_true, if_false]
  unfold State.ringMbx
  have key : ∀ f : Mailbox → Mailbox, (∀ m, (f m).state = m.state) →
      (((s.elapse dt).updMbx h.mbx f).mbx h.mbx).state = (s.mbx h.mbx).state := by
    intro f hf
    unfold State.updMbx State.mbx upd
    simp only [List.getD_eq_getElem?_getD, List.getElem?_modify]
    show _ = ((s.elapse dt).mailboxes[(h.mbx : Nat)]?.getD {}).state
    cases (s.elapse dt).mailboxes[(h.mbx : Nat)]? <;> simp [hf]
  have hst := key (fun m => { m with cmdArea := overwrite m.cmdArea 0 (Cmd.of d.opcode h p).bytes }) fun _ => rfl
  rw [if_neg (by rw [hst]; simp [h4, h5])]
  have serve : ((s.elapse dt).updMbx h.mbx fun m =>
      { m with cmdArea := overwrite m.cmdArea 0 (Cmd.of d.opcode h p).bytes }).serves = true := h2
  have unarmed : ∀ f g, (((s.elapse dt).updMbx h.mbx f).updMbx h.mbx g).fw.armed = false := fun _ _ => h3
  simp only [serve, if_true, unarmed, Bool.false_eq_true, if_false]
  congr 1
  unfold State.updMbx upd
  simp only [List.modify_modify_eq]
  rfl

/-- No check is answered where, and only where, none fails. -/
theorem Err.pick_eq_none (l : List Err) : Err.pick l = none ↔ l = [] := by
  cases l with
  | nil => simp [Err.pick]
  | cons a t =>
    simp only [Err.pick, reduceCtorEq, iff_false]
    split
    · simp
    · split <;> simp

/-- The error answered first has no higher a status. -/
theorem Err.first_status {a b : Err} (h : a.first b = true) : a.status ≤ b.status := by
  unfold Err.first at h
  simp only [Bool.or_eq_true, Bool.and_eq_true, decide_eq_true_eq, beq_iff_eq] at h
  omega

/-- The other error has no higher a status where this one is not answered first. -/
theorem Err.first_status_not {a b : Err} (h : ¬a.first b = true) : b.status ≤ a.status := by
  unfold Err.first at h
  simp only [Bool.or_eq_true, Bool.and_eq_true, decide_eq_true_eq, beq_iff_eq] at h
  omega

/-- The check answered is one that fails, and its code is the least. -/
theorem Err.pick_some {l : List Err} {e : Err} (he : e ∈ l) : ∃ r, Err.pick l = some r ∧ r.status ≤ e.status ∧ r ∈ l := by
  induction l generalizing e with
  | nil => simp at he
  | cons a t ih =>
    simp only [Err.pick]
    rcases List.mem_cons.mp he with rfl | h
    · cases hp : Err.pick t with
      | none => exact ⟨_, rfl, le_refl _, by simp⟩
      | some b =>
        have hb : b ∈ t := by
          cases t with
          | nil => simp [Err.pick] at hp
          | cons x y =>
            obtain ⟨r, h1, _, h3⟩ := ih (e := x) (by simp)
            rw [hp] at h1
            cases h1
            exact h3
        dsimp only
        split
        · exact ⟨_, rfl, le_refl _, by simp⟩
        · exact ⟨_, rfl, Err.first_status_not ‹_›, by simp [hb]⟩
    · obtain ⟨r, h1, h2, h3⟩ := ih h
      rw [h1]
      dsimp only
      split
      · exact ⟨_, rfl, (Err.first_status ‹_›).trans h2, by simp⟩
      · exact ⟨_, rfl, h2, by simp [h3]⟩

end Sys2Proof.Machine
end

