-- ==== Sys2Proof/Laws/Memory.lean ====
section
/-! SUPPORT. Byte memory: what a read gives after a write, what every other address keeps, and that every memory operation
keeps the canonical form. -/

namespace Sys2Proof.Machine

/-- The form, below a bound: addresses rise from above it and no entry is 0. -/
theorem Mem.wfFrom_iff (m : List Host.Cell) : ∀ lo, Mem.wfFrom lo m = true ↔
    (∀ l, lo = some l → ∀ c ∈ m, l < c.1) ∧ m.Pairwise (fun c d => c.1 < d.1) ∧ ∀ c ∈ m, c.2 ≠ 0 := by
  induction m with
  | nil => intro lo; simp [Mem.wfFrom]
  | cons e m ih =>
    obtain ⟨k, v⟩ := e
    intro lo
    have hk := ih (some k)
    simp only [Mem.wfFrom, Bool.and_eq_true, hk, List.pairwise_cons, List.mem_cons, forall_eq_or_imp]
    constructor
    · rintro ⟨⟨h1, h2⟩, h3, h4, h5⟩
      refine ⟨?_, ⟨fun c hc => h3 k rfl c hc, h4⟩, by simpa using h2, h5⟩
      rintro l rfl
      have h1' : l < k := by simpa using h1
      exact ⟨h1', fun c hc => lt_trans h1' (h3 k rfl c hc)⟩
    · rintro ⟨h1, ⟨h3, h4⟩, h2, h5⟩
      refine ⟨⟨?_, by simpa using h2⟩, fun l hl c hc => ?_, h4, h5⟩
      · cases lo with
        | none => rfl
        | some l => simpa using (h1 l rfl).1
      · cases hl; exact h3 c hc

/-- The canonical form in words: addresses rise and no entry is 0. -/
theorem Memory.wf_iff (m : List Host.Cell) :
    Memory.wf m = true ↔ m.Pairwise (fun c d => c.1 < d.1) ∧ ∀ c ∈ m, c.2 ≠ 0 := by
  unfold Memory.wf
  rw [Mem.wfFrom_iff]
  simp

@[simp] theorem Memory.wf_nil : Memory.wf [] = true := rfl

/-- A write adds no address but its own. -/
theorem Mem.mem_write {m : List Host.Cell} {a : Nat} {b : Byte} {c : Host.Cell} (h : c ∈ Mem.write m a b) :
    c ∈ m ∨ (c = (a, b) ∧ b ≠ 0) := by
  induction m with
  | nil => unfold Mem.write at h; split at h <;> simp_all
  | cons e m ih =>
    obtain ⟨k, v⟩ := e
    unfold Mem.write at h
    split at h
    · split at h
      · exact .inl h
      · rcases List.mem_cons.1 h with rfl | h
        · exact .inr ⟨rfl, ‹_›⟩
        · exact .inl h
    · split at h
      · split at h
        · exact .inl (List.mem_cons_of_mem _ h)
        · rcases List.mem_cons.1 h with rfl | h
          · exact .inr ⟨rfl, ‹_›⟩
          · exact .inl (List.mem_cons_of_mem _ h)
      · rcases List.mem_cons.1 h with rfl | h
        · exact .inl (List.mem_cons_self ..)
        · exact (ih h).imp (List.mem_cons_of_mem _) id

/-- Writing a byte keeps the canonical form. -/
theorem Memory.wf_write {m : List Host.Cell} (a : Nat) (b : Byte) (h : Memory.wf m = true) :
    Memory.wf (Mem.write m a b) = true := by
  induction m with
  | nil => unfold Mem.write; split <;> simp_all [Memory.wf, Mem.wfFrom]
  | cons e m ih =>
    obtain ⟨k, v⟩ := e
    rw [Memory.wf_iff, List.pairwise_cons] at h
    obtain ⟨⟨hlt, hp⟩, hz⟩ := h
    have hm : Memory.wf m = true := (Memory.wf_iff m).2 ⟨hp, fun c hc => hz c (List.mem_cons_of_mem _ hc)⟩
    have hv : v ≠ 0 := hz (k, v) (List.mem_cons_self ..)
    unfold Mem.write
    split
    · rename_i hak
      split
      · exact (Memory.wf_iff _).2 ⟨List.pairwise_cons.2 ⟨hlt, hp⟩, hz⟩
      · rename_i hb
        rw [Memory.wf_iff]
        refine ⟨List.pairwise_cons.2 ⟨?_, List.pairwise_cons.2 ⟨hlt, hp⟩⟩, ?_⟩
        · intro c hc
          rcases List.mem_cons.1 hc with rfl | hc
          · exact hak
          · exact lt_trans hak (hlt c hc)
        · intro c hc
          rcases List.mem_cons.1 hc with rfl | hc
          · exact hb
          · exact hz c hc
    · split
      · rename_i hak
        subst hak
        split
        · exact hm
        · rename_i hb
          rw [Memory.wf_iff]
          refine ⟨List.pairwise_cons.2 ⟨hlt, hp⟩, ?_⟩
          intro c hc
          rcases List.mem_cons.1 hc with rfl | hc
          · exact hb
          · exact hz c (List.mem_cons_of_mem _ hc)
      · rename_i h1 h2
        have h3 := (Memory.wf_iff _).1 (ih hm)
        rw [Memory.wf_iff]
        refine ⟨List.pairwise_cons.2 ⟨?_, h3.1⟩, ?_⟩
        · intro c hc
          rcases Mem.mem_write hc with hc | ⟨rfl, -⟩
          · exact hlt c hc
          · show k < a; omega
        · intro c hc
          rcases List.mem_cons.1 hc with rfl | hc
          · exact hv
          · exact h3.2 c hc

/-- An address no entry holds reads 0. -/
theorem Mem.read_of_forall_ne {m : List Host.Cell} {a : Nat} (h : ∀ c ∈ m, c.1 ≠ a) : Mem.read m a = 0 := by
  induction m with
  | nil => rfl
  | cons e m ih =>
    obtain ⟨k, v⟩ := e
    unfold Mem.read
    rw [if_neg (h (k, v) (List.mem_cons_self ..))]
    exact ih fun c hc => h c (List.mem_cons_of_mem _ hc)

/-- A read after a write to the same address gives the value written. -/
theorem Mem.read_write_same {m : List Host.Cell} (a : Nat) (b : Byte) (h : Memory.wf m = true) :
    Mem.read (Mem.write m a b) a = b := by
  induction m with
  | nil =>
    unfold Mem.write
    split
    · rename_i hb; subst hb; rfl
    · simp [Mem.read]
  | cons e m ih =>
    obtain ⟨k, v⟩ := e
    rw [Memory.wf_iff, List.pairwise_cons] at h
    obtain ⟨⟨hlt, hp⟩, hz⟩ := h
    unfold Mem.write
    split
    · rename_i hak
      split
      · rename_i hb
        subst hb
        apply Mem.read_of_forall_ne
        intro c hc
        rcases List.mem_cons.1 hc with rfl | hc
        · show k ≠ a; omega
        · have := hlt c hc; simp only at this; omega
      · simp [Mem.read]
    · split
      · rename_i hak
        subst hak
        split
        · rename_i hb
          subst hb
          apply Mem.read_of_forall_ne
          intro c hc
          have := hlt c hc
          simp only at this
          omega
        · simp [Mem.read]
      · rename_i h1 h2
        unfold Mem.read
        rw [if_neg (Ne.symm h2)]
        exact ih ((Memory.wf_iff m).2 ⟨hp, fun c hc => hz c (List.mem_cons_of_mem _ hc)⟩)

/-- A write leaves every other address alone. -/
theorem Mem.read_write_ne (m : List Host.Cell) {a a' : Nat} (b : Byte) (h : a' ≠ a) :
    Mem.read (Mem.write m a b) a' = Mem.read m a' := by
  induction m with
  | nil => unfold Mem.write; split <;> simp [Mem.read, Ne.symm h]
  | cons e m ih =>
    obtain ⟨k, v⟩ := e
    unfold Mem.write
    split
    · split
      · rfl
      · rw [Mem.read, if_neg (Ne.symm h)]
    · split
      · rename_i hak
        subst hak
        split <;> simp [Mem.read, Ne.symm h]
      · unfold Mem.read; rw [ih]

/-- Writing a run of bytes keeps the canonical form. -/
theorem Memory.wf_writes (bs : List Byte) : ∀ {m : List Host.Cell} (a : Nat), Memory.wf m = true →
    Memory.wf (Mem.writes m a bs) = true := by
  induction bs with
  | nil => intro m a h; exact h
  | cons b bs ih => intro m a h; exact ih (a + 1) (Memory.wf_write a b h)

/-- A run of bytes leaves every address outside it alone. -/
theorem Mem.read_writes_out (bs : List Byte) : ∀ (m : List Host.Cell) {a a' : Nat}, (a' < a ∨ a + bs.length ≤ a') →
    Mem.read (Mem.writes m a bs) a' = Mem.read m a' := by
  induction bs with
  | nil => intro m a a' _; rfl
  | cons b bs ih =>
    intro m a a' h
    simp only [List.length_cons] at h
    unfold Mem.writes
    rw [ih _ (by omega), Mem.read_write_ne m b (by omega)]

/-- A run of bytes reads back. -/
theorem Mem.read_writes_in (bs : List Byte) : ∀ {m : List Host.Cell} (a i : Nat) (hi : i < bs.length), Memory.wf m = true →
    Mem.read (Mem.writes m a bs) (a + i) = bs[i] := by
  induction bs with
  | nil => intro m a i hi _; simp at hi
  | cons b bs ih =>
    intro m a i hi h
    unfold Mem.writes
    cases i with
    | zero =>
      rw [Mem.read_writes_out bs _ (by omega)]
      exact Mem.read_write_same a b h
    | succ i =>
      have := ih (a + 1) i (by simpa using hi) (Memory.wf_write a b h)
      rw [show a + (i + 1) = a + 1 + i by omega]
      simpa using this

/-- Leaving entries out keeps the canonical form. -/
theorem Memory.wf_filter {m : List Host.Cell} (p : Host.Cell → Bool) (h : Memory.wf m = true) :
    Memory.wf (m.filter p) = true := by
  rw [Memory.wf_iff] at *
  exact ⟨h.1.sublist List.filter_sublist, fun c hc => h.2 c (List.mem_of_mem_filter hc)⟩

/-- Clearing a span keeps the canonical form. -/
theorem Memory.wf_clear {m : List Host.Cell} (lo hi : Nat) (h : Memory.wf m = true) : Memory.wf (Mem.clear m lo hi) = true :=
  Memory.wf_filter _ h

/-- The cells of a span, counted from its start, are in canonical form. -/
theorem Memory.wf_spanOf {m : List Host.Cell} (lo n : Nat) (h : Memory.wf m = true) : Memory.wf (Mem.spanOf m lo n) = true := by
  have h' := (Memory.wf_iff _).1 (Memory.wf_filter (fun c => lo ≤ c.1 && c.1 < lo + n) h)
  unfold Mem.spanOf
  rw [Memory.wf_iff]
  constructor
  · rw [List.pairwise_map]
    refine List.Pairwise.imp_of_mem ?_ h'.1
    intro c d hc hd hcd
    have := (List.mem_filter.1 hc).2
    simp only [Bool.and_eq_true, decide_eq_true_eq] at this
    show c.1 - lo < d.1 - lo
    omega
  · intro c hc
    obtain ⟨d, hd, rfl⟩ := List.mem_map.1 hc
    exact h'.2 d hd

/-- Replacing a span by cells in canonical form keeps the canonical form. -/
theorem Memory.wf_splice {m cells : List Host.Cell} (lo n : Nat) (h : Memory.wf m = true) (hc : Memory.wf cells = true) :
    Memory.wf (Mem.splice m lo n cells) = true := by
  have h1 := (Memory.wf_iff _).1 (Memory.wf_filter (fun c => c.1 < lo) h)
  have h2 := (Memory.wf_iff _).1 (Memory.wf_filter (fun c => c.1 < n) hc)
  have h3 := (Memory.wf_iff _).1 (Memory.wf_filter (fun c => lo + n ≤ c.1) h)
  unfold Mem.splice
  rw [Memory.wf_iff]
  constructor
  · rw [List.pairwise_append, List.pairwise_append]
    refine ⟨⟨h1.1, ?_, ?_⟩, h3.1, ?_⟩
    · rw [List.pairwise_map]
      exact h2.1.imp fun hcd => by simpa using hcd
    · intro c hc d hd
      obtain ⟨e, he, rfl⟩ := List.mem_map.1 hd
      have := (List.mem_filter.1 hc).2
      simp only [decide_eq_true_eq] at this
      show c.1 < e.1 + lo
      omega
    · intro c hc d hd
      have hd' := (List.mem_filter.1 hd).2
      simp only [decide_eq_true_eq] at hd'
      rcases List.mem_append.1 hc with hc | hc
      · have := (List.mem_filter.1 hc).2
        simp only [decide_eq_true_eq] at this
        omega
      · obtain ⟨e, he, rfl⟩ := List.mem_map.1 hc
        have := (List.mem_filter.1 he).2
        simp only [decide_eq_true_eq] at this
        show e.1 + lo < d.1
        omega
  · intro c hc
    rcases List.mem_append.1 hc with hc | hc
    · rcases List.mem_append.1 hc with hc | hc
      · exact h1.2 c hc
      · obtain ⟨e, he, rfl⟩ := List.mem_map.1 hc
        exact h2.2 e he
    · exact h3.2 c hc

/-- A fold whose steps keep the canonical form keeps it. -/
theorem Memory.wf_foldl {α : Type} {f : List Host.Cell → α → List Host.Cell} (l : List α)
    (hf : ∀ m x, x ∈ l → Memory.wf m = true → Memory.wf (f m x) = true) : ∀ {m : List Host.Cell}, Memory.wf m = true →
    Memory.wf (l.foldl f m) = true := by
  induction l with
  | nil => intro m h; exact h
  | cons x l ih =>
    intro m h
    exact ih (fun m y hy => hf m y (List.mem_cons_of_mem _ hy)) (hf m x (List.mem_cons_self ..) h)

/-- Cells built from offsets and bytes are in canonical form. -/
theorem Memory.wf_ofCells (cells : List Host.Cell) : Memory.wf (Mem.ofCells cells) = true :=
  Memory.wf_foldl cells (fun _ _ _ h => Memory.wf_write _ _ h) rfl

/-- A rectangle's rows written keep the canonical form. -/
theorem Memory.wf_writeRect {m : List Host.Cell} (r : Rect) (rows : List (List Byte)) (h : Memory.wf m = true) :
    Memory.wf (writeRect m r rows) = true :=
  Memory.wf_foldl _ (fun _ _ _ h => Memory.wf_writes _ _ h) h

/-- The moves of a stand map's calibration data keep the canonical form. -/
theorem Memory.wf_moveCal {m : List Host.Cell} (old new : Settings) (places : List (Option Nat)) (h : Memory.wf m = true) :
    Memory.wf (moveCal m old new places) = true := by
  unfold moveCal
  refine Memory.wf_foldl _ ?_ (Memory.wf_foldl _ (fun _ _ _ h => Memory.wf_clear _ _ h) h)
  intro acc e _ hacc
  split
  · exact hacc
  · exact Memory.wf_splice _ _ (Memory.wf_splice _ _ hacc (Memory.wf_spanOf _ _ h)) (Memory.wf_spanOf _ _ h)

/-- An operation of the 2D engine keeps the canonical form. -/
theorem Memory.wf_blitMem {m : List Host.Cell} (p : List Byte) (h : Memory.wf m = true) : Memory.wf (blitMem m p) = true := by
  unfold blitMem
  split <;> exact Memory.wf_writeRect _ _ h

end Sys2Proof.Machine
end

