-- ==== Sys2Proof/Laws/Events.lean ====
section
/-! SUPPORT. Events, the log and completion: everything that raising an event, writing a record of the log, or completing a
command can change. -/

namespace Sys2Proof.Machine

/-- A write to a ring changes that ring, and sends to the host. -/
theorem State.ringWrite_cases (s : State) (i : Nat) (e : EventRec) :
    ∃ (f : Ring → Ring) (out : List Out), s.ringWrite i e = { s.updRing i f with out := out } := ⟨_, _, rfl⟩

/-- An MSI-X message is sent, or pends in the PBA. -/
theorem State.msixSend_cases (s : State) (v : Nat) :
    ∃ (out : List Out) (pba : BitVec 256), s.msixSend v = { s with out := out, pcie := { s.pcie with pba := pba } } := by
  unfold State.msixSend
  split
  · exact ⟨s.out, _, rfl⟩
  · exact ⟨_, s.pcie.pba, rfl⟩

/-- A signalled batch changes its ring and the PBA, and sends to the host. -/
theorem State.ringSignal_cases (s : State) (i : Nat) :
    ∃ (f : Ring → Ring) (out : List Out) (pba : BitVec 256),
      s.ringSignal i = { s.updRing i f with out := out, pcie := { s.pcie with pba := pba } } := by
  unfold State.ringSignal
  dsimp only
  split
  · obtain ⟨o, b, h⟩ := State.msixSend_cases (s.emit (.hostWrite (s.ring i).mirror (le 4 (s.ring i).pidxWord))) (s.ring i).vector
    rw [h]
    exact ⟨_, o, b, rfl⟩
  · refine ⟨id, s.out ++ [.hostWrite (s.ring i).mirror (le 4 (s.ring i).pidxWord)], s.pcie.pba, ?_⟩
    unfold State.updRing
    rw [upd_id]
    rfl

/-- A record put into a ring changes that ring and the PBA, and sends to the host. -/
theorem State.ringPut_cases (s : State) (i : Nat) (e : EventRec) :
    ∃ (f : Ring → Ring) (out : List Out) (pba : BitVec 256),
      s.ringPut i e = { s.updRing i f with out := out, pcie := { s.pcie with pba := pba } } := by
  unfold State.ringPut
  dsimp only
  split
  · exact ⟨_, s.out, s.pcie.pba, rfl⟩
  · split
    · exact ⟨_, s.out, s.pcie.pba, rfl⟩
    · obtain ⟨f, o, h⟩ := s.ringWrite_cases i e
      rw [h]
      obtain ⟨g, o', b, h'⟩ := State.ringSignal_cases { s.updRing i f with out := o } i
      rw [h']
      refine ⟨g ∘ f, o', b, ?_⟩
      unfold State.updRing
      simp only [upd_upd]

/-- A record routed at the root changes rings and the PBA, and sends to the host. -/
theorem State.routeRec_cases (s : State) (e : EventRec) :
    ∃ (rings : List Ring) (out : List Out) (pba : BitVec 256),
      s.routeRec e = { s with rings := rings, out := out, pcie := { s.pcie with pba := pba } } ∧ rings.length = s.rings.length := by
  unfold State.routeRec
  split
  · obtain ⟨f, o, b, h⟩ := s.ringPut_cases 0 e
    exact ⟨_, o, b, h, upd_length _ _ _⟩
  · dsimp only
    split
    · exact ⟨s.rings, s.out, s.pcie.pba, rfl, rfl⟩
    · obtain ⟨f, o, b, h⟩ := s.ringPut_cases (s.routes.getD (e.code / 256 - 1) 0xFF) e
      exact ⟨_, o, b, h, upd_length _ _ _⟩

/-- A record delivered changes the rings, the PBA, the events held for a parent and the packet stream of its port, and
sends out. -/
theorem State.deliver_cases (s : State) (e : EventRec) :
    ∃ (rings : List Ring) (out : List Out) (held : List EventRec) (ports : List Port) (pba : BitVec 256),
      s.deliver e = { s with rings := rings, out := out, chain := { s.chain with heldEvents := held, ports := ports },
                             pcie := { s.pcie with pba := pba } } ∧
      rings.length = s.rings.length ∧ ports.length = s.chain.ports.length := by
  unfold State.deliver
  split
  · obtain ⟨r, o, b, h, hl⟩ := s.routeRec_cases e
    exact ⟨r, o, s.chain.heldEvents, s.chain.ports, b, h, hl, rfl⟩
  · split
    · exact ⟨s.rings, _, s.chain.heldEvents, _, s.pcie.pba, rfl, rfl, upd_length _ _ _⟩
    · exact ⟨s.rings, s.out, _, s.chain.ports, s.pcie.pba, rfl, rfl, rfl⟩

/-- A trigger that fires changes the recorder's triggers only. -/
theorem State.fireTrigger_cases (s : State) (id code unit : Nat) :
    ∃ tick merged fired, s.fireTrigger id code unit =
      { s with recorder := { s.recorder with trigTick := tick, trigMerged := merged, fired := fired } } := by
  unfold State.fireTrigger
  split
  · exact ⟨s.recorder.trigTick, _, s.recorder.fired, rfl⟩
  · exact ⟨_, s.recorder.trigMerged, _, rfl⟩

/-- Firing the triggers of an event changes the recorder's triggers only. -/
theorem State.fireAll_cases (s : State) (code unit : Nat) :
    ∃ tick merged fired, s.fireAll code unit =
      { s with recorder := { s.recorder with trigTick := tick, trigMerged := merged, fired := fired } } := by
  unfold State.fireAll
  split
  · generalize s.settings.triggers.filter (·.fires code unit) = l
    induction l generalizing s with
    | nil => exact ⟨s.recorder.trigTick, s.recorder.trigMerged, s.recorder.fired, rfl⟩
    | cons t l ih =>
      obtain ⟨a, b, c, h⟩ := s.fireTrigger_cases t.id code unit
      obtain ⟨a', b', c', h'⟩ := ih (s.fireTrigger t.id code unit) (by rw [h]; assumption)
      rw [List.foldl_cons, h', h]
      exact ⟨a', b', c', rfl⟩
  · exact ⟨s.recorder.trigTick, s.recorder.trigMerged, s.recorder.fired, rfl⟩

/-- Everything raising an event can change: rings, what is sent out, the PBA, events held for a parent, the packet streams
of skyline ports, events owed, and the recorder's triggers. -/
theorem State.raise_cases (s : State) (code unit : Nat) (ps : List Nat) (tag txn : Word) :
    ∃ (rings : List Ring) (out : List Out) (held owed : List EventRec) (ports : List Port) (pba : BitVec 256),
    ∃ tick merged fired, s.raise code unit ps tag txn =
        { s with rings := rings, out := out, owed := owed, chain := { s.chain with heldEvents := held, ports := ports },
                 pcie := { s.pcie with pba := pba },
                 recorder := { s.recorder with trigTick := tick, trigMerged := merged, fired := fired } } ∧
      rings.length = s.rings.length ∧ ports.length = s.chain.ports.length := by
  unfold State.raise
  obtain ⟨a, b, c, h⟩ := s.fireAll_cases code unit
  dsimp only
  rw [h]
  split
  · obtain ⟨r, o, hd, q, p, h', hl⟩ := State.deliver_cases
      { s with recorder := { s.recorder with trigTick := a, trigMerged := b, fired := c } } (s.mkRec code unit ps tag txn)
    rw [h']
    exact ⟨r, o, hd, s.owed, q, p, a, b, c, rfl, hl⟩
  · exact ⟨s.rings, s.out, s.chain.heldEvents, _, s.chain.ports, s.pcie.pba, a, b, c, rfl, rfl, rfl⟩

/-- Everything completing a command can change: its mailbox, the PBA, and what is sent out. -/
theorem State.completeBytes_cases (s : State) (n : Nat) (resp : List Byte) :
    ∃ (f : Mailbox → Mailbox) (out : List Out) (pba : BitVec 256),
      s.completeBytes n resp = { s.updMbx n f with out := out, pcie := { s.pcie with pba := pba } } := by
  have key : ∀ t : State, ∃ (f : Mailbox → Mailbox) (out : List Out), t.mgmtAnswer n resp = { t.updMbx n f with out := out } := by
    intro t
    unfold State.mgmtAnswer
    split
    · refine ⟨id, t.out, ?_⟩
      unfold State.updMbx
      rw [upd_id]
    · exact ⟨_, _, rfl⟩
  unfold State.completeBytes
  dsimp only
  obtain ⟨f, o, h⟩ := key (s.updMbx n fun m => { m with
    rspArea := overwrite m.rspArea 0 resp, running := [], tunnelled := false, state := 3, doneCount := (m.doneCount + 1) % 65536 })
  rw [h]
  generalize hg : (fun m : Mailbox => { m with
    rspArea := overwrite m.rspArea 0 resp, running := [], tunnelled := false, state := 3,
    doneCount := (m.doneCount + 1) % 65536 }) = g
  have hfg : (s.updMbx n g).updMbx n f = s.updMbx n (f ∘ g) := by
    unfold State.updMbx
    simp only [upd_upd]
  rw [hfg]
  split
  · obtain ⟨o', b, h'⟩ := State.msixSend_cases { s.updMbx n (f ∘ g) with out := o }
      (bitsOf (State.mbx { s.updMbx n (f ∘ g) with out := o } n).irq.toNat 7 0)
    rw [h']
    exact ⟨f ∘ g, o', b, rfl⟩
  · exact ⟨f ∘ g, o, s.pcie.pba, rfl⟩

/-- Completing a command keeps every other mailbox. -/
theorem State.completeBytes_mbx_ne (s : State) {n k : Nat} (resp : List Byte) (h : k ≠ n) :
    (s.completeBytes n resp).mbx k = s.mbx k := by
  obtain ⟨f, o, p, hf⟩ := s.completeBytes_cases n resp
  rw [hf]
  exact s.mbx_updMbx_ne f h

/-! ### The log -/

/-- Allocation keeps the memory's form. -/
theorem Recorder.alloc_wf {r : Recorder} (t n : Nat) (h : Memory.wf r.sram = true) : Memory.wf (r.alloc t n).2.sram = true := by
  have keep : ∀ (c : Prop) [Decidable c] (x y : Recorder), Memory.wf x.sram = true → Memory.wf y.sram = true →
      Memory.wf (if c then x else y).sram = true := by
    intro c _ x y hx hy
    split <;> assumption
  have wr : ∀ (x : Recorder) (a : Nat) (b : List Byte), Memory.wf x.sram = true → Memory.wf (Mem.writes x.sram a b) = true :=
    fun _ _ _ hx => Memory.wf_writes _ _ hx
  unfold Recorder.alloc
  extract_lets r1 hd old r2
  have h1 : Memory.wf r1.sram = true := by
    clear_value hd old r2
    apply keep
    · exact h
    · apply wr
      exact h
  clear_value r1
  have h2 : Memory.wf r2.sram = true := by
    apply keep
    · exact h1
    · apply wr
      exact h1
  clear_value r2
  apply wr
  exact h2

/-- A record written keeps the memory's form. -/
theorem Recorder.put_wf {r : Recorder} (t d : Nat) (b : List Byte) (h : Memory.wf r.sram = true) :
    Memory.wf (r.put t d b).sram = true := by
  unfold Recorder.put
  split
  · exact h
  · exact Memory.wf_writes _ _ (Recorder.alloc_wf t _ h)

/-! ### The shape of the state -/

/-- Raising an event keeps the memories and the shape. -/
theorem State.raise_shape (s : State) (code unit : Nat) (ps : List Nat) (tag txn : Word) :
    (s.raise code unit ps tag txn).memoryOk = s.memoryOk ∧ (s.raise code unit ps tag txn).shapeOk = s.shapeOk := by
  obtain ⟨r, o, hd, w, q, p, a, b, c, h, hl, hq⟩ := s.raise_cases code unit ps tag txn
  rw [h]
  refine ⟨rfl, ?_⟩
  unfold State.shapeOk
  simp only [hl, hq]

/-- Completing a command keeps the memories and the shape. -/
theorem State.completeBytes_shape (s : State) (n : Nat) (resp : List Byte) :
    (s.completeBytes n resp).memoryOk = s.memoryOk ∧ (s.completeBytes n resp).shapeOk = s.shapeOk := by
  obtain ⟨f, o, p, h⟩ := s.completeBytes_cases n resp
  rw [h]
  refine ⟨rfl, ?_⟩
  unfold State.shapeOk State.updMbx
  simp only [upd_length]

/-- A record of the log keeps the memories and the shape. -/
theorem State.recFixed_shape {s : State} (code : Nat) (ps : List Nat) (h : s.memoryOk = true) :
    (s.recFixed code ps).memoryOk = true ∧ (s.recFixed code ps).shapeOk = s.shapeOk := by
  unfold State.memoryOk at *
  rw [Bool.and_eq_true] at *
  exact ⟨⟨h.1, Recorder.put_wf _ _ _ h.2⟩, rfl⟩

end Sys2Proof.Machine
end

