-- ==== Sys2Proof/WellFormed.lean ====
section
/-! DEFINITION. Well-formed commands: every operand lies in the range of the field, register, packet or unit it stands for.
Ranges that a type already gives (the mailbox, ring, link, port or die) need no check. -/

namespace Sys2Proof

/-- Frames of a skyline port: 64 blocks each, a 2-bit header and a 128-bit body to a block. -/
def SkyRx.wf (rx : SkyRx) : Bool := rx.frames.all fun f => f.length == 64 && f.all fun b => b.1 < 4 && b.2 < 2 ^ 128

/-- The operands lie in their ranges (DESIGN CHOICE, log entries 13, 18). -/
def Instr.wf : Instr → Bool
  | .sysIdentify _ _ p => p.length ≤ 4080
  | .sysStatus _ _ p => p.length ≤ 4080
  | .sysEventRoute _ _ p => p.length ≤ 4080
  | .sysEcho _ _ p => p.length ≤ 4080
  | .sysSpares _ _ p => p.length ≤ 4080
  | .sysFaults _ _ p => p.length ≤ 4080
  | .modeSet _ _ p => p.length ≤ 4080
  | .modeGet _ _ p => p.length ≤ 4080
  | .txnBegin _ _ p => p.length ≤ 4080
  | .txnCommit _ _ p => p.length ≤ 4080
  | .txnRollback _ _ p => p.length ≤ 4080
  | .txnStatus _ _ p => p.length ≤ 4080
  | .streamQueues _ _ p => p.length ≤ 4080
  | .streamOpen _ _ p => p.length ≤ 4080
  | .streamClose _ _ p => p.length ≤ 4080
  | .streamKey _ _ p => p.length ≤ 4080
  | .streamStats _ _ p => p.length ≤ 4080
  | .sceneBind _ _ p => p.length ≤ 4080
  | .scenePlace _ _ p => p.length ≤ 4080
  | .sceneLift _ _ p => p.length ≤ 4080
  | .composeLayer _ _ p => p.length ≤ 4080
  | .composeUpdate _ _ p => p.length ≤ 4080
  | .composeBlit _ _ p => p.length ≤ 4080
  | .composeWatermark _ _ p => p.length ≤ 4080
  | .composeDeadtime _ _ p => p.length ≤ 4080
  | .calLoad _ _ p => p.length ≤ 4080
  | .calSets _ _ p => p.length ≤ 4080
  | .calMeasure _ _ p => p.length ≤ 4080
  | .calPolicy _ _ p => p.length ≤ 4080
  | .calRead _ _ p => p.length ≤ 4080
  | .standMap _ _ p => p.length ≤ 4080
  | .standLut _ _ p => p.length ≤ 4080
  | .standStatus _ _ p => p.length ≤ 4080
  | .standRelease _ _ p => p.length ≤ 4080
  | .standAdmit _ _ p => p.length ≤ 4080
  | .standLink _ _ p => p.length ≤ 4080
  | .scanTiming _ _ p => p.length ≤ 4080
  | .scanPrecharge _ _ p => p.length ≤ 4080
  | .scanMeasurePlan _ _ p => p.length ≤ 4080
  | .scanFrameBase _ _ p => p.length ≤ 4080
  | .steerTable _ _ p => p.length ≤ 4080
  | .steerStatus _ _ p => p.length ≤ 4080
  | .steerJournal _ _ p => p.length ≤ 4080
  | .memSetPoint _ _ p => p.length ≤ 4080
  | .memOrdering _ _ p => p.length ≤ 4080
  | .memTrain _ _ p => p.length ≤ 4080
  | .memStatus _ _ p => p.length ≤ 4080
  | .chainRole _ _ p => p.length ≤ 4080
  | .chainRegion _ _ p => p.length ≤ 4080
  | .chainGrace _ _ p => p.length ≤ 4080
  | .chainStatus _ _ p => p.length ≤ 4080
  | .timeSource _ _ p => p.length ≤ 4080
  | .timePtp _ _ p => p.length ≤ 4080
  | .timeGet _ _ p => p.length ≤ 4080
  | .timeAcceptJump _ _ p => p.length ≤ 4080
  | .timePulse _ _ p => p.length ≤ 4080
  | .timeFsyncArm _ _ p => p.length ≤ 4080
  | .secCerts _ _ p => p.length ≤ 4080
  | .secAttest _ _ p => p.length ≤ 4080
  | .secKemKey _ _ p => p.length ≤ 4080
  | .secFwUpdate _ _ p => p.length ≤ 4080
  | .secLifecycle _ _ p => p.length ≤ 4080
  | .recTriggers _ _ p => p.length ≤ 4080
  | .recFlush _ _ p => p.length ≤ 4080
  | .recErase _ _ p => p.length ≤ 4080
  | .pwrDomain _ _ p => p.length ≤ 4080
  | .pwrStatus _ _ p => p.length ≤ 4080
  | .pwrLimit _ _ p => p.length ≤ 4080
  | .ring _ _ => true
  | .coldWest _ _ => true
  | .coldEast _ _ => true
  | .glbApertureHiWrite _ _ => true
  | .glbApertureLoWrite _ _ => true
  | .ringEnable _ _ _ => true
  | .ringDisable _ _ _ => true
  | .evrCidxWrite _ _ _ => true
  | .evrStatusRead _ _ => true
  | .recDataRead _ => true
  | .cmdsetRevRead _ off len => off ≤ 5472 && 5474 ≤ off + len && len ≤ 64
  | .registerWrite _ off data => off + data.length ≤ 0x1000000 && data.length ≤ 64
  | .unmapped _ off len _ => off + len ≤ 0x1000000 && (len == 4 || len == 8)
  | .badSize _ off len _ => off + len ≤ 0x1000000 && 1 ≤ len
  | .bar2Read _ off len => off < 0x100000000 && 1 ≤ len && len ≤ 512 && off / 4096 == (off + len - 1) / 4096
  | .bar2Write _ off data => off < 0x100000000 && 1 ≤ data.length && data.length ≤ 512 && off / 4096 == (off + data.length - 1) / 4096
  | .bootBufferWrite _ off data =>
    off + data.length ≤ 0x1000000 && 1 ≤ data.length && data.length ≤ 512 && off / 4096 == (off + data.length - 1) / 4096
  | .functionLevelReset _ => true
  | .perstN _ => true
  | .d3hotEntry _ => true
  | .d0Return _ => true
  | .mailboxStallTimeout _ _ => true
  | .chainTimeout _ _ => true
  | .txnTimeout _ id => id < 0x100000000
  | .frameTick _ => true
  | .frameBlank _ => true
  | .subframeStart _ => true
  | .leadDeadline _ _ => true
  | .synthesisStart _ costs => costs.all fun e => e.1 < 128 && e.2.1 < 8192
  | .kerfDeadline _ => true
  | .scanOutStart _ => true
  | .watermarkFire _ => true
  | .liftPhaseEnd _ => true
  | .liftTimeout _ => true
  | .queuePoll _ _ pidx descs => pidx.all (· < 0x100000000) && descs.all fun d => d.all fun b => b.length == 64
  | .descriptorPlaced _ _ _ => true
  | .fetchResume _ _ => true
  | .decodeDone _ _ found => found.all fun p => p.sub < 0x10000
  | .drainTimeout _ _ => true
  | .blitDone _ => true
  | .bakeStart _ _ => true
  | .bakeEnd _ stand => stand < 128
  | .calOperationEnd _ stand header _ => stand < 128 && header.length ≤ 64
  | .concealRebuildEnd _ stand => stand < 128
  | .linkFrameReceived _ _ blocks spare _ => (blocks ++ spare).all fun b => b.1 < 4 && b.2 < 2 ^ 128
  | .replayTimeout _ _ => true
  | .diagReceived _ _ pos kind sub row tick _ _ => pos < 8 && kind < 4 && sub < 4 && row < 256 && tick < 0x100000000
  | .tempReceived _ _ readings => readings.all fun t => -32768 ≤ t && t ≤ 32767
  | .ackReceived _ _ pos kind sub cmdId tick states dark pairs => pos < 8 && kind < 2 && sub < 4 && cmdId < 0x10000 && tick < 0x100000000 && states < 0x10000 && dark < 256 && pairs < 256
  | .nakReceived _ _ cause lane lane2 cmdId => 1 ≤ cause && cause ≤ 3 && lane < 256 && lane2 < 256 && cmdId < 0x10000
  | .statusReceived _ _ pos data => pos < 8 && data.length == 40
  | .returnLaneLost _ _ => true
  | .spareLaneFault _ _ lane => lane == 8 || lane == 17
  | .linkRecovery _ _ => true
  | .linkRecoveryEnd _ _ lanes _ _ => lanes.length == 12
  | .linkBringupEnd _ _ steps lanes _ _ _ => steps.length == 7 && lanes.length == 12
  | .linkBringupTimeout _ _ cause => 1 ≤ cause && cause ≤ 6
  | .linkWake _ _ => true
  | .tempTimeout _ stand => stand < 128
  | .standRemoved _ stand => stand < 128
  | .standRailRecovered _ stand => stand < 128
  | .refreshDue _ pc _ => pc < 128
  | .liveTrainAuto _ => true
  | .trainPassEnd _ _ => true
  | .setPointChangeStart _ => true
  | .setPointChangeEnd _ _ => true
  | .memCorrectedRead _ addr => addr < 0x2000000000
  | .memUncorrectableRead _ addr port => addr < 0x2000000000 && port ≤ 46
  | .rowSpare _ pc _ => pc < 128
  | .pageRetireCopyEnd _ _ _ => true
  | .frameBaseCopyEnd _ _ => true
  | .patrolScrub _ _ => true
  | .beaconSend _ => true
  | .beaconReceived _ _ data rx => data.length == 44 && rx.wf
  | .relayReceived _ _ _ seq desc _ rx => seq < 0x100000000 && desc.length == 64 && rx.wf
  | .mgmtReceived _ _ kind _ _ rx => (kind < 3 || kind == 5 || kind == 6) && rx.wf
  | .eventReceived _ _ sender record rx => sender < 256 && record.length == 64 && rx.wf
  | .portDead _ _ _ => true
  | .parentReturn _ _ => true
  | .skylinePortUp _ _ _ => true
  | .tickEdge _ _ => true
  | .readyInputChange _ _ _ => true
  | .hopMeasure _ _ _ => true
  | .readyGraceExpiry _ _ => true
  | .fsyncInEdge _ _ _ => true
  | .fsyncStuck _ => true
  | .ptpSync _ _ secs nanos _ => secs < 2 ^ 48 && nanos < 1000000000
  | .ptpAnnounce _ _ _ _ => true
  | .ptpAnnounceTimeout _ _ => true
  | .tpulseFire _ _ => true
  | .leaseRenewal _ _ => true
  | .leaseMissed _ => true
  | .leaseRequest _ _ _ => true
  | .routeLossTimeout _ _ => true
  | .mcDomainReset _ _ cut => cut ≤ 1024
  | .watchdogExpiry _ kind unit cut => kind < 13 && unit < 0x10000 && cut ≤ 1024
  | .regionErrorDetected _ kind unit cls _ => kind < 13 && unit < 0x10000 && 1 ≤ cls && cls ≤ 7
  | .handlerStart _ _ => true
  | .handlerTestEnd _ _ _ => true
  | .regionRetest _ kind unit => kind < 13 && unit < 0x10000
  | .dieColdReset _ _ => true
  | .diePowerUp _ _ => true
  | .ioBlockResume _ unit => unit < 83
  | .bellowsPowerUp _ => true
  | .historyRestoreEnd _ => true
  | .sysRstNAssert _ => true
  | .sysRstNRelease _ _ => true
  | .bundleVerifyEnd _ _ => true
  | .complexSelfTestEnd _ _ _ => true
  | .complexAbsent _ _ => true
  | .leadershipTimeout _ => true
  | .standbyReached _ => true
  | .skylineBundleRequest _ _ => true
  | .skylineBootRetry _ => true
  | .powerLoss _ rail => rail == 3 || rail == 9 || rail == 10
  | .journalFlushEnd _ _ => true
  | .recorderFlushEnd _ _ => true
  | .powerRestore _ => true
  | .coreRailRestored _ _ => true
  | .railFault _ rail mv => rail < 12 && mv < 0x10000
  | .holdupLow _ mv => mv < 10500
  | .tbrefLoss _ => true
  | .junctionSample _ temps => temps.length == 36
  | .thermalFence _ _ => true
  | .reedClockStep _ => true
  | .powerCapSample _ mw rails => mw < 0x100000000 && rails.length ≤ 12
  | .avsAdjust _ _ mv => 650 ≤ mv && mv ≤ 850 && mv % 5 == 0
  | .avsFailure _ _ => true
  | .evrCoalesceTimeout _ _ => true
  | .mirrorFault _ _ => true
  | .fwUpdateStageEnd _ outcome => outcome < 3
  | .handoverArm _ => true
  | .handoverGrant _ => true
  | .recordPadTimeout _ off => off < 0x400000
  | .recFlushTrigger _ => true
  | .recFlushEnd _ _ => true
  | .serviceHour _ => true
  | .mgmtDatagram _ _ data => data.length ≤ 8192
  | .droneInSync _ => true
  | .mcDomainRelease _ _ => true
  | .handlerTestTimeout _ _ => true
  | .reserveCopyEnd _ pc => pc < 128
  | .idlePowerDown _ pc sid => pc < 128 && sid < 4
  | .stackTempSample _ temps => temps.length == 4
  | .refreshRepay _ pc count => pc < 128 && count ≤ 4
  | .realTimePanic _ _ fill _ => fill ≤ 65536
  | .hopEcho _ _ => true
  | .ptpMessageInterval _ _ kind => kind < 3
  | .ptpDelayMessage _ _ kind secs nanos _ => kind < 2 && secs < 2 ^ 48 && nanos < 1000000000
  | .tbrefRestored _ => true
  | .perstNDeassert _ => true
  | .holdupOkSet _ mv => 10500 ≤ mv && mv ≤ 11500
  | .bellowsStop _ => true

/-- Time since the command before it, in units of 1/3 ns. -/
def Instr.dt : Instr → Nat
  | .sysIdentify dt _ _ => dt
  | .sysStatus dt _ _ => dt
  | .sysEventRoute dt _ _ => dt
  | .sysEcho dt _ _ => dt
  | .sysSpares dt _ _ => dt
  | .sysFaults dt _ _ => dt
  | .modeSet dt _ _ => dt
  | .modeGet dt _ _ => dt
  | .txnBegin dt _ _ => dt
  | .txnCommit dt _ _ => dt
  | .txnRollback dt _ _ => dt
  | .txnStatus dt _ _ => dt
  | .streamQueues dt _ _ => dt
  | .streamOpen dt _ _ => dt
  | .streamClose dt _ _ => dt
  | .streamKey dt _ _ => dt
  | .streamStats dt _ _ => dt
  | .sceneBind dt _ _ => dt
  | .scenePlace dt _ _ => dt
  | .sceneLift dt _ _ => dt
  | .composeLayer dt _ _ => dt
  | .composeUpdate dt _ _ => dt
  | .composeBlit dt _ _ => dt
  | .composeWatermark dt _ _ => dt
  | .composeDeadtime dt _ _ => dt
  | .calLoad dt _ _ => dt
  | .calSets dt _ _ => dt
  | .calMeasure dt _ _ => dt
  | .calPolicy dt _ _ => dt
  | .calRead dt _ _ => dt
  | .standMap dt _ _ => dt
  | .standLut dt _ _ => dt
  | .standStatus dt _ _ => dt
  | .standRelease dt _ _ => dt
  | .standAdmit dt _ _ => dt
  | .standLink dt _ _ => dt
  | .scanTiming dt _ _ => dt
  | .scanPrecharge dt _ _ => dt
  | .scanMeasurePlan dt _ _ => dt
  | .scanFrameBase dt _ _ => dt
  | .steerTable dt _ _ => dt
  | .steerStatus dt _ _ => dt
  | .steerJournal dt _ _ => dt
  | .memSetPoint dt _ _ => dt
  | .memOrdering dt _ _ => dt
  | .memTrain dt _ _ => dt
  | .memStatus dt _ _ => dt
  | .chainRole dt _ _ => dt
  | .chainRegion dt _ _ => dt
  | .chainGrace dt _ _ => dt
  | .chainStatus dt _ _ => dt
  | .timeSource dt _ _ => dt
  | .timePtp dt _ _ => dt
  | .timeGet dt _ _ => dt
  | .timeAcceptJump dt _ _ => dt
  | .timePulse dt _ _ => dt
  | .timeFsyncArm dt _ _ => dt
  | .secCerts dt _ _ => dt
  | .secAttest dt _ _ => dt
  | .secKemKey dt _ _ => dt
  | .secFwUpdate dt _ _ => dt
  | .secLifecycle dt _ _ => dt
  | .recTriggers dt _ _ => dt
  | .recFlush dt _ _ => dt
  | .recErase dt _ _ => dt
  | .pwrDomain dt _ _ => dt
  | .pwrStatus dt _ _ => dt
  | .pwrLimit dt _ _ => dt
  | .ring dt _ => dt
  | .coldWest dt _ => dt
  | .coldEast dt _ => dt
  | .glbApertureHiWrite dt _ => dt
  | .glbApertureLoWrite dt _ => dt
  | .ringEnable dt _ _ => dt
  | .ringDisable dt _ _ => dt
  | .evrCidxWrite dt _ _ => dt
  | .evrStatusRead dt _ => dt
  | .recDataRead dt => dt
  | .cmdsetRevRead dt _ _ => dt
  | .registerWrite dt _ _ => dt
  | .unmapped dt _ _ _ => dt
  | .badSize dt _ _ _ => dt
  | .bar2Read dt _ _ => dt
  | .bar2Write dt _ _ => dt
  | .bootBufferWrite dt _ _ => dt
  | .functionLevelReset dt => dt
  | .perstN dt => dt
  | .d3hotEntry dt => dt
  | .d0Return dt => dt
  | .mailboxStallTimeout dt _ => dt
  | .chainTimeout dt _ => dt
  | .txnTimeout dt _ => dt
  | .frameTick dt => dt
  | .frameBlank dt => dt
  | .subframeStart dt => dt
  | .leadDeadline dt _ => dt
  | .synthesisStart dt _ => dt
  | .kerfDeadline dt => dt
  | .scanOutStart dt => dt
  | .watermarkFire dt => dt
  | .liftPhaseEnd dt => dt
  | .liftTimeout dt => dt
  | .queuePoll dt _ _ _ => dt
  | .descriptorPlaced dt _ _ => dt
  | .fetchResume dt _ => dt
  | .decodeDone dt _ _ => dt
  | .drainTimeout dt _ => dt
  | .blitDone dt => dt
  | .bakeStart dt _ => dt
  | .bakeEnd dt _ => dt
  | .calOperationEnd dt _ _ _ => dt
  | .concealRebuildEnd dt _ => dt
  | .linkFrameReceived dt _ _ _ _ => dt
  | .replayTimeout dt _ => dt
  | .diagReceived dt _ _ _ _ _ _ _ _ => dt
  | .tempReceived dt _ _ => dt
  | .ackReceived dt _ _ _ _ _ _ _ _ _ => dt
  | .nakReceived dt _ _ _ _ _ => dt
  | .statusReceived dt _ _ _ => dt
  | .returnLaneLost dt _ => dt
  | .spareLaneFault dt _ _ => dt
  | .linkRecovery dt _ => dt
  | .linkRecoveryEnd dt _ _ _ _ => dt
  | .linkBringupEnd dt _ _ _ _ _ _ => dt
  | .linkBringupTimeout dt _ _ => dt
  | .linkWake dt _ => dt
  | .tempTimeout dt _ => dt
  | .standRemoved dt _ => dt
  | .standRailRecovered dt _ => dt
  | .refreshDue dt _ _ => dt
  | .liveTrainAuto dt => dt
  | .trainPassEnd dt _ => dt
  | .setPointChangeStart dt => dt
  | .setPointChangeEnd dt _ => dt
  | .memCorrectedRead dt _ => dt
  | .memUncorrectableRead dt _ _ => dt
  | .rowSpare dt _ _ => dt
  | .pageRetireCopyEnd dt _ _ => dt
  | .frameBaseCopyEnd dt _ => dt
  | .patrolScrub dt _ => dt
  | .beaconSend dt => dt
  | .beaconReceived dt _ _ _ => dt
  | .relayReceived dt _ _ _ _ _ _ => dt
  | .mgmtReceived dt _ _ _ _ _ => dt
  | .eventReceived dt _ _ _ _ => dt
  | .portDead dt _ _ => dt
  | .parentReturn dt _ => dt
  | .skylinePortUp dt _ _ => dt
  | .tickEdge dt _ => dt
  | .readyInputChange dt _ _ => dt
  | .hopMeasure dt _ _ => dt
  | .readyGraceExpiry dt _ => dt
  | .fsyncInEdge dt _ _ => dt
  | .fsyncStuck dt => dt
  | .ptpSync dt _ _ _ _ => dt
  | .ptpAnnounce dt _ _ _ => dt
  | .ptpAnnounceTimeout dt _ => dt
  | .tpulseFire dt _ => dt
  | .leaseRenewal dt _ => dt
  | .leaseMissed dt => dt
  | .leaseRequest dt _ _ => dt
  | .routeLossTimeout dt _ => dt
  | .mcDomainReset dt _ _ => dt
  | .watchdogExpiry dt _ _ _ => dt
  | .regionErrorDetected dt _ _ _ _ => dt
  | .handlerStart dt _ => dt
  | .handlerTestEnd dt _ _ => dt
  | .regionRetest dt _ _ => dt
  | .dieColdReset dt _ => dt
  | .diePowerUp dt _ => dt
  | .ioBlockResume dt _ => dt
  | .bellowsPowerUp dt => dt
  | .historyRestoreEnd dt => dt
  | .sysRstNAssert dt => dt
  | .sysRstNRelease dt _ => dt
  | .bundleVerifyEnd dt _ => dt
  | .complexSelfTestEnd dt _ _ => dt
  | .complexAbsent dt _ => dt
  | .leadershipTimeout dt => dt
  | .standbyReached dt => dt
  | .skylineBundleRequest dt _ => dt
  | .skylineBootRetry dt => dt
  | .powerLoss dt _ => dt
  | .journalFlushEnd dt _ => dt
  | .recorderFlushEnd dt _ => dt
  | .powerRestore dt => dt
  | .coreRailRestored dt _ => dt
  | .railFault dt _ _ => dt
  | .holdupLow dt _ => dt
  | .tbrefLoss dt => dt
  | .junctionSample dt _ => dt
  | .thermalFence dt _ => dt
  | .reedClockStep dt => dt
  | .powerCapSample dt _ _ => dt
  | .avsAdjust dt _ _ => dt
  | .avsFailure dt _ => dt
  | .evrCoalesceTimeout dt _ => dt
  | .mirrorFault dt _ => dt
  | .fwUpdateStageEnd dt _ => dt
  | .handoverArm dt => dt
  | .handoverGrant dt => dt
  | .recordPadTimeout dt _ => dt
  | .recFlushTrigger dt => dt
  | .recFlushEnd dt _ => dt
  | .serviceHour dt => dt
  | .mgmtDatagram dt _ _ => dt
  | .droneInSync dt => dt
  | .mcDomainRelease dt _ => dt
  | .handlerTestTimeout dt _ => dt
  | .reserveCopyEnd dt _ => dt
  | .idlePowerDown dt _ _ => dt
  | .stackTempSample dt _ => dt
  | .refreshRepay dt _ _ => dt
  | .realTimePanic dt _ _ _ => dt
  | .hopEcho dt _ => dt
  | .ptpMessageInterval dt _ _ => dt
  | .ptpDelayMessage dt _ _ _ _ _ => dt
  | .tbrefRestored dt => dt
  | .perstNDeassert dt => dt
  | .holdupOkSet dt _ => dt
  | .bellowsStop dt => dt

/-- The same command after another time. -/
def Instr.after (dt : Nat) : Instr → Instr
  | .sysIdentify _ h p => .sysIdentify dt h p
  | .sysStatus _ h p => .sysStatus dt h p
  | .sysEventRoute _ h p => .sysEventRoute dt h p
  | .sysEcho _ h p => .sysEcho dt h p
  | .sysSpares _ h p => .sysSpares dt h p
  | .sysFaults _ h p => .sysFaults dt h p
  | .modeSet _ h p => .modeSet dt h p
  | .modeGet _ h p => .modeGet dt h p
  | .txnBegin _ h p => .txnBegin dt h p
  | .txnCommit _ h p => .txnCommit dt h p
  | .txnRollback _ h p => .txnRollback dt h p
  | .txnStatus _ h p => .txnStatus dt h p
  | .streamQueues _ h p => .streamQueues dt h p
  | .streamOpen _ h p => .streamOpen dt h p
  | .streamClose _ h p => .streamClose dt h p
  | .streamKey _ h p => .streamKey dt h p
  | .streamStats _ h p => .streamStats dt h p
  | .sceneBind _ h p => .sceneBind dt h p
  | .scenePlace _ h p => .scenePlace dt h p
  | .sceneLift _ h p => .sceneLift dt h p
  | .composeLayer _ h p => .composeLayer dt h p
  | .composeUpdate _ h p => .composeUpdate dt h p
  | .composeBlit _ h p => .composeBlit dt h p
  | .composeWatermark _ h p => .composeWatermark dt h p
  | .composeDeadtime _ h p => .composeDeadtime dt h p
  | .calLoad _ h p => .calLoad dt h p
  | .calSets _ h p => .calSets dt h p
  | .calMeasure _ h p => .calMeasure dt h p
  | .calPolicy _ h p => .calPolicy dt h p
  | .calRead _ h p => .calRead dt h p
  | .standMap _ h p => .standMap dt h p
  | .standLut _ h p => .standLut dt h p
  | .standStatus _ h p => .standStatus dt h p
  | .standRelease _ h p => .standRelease dt h p
  | .standAdmit _ h p => .standAdmit dt h p
  | .standLink _ h p => .standLink dt h p
  | .scanTiming _ h p => .scanTiming dt h p
  | .scanPrecharge _ h p => .scanPrecharge dt h p
  | .scanMeasurePlan _ h p => .scanMeasurePlan dt h p
  | .scanFrameBase _ h p => .scanFrameBase dt h p
  | .steerTable _ h p => .steerTable dt h p
  | .steerStatus _ h p => .steerStatus dt h p
  | .steerJournal _ h p => .steerJournal dt h p
  | .memSetPoint _ h p => .memSetPoint dt h p
  | .memOrdering _ h p => .memOrdering dt h p
  | .memTrain _ h p => .memTrain dt h p
  | .memStatus _ h p => .memStatus dt h p
  | .chainRole _ h p => .chainRole dt h p
  | .chainRegion _ h p => .chainRegion dt h p
  | .chainGrace _ h p => .chainGrace dt h p
  | .chainStatus _ h p => .chainStatus dt h p
  | .timeSource _ h p => .timeSource dt h p
  | .timePtp _ h p => .timePtp dt h p
  | .timeGet _ h p => .timeGet dt h p
  | .timeAcceptJump _ h p => .timeAcceptJump dt h p
  | .timePulse _ h p => .timePulse dt h p
  | .timeFsyncArm _ h p => .timeFsyncArm dt h p
  | .secCerts _ h p => .secCerts dt h p
  | .secAttest _ h p => .secAttest dt h p
  | .secKemKey _ h p => .secKemKey dt h p
  | .secFwUpdate _ h p => .secFwUpdate dt h p
  | .secLifecycle _ h p => .secLifecycle dt h p
  | .recTriggers _ h p => .recTriggers dt h p
  | .recFlush _ h p => .recFlush dt h p
  | .recErase _ h p => .recErase dt h p
  | .pwrDomain _ h p => .pwrDomain dt h p
  | .pwrStatus _ h p => .pwrStatus dt h p
  | .pwrLimit _ h p => .pwrLimit dt h p
  | .ring _ m => .ring dt m
  | .coldWest _ v => .coldWest dt v
  | .coldEast _ v => .coldEast dt v
  | .glbApertureHiWrite _ v => .glbApertureHiWrite dt v
  | .glbApertureLoWrite _ v => .glbApertureLoWrite dt v
  | .ringEnable _ r v => .ringEnable dt r v
  | .ringDisable _ r v => .ringDisable dt r v
  | .evrCidxWrite _ r v => .evrCidxWrite dt r v
  | .evrStatusRead _ r => .evrStatusRead dt r
  | .recDataRead _ => .recDataRead dt
  | .cmdsetRevRead _ off len => .cmdsetRevRead dt off len
  | .registerWrite _ off data => .registerWrite dt off data
  | .unmapped _ off len write => .unmapped dt off len write
  | .badSize _ off len write => .badSize dt off len write
  | .bar2Read _ off len => .bar2Read dt off len
  | .bar2Write _ off data => .bar2Write dt off data
  | .bootBufferWrite _ off data => .bootBufferWrite dt off data
  | .functionLevelReset _ => .functionLevelReset dt
  | .perstN _ => .perstN dt
  | .d3hotEntry _ => .d3hotEntry dt
  | .d0Return _ => .d0Return dt
  | .mailboxStallTimeout _ m => .mailboxStallTimeout dt m
  | .chainTimeout _ m => .chainTimeout dt m
  | .txnTimeout _ id => .txnTimeout dt id
  | .frameTick _ => .frameTick dt
  | .frameBlank _ => .frameBlank dt
  | .subframeStart _ => .subframeStart dt
  | .leadDeadline _ sizes => .leadDeadline dt sizes
  | .synthesisStart _ costs => .synthesisStart dt costs
  | .kerfDeadline _ => .kerfDeadline dt
  | .scanOutStart _ => .scanOutStart dt
  | .watermarkFire _ => .watermarkFire dt
  | .liftPhaseEnd _ => .liftPhaseEnd dt
  | .liftTimeout _ => .liftTimeout dt
  | .queuePoll _ q pidx descs => .queuePoll dt q pidx descs
  | .descriptorPlaced _ q found => .descriptorPlaced dt q found
  | .fetchResume _ n => .fetchResume dt n
  | .decodeDone _ n found => .decodeDone dt n found
  | .drainTimeout _ n => .drainTimeout dt n
  | .blitDone _ => .blitDone dt
  | .bakeStart _ die => .bakeStart dt die
  | .bakeEnd _ stand => .bakeEnd dt stand
  | .calOperationEnd _ stand header cells => .calOperationEnd dt stand header cells
  | .concealRebuildEnd _ stand => .concealRebuildEnd dt stand
  | .linkFrameReceived _ l blocks spare sent => .linkFrameReceived dt l blocks spare sent
  | .replayTimeout _ l => .replayTimeout dt l
  | .diagReceived _ l pos kind sub row tick first data => .diagReceived dt l pos kind sub row tick first data
  | .tempReceived _ l readings => .tempReceived dt l readings
  | .ackReceived _ l pos kind sub cmdId tick states dark pairs => .ackReceived dt l pos kind sub cmdId tick states dark pairs
  | .nakReceived _ l cause lane lane2 cmdId => .nakReceived dt l cause lane lane2 cmdId
  | .statusReceived _ l pos data => .statusReceived dt l pos data
  | .returnLaneLost _ l => .returnLaneLost dt l
  | .spareLaneFault _ l lane => .spareLaneFault dt l lane
  | .linkRecovery _ l => .linkRecovery dt l
  | .linkRecoveryEnd _ l lanes order ret => .linkRecoveryEnd dt l lanes order ret
  | .linkBringupEnd _ l steps lanes frameErrs order ret => .linkBringupEnd dt l steps lanes frameErrs order ret
  | .linkBringupTimeout _ l cause => .linkBringupTimeout dt l cause
  | .linkWake _ l => .linkWake dt l
  | .tempTimeout _ stand => .tempTimeout dt stand
  | .standRemoved _ stand => .standRemoved dt stand
  | .standRailRecovered _ stand => .standRailRecovered dt stand
  | .refreshDue _ pc realTime => .refreshDue dt pc realTime
  | .liveTrainAuto _ => .liveTrainAuto dt
  | .trainPassEnd _ ok => .trainPassEnd dt ok
  | .setPointChangeStart _ => .setPointChangeStart dt
  | .setPointChangeEnd _ ok => .setPointChangeEnd dt ok
  | .memCorrectedRead _ addr => .memCorrectedRead dt addr
  | .memUncorrectableRead _ addr port => .memUncorrectableRead dt addr port
  | .rowSpare _ pc row => .rowSpare dt pc row
  | .pageRetireCopyEnd _ die page => .pageRetireCopyEnd dt die page
  | .frameBaseCopyEnd _ die => .frameBaseCopyEnd dt die
  | .patrolScrub _ die => .patrolScrub dt die
  | .beaconSend _ => .beaconSend dt
  | .beaconReceived _ p data rx => .beaconReceived dt p data rx
  | .relayReceived _ p n seq desc found rx => .relayReceived dt p n seq desc found rx
  | .mgmtReceived _ p kind m data rx => .mgmtReceived dt p kind m data rx
  | .eventReceived _ p sender record rx => .eventReceived dt p sender record rx
  | .portDead _ p lockLost => .portDead dt p lockLost
  | .parentReturn _ p => .parentReturn dt p
  | .skylinePortUp _ p full => .skylinePortUp dt p full
  | .tickEdge _ p => .tickEdge dt p
  | .readyInputChange _ p level => .readyInputChange dt p level
  | .hopMeasure _ p roundPs => .hopMeasure dt p roundPs
  | .readyGraceExpiry _ p => .readyGraceExpiry dt p
  | .fsyncInEdge _ falling widthNs => .fsyncInEdge dt falling widthNs
  | .fsyncStuck _ => .fsyncStuck dt
  | .ptpSync _ n secs nanos corr => .ptpSync dt n secs nanos corr
  | .ptpAnnounce _ n identity selects => .ptpAnnounce dt n identity selects
  | .ptpAnnounceTimeout _ n => .ptpAnnounceTimeout dt n
  | .tpulseFire _ n => .tpulseFire dt n
  | .leaseRenewal _ die => .leaseRenewal dt die
  | .leaseMissed _ => .leaseMissed dt
  | .leaseRequest _ west east => .leaseRequest dt west east
  | .routeLossTimeout _ die => .routeLossTimeout dt die
  | .mcDomainReset _ die cut => .mcDomainReset dt die cut
  | .watchdogExpiry _ kind unit cut => .watchdogExpiry dt kind unit cut
  | .regionErrorDetected _ kind unit cls hit => .regionErrorDetected dt kind unit cls hit
  | .handlerStart _ die => .handlerStart dt die
  | .handlerTestEnd _ die pass => .handlerTestEnd dt die pass
  | .regionRetest _ kind unit => .regionRetest dt kind unit
  | .dieColdReset _ die => .dieColdReset dt die
  | .diePowerUp _ die => .diePowerUp dt die
  | .ioBlockResume _ unit => .ioBlockResume dt unit
  | .bellowsPowerUp _ => .bellowsPowerUp dt
  | .historyRestoreEnd _ => .historyRestoreEnd dt
  | .sysRstNAssert _ => .sysRstNAssert dt
  | .sysRstNRelease _ straps => .sysRstNRelease dt straps
  | .bundleVerifyEnd _ sent => .bundleVerifyEnd dt sent
  | .complexSelfTestEnd _ die ok => .complexSelfTestEnd dt die ok
  | .complexAbsent _ die => .complexAbsent dt die
  | .leadershipTimeout _ => .leadershipTimeout dt
  | .standbyReached _ => .standbyReached dt
  | .skylineBundleRequest _ p => .skylineBundleRequest dt p
  | .skylineBootRetry _ => .skylineBootRetry dt
  | .powerLoss _ rail => .powerLoss dt rail
  | .journalFlushEnd _ ok => .journalFlushEnd dt ok
  | .recorderFlushEnd _ ok => .recorderFlushEnd dt ok
  | .powerRestore _ => .powerRestore dt
  | .coreRailRestored _ die => .coreRailRestored dt die
  | .railFault _ rail mv => .railFault dt rail mv
  | .holdupLow _ mv => .holdupLow dt mv
  | .tbrefLoss _ => .tbrefLoss dt
  | .junctionSample _ temps => .junctionSample dt temps
  | .thermalFence _ k => .thermalFence dt k
  | .reedClockStep _ => .reedClockStep dt
  | .powerCapSample _ mw rails => .powerCapSample dt mw rails
  | .avsAdjust _ die mv => .avsAdjust dt die mv
  | .avsFailure _ die => .avsFailure dt die
  | .evrCoalesceTimeout _ r => .evrCoalesceTimeout dt r
  | .mirrorFault _ r => .mirrorFault dt r
  | .fwUpdateStageEnd _ outcome => .fwUpdateStageEnd dt outcome
  | .handoverArm _ => .handoverArm dt
  | .handoverGrant _ => .handoverGrant dt
  | .recordPadTimeout _ off => .recordPadTimeout dt off
  | .recFlushTrigger _ => .recFlushTrigger dt
  | .recFlushEnd _ ok => .recFlushEnd dt ok
  | .serviceHour _ => .serviceHour dt
  | .mgmtDatagram _ n data => .mgmtDatagram dt n data
  | .droneInSync _ => .droneInSync dt
  | .mcDomainRelease _ die => .mcDomainRelease dt die
  | .handlerTestTimeout _ die => .handlerTestTimeout dt die
  | .reserveCopyEnd _ pc => .reserveCopyEnd dt pc
  | .idlePowerDown _ pc sid => .idlePowerDown dt pc sid
  | .stackTempSample _ temps => .stackTempSample dt temps
  | .refreshRepay _ pc count => .refreshRepay dt pc count
  | .realTimePanic _ port fill owes => .realTimePanic dt port fill owes
  | .hopEcho _ p => .hopEcho dt p
  | .ptpMessageInterval _ n kind => .ptpMessageInterval dt n kind
  | .ptpDelayMessage _ n kind secs nanos corr => .ptpDelayMessage dt n kind secs nanos corr
  | .tbrefRestored _ => .tbrefRestored dt
  | .perstNDeassert _ => .perstNDeassert dt
  | .holdupOkSet _ mv => .holdupOkSet dt mv
  | .bellowsStop _ => .bellowsStop dt

end Sys2Proof
end

