-- ==== Sys2Proof/Laws/PerInstr.lean ====
section
/-! SUPPORT. A law stated per command: whether a command is well formed does not depend on the time that passed before it, and
that time is what `after` sets. -/

namespace Sys2Proof.Laws.WfTimeless

/-- Well-formedness of a command depends on its operands alone. -/
def Statement (i : Sys2Proof.Instr) : Prop := ∀ n : Nat, (i.after n).wf = i.wf ∧ (i.after n).dt = n

theorem sysIdentify (dt : Nat) (h : Sys2Proof.CmdHdr) (p : List Sys2Proof.Byte) : Statement (.sysIdentify dt h p) := fun _ => ⟨rfl, rfl⟩
theorem sysStatus (dt : Nat) (h : Sys2Proof.CmdHdr) (p : List Sys2Proof.Byte) : Statement (.sysStatus dt h p) := fun _ => ⟨rfl, rfl⟩
theorem sysEventRoute (dt : Nat) (h : Sys2Proof.CmdHdr) (p : List Sys2Proof.Byte) : Statement (.sysEventRoute dt h p) := fun _ => ⟨rfl, rfl⟩
theorem sysEcho (dt : Nat) (h : Sys2Proof.CmdHdr) (p : List Sys2Proof.Byte) : Statement (.sysEcho dt h p) := fun _ => ⟨rfl, rfl⟩
theorem sysSpares (dt : Nat) (h : Sys2Proof.CmdHdr) (p : List Sys2Proof.Byte) : Statement (.sysSpares dt h p) := fun _ => ⟨rfl, rfl⟩
theorem sysFaults (dt : Nat) (h : Sys2Proof.CmdHdr) (p : List Sys2Proof.Byte) : Statement (.sysFaults dt h p) := fun _ => ⟨rfl, rfl⟩
theorem modeSet (dt : Nat) (h : Sys2Proof.CmdHdr) (p : List Sys2Proof.Byte) : Statement (.modeSet dt h p) := fun _ => ⟨rfl, rfl⟩
theorem modeGet (dt : Nat) (h : Sys2Proof.CmdHdr) (p : List Sys2Proof.Byte) : Statement (.modeGet dt h p) := fun _ => ⟨rfl, rfl⟩
theorem txnBegin (dt : Nat) (h : Sys2Proof.CmdHdr) (p : List Sys2Proof.Byte) : Statement (.txnBegin dt h p) := fun _ => ⟨rfl, rfl⟩
theorem txnCommit (dt : Nat) (h : Sys2Proof.CmdHdr) (p : List Sys2Proof.Byte) : Statement (.txnCommit dt h p) := fun _ => ⟨rfl, rfl⟩
theorem txnRollback (dt : Nat) (h : Sys2Proof.CmdHdr) (p : List Sys2Proof.Byte) : Statement (.txnRollback dt h p) := fun _ => ⟨rfl, rfl⟩
theorem txnStatus (dt : Nat) (h : Sys2Proof.CmdHdr) (p : List Sys2Proof.Byte) : Statement (.txnStatus dt h p) := fun _ => ⟨rfl, rfl⟩
theorem streamQueues (dt : Nat) (h : Sys2Proof.CmdHdr) (p : List Sys2Proof.Byte) : Statement (.streamQueues dt h p) := fun _ => ⟨rfl, rfl⟩
theorem streamOpen (dt : Nat) (h : Sys2Proof.CmdHdr) (p : List Sys2Proof.Byte) : Statement (.streamOpen dt h p) := fun _ => ⟨rfl, rfl⟩
theorem streamClose (dt : Nat) (h : Sys2Proof.CmdHdr) (p : List Sys2Proof.Byte) : Statement (.streamClose dt h p) := fun _ => ⟨rfl, rfl⟩
theorem streamKey (dt : Nat) (h : Sys2Proof.CmdHdr) (p : List Sys2Proof.Byte) : Statement (.streamKey dt h p) := fun _ => ⟨rfl, rfl⟩
theorem streamStats (dt : Nat) (h : Sys2Proof.CmdHdr) (p : List Sys2Proof.Byte) : Statement (.streamStats dt h p) := fun _ => ⟨rfl, rfl⟩
theorem sceneBind (dt : Nat) (h : Sys2Proof.CmdHdr) (p : List Sys2Proof.Byte) : Statement (.sceneBind dt h p) := fun _ => ⟨rfl, rfl⟩
theorem scenePlace (dt : Nat) (h : Sys2Proof.CmdHdr) (p : List Sys2Proof.Byte) : Statement (.scenePlace dt h p) := fun _ => ⟨rfl, rfl⟩
theorem sceneLift (dt : Nat) (h : Sys2Proof.CmdHdr) (p : List Sys2Proof.Byte) : Statement (.sceneLift dt h p) := fun _ => ⟨rfl, rfl⟩
theorem composeLayer (dt : Nat) (h : Sys2Proof.CmdHdr) (p : List Sys2Proof.Byte) : Statement (.composeLayer dt h p) := fun _ => ⟨rfl, rfl⟩
theorem composeUpdate (dt : Nat) (h : Sys2Proof.CmdHdr) (p : List Sys2Proof.Byte) : Statement (.composeUpdate dt h p) := fun _ => ⟨rfl, rfl⟩
theorem composeBlit (dt : Nat) (h : Sys2Proof.CmdHdr) (p : List Sys2Proof.Byte) : Statement (.composeBlit dt h p) := fun _ => ⟨rfl, rfl⟩
theorem composeWatermark (dt : Nat) (h : Sys2Proof.CmdHdr) (p : List Sys2Proof.Byte) : Statement (.composeWatermark dt h p) := fun _ => ⟨rfl, rfl⟩
theorem composeDeadtime (dt : Nat) (h : Sys2Proof.CmdHdr) (p : List Sys2Proof.Byte) : Statement (.composeDeadtime dt h p) := fun _ => ⟨rfl, rfl⟩
theorem calLoad (dt : Nat) (h : Sys2Proof.CmdHdr) (p : List Sys2Proof.Byte) : Statement (.calLoad dt h p) := fun _ => ⟨rfl, rfl⟩
theorem calSets (dt : Nat) (h : Sys2Proof.CmdHdr) (p : List Sys2Proof.Byte) : Statement (.calSets dt h p) := fun _ => ⟨rfl, rfl⟩
theorem calMeasure (dt : Nat) (h : Sys2Proof.CmdHdr) (p : List Sys2Proof.Byte) : Statement (.calMeasure dt h p) := fun _ => ⟨rfl, rfl⟩
theorem calPolicy (dt : Nat) (h : Sys2Proof.CmdHdr) (p : List Sys2Proof.Byte) : Statement (.calPolicy dt h p) := fun _ => ⟨rfl, rfl⟩
theorem calRead (dt : Nat) (h : Sys2Proof.CmdHdr) (p : List Sys2Proof.Byte) : Statement (.calRead dt h p) := fun _ => ⟨rfl, rfl⟩
theorem standMap (dt : Nat) (h : Sys2Proof.CmdHdr) (p : List Sys2Proof.Byte) : Statement (.standMap dt h p) := fun _ => ⟨rfl, rfl⟩
theorem standLut (dt : Nat) (h : Sys2Proof.CmdHdr) (p : List Sys2Proof.Byte) : Statement (.standLut dt h p) := fun _ => ⟨rfl, rfl⟩
theorem standStatus (dt : Nat) (h : Sys2Proof.CmdHdr) (p : List Sys2Proof.Byte) : Statement (.standStatus dt h p) := fun _ => ⟨rfl, rfl⟩
theorem standRelease (dt : Nat) (h : Sys2Proof.CmdHdr) (p : List Sys2Proof.Byte) : Statement (.standRelease dt h p) := fun _ => ⟨rfl, rfl⟩
theorem standAdmit (dt : Nat) (h : Sys2Proof.CmdHdr) (p : List Sys2Proof.Byte) : Statement (.standAdmit dt h p) := fun _ => ⟨rfl, rfl⟩
theorem standLink (dt : Nat) (h : Sys2Proof.CmdHdr) (p : List Sys2Proof.Byte) : Statement (.standLink dt h p) := fun _ => ⟨rfl, rfl⟩
theorem scanTiming (dt : Nat) (h : Sys2Proof.CmdHdr) (p : List Sys2Proof.Byte) : Statement (.scanTiming dt h p) := fun _ => ⟨rfl, rfl⟩
theorem scanPrecharge (dt : Nat) (h : Sys2Proof.CmdHdr) (p : List Sys2Proof.Byte) : Statement (.scanPrecharge dt h p) := fun _ => ⟨rfl, rfl⟩
theorem scanMeasurePlan (dt : Nat) (h : Sys2Proof.CmdHdr) (p : List Sys2Proof.Byte) : Statement (.scanMeasurePlan dt h p) := fun _ => ⟨rfl, rfl⟩
theorem scanFrameBase (dt : Nat) (h : Sys2Proof.CmdHdr) (p : List Sys2Proof.Byte) : Statement (.scanFrameBase dt h p) := fun _ => ⟨rfl, rfl⟩
theorem steerTable (dt : Nat) (h : Sys2Proof.CmdHdr) (p : List Sys2Proof.Byte) : Statement (.steerTable dt h p) := fun _ => ⟨rfl, rfl⟩
theorem steerStatus (dt : Nat) (h : Sys2Proof.CmdHdr) (p : List Sys2Proof.Byte) : Statement (.steerStatus dt h p) := fun _ => ⟨rfl, rfl⟩
theorem steerJournal (dt : Nat) (h : Sys2Proof.CmdHdr) (p : List Sys2Proof.Byte) : Statement (.steerJournal dt h p) := fun _ => ⟨rfl, rfl⟩
theorem memSetPoint (dt : Nat) (h : Sys2Proof.CmdHdr) (p : List Sys2Proof.Byte) : Statement (.memSetPoint dt h p) := fun _ => ⟨rfl, rfl⟩
theorem memOrdering (dt : Nat) (h : Sys2Proof.CmdHdr) (p : List Sys2Proof.Byte) : Statement (.memOrdering dt h p) := fun _ => ⟨rfl, rfl⟩
theorem memTrain (dt : Nat) (h : Sys2Proof.CmdHdr) (p : List Sys2Proof.Byte) : Statement (.memTrain dt h p) := fun _ => ⟨rfl, rfl⟩
theorem memStatus (dt : Nat) (h : Sys2Proof.CmdHdr) (p : List Sys2Proof.Byte) : Statement (.memStatus dt h p) := fun _ => ⟨rfl, rfl⟩
theorem chainRole (dt : Nat) (h : Sys2Proof.CmdHdr) (p : List Sys2Proof.Byte) : Statement (.chainRole dt h p) := fun _ => ⟨rfl, rfl⟩
theorem chainRegion (dt : Nat) (h : Sys2Proof.CmdHdr) (p : List Sys2Proof.Byte) : Statement (.chainRegion dt h p) := fun _ => ⟨rfl, rfl⟩
theorem chainGrace (dt : Nat) (h : Sys2Proof.CmdHdr) (p : List Sys2Proof.Byte) : Statement (.chainGrace dt h p) := fun _ => ⟨rfl, rfl⟩
theorem chainStatus (dt : Nat) (h : Sys2Proof.CmdHdr) (p : List Sys2Proof.Byte) : Statement (.chainStatus dt h p) := fun _ => ⟨rfl, rfl⟩
theorem timeSource (dt : Nat) (h : Sys2Proof.CmdHdr) (p : List Sys2Proof.Byte) : Statement (.timeSource dt h p) := fun _ => ⟨rfl, rfl⟩
theorem timePtp (dt : Nat) (h : Sys2Proof.CmdHdr) (p : List Sys2Proof.Byte) : Statement (.timePtp dt h p) := fun _ => ⟨rfl, rfl⟩
theorem timeGet (dt : Nat) (h : Sys2Proof.CmdHdr) (p : List Sys2Proof.Byte) : Statement (.timeGet dt h p) := fun _ => ⟨rfl, rfl⟩
theorem timeAcceptJump (dt : Nat) (h : Sys2Proof.CmdHdr) (p : List Sys2Proof.Byte) : Statement (.timeAcceptJump dt h p) := fun _ => ⟨rfl, rfl⟩
theorem timePulse (dt : Nat) (h : Sys2Proof.CmdHdr) (p : List Sys2Proof.Byte) : Statement (.timePulse dt h p) := fun _ => ⟨rfl, rfl⟩
theorem timeFsyncArm (dt : Nat) (h : Sys2Proof.CmdHdr) (p : List Sys2Proof.Byte) : Statement (.timeFsyncArm dt h p) := fun _ => ⟨rfl, rfl⟩
theorem secCerts (dt : Nat) (h : Sys2Proof.CmdHdr) (p : List Sys2Proof.Byte) : Statement (.secCerts dt h p) := fun _ => ⟨rfl, rfl⟩
theorem secAttest (dt : Nat) (h : Sys2Proof.CmdHdr) (p : List Sys2Proof.Byte) : Statement (.secAttest dt h p) := fun _ => ⟨rfl, rfl⟩
theorem secKemKey (dt : Nat) (h : Sys2Proof.CmdHdr) (p : List Sys2Proof.Byte) : Statement (.secKemKey dt h p) := fun _ => ⟨rfl, rfl⟩
theorem secFwUpdate (dt : Nat) (h : Sys2Proof.CmdHdr) (p : List Sys2Proof.Byte) : Statement (.secFwUpdate dt h p) := fun _ => ⟨rfl, rfl⟩
theorem secLifecycle (dt : Nat) (h : Sys2Proof.CmdHdr) (p : List Sys2Proof.Byte) : Statement (.secLifecycle dt h p) := fun _ => ⟨rfl, rfl⟩
theorem recTriggers (dt : Nat) (h : Sys2Proof.CmdHdr) (p : List Sys2Proof.Byte) : Statement (.recTriggers dt h p) := fun _ => ⟨rfl, rfl⟩
theorem recFlush (dt : Nat) (h : Sys2Proof.CmdHdr) (p : List Sys2Proof.Byte) : Statement (.recFlush dt h p) := fun _ => ⟨rfl, rfl⟩
theorem recErase (dt : Nat) (h : Sys2Proof.CmdHdr) (p : List Sys2Proof.Byte) : Statement (.recErase dt h p) := fun _ => ⟨rfl, rfl⟩
theorem pwrDomain (dt : Nat) (h : Sys2Proof.CmdHdr) (p : List Sys2Proof.Byte) : Statement (.pwrDomain dt h p) := fun _ => ⟨rfl, rfl⟩
theorem pwrStatus (dt : Nat) (h : Sys2Proof.CmdHdr) (p : List Sys2Proof.Byte) : Statement (.pwrStatus dt h p) := fun _ => ⟨rfl, rfl⟩
theorem pwrLimit (dt : Nat) (h : Sys2Proof.CmdHdr) (p : List Sys2Proof.Byte) : Statement (.pwrLimit dt h p) := fun _ => ⟨rfl, rfl⟩
theorem ring (dt : Nat) (m : Fin 8) : Statement (.ring dt m) := fun _ => ⟨rfl, rfl⟩
theorem coldWest (dt : Nat) (v : Sys2Proof.Word) : Statement (.coldWest dt v) := fun _ => ⟨rfl, rfl⟩
theorem coldEast (dt : Nat) (v : Sys2Proof.Word) : Statement (.coldEast dt v) := fun _ => ⟨rfl, rfl⟩
theorem glbApertureHiWrite (dt : Nat) (v : Sys2Proof.Word) : Statement (.glbApertureHiWrite dt v) := fun _ => ⟨rfl, rfl⟩
theorem glbApertureLoWrite (dt : Nat) (v : Sys2Proof.Word) : Statement (.glbApertureLoWrite dt v) := fun _ => ⟨rfl, rfl⟩
theorem ringEnable (dt : Nat) (r : Fin 4) (v : Sys2Proof.Word) : Statement (.ringEnable dt r v) := fun _ => ⟨rfl, rfl⟩
theorem ringDisable (dt : Nat) (r : Fin 4) (v : Sys2Proof.Word) : Statement (.ringDisable dt r v) := fun _ => ⟨rfl, rfl⟩
theorem evrCidxWrite (dt : Nat) (r : Fin 4) (v : Sys2Proof.Word) : Statement (.evrCidxWrite dt r v) := fun _ => ⟨rfl, rfl⟩
theorem evrStatusRead (dt : Nat) (r : Fin 4) : Statement (.evrStatusRead dt r) := fun _ => ⟨rfl, rfl⟩
theorem recDataRead (dt : Nat) : Statement (.recDataRead dt) := fun _ => ⟨rfl, rfl⟩
theorem cmdsetRevRead (dt : Nat) (off : Nat) (len : Nat) : Statement (.cmdsetRevRead dt off len) := fun _ => ⟨rfl, rfl⟩
theorem registerWrite (dt : Nat) (off : Nat) (data : List Sys2Proof.Byte) : Statement (.registerWrite dt off data) := fun _ => ⟨rfl, rfl⟩
theorem unmapped (dt : Nat) (off : Nat) (len : Nat) (write : Bool) : Statement (.unmapped dt off len write) := fun _ => ⟨rfl, rfl⟩
theorem badSize (dt : Nat) (off : Nat) (len : Nat) (write : Bool) : Statement (.badSize dt off len write) := fun _ => ⟨rfl, rfl⟩
theorem bar2Read (dt : Nat) (off : Nat) (len : Nat) : Statement (.bar2Read dt off len) := fun _ => ⟨rfl, rfl⟩
theorem bar2Write (dt : Nat) (off : Nat) (data : List Sys2Proof.Byte) : Statement (.bar2Write dt off data) := fun _ => ⟨rfl, rfl⟩
theorem bootBufferWrite (dt : Nat) (off : Nat) (data : List Sys2Proof.Byte) : Statement (.bootBufferWrite dt off data) := fun _ => ⟨rfl, rfl⟩
theorem functionLevelReset (dt : Nat) : Statement (.functionLevelReset dt) := fun _ => ⟨rfl, rfl⟩
theorem perstN (dt : Nat) : Statement (.perstN dt) := fun _ => ⟨rfl, rfl⟩
theorem d3hotEntry (dt : Nat) : Statement (.d3hotEntry dt) := fun _ => ⟨rfl, rfl⟩
theorem d0Return (dt : Nat) : Statement (.d0Return dt) := fun _ => ⟨rfl, rfl⟩
theorem mailboxStallTimeout (dt : Nat) (m : Fin 8) : Statement (.mailboxStallTimeout dt m) := fun _ => ⟨rfl, rfl⟩
theorem chainTimeout (dt : Nat) (m : Fin 8) : Statement (.chainTimeout dt m) := fun _ => ⟨rfl, rfl⟩
theorem txnTimeout (dt : Nat) (id : Nat) : Statement (.txnTimeout dt id) := fun _ => ⟨rfl, rfl⟩
theorem frameTick (dt : Nat) : Statement (.frameTick dt) := fun _ => ⟨rfl, rfl⟩
theorem frameBlank (dt : Nat) : Statement (.frameBlank dt) := fun _ => ⟨rfl, rfl⟩
theorem subframeStart (dt : Nat) : Statement (.subframeStart dt) := fun _ => ⟨rfl, rfl⟩
theorem leadDeadline (dt : Nat) (sizes : List (Nat × Nat × Nat × Nat)) : Statement (.leadDeadline dt sizes) := fun _ => ⟨rfl, rfl⟩
theorem synthesisStart (dt : Nat) (costs : List (Nat × Nat × Nat)) : Statement (.synthesisStart dt costs) := fun _ => ⟨rfl, rfl⟩
theorem kerfDeadline (dt : Nat) : Statement (.kerfDeadline dt) := fun _ => ⟨rfl, rfl⟩
theorem scanOutStart (dt : Nat) : Statement (.scanOutStart dt) := fun _ => ⟨rfl, rfl⟩
theorem watermarkFire (dt : Nat) : Statement (.watermarkFire dt) := fun _ => ⟨rfl, rfl⟩
theorem liftPhaseEnd (dt : Nat) : Statement (.liftPhaseEnd dt) := fun _ => ⟨rfl, rfl⟩
theorem liftTimeout (dt : Nat) : Statement (.liftTimeout dt) := fun _ => ⟨rfl, rfl⟩
theorem queuePoll (dt : Nat) (q : Fin 16) (pidx : Option Nat) (descs : List (Option (List Sys2Proof.Byte))) : Statement (.queuePoll dt q pidx descs) := fun _ => ⟨rfl, rfl⟩
theorem descriptorPlaced (dt : Nat) (q : Fin 16) (found : Sys2Proof.Placed) : Statement (.descriptorPlaced dt q found) := fun _ => ⟨rfl, rfl⟩
theorem fetchResume (dt : Nat) (n : Fin 8) : Statement (.fetchResume dt n) := fun _ => ⟨rfl, rfl⟩
theorem decodeDone (dt : Nat) (n : Fin 8) (found : List Sys2Proof.Picture) : Statement (.decodeDone dt n found) := fun _ => ⟨rfl, rfl⟩
theorem drainTimeout (dt : Nat) (n : Fin 8) : Statement (.drainTimeout dt n) := fun _ => ⟨rfl, rfl⟩
theorem blitDone (dt : Nat) : Statement (.blitDone dt) := fun _ => ⟨rfl, rfl⟩
theorem bakeStart (dt : Nat) (die : Fin 2) : Statement (.bakeStart dt die) := fun _ => ⟨rfl, rfl⟩
theorem bakeEnd (dt : Nat) (stand : Nat) : Statement (.bakeEnd dt stand) := fun _ => ⟨rfl, rfl⟩
theorem calOperationEnd (dt : Nat) (stand : Nat) (header : List Sys2Proof.Byte) (cells : List (Nat × Sys2Proof.Byte)) : Statement (.calOperationEnd dt stand header cells) := fun _ => ⟨rfl, rfl⟩
theorem concealRebuildEnd (dt : Nat) (stand : Nat) : Statement (.concealRebuildEnd dt stand) := fun _ => ⟨rfl, rfl⟩
theorem linkFrameReceived (dt : Nat) (l : Fin 16) (blocks : List (Nat × Nat)) (spare : List (Nat × Nat)) (sent : Nat) : Statement (.linkFrameReceived dt l blocks spare sent) := fun _ => ⟨rfl, rfl⟩
theorem replayTimeout (dt : Nat) (l : Fin 16) : Statement (.replayTimeout dt l) := fun _ => ⟨rfl, rfl⟩
theorem diagReceived (dt : Nat) (l : Fin 16) (pos : Nat) (kind : Nat) (sub : Nat) (row : Nat) (tick : Nat) (first : Nat) (data : List Sys2Proof.Byte) : Statement (.diagReceived dt l pos kind sub row tick first data) := fun _ => ⟨rfl, rfl⟩
theorem tempReceived (dt : Nat) (l : Fin 16) (readings : List Int) : Statement (.tempReceived dt l readings) := fun _ => ⟨rfl, rfl⟩
theorem ackReceived (dt : Nat) (l : Fin 16) (pos : Nat) (kind : Nat) (sub : Nat) (cmdId : Nat) (tick : Nat) (states : Nat) (dark : Nat) (pairs : Nat) : Statement (.ackReceived dt l pos kind sub cmdId tick states dark pairs) := fun _ => ⟨rfl, rfl⟩
theorem nakReceived (dt : Nat) (l : Fin 16) (cause : Nat) (lane : Nat) (lane2 : Nat) (cmdId : Nat) : Statement (.nakReceived dt l cause lane lane2 cmdId) := fun _ => ⟨rfl, rfl⟩
theorem statusReceived (dt : Nat) (l : Fin 16) (pos : Nat) (data : List Sys2Proof.Byte) : Statement (.statusReceived dt l pos data) := fun _ => ⟨rfl, rfl⟩
theorem returnLaneLost (dt : Nat) (l : Fin 16) : Statement (.returnLaneLost dt l) := fun _ => ⟨rfl, rfl⟩
theorem spareLaneFault (dt : Nat) (l : Fin 16) (lane : Nat) : Statement (.spareLaneFault dt l lane) := fun _ => ⟨rfl, rfl⟩
theorem linkRecovery (dt : Nat) (l : Fin 16) : Statement (.linkRecovery dt l) := fun _ => ⟨rfl, rfl⟩
theorem linkRecoveryEnd (dt : Nat) (l : Fin 16) (lanes : List Sys2Proof.LaneReport) (order : List Nat) (ret : List (List Sys2Proof.Byte)) : Statement (.linkRecoveryEnd dt l lanes order ret) := fun _ => ⟨rfl, rfl⟩
theorem linkBringupEnd (dt : Nat) (l : Fin 16) (steps : List Nat) (lanes : List Sys2Proof.LaneReport) (frameErrs : Bool) (order : List Nat) (ret : List (List Sys2Proof.Byte)) : Statement (.linkBringupEnd dt l steps lanes frameErrs order ret) := fun _ => ⟨rfl, rfl⟩
theorem linkBringupTimeout (dt : Nat) (l : Fin 16) (cause : Nat) : Statement (.linkBringupTimeout dt l cause) := fun _ => ⟨rfl, rfl⟩
theorem linkWake (dt : Nat) (l : Fin 16) : Statement (.linkWake dt l) := fun _ => ⟨rfl, rfl⟩
theorem tempTimeout (dt : Nat) (stand : Nat) : Statement (.tempTimeout dt stand) := fun _ => ⟨rfl, rfl⟩
theorem standRemoved (dt : Nat) (stand : Nat) : Statement (.standRemoved dt stand) := fun _ => ⟨rfl, rfl⟩
theorem standRailRecovered (dt : Nat) (stand : Nat) : Statement (.standRailRecovered dt stand) := fun _ => ⟨rfl, rfl⟩
theorem refreshDue (dt : Nat) (pc : Nat) (realTime : Bool) : Statement (.refreshDue dt pc realTime) := fun _ => ⟨rfl, rfl⟩
theorem liveTrainAuto (dt : Nat) : Statement (.liveTrainAuto dt) := fun _ => ⟨rfl, rfl⟩
theorem trainPassEnd (dt : Nat) (ok : Bool) : Statement (.trainPassEnd dt ok) := fun _ => ⟨rfl, rfl⟩
theorem setPointChangeStart (dt : Nat) : Statement (.setPointChangeStart dt) := fun _ => ⟨rfl, rfl⟩
theorem setPointChangeEnd (dt : Nat) (ok : Bool) : Statement (.setPointChangeEnd dt ok) := fun _ => ⟨rfl, rfl⟩
theorem memCorrectedRead (dt : Nat) (addr : Nat) : Statement (.memCorrectedRead dt addr) := fun _ => ⟨rfl, rfl⟩
theorem memUncorrectableRead (dt : Nat) (addr : Nat) (port : Nat) : Statement (.memUncorrectableRead dt addr port) := fun _ => ⟨rfl, rfl⟩
theorem rowSpare (dt : Nat) (pc : Nat) (row : Nat) : Statement (.rowSpare dt pc row) := fun _ => ⟨rfl, rfl⟩
theorem pageRetireCopyEnd (dt : Nat) (die : Fin 2) (page : Nat) : Statement (.pageRetireCopyEnd dt die page) := fun _ => ⟨rfl, rfl⟩
theorem frameBaseCopyEnd (dt : Nat) (die : Fin 2) : Statement (.frameBaseCopyEnd dt die) := fun _ => ⟨rfl, rfl⟩
theorem patrolScrub (dt : Nat) (die : Fin 2) : Statement (.patrolScrub dt die) := fun _ => ⟨rfl, rfl⟩
theorem beaconSend (dt : Nat) : Statement (.beaconSend dt) := fun _ => ⟨rfl, rfl⟩
theorem beaconReceived (dt : Nat) (p : Fin 4) (data : List Sys2Proof.Byte) (rx : Sys2Proof.SkyRx) : Statement (.beaconReceived dt p data rx) := fun _ => ⟨rfl, rfl⟩
theorem relayReceived (dt : Nat) (p : Fin 4) (n : Fin 8) (seq : Nat) (desc : List Sys2Proof.Byte) (found : Sys2Proof.Placed) (rx : Sys2Proof.SkyRx) : Statement (.relayReceived dt p n seq desc found rx) := fun _ => ⟨rfl, rfl⟩
theorem mgmtReceived (dt : Nat) (p : Fin 4) (kind : Nat) (m : Fin 8) (data : List Sys2Proof.Byte) (rx : Sys2Proof.SkyRx) : Statement (.mgmtReceived dt p kind m data rx) := fun _ => ⟨rfl, rfl⟩
theorem eventReceived (dt : Nat) (p : Fin 4) (sender : Nat) (record : List Sys2Proof.Byte) (rx : Sys2Proof.SkyRx) : Statement (.eventReceived dt p sender record rx) := fun _ => ⟨rfl, rfl⟩
theorem portDead (dt : Nat) (p : Fin 4) (lockLost : Bool) : Statement (.portDead dt p lockLost) := fun _ => ⟨rfl, rfl⟩
theorem parentReturn (dt : Nat) (p : Fin 4) : Statement (.parentReturn dt p) := fun _ => ⟨rfl, rfl⟩
theorem skylinePortUp (dt : Nat) (p : Fin 4) (full : Bool) : Statement (.skylinePortUp dt p full) := fun _ => ⟨rfl, rfl⟩
theorem tickEdge (dt : Nat) (p : Fin 4) : Statement (.tickEdge dt p) := fun _ => ⟨rfl, rfl⟩
theorem readyInputChange (dt : Nat) (p : Fin 4) (level : Bool) : Statement (.readyInputChange dt p level) := fun _ => ⟨rfl, rfl⟩
theorem hopMeasure (dt : Nat) (p : Fin 4) (roundPs : Nat) : Statement (.hopMeasure dt p roundPs) := fun _ => ⟨rfl, rfl⟩
theorem readyGraceExpiry (dt : Nat) (p : Fin 4) : Statement (.readyGraceExpiry dt p) := fun _ => ⟨rfl, rfl⟩
theorem fsyncInEdge (dt : Nat) (falling : Bool) (widthNs : Nat) : Statement (.fsyncInEdge dt falling widthNs) := fun _ => ⟨rfl, rfl⟩
theorem fsyncStuck (dt : Nat) : Statement (.fsyncStuck dt) := fun _ => ⟨rfl, rfl⟩
theorem ptpSync (dt : Nat) (n : Fin 2) (secs : Nat) (nanos : Nat) (corr : Int) : Statement (.ptpSync dt n secs nanos corr) := fun _ => ⟨rfl, rfl⟩
theorem ptpAnnounce (dt : Nat) (n : Fin 2) (identity : BitVec 64) (selects : Bool) : Statement (.ptpAnnounce dt n identity selects) := fun _ => ⟨rfl, rfl⟩
theorem ptpAnnounceTimeout (dt : Nat) (n : Fin 2) : Statement (.ptpAnnounceTimeout dt n) := fun _ => ⟨rfl, rfl⟩
theorem tpulseFire (dt : Nat) (n : Fin 4) : Statement (.tpulseFire dt n) := fun _ => ⟨rfl, rfl⟩
theorem leaseRenewal (dt : Nat) (die : Fin 2) : Statement (.leaseRenewal dt die) := fun _ => ⟨rfl, rfl⟩
theorem leaseMissed (dt : Nat) : Statement (.leaseMissed dt) := fun _ => ⟨rfl, rfl⟩
theorem leaseRequest (dt : Nat) (west : Bool) (east : Bool) : Statement (.leaseRequest dt west east) := fun _ => ⟨rfl, rfl⟩
theorem routeLossTimeout (dt : Nat) (die : Fin 2) : Statement (.routeLossTimeout dt die) := fun _ => ⟨rfl, rfl⟩
theorem mcDomainReset (dt : Nat) (die : Fin 2) (cut : Nat) : Statement (.mcDomainReset dt die cut) := fun _ => ⟨rfl, rfl⟩
theorem watchdogExpiry (dt : Nat) (kind : Nat) (unit : Nat) (cut : Nat) : Statement (.watchdogExpiry dt kind unit cut) := fun _ => ⟨rfl, rfl⟩
theorem regionErrorDetected (dt : Nat) (kind : Nat) (unit : Nat) (cls : Nat) (hit : Option (Fin 8)) : Statement (.regionErrorDetected dt kind unit cls hit) := fun _ => ⟨rfl, rfl⟩
theorem handlerStart (dt : Nat) (die : Fin 2) : Statement (.handlerStart dt die) := fun _ => ⟨rfl, rfl⟩
theorem handlerTestEnd (dt : Nat) (die : Fin 2) (pass : Bool) : Statement (.handlerTestEnd dt die pass) := fun _ => ⟨rfl, rfl⟩
theorem regionRetest (dt : Nat) (kind : Nat) (unit : Nat) : Statement (.regionRetest dt kind unit) := fun _ => ⟨rfl, rfl⟩
theorem dieColdReset (dt : Nat) (die : Fin 2) : Statement (.dieColdReset dt die) := fun _ => ⟨rfl, rfl⟩
theorem diePowerUp (dt : Nat) (die : Fin 2) : Statement (.diePowerUp dt die) := fun _ => ⟨rfl, rfl⟩
theorem ioBlockResume (dt : Nat) (unit : Nat) : Statement (.ioBlockResume dt unit) := fun _ => ⟨rfl, rfl⟩
theorem bellowsPowerUp (dt : Nat) : Statement (.bellowsPowerUp dt) := fun _ => ⟨rfl, rfl⟩
theorem historyRestoreEnd (dt : Nat) : Statement (.historyRestoreEnd dt) := fun _ => ⟨rfl, rfl⟩
theorem sysRstNAssert (dt : Nat) : Statement (.sysRstNAssert dt) := fun _ => ⟨rfl, rfl⟩
theorem sysRstNRelease (dt : Nat) (straps : BitVec 3) : Statement (.sysRstNRelease dt straps) := fun _ => ⟨rfl, rfl⟩
theorem bundleVerifyEnd (dt : Nat) (sent : List Sys2Proof.Byte) : Statement (.bundleVerifyEnd dt sent) := fun _ => ⟨rfl, rfl⟩
theorem complexSelfTestEnd (dt : Nat) (die : Fin 2) (ok : Bool) : Statement (.complexSelfTestEnd dt die ok) := fun _ => ⟨rfl, rfl⟩
theorem complexAbsent (dt : Nat) (die : Fin 2) : Statement (.complexAbsent dt die) := fun _ => ⟨rfl, rfl⟩
theorem leadershipTimeout (dt : Nat) : Statement (.leadershipTimeout dt) := fun _ => ⟨rfl, rfl⟩
theorem standbyReached (dt : Nat) : Statement (.standbyReached dt) := fun _ => ⟨rfl, rfl⟩
theorem skylineBundleRequest (dt : Nat) (p : Fin 4) : Statement (.skylineBundleRequest dt p) := fun _ => ⟨rfl, rfl⟩
theorem skylineBootRetry (dt : Nat) : Statement (.skylineBootRetry dt) := fun _ => ⟨rfl, rfl⟩
theorem powerLoss (dt : Nat) (rail : Nat) : Statement (.powerLoss dt rail) := fun _ => ⟨rfl, rfl⟩
theorem journalFlushEnd (dt : Nat) (ok : Bool) : Statement (.journalFlushEnd dt ok) := fun _ => ⟨rfl, rfl⟩
theorem recorderFlushEnd (dt : Nat) (ok : Bool) : Statement (.recorderFlushEnd dt ok) := fun _ => ⟨rfl, rfl⟩
theorem powerRestore (dt : Nat) : Statement (.powerRestore dt) := fun _ => ⟨rfl, rfl⟩
theorem coreRailRestored (dt : Nat) (die : Fin 2) : Statement (.coreRailRestored dt die) := fun _ => ⟨rfl, rfl⟩
theorem railFault (dt : Nat) (rail : Nat) (mv : Nat) : Statement (.railFault dt rail mv) := fun _ => ⟨rfl, rfl⟩
theorem holdupLow (dt : Nat) (mv : Nat) : Statement (.holdupLow dt mv) := fun _ => ⟨rfl, rfl⟩
theorem tbrefLoss (dt : Nat) : Statement (.tbrefLoss dt) := fun _ => ⟨rfl, rfl⟩
theorem junctionSample (dt : Nat) (temps : List Int) : Statement (.junctionSample dt temps) := fun _ => ⟨rfl, rfl⟩
theorem thermalFence (dt : Nat) (k : Fin 3) : Statement (.thermalFence dt k) := fun _ => ⟨rfl, rfl⟩
theorem reedClockStep (dt : Nat) : Statement (.reedClockStep dt) := fun _ => ⟨rfl, rfl⟩
theorem powerCapSample (dt : Nat) (mw : Nat) (rails : List (Nat × Nat)) : Statement (.powerCapSample dt mw rails) := fun _ => ⟨rfl, rfl⟩
theorem avsAdjust (dt : Nat) (die : Fin 2) (mv : Nat) : Statement (.avsAdjust dt die mv) := fun _ => ⟨rfl, rfl⟩
theorem avsFailure (dt : Nat) (die : Fin 2) : Statement (.avsFailure dt die) := fun _ => ⟨rfl, rfl⟩
theorem evrCoalesceTimeout (dt : Nat) (r : Fin 4) : Statement (.evrCoalesceTimeout dt r) := fun _ => ⟨rfl, rfl⟩
theorem mirrorFault (dt : Nat) (r : Fin 4) : Statement (.mirrorFault dt r) := fun _ => ⟨rfl, rfl⟩
theorem fwUpdateStageEnd (dt : Nat) (outcome : Nat) : Statement (.fwUpdateStageEnd dt outcome) := fun _ => ⟨rfl, rfl⟩
theorem handoverArm (dt : Nat) : Statement (.handoverArm dt) := fun _ => ⟨rfl, rfl⟩
theorem handoverGrant (dt : Nat) : Statement (.handoverGrant dt) := fun _ => ⟨rfl, rfl⟩
theorem recordPadTimeout (dt : Nat) (off : Nat) : Statement (.recordPadTimeout dt off) := fun _ => ⟨rfl, rfl⟩
theorem recFlushTrigger (dt : Nat) : Statement (.recFlushTrigger dt) := fun _ => ⟨rfl, rfl⟩
theorem recFlushEnd (dt : Nat) (ok : Bool) : Statement (.recFlushEnd dt ok) := fun _ => ⟨rfl, rfl⟩
theorem serviceHour (dt : Nat) : Statement (.serviceHour dt) := fun _ => ⟨rfl, rfl⟩
theorem mgmtDatagram (dt : Nat) (n : Fin 2) (data : List Sys2Proof.Byte) : Statement (.mgmtDatagram dt n data) := fun _ => ⟨rfl, rfl⟩
theorem droneInSync (dt : Nat) : Statement (.droneInSync dt) := fun _ => ⟨rfl, rfl⟩
theorem mcDomainRelease (dt : Nat) (die : Fin 2) : Statement (.mcDomainRelease dt die) := fun _ => ⟨rfl, rfl⟩
theorem handlerTestTimeout (dt : Nat) (die : Fin 2) : Statement (.handlerTestTimeout dt die) := fun _ => ⟨rfl, rfl⟩
theorem reserveCopyEnd (dt : Nat) (pc : Nat) : Statement (.reserveCopyEnd dt pc) := fun _ => ⟨rfl, rfl⟩
theorem idlePowerDown (dt : Nat) (pc : Nat) (sid : Nat) : Statement (.idlePowerDown dt pc sid) := fun _ => ⟨rfl, rfl⟩
theorem stackTempSample (dt : Nat) (temps : List (Option Int)) : Statement (.stackTempSample dt temps) := fun _ => ⟨rfl, rfl⟩
theorem refreshRepay (dt : Nat) (pc : Nat) (count : Nat) : Statement (.refreshRepay dt pc count) := fun _ => ⟨rfl, rfl⟩
theorem realTimePanic (dt : Nat) (port : Fin 16) (fill : Nat) (owes : Bool) : Statement (.realTimePanic dt port fill owes) := fun _ => ⟨rfl, rfl⟩
theorem hopEcho (dt : Nat) (p : Fin 4) : Statement (.hopEcho dt p) := fun _ => ⟨rfl, rfl⟩
theorem ptpMessageInterval (dt : Nat) (n : Fin 2) (kind : Nat) : Statement (.ptpMessageInterval dt n kind) := fun _ => ⟨rfl, rfl⟩
theorem ptpDelayMessage (dt : Nat) (n : Fin 2) (kind : Nat) (secs : Nat) (nanos : Nat) (corr : Int) : Statement (.ptpDelayMessage dt n kind secs nanos corr) := fun _ => ⟨rfl, rfl⟩
theorem tbrefRestored (dt : Nat) : Statement (.tbrefRestored dt) := fun _ => ⟨rfl, rfl⟩
theorem perstNDeassert (dt : Nat) : Statement (.perstNDeassert dt) := fun _ => ⟨rfl, rfl⟩
theorem holdupOkSet (dt : Nat) (mv : Nat) : Statement (.holdupOkSet dt mv) := fun _ => ⟨rfl, rfl⟩
theorem bellowsStop (dt : Nat) : Statement (.bellowsStop dt) := fun _ => ⟨rfl, rfl⟩

end Sys2Proof.Laws.WfTimeless
end

