-- ==== Sys2Proof/Machine/Light.lean ====
section
/-! DEFINITION. What a stand makes of what the A9 sends it (R249 to R259, R268 to R273): instants of the line slots, widths of a
code, what a measurement or sweep slot emits, the balance of a probe pulse, and the two buffers of held class.  The stand receiver
and the hogel drivers are companion parts: these are the behaviours that the A9 requires of the far end of a link, and no command
of the table shows them. -/

namespace Sys2Proof.Machine

/-! ### Instants (R249 to R251) -/

/-- S, µs: exactly (P − B) / 4. -/
def subUs (rate : Nat) : Rat := ((1000000 : Rat) / rate - 100) / 4

/-- L, µs: the line slots tile what the steering window leaves of a sub-frame. -/
def lineUs (rate : Nat) : Rat := (subUs rate - 120) / (16 * passes rate)

/-- Start of line slot `k` of pass `q` of sub-frame `s`, µs after the tick (R250). -/
def slotUs (rate s q k : Nat) : Rat := s * subUs rate + 120 + (16 * q + k : Nat) * lineUs rate

/-- One clock of the grayscale clock, µs: 225 MHz × 13 / 40 (R252). -/
def clockUs : Rat := 40 / (225 * 13)

/-- The light of a line slot, µs from its start: the pulse-width window opens and closes, the row discharge starts and ends (R251). -/
def windowUs : Rat × Rat × Rat × Rat := (3 / 5, 3 / 5 + 1024 * clockUs, 3 / 5 + 1024 * clockUs, 3 / 5 + 1024 * clockUs + 1 / 2)

/-- What a column carries while it is pre-charged, µs from the slot's start: WIDTH clocks from 0, none for a probed channel (R251, R259, R271). -/
def prechargeUs (width : Nat) (probed : Bool) : Option Rat := if width = 0 ∨ probed then none else some (width * clockUs)

/-- A probe pulse, µs from its slot's start: 30 clocks from 0.100 (R271). -/
def probeUs : Rat × Rat := (1 / 10, 1 / 10 + 30 * clockUs)

/-! ### Widths of a code (R252) -/

/-- The widths of red, green and blue that a 30-bit code gives by the stand's table (R178, R252, R331). -/
def widthsOf (tb : List Byte) (code : Nat) : List Nat :=
  (List.range 3).map fun ch => u16 tb (2048 * ch + 2 * (code / 1024 ^ (2 - ch) % 1024)) % 16384

/-- What channels emit in a pass, per segment: length and start (R253, R254); the rate gives the passes, 2^`m` is the spread count. -/
def emitted (rate w m phase q : Nat) : List (Nat × Nat) := segments ((portions w (Nat.log2 (passes rate))).getD q 0) m phase

/-! ### Measurement slots and the sweep (R268 to R270) -/

/-- The one segment of a measured channel, from the window's opening: the portion of the pass before, in pass 0 its own (R268, R269). -/
def measuredSegment (rate w q : Nat) : Nat := (portions w (Nat.log2 (passes rate))).getD (q - 1) 0

/-- A sample of a measured channel exists. -/
def sampled (rate w q : Nat) : Bool := 30 ≤ measuredSegment rate w q

/-- Row that a measurement slot of Calibrate measures (R269). -/
def calRow (rate s q k : Nat) : Nat := if rate = 120 then 128 * (s % 2) + 16 * q + k else 16 * q + k

/-- Sweep row of sub-frame `s` of frame `t` (R270). -/
def sweepRow (t s : Nat) : Nat := 4 * (t % 64) + s

/-- Line slot of pass 0 and the hogel rows that a sweep row checks. -/
def sweepSlot (n : Nat) : Nat × List Nat := (n % 16, (List.range 8).map (8 * (n / 16) + ·))

/-- How a channel is checked in a sweep slot: 0 not at all, 1 on its own light, 2 on a probe pulse (R270). -/
def sweepCheck (listed : Bool) (w : Nat) (segs : List (Nat × Nat)) : Nat :=
  if listed ∨ w = 0 then 0 else if segs.any fun g => 30 ≤ g.1 then 1 else 2

/-! ### The balance of a probe (R271, R272) -/

/-- Passes 1 to P − 1, P = 2^n, in the rank order of R253. -/
def rankOrder (n : Nat) : List Nat := ((List.range (2 ^ n)).map (bitrev n)).filter (· != 0)

/-- Clocks added to the passes, one per pass in rank order, again and again. -/
def addClocks (n extra : Nat) (ps : List Nat) : List Nat :=
  ps.mapIdx fun q p =>
    match (rankOrder n).findIdx? (· == q) with
    | none => p
    | some r => p + extra / (2 ^ n - 1) + b2n (decide (r < extra % (2 ^ n - 1)))

/-- Clocks removed from the passes in rank order, none below 0, and what is left to remove (DEDUCED, log entry 136). -/
def removeClocks (n d : Nat) (ps : List Nat) : List Nat × Nat :=
  (rankOrder n).foldl (fun (a : List Nat × Nat) q =>
    let k := min a.2 (a.1.getD q 0)
    (upd a.1 q fun p => p - k, a.2 - k)) (ps, d)

/-- A probed channel's portions and its carry into the next frame (R272); pass 0 emits none of its own segments (R271). -/
def probeBalance (n w : Nat) : List Nat × Nat :=
  let ps := portions w n
  let p0 := ps.getD 0 0
  if 30 < p0 then (upd (addClocks n (p0 - 30) ps) 0 fun _ => 0, 0)
  else
    let r := removeClocks n (30 - p0) ps
    (upd r.1 0 fun _ => 0, r.2)

/-- Width of the next frame after a carry; a transition frame and a held stand drop the carry (R272). -/
def afterCarry (w carry : Nat) (dropped : Bool) : Nat := if dropped then w else w - carry

/-! ### Held class (R256) -/

/-- A hogel driver's grayscale memory and what its stand receiver counts: the widths shown and those being loaded, ticks run on
without a SYNC packet, and whether the stand is blanked. -/
structure FarStand where
  shown : List Nat := []
  loading : List Nat := []
  held : Bool := false
  missed : Nat := 0
  dark : Bool := false
  deriving DecidableEq, Repr

/-- A frame of widths reaches the stand: a loading frame is displayed and written into the inactive buffer. -/
def FarStand.streamed (f : FarStand) (ws : List Nat) (loadingFrame : Bool) : FarStand :=
  { f with shown := ws, loading := if loadingFrame then ws else f.loading, held := false, missed := 0
           dark := f.dark && !loadingFrame }

/-- The tick of a held frame: with its SYNC packet the buffers swap after a loading frame; without it the stand runs on for up to 4
ticks, and the fifth in a row blanks it until its next loading frame. -/
def FarStand.heldTick (f : FarStand) (sync : Bool) : FarStand :=
  if sync then { f with held := true, shown := if f.held then f.shown else f.loading, missed := 0 }
  else { f with missed := f.missed + 1, dark := f.dark || 5 ≤ f.missed + 1 }

/-- Loss of link lock blanks the stand at once (R256). -/
def FarStand.unlocked (f : FarStand) : FarStand := { f with dark := true }

/-- Widths the stand lights. -/
def FarStand.light (f : FarStand) : List Nat := if f.dark then f.shown.map fun _ => 0 else f.shown

end Sys2Proof.Machine
end

