-- ==== Sys2Proof/Tests/Slice0.lean ====
section
/-! SUPPORT. The model's own tests: ill-formed commands are refused, worked examples of the spec come out as it gives them, and for
every statement with hypotheses a theorem `witness_<statement>` shows states and operands that meet them, clause by clause and at
the boundaries of their ranges. -/

namespace Sys2Proof.Tests

open Sys2Proof Sys2Proof.Machine

/-! ### Small states -/

/-- An A9 in Standby whose chanter, on die West, serves; the host has read the revision. -/
def awake : State := { State.reset with
  modes := { State.reset.modes with standby := true, bootStage := 4, drone := 3 }
  pcie := { State.reset.pcie with revRead := true }
  recorder := { State.reset.recorder with restoring := false }
  fs := { State.reset.fs with avail := [true, true], trained := [4, 4], lastTrainTemp := [300, 300, 300, 300] }
  bellows := { State.reset.bellows with
    holder := some 0, role := some 0, capMv := 11000
    complexes := [{ present := true, passed := true, supervises := true }, { present := true, passed := true, supervises := true }] } }

/-- The same with the Cruise table showing it. -/
def up : State := { awake with pcie := { awake.pcie with shown := awake.cruiseView } }

/-- The same in another mode. -/
def inMode (m : Nat) (s : State) : State := { s with modes := { s.modes with mode := m } }

/-- A stream held in slot 0, fed by queue 0. -/
def stream0 : SceneStream := { queue := 0, format := 2, bufferMib := 16 }

/-- One stand on link 0, which is up, in a play mode; stream 0 is open. -/
def play : State := { inMode 2 up with
  settings := { up.settings with mode := 2, mapped := true, stands := [{ link := 0, serial := 1 }], links := { rate := 1 } :: up.settings.links.tail
                                 streams := some {} :: up.settings.streams.tail }
  stands := [{ seen := true, dark := false, temp := some 300 }]
  links := { ({} : Link) with state := 2 } :: up.links.tail
  ingest := { up.ingest with queues := { log2 := 4 } :: up.ingest.queues.tail, streams := some stream0 :: up.ingest.streams.tail } }

/-- An open transaction of mailbox 0 with ID 8. -/
def inTxn (s : State) : State := { s with txns := [{ id := 8, timeoutMs := 5000 }], txnCount := 1 }

/-- Whether a command starts in a state, as the kernel can evaluate it. -/
def startsOk (d : CmdDef) (h : CmdHdr) (p : List Byte) (s : State) : Bool :=
  s.barLive && s.serves && !s.fw.armed && (s.mbx h.mbx).state != 1 && (s.mbx h.mbx).state != 2 && !(d.cmd h p).tunnel &&
  (Err.pick ((d.cmd h p).headerErrs d (s.begun 0 d h p) ++ d.checks (s.begun 0 d h p) (d.cmd h p) ++
    (s.begun 0 d h p).txnErrs d (d.cmd h p))).isNone

/-- It says what it is meant to. -/
theorem starts_of {d : CmdDef} {h : CmdHdr} {p : List Byte} {s : State} (ok : startsOk d h p s = true) : d.Starts 0 h p s := by
  unfold startsOk at ok
  simp only [Bool.and_eq_true, Bool.not_eq_true', bne_iff_ne, Option.isNone_iff_eq_none] at ok
  obtain ⟨⟨⟨⟨⟨⟨h1, h2⟩, h3⟩, h4⟩, h5⟩, h6⟩, h7⟩ := ok
  exact ⟨⟨h1, h2, h3, h4, h5⟩, h6, h7⟩

/-! ### Well-formed commands -/

/-- A firmware command is well formed up to 4,080 bytes of payload. -/
theorem test_wf_firmware {i : Instr} {d : CmdDef} {dt : Nat} {h : CmdHdr} {p : List Byte} (hi : firmwareOf i = some (d, dt, h, p)) :
    i.wf = decide (p.length ≤ 4080) := by
  cases i <;> simp only [firmwareOf, Option.some.injEq, Prod.mk.injEq, reduceCtorEq] at hi
  all_goals (obtain ⟨rfl, rfl, rfl, rfl⟩ := hi; rfl)

/-- A payload of one byte more is refused. -/
theorem test_wf_payload (p : List Byte) (h : p.length = 4081) : (Instr.sysEcho 0 {} p).wf = false := by simp [Instr.wf, h]

/-- Each check refuses an operand out of its range: host accesses and instants. -/
theorem test_wf_host : [
    Instr.cmdsetRevRead 0 5473 4, .cmdsetRevRead 0 5472 1, .cmdsetRevRead 0 5412 65, .registerWrite 0 0xFFFFFF [1, 2],
    .registerWrite 0 0x20000 (List.replicate 65 0), .unmapped 0 0xFFFFFE 4 false, .unmapped 0 0x90000 2 true, .badSize 0 0xFFFFFF 2 false,
    .badSize 0 0 0 true, .bar2Read 0 0xFFFFFFFF 2, .bar2Read 0 0 0, .bar2Write 0 0xFFFFFFFF [1, 2], .bar2Write 0 0 [],
    .bootBufferWrite 0 0xFFFFFF [1, 2], .bootBufferWrite 0 0 [], .txnTimeout 0 0x100000000, .synthesisStart 0 [(128, 0, 0)],
    .synthesisStart 0 [(0, 8192, 0)], .queuePoll 0 0 (some 0x100000000) [], .queuePoll 0 0 (some 0) [some [1]],
    .decodeDone 0 0 [{ sub := 0x10000 }]].all (fun i => !i.wf) = true := by decide

/-- Each check refuses an operand out of its range: calibration, links, memory. -/
theorem test_wf_wall : [
    Instr.bakeEnd 0 128, .calOperationEnd 0 128 [] [], .calOperationEnd 0 0 (List.replicate 65 0) [], .concealRebuildEnd 0 128,
    .linkFrameReceived 0 0 [(4, 0)] [] 0, .linkFrameReceived 0 0 [] [(0, 0x100000000000000000000000000000000)] 0, .diagReceived 0 0 8 0 0 0 0 0 [],
    .diagReceived 0 0 0 4 0 0 0 0 [], .diagReceived 0 0 0 0 4 0 0 0 [], .diagReceived 0 0 0 0 0 256 0 0 [],
    .diagReceived 0 0 0 0 0 0 0x100000000 0 [], .tempReceived 0 0 [-32769], .tempReceived 0 0 [32768], .ackReceived 0 0 8 0 0 0 0 0 0 0,
    .ackReceived 0 0 0 2 0 0 0 0 0 0, .ackReceived 0 0 0 0 4 0 0 0 0 0, .ackReceived 0 0 0 0 0 0x10000 0 0 0 0,
    .ackReceived 0 0 0 0 0 0 0x100000000 0 0 0, .ackReceived 0 0 0 0 0 0 0 0x10000 0 0, .ackReceived 0 0 0 0 0 0 0 0 256 0,
    .ackReceived 0 0 0 0 0 0 0 0 0 256, .nakReceived 0 0 0 0 0 0, .nakReceived 0 0 4 0 0 0, .nakReceived 0 0 1 256 0 0,
    .nakReceived 0 0 1 0 256 0, .nakReceived 0 0 1 0 0 0x10000, .statusReceived 0 0 8 (List.replicate 40 0), .statusReceived 0 0 0 [],
    .spareLaneFault 0 0 9, .linkRecoveryEnd 0 0 [{}] [] [], .linkBringupEnd 0 0 [] (List.replicate 12 {}) false [] [],
    .linkBringupEnd 0 0 (List.replicate 7 0) [{}] false [] [], .realTimePanic 0 0 65537 false, .bar2Read 0 4095 2, .bar2Read 0 0 513,
    .bar2Write 0 0 [], .bootBufferWrite 0 4095 [1, 2], .linkBringupTimeout 0 0 0, .linkBringupTimeout 0 0 7, .tempTimeout 0 128, .standRemoved 0 128,
    .standRailRecovered 0 128, .refreshDue 0 128 false, .memCorrectedRead 0 0x2000000000, .memUncorrectableRead 0 0x2000000000 0,
    .memUncorrectableRead 0 0 47, .rowSpare 0 128 0, .reserveCopyEnd 0 128, .idlePowerDown 0 128 0, .idlePowerDown 0 0 4,
    .refreshRepay 0 128 0, .refreshRepay 0 0 5, .stackTempSample 0 []].all (fun i => !i.wf) = true := by decide

/-- Each check refuses an operand out of its range: skyline, containment, power, service. -/
theorem test_wf_platform : [
    Instr.beaconReceived 0 0 [] {}, .relayReceived 0 0 0 0x100000000 (List.replicate 64 0) {} {}, .relayReceived 0 0 0 0 [] {} {},
    .mgmtReceived 0 0 3 0 [] {}, .eventReceived 0 0 256 (List.replicate 64 0) {}, .eventReceived 0 0 0 [] {},
    .eventReceived 0 0 0 (List.replicate 64 0) { frames := [[(0, 0)]] }, .mcDomainReset 0 0 1025,
    .watchdogExpiry 0 13 0 0, .watchdogExpiry 0 0 0x10000 0, .watchdogExpiry 0 0 0 1025, .regionErrorDetected 0 13 0 1 none,
    .regionErrorDetected 0 1 0x10000 1 none, .regionErrorDetected 0 1 0 0 none, .regionErrorDetected 0 1 0 8 none, .regionRetest 0 13 0,
    .regionRetest 0 0 0x10000, .ioBlockResume 0 83, .powerLoss 0 4, .railFault 0 12 0, .railFault 0 0 0x10000, .holdupLow 0 10500,
    .holdupOkSet 0 10499, .holdupOkSet 0 11501, .junctionSample 0 [0, 0], .powerCapSample 0 0x100000000 [],
    .powerCapSample 0 0 (List.replicate 13 (0, 0)), .avsAdjust 0 0 645, .avsAdjust 0 0 855, .avsAdjust 0 0 701, .fwUpdateStageEnd 0 3,
    .recordPadTimeout 0 0x400000, .ptpMessageInterval 0 0 3, .ptpDelayMessage 0 0 2 0 0 0,
    .ptpSync 0 0 (2 ^ 48) 0 0, .ptpSync 0 0 0 1000000000 0].all (fun i => !i.wf) = true := by decide

/-- A datagram longer than 8,192 bytes is refused. -/
theorem test_wf_datagram (b : List Byte) (h : b.length = 8193) : (Instr.mgmtDatagram 0 0 b).wf = false := by simp [Instr.wf, h]

/-- The operands at the ends of their ranges are taken. -/
theorem test_wf_bounds : [
    Instr.cmdsetRevRead 0 5472 4, .registerWrite 0 0xFFFFFC [1, 2, 3, 4], .bar2Write 0 0xFFFFFFFF [1], .queuePoll 0 15 (some 0xFFFFFFFF) [none],
    .decodeDone 0 7 [{ sub := 0xFFFF }], .linkFrameReceived 0 15 [(3, 0xFFFFFFFFFFFFFFFFFFFFFFFFFFFFFFFF)] [] 5, .realTimePanic 0 15 65536 true, .bar2Read 0 4095 1, .nakReceived 0 0 3 255 255 0xFFFF, .spareLaneFault 0 0 17,
    .memUncorrectableRead 0 0x1FFFFFFFFF 46, .idlePowerDown 0 127 3, .regionErrorDetected 0 12 0xFFFF 7 (some 7), .railFault 0 11 0xFFFF,
    .holdupLow 0 10499, .holdupOkSet 0 11500, .avsAdjust 0 1 850, .fwUpdateStageEnd 0 2].all Instr.wf = true := by decide

/-- The table gives the rows no bits, so no word spells a command. -/
theorem test_no_word_is_a_command : decodeTableWord 16 0xFFFF = none ∧ up.withFetchWord 16 0xFFFF = up := ⟨rfl, rfl⟩

/-! ### The block and its firmware commands -/

/-- Each firmware command that is not stageable, but for the few below, starts in a play mode with a payload of its length. -/
theorem witness_immediate_commands_start : [
    (sysIdentify, []), (sysStatus, []), (sysEventRoute, List.replicate 16 0xFF), (sysEcho, [1, 2, 3]), (sysSpares, []), (sysFaults, []),
    (modeGet, []), (txnBegin, zeros 8), (streamQueues, [1, 0, 0, 0] ++ zeros 12 ++ [1, 8, 0, 0] ++ zeros 28), (streamKey, [0, 0, 1] ++ zeros 29),
    (streamStatsCmd, [0, 1] ++ zeros 6), (composeWatermark, zeros 8), (calLoad, zeros 32),
    (calRead, [0, 0, 1] ++ zeros 5 ++ le 8 (52 * gib) ++ zeros 16), (standStatusCmd, [0, 0xFF] ++ zeros 6), (standRelease, zeros 8),
    (standAdmit, zeros 8), (steerStatusCmd, zeros 8), (steerJournal, [0, 1] ++ zeros 6), (memSetPoint, [2] ++ zeros 7),
    (memTrain, [0xFF] ++ zeros 7), (memStatus, zeros 8), (chainStatus, []), (timeGet, []), (timePulse, [0, 1, 0, 0] ++ le 4 8 ++ zeros 24),
    (timeFsyncArm, zeros 8), (timePtp, [0, 1] ++ zeros 7 ++ [2] ++ zeros 54), (secAttest, zeros 64), (secKemKey, []),
    (secFwUpdate, le 8 (52 * gib) ++ le 4 1 ++ zeros 20), (recFlush, []), (recErase, le 4 0x45534152 ++ zeros 4), (pwrDomain, [0, 0, 1] ++ zeros 5),
    (pwrStatusCmd, [])].all (fun c => startsOk c.1 {} c.2 play) = true := by decide

/-- The few that need a particular state start there, with what the checks leave open as hypotheses on constants of Config. -/
theorem witness_other_immediate_commands_start :
    txnCommit.Starts 0 { txn := 8 } (zeros 16) (inTxn play) ∧ txnRollback.Starts 0 { txn := 8 } [] (inTxn play) ∧
    txnStatus.Starts 0 { txn := 8 } [] (inTxn play) ∧
    composeBlit.Starts 0 {} ([2, 0, 0, 0, 4, 0, 4, 0] ++ le 8 (43 * gib) ++ le 4 256 ++ zeros 44) play ∧
    calMeasure.Starts 0 {} ([0, 0, 0, 8] ++ zeros 12) (inMode 7 play) ∧
    timeAcceptJump.Starts 0 {} (zeros 8) { play with tb := { play.tb with pendingStep := some 0 } } ∧
    composeUpdate.Starts 0 {} ([0, 0, 0, 0, 0, 0, 0, 0, 1, 0, 1] ++ zeros 21) { play with
      settings := { play.settings with layers := ([0, 1, 0, 0, 4, 0, 4, 0] ++ zeros 56) :: play.settings.layers.tail }
      compose := { play.compose with layers := { payload := [0, 1, 0, 0, 4, 0, 4, 0] ++ zeros 56 } :: play.compose.layers.tail } } :=
  ⟨starts_of (by decide), starts_of (by decide), starts_of (by decide), starts_of (by decide), starts_of (by decide), starts_of (by decide),
    starts_of (by decide)⟩

/-- An eight-byte field reads back. -/
theorem u64_le_at8 (a v b : Nat) (tail : List Byte) : u64 (le 4 a ++ le 4 b ++ le 8 v ++ tail) 8 = v % 0x10000000000000000 := by
  simp only [u64, uN, le, u8, byteAt, List.cons_append, List.nil_append, List.getD_cons_succ, List.getD_cons_zero, BitVec.toNat_ofNat]
  omega

/-- A fragment of a certificate from offset 0 is there to be answered: no certificate is empty. -/
theorem witness_certificates : secCerts.Starts 0 {} (zeros 8) play := by
  refine ⟨⟨by decide, by decide, by decide, by decide, by decide⟩, by decide, ?_⟩
  unfold CmdDef.Passes
  rw [Err.pick_eq_none]
  rfl

/-- SEC.LIFECYCLE to state 1 starts in Standby with the device's own serial number. -/
theorem witness_lifecycle : secLifecycle.Starts 0 {} (le 4 1 ++ le 4 0x43594C43 ++ le 8 Config.serial ++ zeros 8) up := by
  refine ⟨⟨by decide, by decide, by decide, by decide, by decide⟩, by decide, ?_⟩
  unfold CmdDef.Passes
  rw [Err.pick_eq_none]
  have h := u64_le_at8 1 Config.serial 0x43594C43 (zeros 8)
  unfold secLifecycle
  simp only [List.append_eq_nil_iff]
  refine ⟨⟨rfl, ⟨⟨⟨⟨⟨rfl, rfl⟩, rfl⟩, ?_⟩, rfl⟩, rfl⟩⟩, rfl⟩
  unfold chkP chk
  rw [if_neg]
  simp only [bne_iff_ne, ne_eq, not_not]
  exact h

/-! ### Hypotheses of the statements about the block and its mailboxes -/

theorem witness_StepRunsTheFrontCommand :
    ({ up with pending := [.frameTick 0] } : State).pending = .frameTick 0 :: [] ∧ up.pending = [] := ⟨rfl, rfl⟩

set_option maxRecDepth 40000 in
theorem witness_NothingFollowsInACalmState : Calm State.reset State.reset where
  recoveries := rfl
  update := rfl
  held := rfl
  fences := rfl
  owed := rfl
  mailboxes := by decide
  bringUp := by decide
  rejoins := by decide
  admissions := by decide
  domains := rfl
  routes := by decide
  descriptors := Or.inr (by decide)
  relays := Or.inl (by decide)
  holds := by decide
  ready := by decide
  spares := fun _ _ => rfl
  banks := rfl
  triggers := rfl
  table := ⟨rfl, rfl⟩
  packets := fun _ _ _ h => nomatch h
  streams := by decide
  attempts := by decide
  wakes := by decide
  dozes := fun _ _ h => h

theorem witness_EveryStepKeepsTheStateWellFormed :
    up.memoryOk = true ∧ up.shapeOk = true ∧ ∃ t, Sys2Proof.Machine.step { up with pending := [.sysEcho 0 {} [1]] } = .next t :=
  ⟨by decide, by decide, _, rfl⟩

theorem witness_CommandAreaRoundTrip (p : List Byte) (h : p.length = 4080) : 65535 < 65536 ∧ p.length ≤ 4080 := ⟨by decide, h.le⟩

theorem witness_SubmittingIsWritingThenRinging :
    firmwareOf (.sysEcho 0 { mbx := 7 } [1]) = some (sysEcho, 0, { mbx := 7 }, [1]) ∧ [(1 : Byte)].length ≤ 4080 ∧ up.barLive = true ∧
    (7 : Fin 8).val < up.mailboxes.length := ⟨rfl, by decide, by decide, by decide⟩

theorem witness_ImmediateCommandsComplete :
    sysEcho.kind ≠ .stageable ∧ sysEcho.Starts 0 {} [1] up ∧
    sysEcho.run (up.begun 0 sysEcho {} [1]) (sysEcho.cmd {} [1]) = .done (up.begun 0 sysEcho {} [1]) [1] 0 :=
  ⟨by decide, starts_of (by decide), rfl⟩

/-- Every stageable command starts, in a transaction and without one. -/
theorem witness_stageable_commands_start : [
    (modeSet, [1] ++ zeros 7), (streamOpen, [0, 0, 2, 1] ++ zeros 20 ++ le 4 16 ++ zeros 4 ++ zeros 4 ++ le 2 60 ++ le 2 1 ++ zeros 24),
    (streamClose, zeros 8), (sceneBind, List.replicate 3 0xFF ++ [0] ++ [0xFF, 0, 0, 0, 0xFF, 0, 0, 0, 0xFF, 0, 0, 0] ++ zeros 16),
    (composeLayer, zeros 64), (composeDeadtime, le 2 4095 ++ zeros 6),
    (calSets, zeros 4 ++ le 2 200 ++ le 2 350 ++ le 2 500 ++ le 2 650 ++ zeros 4), (calPolicy, zeros 2 ++ le 2 1000 ++ zeros 12),
    (standMap, [1] ++ zeros 15 ++ [0, 0] ++ le 2 350 ++ zeros 8 ++ [1] ++ zeros 11), (standLut, zeros 16), (standLink, [15, 4, 1, 0, 0xFF] ++ zeros 11),
    (scanTiming, [120, 32] ++ zeros 14), (scanPrecharge, zeros 2 ++ le 2 3000 ++ zeros 4 ++ [43] ++ zeros 7), (scanMeasurePlan, [3] ++ zeros 15),
    (scanFrameBase, [1] ++ zeros 15), (memOrdering, [1, 1] ++ le 2 60000 ++ zeros 4), (chainRole, [1, 1, 0, 0, 3, 4] ++ zeros 10),
    (chainRegion, zeros 32), (chainGrace, le 4 1000 ++ zeros 4), (timeSource, [3] ++ zeros 7), (recTriggers, zeros 16),
    (pwrLimit, le 2 350 ++ [1] ++ zeros 5)].all
      (fun c => startsOk c.1 {} c.2 up && startsOk c.1 { txn := 8 } c.2 (inTxn up)) = true := by decide

/-- The other stageable commands with numbers of IEEE 754 in their payload. -/
theorem witness_placement_and_lift_start : [
    (sceneLift, zeros 4 ++ le 4 0x3F800000 ++ zeros 12 ++ le 4 0x3F800000 ++ zeros 8),
    (scenePlace, zeros 4 ++ le 4 0x3F800000 ++ le 4 0x3F800000 ++ zeros 84)].all
      (fun c => startsOk c.1 {} c.2 up && startsOk c.1 { txn := 8 } c.2 (inTxn up)) = true := by decide +kernel

/-- An entry of a drive table within every range. -/
def entry : List Byte := le 2 100 ++ le 2 10 ++ le 2 50 ++ le 2 20 ++ zeros 4

/-- What stands before the entries: temperatures that rise, and a residual. -/
def tableHead : List Byte := zeros 4 ++ (List.range 7).flatMap (fun k => le 2 (10 * k)) ++ zeros 2 ++ le 4 10000 ++ zeros 8

/-- A drive table of that entry. -/
def table : List Byte := tableHead ++ (List.replicate 128 entry).flatten

theorem byteAt_entries (n i j : Nat) (hi : i < n) (hj : j < 12) : byteAt (List.replicate n entry).flatten (12 * i + j) = byteAt entry j := by
  induction n generalizing i with
  | zero => omega
  | succ n ih =>
    rw [List.replicate_succ, List.flatten_cons]
    cases i with
    | zero =>
      unfold byteAt
      rw [List.getD_append _ _ _ _ (show 12 * 0 + j < entry.length by rw [show entry.length = 12 from rfl]; omega)]
      congr 1
      omega
    | succ i =>
      rw [← ih i (by omega)]
      unfold byteAt
      rw [List.getD_append_right _ _ _ _ (by rw [show entry.length = 12 from rfl]; omega), show entry.length = 12 from rfl]
      congr 1
      omega

theorem byteAt_table (i j : Nat) (hi : i < 128) (hj : j < 12) : byteAt table (32 + 12 * i + j) = byteAt entry j := by
  rw [← byteAt_entries 128 i j hi hj]
  unfold table byteAt
  rw [List.getD_append_right _ _ _ _ (by rw [show tableHead.length = 32 from rfl]; omega), show tableHead.length = 32 from rfl]
  congr 1
  omega

theorem table_length : table.length = 1568 := by
  unfold table
  rw [List.length_append, List.length_flatten, List.map_replicate, List.sum_replicate]
  rfl

/-- Twelve bytes of that entry fail no check. -/
theorem entryErrs_at (p : List Byte) (o : Nat) (h : ∀ j < 12, byteAt p (o + j) = byteAt entry j) : entryErrs p o = [] := by
  have h0 : byteAt p (o) = 100 := h 0 (by omega)
  have h1 : byteAt p (o + 1) = 0 := h 1 (by omega)
  have h2 : byteAt p (o + 2) = 10 := h 2 (by omega)
  have h3 : byteAt p (o + 3) = 0 := h 3 (by omega)
  have h4 : byteAt p (o + 4) = 50 := h 4 (by omega)
  have h5 : byteAt p (o + 5) = 0 := h 5 (by omega)
  have h6 : byteAt p (o + 6) = 20 := h 6 (by omega)
  have h7 : byteAt p (o + 7) = 0 := h 7 (by omega)
  have h8 : byteAt p (o + 8) = 0 := h 8 (by omega)
  have h9 : byteAt p (o + 9) = 0 := h 9 (by omega)
  have h10 : byteAt p (o + 10) = 0 := h 10 (by omega)
  have h11 : byteAt p (o + 11) = 0 := h 11 (by omega)
  unfold entryErrs rsvBytes span
  simp [u16, uN, u8, h0, h1, h2, h3, h4, h5, h6, h7, h8, h9, h10, h11, Nat.add_assoc, chkP, chk, List.range_succ]

theorem witness_steer_table_starts : steerTable.Starts 0 {} table up := by
  refine ⟨⟨by decide, by decide, by decide, by decide, by decide⟩, rfl, ?_⟩
  unfold CmdDef.Passes
  rw [Err.pick_eq_none]
  unfold steerTable tableErrs
  simp only [List.append_eq_nil_iff]
  refine ⟨⟨?_, ?_, ⟨⟨⟨?_, ?_⟩, ?_⟩, ?_⟩, ?_⟩, rfl⟩
  · unfold Cmd.headerErrs
    simp only [CmdDef.cmd, Cmd.of, lenIs, table_length]
    rfl
  · decide
  · decide
  · decide
  · decide
  · decide
  · rw [List.flatMap_eq_nil_iff]
    intro i hi
    show entryErrs table (32 + 12 * i) = []
    exact entryErrs_at table _ fun j hj => byteAt_table i j (List.mem_range.1 hi) hj
theorem witness_FailedChecksOnlyAnswer :
    up.Serving 0 ∧ (sysEcho.cmd { rsv := 1 } [1]).tunnel = false ∧ ∃ e, Err.pick ((sysEcho.cmd { rsv := 1 } [1]).headerErrs sysEcho
      (up.begun 0 sysEcho { rsv := 1 } [1]) ++ sysEcho.checks (up.begun 0 sysEcho { rsv := 1 } [1]) (sysEcho.cmd { rsv := 1 } [1]) ++
      (up.begun 0 sysEcho { rsv := 1 } [1]).txnErrs sysEcho (sysEcho.cmd { rsv := 1 } [1])) = some e :=
  ⟨⟨by decide, by decide, by decide, by decide, by decide⟩, by decide, ⟨stReserved, 10, 0xFFFF, 0⟩, by decide⟩

theorem witness_TheFirstFailingCodeIsAnswered :
    Err.pick [{ status := stBadMode }, { status := stBadLength }] = some { status := stBadLength } := by decide

/-- The shared end of the statements about ModeGates, EraseNeedsItsKey and the transaction commands. -/
theorem witness_CommitAndRollback :
    ((inTxn up).begun 0 txnCommit { txn := 8 } (zeros 16)).txn 8 = some { id := 8, timeoutMs := 5000 } ∧
    (((inTxn up).begun 0 txnCommit { txn := 8 } (zeros 16)).commit 8 ((inTxn up).begun 0 txnCommit { txn := 8 } (zeros 16)).firstBlank [] 0).2 = none ∧
    (((inTxn up).begun 0 txnCommit { txn := 8 } (zeros 16)).commit 8 ((inTxn up).begun 0 txnCommit { txn := 8 } (zeros 16)).firstBlank
      [{ opcode := 0x0201, payload := [2] ++ zeros 7 }] 0).2 ≠ none := by decide

theorem witness_CommittingArms :
    (inTxn up).txn 8 = some { id := 8, timeoutMs := 5000 } ∧ ((inTxn up).commit 8 (inTxn up).firstBlank [] 0).2 = none := by decide

theorem witness_StageableCommandsArmAlone :
    let b := up.begun 0 modeSet {} ([1] ++ zeros 7)
    let go := fun (m : Byte) =>
      let staged : List Staged := [{ opcode := 0x0201, tag := 0, payload := [m] ++ zeros 7 }]
      (({ (b.newTxnId 0).2 with txns := b.txns ++ [({ id := (b.newTxnId 0).1, staged := staged, timerAt := b.clock.up } : Txn)] } : State).commit
        (b.newTxnId 0).1 b.firstBlank staged 0).2
    go 0 = none ∧ go 2 ≠ none := by decide

theorem witness_RingingAMailbox :
    up.barLive = true ∧ (({ up with mailboxes := [{ state := 2 }] } : State).mbx (0 : Fin 8)).state = 2 ∧
    (({ up with mailboxes := [{ state := 1 }] } : State).mbx (0 : Fin 8)).state = 1 ∧
    State.reset.barLive = true ∧ State.reset.serves = false ∧ (State.reset.mbx (7 : Fin 8)).state = 0 := by decide

theorem witness_CompletingACommand : (7 : Nat) < up.mailboxes.length := by decide

theorem witness_PwrDomain : 82 < up.power.domains.length := by decide

theorem witness_SecurityCommandsDo :
    secAttest.Starts 0 {} (zeros 64) up ∧ up.security.kemValid = true ∧
    secAttest.Starts 0 {} (zeros 64) { up with security := { up.security with kemValid := false } } :=
  ⟨starts_of (by decide), by decide, starts_of (by decide)⟩

theorem witness_StreamAndLayerSettings :
    up.tb.change = none ∧ bitOf (u8 [0, 1] 1) 0 = true ∧ bitOf (u8 [0, 0] 1) 0 = false := by decide

theorem witness_TimingAndChainSettings :
    up.tb.change = none ∧ u8 [120, 1] 0 ≠ up.clock.rate ∧ u8 [60, 2] 1 ≠ up.clock.spread ∧ u8 [1] 0 ≠ up.tb.source ∧ up.modes.mode = 0 := by decide

theorem witness_TransactionsApplyWhole :
    up.validateTxn true (up.clock.tick + 1) up.settings [{ opcode := 0x1003, payload := [200] ++ zeros 7 }] = none ∧
    (up.validateTxn true (up.clock.tick + 1) up.settings [{ opcode := 0x0201, payload := [2] ++ zeros 7 }]).isSome = true := by decide

/-! ### Host accesses -/

/-- The cold-reset key, for one die and for both. -/
theorem witness_ColdResetRequests :
    up.barLive = true ∧ bitsOf (0x5A170000#32 ||| 1).toNat 31 16 = 0x5A17 ∧ bitOf (0x5A170000#32 ||| 1).toNat 1 = false ∧
    bitOf (0x5A170000#32 ||| 2).toNat 0 = false ∧ bitOf (0x5A170002#32 ||| 1).toNat 1 = true ∧ bitsOf (0x5A160001#32 ||| 1).toNat 31 16 ≠ 0x5A17 ∧
    up.bellows.dieOff = [none, none] ∧ up.bellows.resetDue = [0, 0] ∧ up.modes.mode = 0 ∧ play.modes.mode ≠ 0 ∧ play.barLive = true := by decide

theorem witness_RingControlWrites :
    let on := fun (l : Nat) => ({ up with rings := [{ ctrl := 0x80000000, log2 := l }] } : State)
    up.barLive = true ∧ (up.ring 0).enabled = false ∧ 8 ≤ (up.ring 0).log2 ∧ ((on 20).ring 0).log2 ≤ 20 ∧ ((on 8).ring 0).enabled = true ∧
    (({ up with rings := [{ log2 := 7 }] } : State).ring 0).log2 < 8 ∧ 20 < (({ up with rings := [{ log2 := 21 }] } : State).ring 0).log2 ∧
    (0x14 : Nat) ∈ [0x00, 0x04, 0x08, 0x0C, 0x14] := by decide

theorem witness_ConsumerIndexWrites :
    (255#32).toNat % 0x100000 < 2 ^ (up.ring 3).log2 ∧ 2 ^ (up.ring 3).log2 ≤ (256#32).toNat % 0x100000 := by decide

theorem witness_ReadsWithAnEffect : (5472 : Nat) ≤ 5472 ∧ 5474 ≤ 5472 + 4 ∧ accessOf 5472 4 = .ok .cruise := by decide

theorem witness_RefusedAccesses : accessOf 0x90000 4 = .unmapped ∧ accessOf 0x10021 4 = .bad := by decide

theorem witness_RegisterWrites :
    [1, 2, 3, (4 : Byte)].length = 4 ∧ accessOf 0x20FFF 1 = .ok (.command 0) ∧ 0xFFF % alignOf 1 = 0 ∧ accessOf 0x2E000 64 = .ok (.command 7) ∧
    accessOf 0 4 = .ok .cruise ∧ accessOf 0x21000 4 = .ok (.response 0) ∧ accessOf 0x60000 8 = .ok .bellows := by decide

/-- A write at the last byte of a granule of the surface region, and reads of readable, closed and poisoned granules. -/
theorem witness_HostFrameStoreAccesses :
    let at' := fun (g : Nat) => ({ up with pcie := { up.pcie with apBase := g * gib } } : State)
    let bad : State := { at' 43 with fs := { (at' 43).fs with poisoned := [43 * gib / 256] } }
    up.barLive = true ∧ up.hostBoot = false ∧ bar2Fits 255 1 = true ∧ bar2Fits 0 512 = true ∧ bar2Fits 0 513 = false ∧ bar2Fits 0 0 = false ∧
    bar2Fits 3584 512 = true ∧ bar2Fits 3585 512 = false ∧ (43 * gib + 255) % 256 + 1 ≤ 256 ∧ (at' 43).apertureOk (43 * gib + 255) 1 = true ∧
    (at' 0).apertureOk 0 1 = false ∧ (at' 43).apertureOk (43 * gib) 0 = true ∧ (at' 43).isPoisoned (43 * gib) = false ∧ regionOf (43 * gib) ≠ 9 ∧
    regionOf (49 * gib) = 9 ∧ (at' 49).apertureOk (49 * gib) 0 = true ∧ (at' 49).isPoisoned (49 * gib) = false ∧
    (at' 0).apertureOk 0 0 = false ∧ bad.apertureOk (43 * gib) 0 = true ∧ bad.isPoisoned (43 * gib) = true := by decide

theorem witness_MemoryWritesOneByte : Memory.wf [(5, 1)] = true ∧ (1 : Nat) < [1, (0 : Byte)].length := by decide

/-- A write that completes "BOOT" at offset 0, and one beside it. -/
theorem witness_BootBufferWrites :
    let host : State := { State.reset with modes := { State.reset.modes with bootSource := 1 } }
    let failed : State := { host with modes := { host.modes with bootStage := 0xE1 } }
    let word : List Byte := [0x42, 0x4F, 0x4F, 0x54]
    host.barLive = true ∧ host.hostBoot = true ∧ failed.hostBoot = true ∧ word ≠ [] ∧ 0 + word.length ≤ 0x1000000 ∧ u32 (overwrite [] 0 word) 0 = 0x544F4F42 ∧
    u32 (overwrite [0, 0x4F, 0x4F, 0x54] 0 [0x42]) 0 = 0x544F4F42 ∧ host.modes.bootStage = 0 ∧ 0xE1 ≤ failed.modes.bootStage ∧
    4 ≤ 0xFFFFFF ∧ bar2Fits 0xFFFFFF 1 = true ∧ bar2Fits 0 4 = true ∧ 0xFFFFFF + [(1 : Byte)].length ≤ 0x1000000 := by decide

theorem witness_FunctionResetsAndPowerStates :
    let hot : State := { play with pcie := { play.pcie with d3hot := true } }
    let held : State := { up with fw := { up.fw with armed := true } }
    up.barLive = true ∧ up.fw.armed = false ∧ up.pcie.d3hot = false ∧ isPlay play.modes.mode = true ∧ isPlay hot.modes.mode = true ∧
    hot.barLive = true ∧ hot.pcie.d3hot = true ∧ hot.fw.armed = false ∧ up.pcie.perst = false ∧ held.barLive = true ∧ held.fw.armed = true ∧
    ((held.elapse 0).discardHeld).pcie.d3hot = false ∧ ({ up with pcie := { up.pcie with perst := true } } : State).pcie.perst = true := by decide

/-! ### Instants -/

/-- At the last moment before the time and at the time itself. -/
theorem witness_TimeoutsActAtTheirTime :
    let m : State := { up with mailboxes := [{ state := 1 }, { state := 2, tunnelled := true }] }
    (m.mbx (0 : Fin 8)).state = 1 ∧ (m.mbx (0 : Fin 8)).stallEvent = false ∧ (m.mbx (0 : Fin 8)).rungAt + 150000 ≤ m.clock.up + 150000 ∧
    m.clock.up + 149999 < (m.mbx (0 : Fin 8)).rungAt + 150000 ∧ (m.mbx (1 : Fin 8)).state = 2 ∧ (m.mbx (1 : Fin 8)).tunnelled = true ∧
    (m.elapse 30000000).serves = true ∧ (m.mbx (1 : Fin 8)).acceptedAt + 30000000 ≤ m.clock.up + 30000000 ∧
    (inTxn up).txn 8 = some { id := 8, timeoutMs := 5000 } ∧ ({ id := 8, timeoutMs := 5000 } : Txn).committing = false ∧
    0 + 3000000 * 5000 ≤ (inTxn up).clock.up + 15000000000 ∧ (inTxn up).clock.up + 14999999999 < 0 + 3000000 * 5000 := by decide

theorem witness_FrameBlankRuns :
    up.clock.blank = false ∧ up.blankStart ≤ up.clock.up + 49700000 ∧ up.bellows.running = true ∧ up.bellows.fresh = false := by decide

theorem witness_ArmedTransactionsApplyInOrder : State.reset.bellows.role = none ∧ up.bellows.role ≠ none := by decide

/-- The blank of frame 0, at the instant of the tick. -/
def blank : State := { up with clock := { up.clock with blank := true, up := 49700000 } }

theorem witness_FrameTickRuns : blank.clock.blank = true ∧ blank.clock.nextUp ≤ blank.clock.up + 300000 ∧ blank.bellows.running = true ∧
    blank.bellows.fresh = false := by decide

/-- A change due to each mode from Standby or from play, so that each clause has one. -/
theorem witness_ModesChangeAtTheirTick :
    let due := fun (m : Nat) (s : State) => ({ s with modes := { s.modes with modeDue := some m } } : State)
    up.modes.modeDue = none ∧ (due 5 up).modes.modeDue = some 5 ∧ 5 ≠ up.modes.mode ∧ 1 < 5 ∧ isPlay 5 = isPlay up.modes.mode ∧
    isPlay 2 = true ∧ isPlay up.modes.mode = false ∧ (due 5 play).modes.modeDue = some 5 ∧ isPlay 5 = false ∧ isPlay play.modes.mode = true ∧
    0 ≠ play.modes.mode ∧ 1 ≠ up.modes.mode := by decide

theorem witness_SubframesFollow :
    let at' := fun (n : Nat) => ({ up with clock := { up.clock with sub := n } } : State)
    (at' 2).clock.sub < 3 ∧ (at' 2).clock.blank = false ∧
    (at' 2).clock.tickUp + ((at' 2).clock.sub + 1) * subPeriod (at' 2).clock.rate ≤ (at' 2).clock.up + 3 * 12425000 ∧ 3 ≤ (at' 3).clock.sub ∧
    blank.clock.blank = true := by decide

theorem witness_LeadDeadlinesRun : (up.elapse (2 * 50000000)).leadAt 1 ≤ up.clock.up + 2 * 50000000 ∧ isPlay up.modes.mode = false ∧ isPlay play.modes.mode = true ∧
    (play.elapse (2 * 50000000)).leadAt 1 ≤ play.clock.up + 2 * 50000000 := by decide

theorem witness_SynthesisStartsItsWindow : (up.elapse 50000000).synthAt 1 ≤ up.clock.up + 50000000 ∧ up.clock.up + 0 < (up.elapse 0).synthAt 3 := by decide

/-- An active window of tick 1, with a kerf to write and without. -/
def window : State := { play with
  clock := { play.clock with synthTick := 2 }, synth := { play.synth with window := { num := 1, active := true, tick := 1, todo := [(0, 5)], liftWait := true, beyond := false } } }

theorem witness_KerfDeadlinesEndTheWindow :
    let none' : State := { window with synth := { window.synth with window := { window.synth.window with todo := [], active := false } } }
    window.clock.synthTick ≠ 0 ∧ (window.elapse 50000000).synth.window.active = true ∧
    (window.elapse 50000000).kerfAtTime (window.elapse 50000000).synth.window.tick ≤ window.clock.up + 50000000 ∧
    window.clock.up + 0 < (window.elapse 0).kerfAtTime (window.elapse 0).synth.window.tick ∧
    (none'.elapse 50000000).synth.window.active = false ∧ none'.clock.synthTick ≠ 0 ∧
    (none'.elapse 50000000).kerfAtTime (none'.elapse 50000000).synth.window.tick ≤ none'.clock.up + 50000000 := by decide

theorem witness_ScanOutLatches : (up.elapse 50000000).scanAt 1 ≤ up.clock.up + 50000000 ∧ up.clock.up + 0 < (up.elapse 0).scanAt 1 := by decide

theorem witness_FrontAndLift :
    (window.elapse 6000000).synth.window.liftWait = true ∧ (up.elapse 0).synth.window.liftWait = false ∧
    (window.elapse 6000000).synth.window.startAt + 6000000 ≤ window.clock.up + 6000000 := by decide

/-! ### Ingest, decoding, the 2D engine and calibration work -/

theorem witness_QueuePollsFetch :
    let bad : State := { play with ingest := { play.ingest with queues := { log2 := 4, badIdxAt := some 0 } :: play.ingest.queues.tail } }
    play.streamOfQueue (0 : Fin 16) = some 0 ∧ play.fetches 0 = true ∧ (play.queue (0 : Fin 16)).log2 ≠ 0 ∧
    (play.queue (0 : Fin 16)).polled = none ∧ (play.queue (0 : Fin 16)).badIdxAt = none ∧ 15 < 2 ^ (play.queue (0 : Fin 16)).log2 ∧
    2 ^ (play.queue (0 : Fin 16)).log2 ≤ 16 ∧ (bad.queue (0 : Fin 16)).badIdxAt = some 0 ∧ bad.fetches 0 = true ∧
    bad.clock.up + 2999999 < 0 + 3000000 ∧ play.streamOfQueue (1 : Fin 16) = none ∧ (inMode 5 play).streamOfQueue (0 : Fin 16) = some 0 ∧
    (inMode 5 play).fetches 0 = false := by decide

/-- A descriptor of a frame that is held, checked, with its data placed. -/
def descBytes : List Byte := [0, 0x30] ++ zeros 6 ++ le 8 4096 ++ le 4 16 ++ zeros 44

/-- The same stream with the frame its descriptor names, and without. -/
def fetched (st : SceneStream) : State := { play with
  ingest := { play.ingest with
    queues := { ({ log2 := 4, fetched := [{ bytes := descBytes, checked := true }] } : Queue) with read := 1 } :: play.ingest.queues.tail
    streams := some st :: play.ingest.streams.tail } }

theorem witness_PlacedDescriptorsPass :
    let plain := descBytes
    let clear := [0, 0x30] ++ zeros 6 ++ le 8 4096 ++ le 4 16 ++ zeros 10 ++ le 2 1 ++ le 8 8192 ++ zeros 24
    let on := fun (d : List Byte) => ({ play with ingest := { play.ingest with
      queues := ({ log2 := 4, fetched := [{ bytes := d, checked := true }], read := 1 } : Queue) :: play.ingest.queues.tail
      serving := some { stream := 0 } } } : State)
    (on plain).ingest.serving = some { stream := 0 } ∧ (on plain).streamOfQueue (0 : Fin 16) = some 0 ∧ (on plain).ingestOn = true ∧
    ((on plain).queue (0 : Fin 16)).fetched = [{ bytes := plain, checked := true }] ∧ dSubsamples plain = 0 ∧
    (on clear).ingest.serving = some { stream := 0 } ∧ (on clear).streamOfQueue (0 : Fin 16) = some 0 ∧ (on clear).ingestOn = true ∧
    ((on clear).queue (0 : Fin 16)).fetched = [{ bytes := clear, checked := true }] ∧ dSubsamples clear ≠ 0 := by decide

theorem witness_StreamsResumeAndDrain :
    let st : SceneStream := { stream0 with stopped := true, draining := true, emptyFor := sec 1 }
    let s := fetched st
    let tight : SceneStream := { st with bufferMib := 0, frames := [{ placed := 1 }] }
    let three : SceneStream := { stream0 with frames := [{ num := 1, complete := true }, { num := 2, complete := true }, { num := 3, complete := true }] }
    s.stream (0 : Fin 8) = some st ∧ st.stopped = true ∧ st.heldFrames ≤ st.low ∧ s.headDesc (0 : Fin 8) = some descBytes ∧
    st.used + dSize descBytes ≤ st.share ∧ s.ingestOn = true ∧ st.queue ≠ 0xFF ∧ (inMode 5 s).ingestOn = false ∧ three.low < three.heldFrames ∧
    (fetched tight).headDesc (0 : Fin 8) = some descBytes ∧ tight.share < tight.used + dSize descBytes ∧
    st.draining = true ∧ sec 1 ≤ st.emptyFor ∧ stream0.draining = false ∧ stream0.emptyFor < sec 1 := by decide

theorem witness_FramesAreDecodedOrLost :
    let f : SceneFrame := { num := 3, complete := true, released := true, parts := [(0, [1])] }
    let st : SceneStream := { stream0 with format := 3, sizes := [(0, 64, 64)], frames := [f] }
    let wrong := fun (found : List Picture) => ((st.dueSubs f).filter st.isVideo).find? fun sub => st.pictureCause f (st.picture f found sub) != 0
    (fetched st).stream (0 : Fin 8) = some st ∧ st.decoding = some f ∧ stream0.decoding = none ∧ wrong [] = none ∧
    wrong [{ sub := 0, syntaxOk := false }] = some 0 := by decide

/-- A fill of one texel, at the instant its time is over, with and without NOTIFY. -/
theorem witness_BlitsEndInOrder :
    let p := fun (notify : Byte) => [2, notify, 0, 0, 64, 0, 64, 0] ++ le 8 (43 * gib) ++ le 4 256 ++ zeros 44
    let s : State := { play with compose := { play.compose with blits := [{ seq := 1, payload := p 0 }] } }
    s.compose.blits = [{ seq := 1, payload := p 0 }] ∧ bitOf (u8 (p 0) 1) 0 = false ∧ bitOf (u8 (p 1) 1) 0 = true ∧
    s.compose.blitStart + blitTime (p 0) s.compose.deadtimeNs s.compose.blitFrom ≤ s.clock.up + 100000 ∧
    s.clock.up + 0 < s.compose.blitStart + blitTime (p 0) s.compose.deadtimeNs s.compose.blitFrom := by decide

theorem witness_BakesRun :
    let s : State := { play with bakeQueue := [0] }
    let baking := fun (c : Cal) => ({ play with stands := [{ cal := { c with baking := some 300 } }] } : State)
    let left := fun (s : State) => ((({ s.elapse 0 with fs := { (s.elapse 0).fs with mem := [] } } : State).updCal 0
      fun c => { c with baking := none, bakeT := some 300, liveGen := (c.liveGen + 1) % 65536, mixed := false }).raise evCalRebake 0 [p32 300]).bakeOnTemp 0
    (s.supervisor (0 : Fin 2)).isSome = true ∧ s.modes.mode ≠ 6 ∧ s.fs.avail.getD (0 : Fin 2) false = true ∧
    (∀ k < s.stands.length, s.dieOfStand k = (0 : Fin 2).val → (s.stand k).cal.baking = none) ∧
    (s.bakeQueue.find? fun k => s.dieOfStand k == (0 : Fin 2).val && !(s.stand k).cal.holdsBake &&
      (s.stand k).temp.isSome && !(s.stand k).tempLost) = some 0 ∧
    ((baking {}).stand 0).cal.baking = some 300 ∧ ((left (baking {})).stand 0).cal.op = 0 ∧
    ((left (baking { op := 4, opParams := [0, 0] })).stand 0).cal.op = 4 ∧
    ((left (baking { op := 4, opParams := [0, 0] })).stand 0).cal.opParams.length = 2 := by decide

theorem witness_CalibrationOperationsEnd :
    let on := fun (op pass : Nat) (st : Stand) =>
      ({ play with stands := [{ st with cal := { op := op, opParams := zeros 32, passLeft := pass } }] } : State)
    let down := fun (op : Nat) => ({ on op 1 { seen := true } with links := up.links } : State)
    let head := le 4 calMagic ++ [1, 0, 4, 0] ++ zeros 8 ++ le 2 200 ++ le 2 350 ++ le 2 500 ++ le 2 650 ++ zeros 8
    let block := padTo 64 (head ++ le 4 (crc32 head) ++ zeros 28)
    ((on 3 0 { seen := true }).stand 0).cal.baking = none ∧ ((on 3 0 { seen := true }).stand 0).cal.op = 3 ∧
    (({ seen := true } : Stand).removed && !({ seen := true } : Stand).seen) = false ∧ ((on 2 0 {}).stand 0).cal.passLeft = 0 ∧
    ((on 1 0 { removed := true }).stand 0).removed = true ∧ ((on 1 0 { removed := true }).stand 0).seen = false ∧
    (on 1 0 {}).linkUp ((on 1 0 {}).standCfg 0).link = true ∧ ((on 4 0 {}).stand 0).cal.opParams.length ≠ 2 ∧
    ((down 2).stand 0).cal.passLeft ≠ 0 ∧ (down 2).linkUp ((down 2).standCfg 0).link = false ∧ u8 ((down 1).stand 0).cal.opParams 2 = 0 ∧
    (on 1 0 {}).blockResult 0 (zeros 64) [] false ≠ 0 ∧ (on 1 0 {}).blockResult 0 block (Mem.ofCells []) false = 0 := by decide +kernel

theorem witness_ConcealmentIsRebuilt :
    let s : State := { play with stands := [{ cal := { rebuilds := [{}] } }] }
    0 < s.stands.length ∧ (∃ q ∈ (s.stand 0).cal.rebuilds, q.ready = false) ∧
    (s.supervisor (s.dieOfStand 0)).isSome = true ∧ s.modes.mode ≠ 6 := by decide

/-- The check value of CRC-32 (R32: polynomial 0x04C11DB7, reflected, all ones in and out) over the digits 1 to 9. -/
theorem test_crc32_check_value : crc32 [0x31, 0x32, 0x33, 0x34, 0x35, 0x36, 0x37, 0x38, 0x39] = 0xCBF43926 := by decide +kernel

/-- A fault map of no records passes every check of a load. -/
theorem witness_calibration_block_passes :
    let head := le 4 calMagic ++ [1, 0, 4, 0] ++ zeros 8 ++ le 2 200 ++ le 2 350 ++ le 2 500 ++ le 2 650 ++ zeros 8
    play.blockResult 0 (head ++ le 4 (crc32 head) ++ zeros 28) [] false = 0 := by decide +kernel

/-! ### The stand links and the stand receivers -/

/-- Link 0 in another condition. -/
def link0 (k : Link) : State := { play with links := k :: play.links.tail }

theorem witness_BlocksAreRead :
    let k : Link := { inverted := [true, false] }
    ([1, 2, 3, 4, 5, 6, (7 : Byte)].length = 7) ∧ (255 < 256) ∧ (3 ≤ 3) ∧ 2 ^ 128 - 1 < 2 ^ 128 ∧ k.inverted.getD k.retLane false = true ∧
    readOrdered (Ordered.train [1, 2, 3, 4, 5, 6, 7]).block = some (.train [1, 2, 3, 4, 5, 6, 7]) := by decide +kernel

theorem witness_LinkFramesAreTakenInOrder :
    let bs := List.replicate 64 (2, 5)
    let f : LinkFrame := { body := [], seq := 0, replay := false, ack := 0, nak := false, good := true }
    play.linkUp (0 : Fin 16) = true ∧ bs.length = 64 ∧
    (∀ b, (bs.map (((play.elapse 0).framesSent (0 : Fin 16) 0).link (0 : Fin 16)).upright).head? = some b → readOrdered b = none) ∧
    (up.link (0 : Fin 16)).state = 0 ∧ (0 : Fin 16).val < play.links.length ∧ f.good = true ∧ f.nak = false ∧ f.seq = (play.link 0).rxExpect ∧
    (play.link 0).rxDiscard = false ∧ { f with replay := true }.replay = true ∧ { f with seq := 1 }.seq ≠ (play.link 0).rxExpect ∧
    ((link0 { state := 2, rxDiscard := true }).link 0).rxDiscard = true ∧ { f with good := false }.good = false ∧
    ((link0 { state := 2, rxExpect := 32767 }).link (0 : Fin 16)).rxExpect = 32767 := by
  refine ⟨by decide, by decide, ?_, by decide, by decide, rfl, rfl, by decide, by decide, rfl, by decide, by decide, rfl, by decide⟩
  intro b hb
  have : b = (2, 5) := by
    have h : (some (2, 5) : Option (Nat × Nat)) = some b := hb
    exact (Option.some.inj h).symm
  subst this
  decide

theorem sum_bits (t : Nat) : ∀ n, ((List.range n).map fun j => t / 2 ^ j % 2 * 2 ^ j).foldl (· + ·) 0 = t % 2 ^ n
  | 0 => by simp [Nat.mod_one]
  | n + 1 => by
    rw [List.range_succ, List.map_append, List.foldl_append, sum_bits t n, Nat.mod_pow_succ]
    simp [Nat.mul_comm]

/-- The blocks of a frame of the return lane, its body scrambled already. -/
def returnBlocks (tag : Nat) (x : Nat → Nat) : List (Nat × Nat) := (List.range 64).map fun j => (1 + tag / 2 ^ j % 2, x j)

theorem returnBlocks_tag (tag : Nat) (x : Nat → Nat) (h : tag < 2 ^ 64) :
    ((returnBlocks tag x).zipIdx.map fun e => (e.1.1 - 1) % 2 * 2 ^ e.2).foldl (· + ·) 0 = tag := by
  have : ((returnBlocks tag x).zipIdx.map fun e => (e.1.1 - 1) % 2 * 2 ^ e.2) =
      (List.range 64).map fun j => (1 + tag / 2 ^ j % 2 - 1) % 2 * 2 ^ j := rfl
  rw [this]
  simp only [Nat.add_sub_cancel_left, Nat.mod_mod]
  rw [sum_bits, Nat.mod_eq_of_lt h]

theorem crcByte_lt (c : Nat) (b : Byte) (h : c < 2 ^ 32) : crcByte c b < 2 ^ 32 := by
  have bit : ∀ c, c < 2 ^ 32 → crcBit c < 2 ^ 32 := by
    intro c h
    unfold crcBit
    split
    · exact Nat.xor_lt_two_pow (by omega) (by decide)
    · omega
  have hb : b.toNat < 2 ^ 32 := by omega
  unfold crcByte
  exact bit _ (bit _ (bit _ (bit _ (bit _ (bit _ (bit _ (bit _ (Nat.xor_lt_two_pow h hb))))))))

theorem crc32_lt (bs : List Byte) : crc32 bs < 2 ^ 32 := by
  have : ∀ (bs : List Byte) c, c < 2 ^ 32 → bs.foldl crcByte c < 2 ^ 32 := by
    intro bs
    induction bs with
    | nil => exact fun c h => h
    | cons b bs ih => exact fun c h => ih _ (crcByte_lt c b h)
  exact Nat.xor_lt_two_pow (this bs _ (by decide)) (by decide)

/-- A frame of any body with the SEQ expected, as the other side sends it, is taken. -/
theorem returnBlocks_taken (body : List Byte) (x : Nat → Nat) :
    (frameOf (returnBlocks (frameTag 0 false 0 false body) x) body).takenBy 0 false = true := by
  have hc := crc32_lt (body ++ le 4 65534)
  have ht : frameTag 0 false 0 false body = 65534 * 0x100000000 + crc32 (body ++ le 4 65534) := rfl
  have h1 : frameTag 0 false 0 false body < 2 ^ 64 := by omega
  unfold LinkFrame.takenBy frameOf
  simp only [returnBlocks_tag _ x h1]
  have h2 : frameTag 0 false 0 false body / 0x100000000 = 65534 := by omega
  have h3 : frameTag 0 false 0 false body % 0x100000000 = crc32 (body ++ le 4 65534) := by omega
  simp only [h2, h3]
  simp [returnBlocks]
  omega

theorem returnBlocks_head (t : Nat) (x : Nat → Nat) (b : Nat × Nat) (h : x 0 = 0) (hb : (returnBlocks t x).head? = some b) : readOrdered b = none := by
  have hb : some (1 + t / 2 ^ 0 % 2, x 0) = some b := hb
  obtain rfl := Option.some.inj hb
  rw [h]
  have : t / 2 ^ 0 % 2 = 0 ∨ t / 2 ^ 0 % 2 = 1 := by omega
  rcases this with h | h <;> rw [h] <;> decide

theorem descramble_zeros (t : Nat) : descramble 0 (returnBlocks t fun _ => 0) = (0, zeros 1024) := by
  have h : (scramble 0 0) = (0, 0) := by decide +kernel
  have : ∀ (bs : List (Nat × Nat)) (l : List Byte), (∀ b ∈ bs, b.2 = 0) →
      bs.foldl (fun a b => let r := scramble a.1 b.2; (r.1, a.2 ++ le 16 r.2)) (0, l) = (0, l ++ bs.flatMap fun _ => le 16 0) := by
    intro bs
    induction bs with
    | nil => intro l _; simp
    | cons b bs ih =>
      intro l hl
      simp only [List.foldl_cons, hl b List.mem_cons_self, h, List.flatMap_cons]
      rw [ih _ fun b hb => hl b (List.mem_cons_of_mem _ hb), List.append_assoc]
  unfold descramble
  rw [this _ _ (by simp [returnBlocks])]
  unfold returnBlocks
  rw [List.flatMap_map]
  decide +kernel

/-- The blocks of a frame of zeros on a lane whose register is zero. -/
theorem witness_LinkFramesAreTaken :
    let a := (play.elapse 0).framesSent (0 : Fin 16) 0
    let b := a.spareIn (0 : Fin 16) []
    let bs := returnBlocks (frameTag 0 false 0 false (zeros 1024)) fun _ => 0
    let r := (b.link (0 : Fin 16)).readFrame (bs.map (a.link (0 : Fin 16)).upright)
    bs.length = 64 ∧ (∀ x, (bs.map (a.link (0 : Fin 16)).upright).head? = some x → readOrdered x = none) ∧
    ((b.updLink (0 : Fin 16) fun _ => r.1).link (0 : Fin 16)).takes r.2 = true := by
  intro a b bs r
  have hu : bs.map (a.link (0 : Fin 16)).upright = bs := by
    have : (a.link (0 : Fin 16)).upright = id := by
      funext x; exact if_neg (by decide)
    rw [this, List.map_id]
  refine ⟨by simp [bs, returnBlocks], ?_, ?_⟩
  · rw [hu]
    exact fun x hx => returnBlocks_head _ _ x rfl hx
  · have hd : descramble ((b.link (0 : Fin 16)).rxScr.getD (b.link (0 : Fin 16)).retLane 0) bs = (0, zeros 1024) := by
      have : (b.link (0 : Fin 16)).rxScr.getD (b.link (0 : Fin 16)).retLane 0 = 0 := by decide
      rw [this]
      exact descramble_zeros _
    have hr : r.2 = frameOf bs (zeros 1024) := by
      simp only [r, hu, Link.readFrame]
      rw [hd]
    have h1 : ((b.updLink (0 : Fin 16) fun _ => r.1).link (0 : Fin 16)).rxExpect = 0 := rfl
    have h2 : ((b.updLink (0 : Fin 16) fun _ => r.1).link (0 : Fin 16)).rxDiscard = false := rfl
    unfold Link.takes
    rw [hr, h1, h2]
    exact returnBlocks_taken _ _
/-- The newest of the frames that wait, and one more; a NAK of a frame, and one of the frame from which a replay runs. -/
theorem witness_AcknowledgementsFreeTheBuffer :
    let s := link0 { state := 2, txNext := 5, txAcked := 32766 }
    let k := s.link (0 : Fin 16)
    let f : LinkFrame := { body := [], seq := 0, replay := false, ack := 32765, nak := true, good := true }
    (0 : Fin 16).val < s.links.length ∧ f.good = true ∧ 0 < seqGap k.txAcked ((4 + 1) % 32768) ∧
    seqGap k.txAcked ((4 + 1) % 32768) ≤ seqGap k.txAcked k.txNext ∧ seqGap k.txAcked k.txNext < seqGap k.txAcked ((5 + 1) % 32768) ∧
    seqGap k.txAcked ((32765 + 1) % 32768) = 0 ∧ f.nak = true ∧ ((s.frameIn 0 { f with nak := false }).link 0).txReplay ≠ some ((f.ack + 1) % 32768) ∧
    (((link0 { k with txReplay := some 32766, txReplayTo := 1 }).frameIn 0 { f with nak := false }).link 0).txReplay = some ((f.ack + 1) % 32768) ∧
    (((link0 { k with txReplay := some 32766, txReplayTo := 1 }).frameIn 0 { f with nak := false }).link 0).txReplayTo = 1 ∧
    (((link0 { k with txReplay := some 32766, txReplayTo := 0 }).frameIn 0 { f with nak := false }).link 0).txReplayTo ≤ s.clock.up ∧
    (link0 { k with txReplay := some 32766, txReplayTo := 1 }).clock.up < 1 := by decide

theorem witness_ReplaysAndRecoveries :
    let s := link0 { state := 2, txNext := 5, txReplays := 2 }
    let third := link0 { state := 2, txNext := 5, txReplays := 3, recoveryTimes := [0, 0] }
    s.linkUp (0 : Fin 16) = true ∧ (s.link (0 : Fin 16)).retDoze = 0 ∧ (s.link (0 : Fin 16)).txAcked ≠ (s.link (0 : Fin 16)).txNext ∧
    (s.link (0 : Fin 16)).txSince + 12000 ≤ s.clock.up + 12000 ∧ seqGap 0 256 = 256 ∧ (s.link (0 : Fin 16)).txReplays < 3 ∧
    3 ≤ (third.link (0 : Fin 16)).txReplays ∧
    (((s.link (0 : Fin 16)).recoveryTimes.filter fun t => !(s.elapse 0).since t (sec 1)) ++ [s.clock.up + 0]).length < 3 ∧
    3 ≤ (((third.link (0 : Fin 16)).recoveryTimes.filter fun t => !(third.elapse 2999999999).since t (sec 1)) ++ [third.clock.up + 2999999999]).length ∧
    ((link0 { state := 1, recovering := some 0 }).link (0 : Fin 16)).recovering = some 0 ∧
    (let lost : LaneReport := { bitLock := false }
     let arrive := fun (n : Nat) => lanesArrive (laneCauses false 0 (List.replicate n lost)) (List.range 8) [[0x4A, 16], [0x4A, 17]]
     (List.range 9).countP (laneFailed (laneCauses false 0 (List.replicate 2 lost))) = 2 ∧ arrive 2 = true ∧
     laneFailed (laneCauses false 0 (List.replicate 2 lost)) 9 = false ∧ laneFailed (laneCauses false 0 (List.replicate 2 lost)) 10 = false ∧
     3 ≤ (List.range 9).countP (laneFailed (laneCauses false 0 (List.replicate 3 lost)))) ∧
    ¬ (0 + 600000 < 0 + 600000) := by decide

theorem witness_LinksGoDown : 15 < 16 ∧ 15 < play.links.length := by decide

theorem witness_BringUpAttemptsEnd :
    let s := link0 { state := 1, attempts := 1, framing := some 0 }
    let k := s.link (0 : Fin 16)
    let order := [7, 6, 5, 4, 3, 2, 1, 0]
    let body := fun (lane : Byte) => [0x4A, lane] ++ zeros 6
    let ret := [body 16, body 17]
    let one : List LaneReport := [{}, { bitLock := false }]
    let two : List LaneReport := [{}, { bitLock := false }, { bitLock := false }]
    let ran := s.elapse (ms 1)
    k.state = 1 ∧ k.recovering = none ∧ k.attempts < 2 ∧ 2 ≤ ((link0 { state := 1, attempts := 2 }).link (0 : Fin 16)).attempts ∧
    attemptCause k 0 stepLimits [] false order ret = none ∧ ran.testing 0 = false ∧ (s.elapse (ms 1 - 1)).testing 0 = true ∧
    attemptCause k 0 stepLimits one false order ret = none ∧ attemptCause k 0 stepLimits two false order ret = some 1 ∧
    attemptCause k 0 [1000, 1000, 500, 500, 500, 12000, 2001] [] false order ret = some 6 ∧
    attemptCause k 0 stepLimits [] false [1, 0, 2, 3, 4, 5, 6, 7] ret = some 3 ∧ attemptCause k 0 stepLimits [] true order ret = some 6 ∧
    attemptCause k 0 stepLimits [{ eyeMv := 29 }, { eyeWidth := 299 }] false order ret = some 5 ∧
    k.attemptAt + 75000000 ≤ s.clock.up + 75000000 := by decide

/-- A link with its spare, one that used it, and one that is narrow. -/
theorem witness_LanesAreSpared :
    let first := link0 { state := 2, cmds := [(1, 0, 2)] }
    let second := link0 { state := 3, spared := 0, dataSpare := false }
    let third := link0 { state := 4, spared := 0, narrowed := 1, dataSpare := false, retSpare := false, retOnSpare := true }
    first.linkUp (0 : Fin 16) = true ∧ (first.link (0 : Fin 16)).state ≠ 5 ∧ 7 < 8 ∧ (first.link (0 : Fin 16)).narrowed ≠ 7 ∧
    (first.link (0 : Fin 16)).dataSpare = true ∧ (first.link (0 : Fin 16)).spared = 0xFF ∧ second.linkUp (0 : Fin 16) = true ∧
    (second.link (0 : Fin 16)).state ≠ 5 ∧ (second.link (0 : Fin 16)).narrowed = 0xFF ∧ (second.link (0 : Fin 16)).dataSpare = false ∧
    (second.link (0 : Fin 16)).spared ≠ 7 ∧ third.linkUp (0 : Fin 16) = true ∧ (third.link (0 : Fin 16)).state ≠ 5 ∧
    (third.link (0 : Fin 16)).narrowed ≠ 0xFF ∧ (third.link (0 : Fin 16)).narrowed ≠ 7 ∧ (third.link (0 : Fin 16)).dataSpare = false ∧
    (third.link (0 : Fin 16)).spared ≠ 7 ∧ ((first.link (0 : Fin 16)).cmds.find? fun c => c.1 == 1) = some (1, 0, 2) ∧ (2 : Nat) ≠ 1 ∧
    (first.link (0 : Fin 16)).retSpare = true ∧ (first.link (0 : Fin 16)).retOnSpare = false ∧ (third.link (0 : Fin 16)).retSpare = false ∧
    (third.link (0 : Fin 16)).retOnSpare = true := by decide

theorem witness_LinksWake : ((link0 { state := 5 }).link (0 : Fin 16)).state = 5 ∧ (0 : Fin 16).val < (link0 { state := 5 }).links.length := by decide

/-- The one stand of the wall in another condition. -/
def stand0 (st : Stand) : State := { play with stands := [st] }

theorem witness_TemperaturesArrive :
    play.linkUp (0 : Fin 16) = true ∧ 0 < (stand0 { tempMiss := 60 }).stands.length ∧ 60 ≤ ((stand0 { tempMiss := 60 }).stand 0).tempMiss ∧
    ((stand0 { tempMiss := 60 }).stand 0).tempLost = false := by decide

/-- The rails just below and just above their range. -/
theorem witness_StatusIsTaken :
    play.linkUp (0 : Fin 16) = true ∧ play.standAt (0 : Fin 16) 0 = some 0 ∧ (play.stand 0).admission ≠ 1 ∧ 0 < play.stands.length ∧
    u16 (zeros 16 ++ le 2 14249) 16 < 14250 ∧ 15750 < u16 (zeros 16 ++ le 2 15751) 16 := by decide

theorem witness_DiagnosticsAreTaken :
    let on := fun (mode : Nat) (tick : Nat) => ({ inMode mode (link0 { state := 2, measSlots := [(tick, 3, 0, 2)] }) with
      clock := { play.clock with tick := tick } } : State)
    let s := on 2 7
    let found := fun (s : State) => ((s.link (0 : Fin 16)).measSlots.find? fun c => c.2.2.1 == 0 && c.1 % 0x100000000 == 7 && (c.2.1 == 3 || s.calSlot c))
    s.linkUp (0 : Fin 16) = true ∧ s.standIn (0 : Fin 16) 0 (s.fullTick 7) = some 0 ∧ found s = some (7, 3, 0, 2) ∧ s.calSlot (7, 3, 0, 2) = false ∧
    found (on 7 7) = some (7, 3, 0, 2) ∧ (on 7 7).calSlot (7, 3, 0, 2) = true ∧ 49151 + (diagSamples []).length < 49152 ∧
    49152 ≤ 49152 + (diagSamples []).length ∧ found play = none ∧ ({ op := 1 } : Cal).op = 1 ∧ 0 = ({ op := 1 } : Cal).memoryTo ∧
    (zeros 8).length ≤ 65536 := by decide

theorem witness_AcksAreTaken :
    let s : State := { link0 { state := 2, cmds := [(1, 0, 2)] } with stands := [{ steerWin := 4 * 7 + 2 + 1 }], clock := { play.clock with tick := 7 } }
    s.linkUp (0 : Fin 16) = true ∧ (s.link (0 : Fin 16)).cmds.find? (fun c => c.1 == 1) = some (1, 0, 2) ∧ (2 : Nat) ≠ 1 ∧
    s.standIn (0 : Fin 16) 0 (s.fullTick 7) = some 0 ∧
    s.synth.left = [] ∧ ((s.stand 0).steerWin - 1) / 4 % 0x100000000 = 7 ∧ ((s.stand 0).steerWin - 1) % 4 = 2 ∧ ((s.stand 0).steerWin - 1) % 4 ≠ 3 := by decide

theorem witness_RailsRecover :
    ((stand0 { railFault := true, railOkAt := some 0 }).stand 0).railOkAt = some 0 ∧ ((stand0 { railFault := true, railOkAt := some 0 }).stand 0).railFault = true ∧
    0 + 300000000 ≤ play.clock.up + 300000000 ∧ play.clock.up + 299999999 < 0 + 300000000 := by decide

theorem witness_StandsAreRemoved :
    ∃ a b c : State, 0 < a.stands.length ∧ 5 ≤ (a.stand 0).statusMiss ∧ (a.stand 0).removed = false ∧ (a.stand 0).released = false ∧
    5 ≤ (b.stand 0).statusMiss ∧ (b.stand 0).seen = true ∧ (b.stand 0).released = true ∧ (c.stand 0).statusMiss < 5 ∧
    a.linkRuns (a.standCfg 0).link = true ∧ b.stands.length = 1 ∧ c.stands.length = 1 :=
  ⟨stand0 { statusMiss := 5 }, stand0 { statusMiss := 5, removed := true, seen := true, released := true }, stand0 { statusMiss := 4 }, by decide⟩

/-! ### The frame store -/

theorem witness_Refreshes :
    let debt := fun (n : Nat) => ({ play with fs := { play.fs with pcs := [{ pc := 127, debt := n }] } } : State)
    127 < 128 ∧ (debt 3).storeUp (127 / 64) = true ∧ (debt 3).fs.selfRefresh = false ∧ ((debt 3).fs.pc 127).debt < 4 ∧ 4 ≤ ((debt 4).fs.pc 127).debt ∧
    0 < ((debt 3).fs.pc 127).debt ∧ ((debt 0).fs.pc 127).debt = 0 ∧ play.settings.pdOff = false ∧ 3 ≤ 3 ∧
    (let e := (debt 3).elapse 23229
     e.refreshAt 127 ≤ e.clock.up) ∧ ((debt 3).elapse 23228).clock.up < ((debt 3).elapse 23228).refreshAt 127 ∧
    (play.elapse 0).busyId 127 3 = false ∧
    (({ play with fs := { play.fs with pcs := [{ pc := 127, woke := [(3, 0)] }] }, settings := { play.settings with idleNs := 1 } } : State).elapse 2).busyId 127 3 = true ∧
    ({ play.settings with pdOff := true } : Settings).pdOff = true := by decide

theorem witness_SensorsAndPanics :
    lookupD play.fs.rtPanic (0 : Fin 16) false = false ∧ lookupD [(0, true)] (0 : Fin 16) false = true := by decide

theorem witness_Training :
    let q := fun (kind : Nat) => ({ play with fs := { play.fs with trainQueue := [(0xFF, kind, 0)] } } : State)
    (q 2).fs.trainQueue = [(0xFF, 2, 0)] ∧ (q 2).fs.changing = false ∧ (q 1).fs.trainQueue = [(0xFF, 1, 0)] ∧ (q 1).fs.pending ≠ some 2 ∧
    ({ (q 1).fs with pending := some 2 } : FrameStore).pending = some (q 1).fs.setPoint ∧ livePass 2 = true ∧ livePass 1 = false := by decide

theorem witness_SetPointChanges :
    let p : State := { up with fs := { up.fs with pending := some 3 } }
    p.fs.pending = some 3 ∧ p.fs.trainQueue = [] ∧ p.fs.changing = false ∧ p.needsNoGap = true ∧
    (inMode 2 p).needsNoGap = false ∧ ((inMode 2 p).elapse 0).inGap = false ∧ ({ p.fs with changing := true } : FrameStore).changing = true ∧
    ((inMode 2 p).elapse 49078750).inGap = true ∧ (inMode 2 p).fs.changeFrom ≤ ((inMode 2 p).elapse 49078750).gapAt ∧
    ((inMode 2 p).elapse 49078750).gapAt < ({ p.fs with changeFrom := 49078751 } : FrameStore).changeFrom := by decide

/-- The last byte of the address space, and one of a ray frame with seven errors before. -/
theorem witness_CorrectedReads :
    128 * gib - 1 < 128 * gib ∧ play.storeUp ((128 * gib - 1) / (64 * gib)) = true ∧ regionOf (128 * gib - 1) ≠ 1 ∧
    (∃ a, a < 128 * gib ∧ regionOf a = 1 ∧ countAt (addAt [] (pageOf a).1 (pageOf a).2 id 0) (pageOf a).1 (pageOf a).2 < 8 ∧
      8 ≤ countAt (addAt [((pageOf a).1, (pageOf a).2, List.replicate 7 0)] (pageOf a).1 (pageOf a).2 id 0) (pageOf a).1 (pageOf a).2) :=
  ⟨by decide, by decide, by decide, 0, by decide⟩

theorem witness_UncorrectableReads :
    let bad : State := { play with fs := { play.fs with poisoned := [granuleOf 0] } }
    (0 : Nat) < 128 * gib ∧ 46 ≤ 46 ∧ bad.storeUp (0 / (64 * gib)) = true ∧ bad.isPoisoned 0 = true ∧ play.isPoisoned 0 = false := by decide

theorem witness_RowsAreSpared :
    let s : State := { play with fs := { play.fs with rowsDue := [(5, 9)] } }
    s.fs.rowsDue.contains (5, 9) = true ∧ (inMode 0 s).needsNoGap = true ∧ s.needsNoGap = false ∧ (s.elapse 0).inGap = false := by decide

theorem witness_CopiesAndScrubsEnd :
    let f : FrameStore := { play.fs with moves := [{ die := 0, copied := true }, { die := 0, new := 32768 }, { die := 1 }] }
    (f.moves.findIdx? fun v => v.die == (0 : Fin 2).val && !v.copied) = some 1 ∧
    (play.fs.moves.findIdx? fun v => v.die == (0 : Fin 2).val && !v.copied) = none ∧ ([127] : List Nat).contains 127 = true ∧
    play.storeUp (1 : Fin 2) = true ∧ (play.elapse (hours 24)).since (play.fs.scrubAt.getD (1 : Fin 2) 0) (hours 24) = true ∧
    (play.elapse (hours 24 - 1)).since (play.fs.scrubAt.getD (1 : Fin 2) 0) (hours 24) = false := by decide

theorem witness_LiveTraining :
    let s := up
    let warm : State := { up with fs := { up.fs with stackTemp := [some 350, none, none, none] } }
    s.storeUp 0 = true ∧ warm.storeUp (0 / 2) = true ∧ s.fs.selfRefresh = false ∧ s.fs.trainQueue = [] ∧ s.fs.trainAfter = [] ∧ s.fs.changing = false ∧
    s.fs.lastTrainUp + sec 10 ≤ s.clock.up + sec 10 ∧ warm.fs.stackTemp.getD 0 none = some 350 ∧ 50 ≤ ((350 : Int) - warm.fs.lastTrainTemp.getD 0 0).natAbs ∧
    s.clock.up + (sec 10 - 1) < s.fs.lastTrainUp + sec 10 ∧ (∀ k < 4, s.fs.stackTemp.getD k none = none) ∧
    ((State.reset.storeUp 0 || State.reset.storeUp 1) && !State.reset.fs.selfRefresh && State.reset.fs.trainQueue == [] &&
      State.reset.fs.trainAfter == [] && !State.reset.fs.changing) = false ∧
    ({ up.fs with trainQueue := [(0xFF, 2, 0)] } : FrameStore).trainQueue = [(0xFF, 2, 0)] ∧ livePass 2 = true := by decide

/-! ### The skyline -/

/-- A wall in a chain: port 0 toward the parent, which is up, port 2 toward a child. -/
def chained : State := { up with
  settings := { up.settings with chainRoot := false, roles := [1, 2, 3, 4] }
  chain := { up.chain with ports := [{ state := 2, heard := { depth := 1, nextTick := 9 }, goodSince := some 0, depthSince := some 0 }, {}, { state := 3 }, {}], parent := some 0, hadParent := true } }

/-- The same with another state of port 0. -/
def port0 (p : Port) (s : State) : State := { s with chain := { s.chain with ports := p :: s.chain.ports.tail } }

/-- What a beacon at port 0 makes of the state before the parent is judged, as the statement says. -/
def noted (t : State) (bytes : List Byte) : State :=
  let b := beaconOf bytes
  let here := b.flags.getLsbD 2
  let h := t.updPort 0 fun q => { q with
    heard := b, lastBeacon := t.clock.up, goodSince := some (q.goodSince.getD t.clock.up)
    inAnd := if q.grace.isSome && !here then q.inAnd else here && (q.up || q.inAnd)
    grace := if here && q.up then none else q.grace, leftOut := q.leftOut && !(here && q.up) }
  let c := if here then h.hear { address := b.address, serial := b.serial, port := 0, path := [t.roleOrder 0] }
    else { h with chain := { h.chain with claims := h.chain.claims.filter fun c => c.port != (0 : Fin 4).val } }
  (if c.role 0 = 1 ∨ c.role 0 = 2 then c else c.restorePort 0).noteDepths

/-- Beacons at a root, and at an A9 whose parent is lost, with and without a port to return to. -/
theorem witness_Beacons :
    let lost := ({ chained with chain := { chained.chain with parent := none, hadParent := false } } : State)
    let far := [0, 0, 0xFF] ++ zeros 61
    up.lanesRun = true ∧ ({ up with modes := { up.modes with rst := true } } : State).lanesRun = false ∧ (up.port (0 : Fin 4)).carries = false ∧ (chained.port (0 : Fin 4)).carries = true ∧
    (noted (port0 { state := 2 } up) []).settings.chainRoot = true ∧ (noted chained []).settings.chainRoot = false ∧
    (noted chained []).chain.parent = some 0 ∧ (beaconOf []).depth < 0xFF ∧ 0xFF ≤ (beaconOf far).depth ∧ (noted chained far).chain.parent = some 0 ∧
    (lost.port (0 : Fin 4)).carries = true ∧ (noted lost []).settings.chainRoot = false ∧ (noted lost []).chain.parent.isSome = false ∧
    (noted lost []).chain.hadParent = false ∧ (noted lost []).bestPort = some 0 ∧ (noted lost far).bestPort = none := by decide

theorem witness_SkylineFrames :
    let s := port0 { state := 2, fr := { txNext := 5, txAcked := 2, txSince := 0 } } up
    let late : State := { s with clock := { s.clock with up := 12000 } }
    let f : LinkFrame := { body := [], seq := 0, replay := false, ack := 4, nak := false, good := true }
    let k := (s.port 0).fr
    ((up.portTimer 0).port 0).carries = false ∧ f.good = true ∧ f.nak = false ∧ { f with good := false }.good = false ∧
    0 < seqGap k.txAcked ((f.ack + 1) % 32768) ∧ seqGap k.txAcked ((f.ack + 1) % 32768) ≤ seqGap k.txAcked k.txNext ∧
    seqGap k.txAcked ((1 + 1) % 32768) = 0 ∧ seqGap k.txAcked k.txNext < seqGap k.txAcked ((5 + 1) % 32768) ∧
    (late.port 0).fr.recovering = none ∧ (late.port 0).carries = true ∧ (late.port 0).fr.txAcked ≠ (late.port 0).fr.txNext ∧
    (late.port 0).fr.txSince + 12000 ≤ late.clock.up ∧ (s.port 0).fr.txReplays + 1 < 4 ∧
    4 ≤ ((port0 { state := 2, fr := { txReplays := 3 } } up).port 0).fr.txReplays + 1 ∧ 0 < s.chain.ports.length := by decide

/-- A frame whose SEQ is not the one expected, and one of zeros that is taken. -/
theorem witness_SkylineFramesAreTaken :
    let s := port0 { state := 2, fr := { rxScr := [0, 0] } } up
    (s.portFrame 0 (List.replicate 64 (2, 5))).2 = false ∧
    (s.portFrame 0 (returnBlocks (frameTag 0 false 0 false (zeros 1024)) fun _ => 0)).2 = true := by
  intro s
  refine ⟨?_, ?_⟩
  · have h : ∀ body, ((frameOf (List.replicate 64 (2, 5)) body).seq == (s.port 0).fr.rxExpect) = false := fun _ => rfl
    show LinkFrame.takenBy _ _ _ = false
    unfold LinkFrame.takenBy
    rw [h, Bool.and_false, Bool.false_and]
  · have hz : ∀ n, scramble (([0, 0] : List Nat).getD (n % 2) 0) 0 = (0, 0) := by
      intro n
      have : n % 2 = 0 ∨ n % 2 = 1 := by omega
      rcases this with h | h <;> rw [h] <;> decide +kernel
    have hu : ∀ n, upd ([0, 0] : List Nat) (n % 2) (fun _ => 0) = [0, 0] := by
      intro n
      have : n % 2 = 0 ∨ n % 2 = 1 := by omega
      rcases this with h | h <;> rw [h] <;> rfl
    have : ∀ (bs : List ((Nat × Nat) × Nat)) (l : List Byte), (∀ b ∈ bs, b.1.2 = 0) →
        bs.foldl (fun (a : List Nat × List Byte) e =>
          let x := scramble (a.1.getD (e.2 % 2) 0) e.1.2
          (upd a.1 (e.2 % 2) fun _ => x.1, a.2 ++ le 16 x.2)) ([0, 0], l) = ([0, 0], l ++ bs.flatMap fun _ => le 16 0) := by
      intro bs
      induction bs with
      | nil => intro l _; simp
      | cons b bs ih =>
        intro l hl
        simp only [List.foldl_cons, hl b List.mem_cons_self, hz, hu, List.flatMap_cons]
        rw [ih _ fun b hb => hl b (List.mem_cons_of_mem _ hb), List.append_assoc]
    have hf : ∀ bs : List (Nat × Nat), (∀ b ∈ bs, b.2 = 0) →
        (s.portFrame 0 bs).2 = (frameOf bs (bs.zipIdx.flatMap fun _ => le 16 0)).takenBy 0 false := by
      intro bs h
      have hr : (s.port 0).fr.rxScr = [0, 0] := rfl
      unfold State.portFrame
      simp only [hr]
      rw [this _ _ fun b hb => h _ (List.fst_mem_of_mem_zipIdx hb), List.nil_append]
      rfl
    have hb : ∀ t, ((returnBlocks t fun _ => 0).zipIdx.flatMap fun _ => le 16 0) = zeros 1024 := by
      intro t
      have : ((returnBlocks t fun _ => 0).zipIdx.flatMap fun _ => le 16 0) = (List.range 64).flatMap fun _ => le 16 0 := rfl
      rw [this]
      decide +kernel
    rw [hf _ (by simp [returnBlocks]), hb]
    exact returnBlocks_taken _ _

theorem witness_RelayPackets :
    (up.port (0 : Fin 4)).up = false ∧ (chained.port (0 : Fin 4)).up = true ∧ chained.chain.parent = some (0 : Fin 4).val ∧
    (chained.port (2 : Fin 4)).up = true ∧ chained.chain.parent ≠ some (2 : Fin 4).val ∧ chained.lanesRun = true ∧
    chained.role (2 : Fin 4) ≠ 1 ∧ chained.role (2 : Fin 4) ≠ 2 ∧ ({ chained.chain with parent := some 1 } : Chain).parent ≠ some (0 : Fin 4).val ∧
    chained.role (0 : Fin 4) = 1 := by decide

/-- A command for a child, one for this A9 itself, a response that a mailbox waits for. -/
theorem witness_ManagementPackets :
    let c := fun (op target : Nat) => { Cmd.parse 0 (le 2 op ++ le 2 (1 + 256 * target) ++ zeros 12) with tunnelled := true }
    let root : State := { port0 { state := 2 } up with mailboxes := [{ state := 2, tunnelled := true, running := le 2 0x0104 ++ zeros 14 }] }
    (c 0x0104 5).target ≠ chained.ownAddress ∧ (c 0x0104 0).target = chained.ownAddress ∧ chained.serves = true ∧
    commandDef (c 0x0104 0).opcode = some sysEcho ∧ commandDef (c 0xEEEE 0).opcode = none ∧
    (root.port (0 : Fin 4)).up = true ∧ root.chain.parent ≠ some (0 : Fin 4).val ∧ root.settings.chainRoot = true ∧ root.serves = true ∧ (root.mbx 0).state = 2 ∧
    chained.settings.chainRoot = false ∧ (chained.port (2 : Fin 4)).up = true ∧ chained.chain.parent ≠ some (2 : Fin 4).val ∧
    (root.mbx 0).tunnelled = true ∧ u16 (le 2 0x0104 ++ zeros 14) 0 = u16 (root.mbx 0).running 0 ∧
    u32 (le 2 0x0104 ++ zeros 14) 4 = u32 (root.mbx 0).running 4 ∧ u16 (le 2 0x0104 ++ zeros 14) 0 ≠ 0x0101 ∧ u16 (le 2 0x0101 ++ zeros 14) 2 = 0 := by
  refine ⟨by decide, by decide, by decide, rfl, rfl, by decide, by decide, by decide, by decide, by decide, by decide, by decide, by decide, by decide, by decide, by decide, by decide, by decide⟩

theorem witness_PortsDie :
    let other : State := { chained with chain := { chained.chain with parent := some 1 } }
    let spare : State := { chained with chain := { chained.chain with
      ports := [{ state := 2, heard := { depth := 1 } }, { state := 2, heard := { depth := 1 }, goodSince := some 0 }, {}, {}] } }
    let again := port0 { state := 4, lanes := 2 } chained
    let dead := fun (s : State) => (((s.elapse 0).forget (0 : Fin 4)).updPort (0 : Fin 4) fun q => { q with
      state := 4, lanes := 0, goodSince := none, depthSince := none, bypasses := (q.bypasses + 1) % 0x100000000, hopReported := none,
      hopList := [], grace := if q.inAnd then some ((s.elapse 0).forget (0 : Fin 4)).clock.up else none, buffer := [], wasUp := false, fr := {} }).raise
        evChainBypass 0 [(s.port (0 : Fin 4)).heard.address]
    (other.port (0 : Fin 4)).carries = true ∧ (other.port (0 : Fin 4)).state ≠ 4 ∧ (dead other).chain.parent ≠ some (0 : Fin 4).val ∧
    (chained.port (0 : Fin 4)).carries = true ∧ (dead chained).chain.parent = some (0 : Fin 4).val ∧ (dead chained).bestPort = none ∧
    (spare.port (0 : Fin 4)).carries = true ∧ (dead spare).chain.parent = some (0 : Fin 4).val ∧ (dead spare).bestPort = some 1 ∧
    (chained.port (0 : Fin 4)).lastBeacon + 900000 ≤ chained.clock.up + 900000 ∧
    chained.clock.up + 899999 < (chained.port (0 : Fin 4)).lastBeacon + 900000 ∧ (again.port (0 : Fin 4)).carries = true ∧
    (again.port (0 : Fin 4)).state = 4 ∧ (up.port (0 : Fin 4)).carries = false ∧ (up.port (0 : Fin 4)).wasUp = false := by decide

theorem witness_DeadPortsStayDead :
    let dead := port0 { state := 4, lanes := 2, goodSince := some 0 } up
    let late : State := { dead with clock := { dead.clock with up := 3000000000 } }
    (dead.port 0).state = 4 ∧ 0 < dead.chain.ports.length ∧ (dead.port 0).lanes ≠ 0 ∧ (dead.port 0).goodSince = some 0 ∧
    dead.clock.up < 0 + 3000000000 ∧ (late.port 0).state = 4 ∧ 0 + 3000000000 ≤ late.clock.up ∧
    ((port0 { state := 4 } up).port 0).lanes = 0 := by decide

theorem witness_PortsComeUp :
    let dead := port0 { state := 4 } chained
    let down := port0 {} chained
    let recovers := port0 { state := 1, fr := { recovering := some 0 } } chained
    let beside := fun (q : Port) => ({ chained with
      chain := { chained.chain with ports := [q, { state := 2, heard := { depth := 1 } }, {}, {}], parent := some 1 } } : State)
    let good : Port := { state := 2, heard := { depth := 1 }, goodSince := some 0, depthSince := some 0 }
    down.role (0 : Fin 4) ≠ 0 ∧ (down.port (0 : Fin 4)).up = false ∧ (down.port (0 : Fin 4)).state ≠ 4 ∧ (down.port (0 : Fin 4)).fr.recovering = none ∧
    (recovers.port (0 : Fin 4)).up = false ∧ (recovers.port (0 : Fin 4)).state ≠ 4 ∧ (recovers.port (0 : Fin 4)).fr.recovering = some 0 ∧
    recovers.clock.up + 600000 ≤ 0 + 600000 ∧ (dead.port (0 : Fin 4)).state = 4 ∧ (dead.port (0 : Fin 4)).fr.recovering = none ∧
    (dead.port (0 : Fin 4)).up = false ∧ up.role (0 : Fin 4) = 0 ∧ up.settings.chainRoot = true ∧ (beside good).settings.chainRoot = false ∧
    (beside good).role (0 : Fin 4) = 1 ∧ ((beside good).port (0 : Fin 4)).up = true ∧ (beside good).chain.parent ≠ some (0 : Fin 4).val ∧
    good.heard.depth < 0xFF ∧ good.heard.flags.getLsbD 2 = false ∧ good.goodSince = some 0 ∧ good.depthSince = some 0 ∧
    0 + 3000000000 ≤ (beside good).clock.up + 3000000000 ∧ (beside good).clock.up + 2999999999 < 0 + 3000000000 ∧
    ((beside { good with depthSince := none }).port (0 : Fin 4)).depthSince = none := by decide

theorem witness_TickAndReady :
    let by3 := { chained with tb := { chained.tb with source := 3, state := 1 } }
    let locked := { chained with tb := { chained.tb with source := 3, state := 2, needStep := false } }
    let told : Beacon := { nextTick := locked.clock.tick + 1, nextTime := 100000000 }
    let f := fun (s : State) => forEach s.fedPorts (s.elapse 0) fun q t => t.emit (.tickEdge q ((s.elapse 0).clock.up + 3 * s.chain.fwdPs / 1000))
    let off := phase by3.period (((by3.clock.up + 0 : Nat) : Int) + chainLead - 0 - by3.clock.nextUp)
    up.chain.parent ≠ some (0 : Fin 4).val ∧ chained.chain.parent = some (0 : Fin 4).val ∧ chained.tb.source ≠ 3 ∧ by3.tb.source = 3 ∧
    by3.tb.follow = false ∧ ({ by3.tb with follow := true } : TimeBase).follow = true ∧
    locked.tb.source = 3 ∧ locked.tb.state = 2 ∧ locked.tb.needStep = false ∧ locked.tb.follow = false ∧ locked.tb.change = none ∧
    us 3 < ((3 * told.nextTime : Int) - (locked.clock.dev + (locked.clock.nextUp - locked.clock.up) : Nat)).natAbs ∧
    (by3.port (0 : Fin 4)).heard.nextTick ≠ 0 ∧ by3.tb.state ≠ 2 ∧ ((f by3).measured (off.fdiv 3) false).tb.state ≠ 4 ∧
    ((f by3).measured (off.fdiv 3) false).tb.state ≠ 3 ∧ (by3.port (0 : Fin 4)).heard.flags.getLsbD 0 = false ∧ (f by3).dCum = 0 ∧
    ((port0 {} by3).port (0 : Fin 4)).heard.nextTick = 0 ∧
    (up.port (0 : Fin 4)).holdUntil ≤ up.clock.up + 0 ∧ up.clock.up + 2999 < ((port0 { holdUntil := 3000 } up).port (0 : Fin 4)).holdUntil ∧
    (chained.port (0 : Fin 4)).up = true ∧ (up.port (0 : Fin 4)).up = false := by decide

theorem witness_HopsAndGrace :
    let measured := port0 { state := 2, hopReported := some 100, grace := some 0 } up
    (chained.port (0 : Fin 4)).up = true ∧ (chained.port (0 : Fin 4)).hopReported = none ∧ (measured.port (0 : Fin 4)).hopReported = some 100 ∧
    50 < ((mean [151] : Int) - 100).natAbs ∧ ((mean [150] : Int) - 100).natAbs ≤ 50 ∧ (measured.port (0 : Fin 4)).grace = some 0 ∧
    0 + 3000 * measured.settings.graceUs ≤ measured.clock.up + 1500000000 ∧ measured.clock.up + 1499999999 < 0 + 3000 * measured.settings.graceUs := by decide

/-! ### The time base -/

/-- FSYNC_IN with a last accepted edge at 0; P is 50,000,000 units. -/
def synced (f : FsyncIn) : State := { up with tb := { up.tb with source := 2, fsync := { f with last := some 0 } } }

theorem witness_FrameSyncEdges :
    let s := synced {}
    let now := 37499999
    ({ up.tb.fsync with armed := false } : FsyncIn).armed = false ∧ s.tb.fsync.armed = true ∧ 19 < 20 ∧ 20 ≤ 20 ∧ false = s.tb.fsync.falling ∧
    true ≠ s.tb.fsync.falling ∧ up.tb.fsync.last = none ∧ s.tb.fsync.last = some 0 ∧ 4 * (now - 0) < 3 * s.period ∧
    ((s.tb.fsync.ignored.filter fun t => now < t + sec 1) ++ [now]).length ≤ 8 ∧
    8 < (((List.replicate 8 37499998).filter fun t => now < t + sec 1) ++ [now]).length ∧ 5 * s.period < 2 * (125000001 - 0) ∧
    3 * s.period ≤ 4 * (50000000 - 0) ∧ 2 * (50000000 - 0) ≤ 5 * s.period ∧ 1000 * ((50000000 : Nat) - (0 : Int) - s.period).natAbs ≤ s.period ∧
    s.period < 1000 * ((50050001 : Nat) - (0 : Int) - s.period).natAbs ∧ 2 * (50050001 - 0) ≤ 5 * s.period ∧ s.tb.fsync.offrate < 7 ∧
    7 ≤ (synced { offrate := 7 }).tb.fsync.offrate ∧ s.tb.source = 2 ∧ 2 * max (s.tb.fsync.last.getD 0) s.tb.appliedAt + 5 * s.period < 2 * 125000001 ∧
    2 * 125000000 ≤ 2 * max (s.tb.fsync.last.getD 0) s.tb.appliedAt + 5 * s.period ∧ up.tb.source ≠ 2 := by decide

/-- PTP port 0 as a client with a master, or without; source 1. -/
def ptp0 (q : PtpPort) : State := { up with tb := { up.tb with source := 1, ptp := [q, {}] } }

theorem witness_PtpMasters :
    let m := ptp0 { mode := 1, master := some 5 }
    let n := ptp0 { mode := 1 }
    let b : PtpPort := { mode := 1 }
    m.tb.source = 1 ∧ (m.ptpPort (0 : Fin 2)).mode ≠ 0 ∧ (m.ptpPort (0 : Fin 2)).master.isSome = true ∧ up.tb.source ≠ 1 ∧ (up.ptpPort (0 : Fin 2)).mode = 0 ∧
    (m.ptpPort (0 : Fin 2)).master = some 5 ∧ (n.ptpPort (0 : Fin 2)).master ≠ some 5 ∧ (n.ptpPort (0 : Fin 2)).mode ≠ 0 ∧
    (m.elapse (sec 2)).since (m.ptpPort (0 : Fin 2)).lastAnnounce ((m.ptpPort (0 : Fin 2)).announceTimeout * logInterval (m.ptpPort (0 : Fin 2)).logAnnounce) = true ∧
    (m.elapse (sec 2 - 1)).since (m.ptpPort (0 : Fin 2)).lastAnnounce ((m.ptpPort (0 : Fin 2)).announceTimeout * logInterval (m.ptpPort (0 : Fin 2)).logAnnounce) = false ∧
    (∀ x ∈ (m.updPtp (0 : Fin 2) fun q => { q with master := none }).tb.ptp, x.master = none) ∧
    (∃ x ∈ m.tb.ptp, x.master = some 5) ∧ (∀ x ∈ [b], x.master ≠ some 5) ∧
    (n.ptpPort (0 : Fin 2)).master = none := by decide

theorem witness_PtpMessages :
    ((ptp0 { mode := 2 }).ptpPort (0 : Fin 2)).serves = true ∧ (up.ptpPort (0 : Fin 2)).serves = false ∧
    ((ptp0 { mode := 1, master := some 5 }).ptpPort (0 : Fin 2)).master.isSome = true ∧ (up.ptpPort (0 : Fin 2)).master = none ∧
    ((ptp0 { mode := 1 }).ptpPort (0 : Fin 2)).mode ≠ 0 ∧ ({ mode := 1, flags := 1 } : PtpPort).flags.getLsbD 0 = true ∧
    ({ mode := 1 } : PtpPort).flags.getLsbD 0 = false ∧ ({ mode := 1 } : PtpPort).p2p = false ∧
    (∃ f, ({ mode := 1, flags := f } : PtpPort).p2p = true) ∧
    (∀ kind < 3, 0 + ({ mode := 2 } : PtpPort).interval kind ≤ up.clock.up + sec 1 ∧
      up.clock.up + (sec 1 - 1) < 0 + ({ mode := 2 } : PtpPort).interval kind) := by decide

theorem witness_TimedPulses :
    let t : TPulse := { enable := true, next := 10 }
    ({ up with tb := { up.tb with tpulse := [t] } } : State).tb.tpulse[(0 : Fin 4).val]? = some t ∧ t.enable = true ∧
    pulseDue (up.elapse 30).nowNs t.next = true ∧ pulseDue (up.elapse 29).nowNs t.next = false := by decide

/-! ### The lease, region errors and recovery -/

/-- The complex of die West in another condition. -/
def west (c : Machine.Complex) (s : State) : State := { s with bellows := { s.bellows with complexes := c :: s.bellows.complexes.tail } }

theorem witness_Leases :
    let free : State := { up with bellows := { up.bellows with holder := none } }
    let last : State := { up with bellows := { up.bellows with missed := 2 } }
    let other : State := { west { stopped := true } up with bellows := { (west { stopped := true } up).bellows with holder := some 1 } }
    (west { inReset := true } up |>.complex (0 : Fin 2)).inReset = true ∧ (up.complex (0 : Fin 2)).inReset = false ∧ (up.complex (0 : Fin 2)).fenced = false ∧
    up.bellows.holder = some (0 : Fin 2).val ∧ up.bellows.holder ≠ some (1 : Fin 2).val ∧ (up.complex (1 : Fin 2)).stopped = false ∧
    (up.complex (1 : Fin 2)).inReset = false ∧ (up.complex (1 : Fin 2)).fenced = false ∧
    free.bellows.holder = none ∧ ((west { stopped := true } free).complex (0 : Fin 2)).stopped = true ∧ (west { stopped := true } free).bellows.holder = none ∧
    ((west { stopped := true } free).complex (0 : Fin 2)).inReset = false ∧ ((west { stopped := true } free).complex (0 : Fin 2)).fenced = false ∧
    other.bellows.holder = some 1 ∧ 1 ≠ (0 : Fin 2).val ∧ (other.complex (0 : Fin 2)).stopped = true ∧ (other.complex (0 : Fin 2)).inReset = false ∧
    (other.complex (0 : Fin 2)).fenced = false ∧
    up.clock.up + 29999999 < up.bellows.renewAt + 30000000 * (up.bellows.missed + 1) ∧
    up.bellows.renewAt + 30000000 * (up.bellows.missed + 1) ≤ up.clock.up + 30000000 ∧ up.bellows.missed < 2 ∧
    last.bellows.renewAt + 30000000 * (last.bellows.missed + 1) ≤ last.clock.up + 90000000 ∧ 2 ≤ last.bellows.missed ∧
    up.bellows.holder.isSome = true ∧ (true && free.mayRequest 0) = true ∧ (true && free.mayRequest 1) = true ∧ (false && free.mayRequest 0) = false := by decide

theorem witness_ComplexesRestart :
    let lost : State := { up with faults := { up.faults with routeLostAt := [some 0, none] } }
    let drone := fun (m step : Nat) => ({ up with modes := { up.modes with drone := 2, mode := m, step := step } } : State)
    lost.faults.routeLostAt.getD (0 : Fin 2) none = some 0 ∧ 0 + 300000 ≤ lost.clock.up + 300000 ∧ up.faults.routeLostAt.getD (0 : Fin 2) none = none ∧
    ((west { fenceAt := some 0 } up).complex (0 : Fin 2)).fenceAt = some 0 ∧ 0 + 3000000 ≤ up.clock.up + 3000000 ∧
    ((west { lapseAt := some 0 } up).complex (0 : Fin 2)).lapseAt = some 0 ∧ 0 + 30000000 ≤ up.clock.up + 30000000 ∧
    ((west { fenceAt := some 0 } up).bellows.holder.isSome = true) ∧ ((west { fenceAt := some 0 } up).complex (otherDie (0 : Fin 2))).runs = true ∧
    ({ up.bellows with holder := none } : Bellows).holder = none ∧ (State.reset.complex (otherDie (0 : Fin 2))).runs = false ∧
    ((west { inReset := true } up).complex (0 : Fin 2)).inReset = true ∧ (up.complex (0 : Fin 2)).fenceAt = none ∧ (up.complex (0 : Fin 2)).lapseAt = none ∧
    (drone 0 0).modes.drone = 2 ∧ (drone 0 0).modes.mode ≠ 1 ∧ (drone 1 7).modes.step = 7 ∧ (drone 1 3).modes.mode = 1 ∧ (drone 1 3).modes.step ≠ 7 ∧
    up.modes.drone ≠ 2 := by decide

theorem witness_SelfFences :
    ((west { fenced := true } up).complex 0).fenced = true ∧ (up.complex 0).fenced = false ∧ 0 < up.bellows.complexes.length ∧ up.bellows.holder = some 0 := by decide

/-- The ends of the ranges of units and classes. -/
theorem witness_RegionErrors :
    let busy : State := { up with mailboxes := [{ state := 2 }, { state := 3 }] }
    (none : Option (Fin 8)) = none ∧ 5 ≠ 6 ∧ regionExists 2 543 = true ∧ regionExists 2 544 = false ∧ 1 ≤ 7 ∧ 7 ≤ 7 ∧ 7 < 8 ∧ (up.faults.region 2 543).state ≠ 3 ∧ 1 < 2 ∧ (up.faults.region 8 1).state ≠ 3 ∧
    up.outerHandled 4 8 1 = none ∧ (up.complex 1).fenced = false ∧ regionExists 10 70 = true ∧ (busy.mbx (0 : Fin 8)).state = 2 ∧
    (busy.mbx (1 : Fin 8)).state ≠ 2 := by decide

theorem witness_Handlers :
    let r : RegionRec := { kind := 2, unit := 0, state := 0, records := 1, cls := 1 }
    let q : State := { up with faults := { up.faults with regions := [r] } }
    let h := fun (n : Nat) (retest : Bool) => ({ up with
      faults := { up.faults with regions := [{ r with state := 1, handler := 0, records := n, retest := retest }] } } : State)
    let f : State := { up with faults := { up.faults with regions := [{ r with state := 2 }] } }
    (q.complex (0 : Fin 2)).runs = true ∧ q.handling (0 : Fin 2) = none ∧ q.nextRecord (0 : Fin 2) = some r ∧ ((west {} up).complex (0 : Fin 2)).runs = false ∧
    up.nextRecord (0 : Fin 2) = none ∧ (h 1 false).handling (0 : Fin 2) = some { r with state := 1, handler := 0 } ∧ 1 < 2 ∧
    (h 2 false).handling (0 : Fin 2) = some { r with state := 1, handler := 0, records := 2 } ∧
    ((h 2 true).handling (0 : Fin 2)).isSome = true ∧ (up.elapse 0).testFrom { r with kind := 5 } = none ∧ (up.elapse 0).testFrom r = some 0 ∧
    (up.elapse 50000000).testFrom { r with kind := 5 } = some ((up.elapse 50000000).gapAt) ∧ 0 + 2 * testLimit 2 ≤ up.clock.up + 2 * testLimit 2 ∧ up.clock.up + 0 < 0 + 2 * testLimit 2 ∧
    (f.faults.region 2 0).state = 2 ∧ (f.faults.region 2 0).fencedAt + hours 1 ≤ f.clock.up + hours 1 ∧
    f.clock.up + (hours 1 - 1) < (f.faults.region 2 0).fencedAt + hours 1 ∧ (up.faults.region 2 0).state ≠ 2 := by decide

theorem witness_DiesRestart :
    let due := fun (other : Option Nat) => ({ up with bellows := { up.bellows with resetDue := [1, 0], dieOff := [none, other] } } : State)
    let off : State := { up with bellows := { up.bellows with dieOff := [some 0, none] } }
    up.bellows.resetDue.getD (0 : Fin 2) 0 = 0 ∧ (due none).bellows.resetDue.getD (0 : Fin 2) 0 ≠ 0 ∧ (due none).canBoot = true ∧
    (due none).bellows.dieOff.getD (0 : Fin 2) none = none ∧ (due none).bellows.dieOff.getD (otherDie (0 : Fin 2)) none = none ∧
    ((due (some 0)).bellows.dieOff.getD (otherDie (0 : Fin 2)) none).isSome = true ∧ off.bellows.dieOff.getD (0 : Fin 2) none = some 0 ∧
    0 + 3000000 ≤ off.clock.up + 3000000 ∧ off.canBoot = true ∧ (off.faults.region 9 (0 : Fin 2)).state ≠ 3 ∧ off.power.coreFault.getD (0 : Fin 2) false = false ∧
    (0 : Fin 2).val < off.bellows.complexes.length ∧ (0 : Fin 2).val < off.bellows.dieOff.length ∧ (0 : Fin 2).val < off.bellows.rejoin.length := by decide

/-- One I/O block of each kind, out for 1 ms. -/
theorem witness_IoBlocksResume :
    let out := fun (unit : Nat) => ({ up with faults := { up.faults with regions := [{ kind := 10, unit := unit, state := 0, out := true }] } } : State)
    (((List.range 83).filter fun u => regionExists 10 u).map domainKind).dedup = [9, 10, 11, 12, 13, 14, 15, 16] ∧
    (∀ u ∈ (List.range 83).filter (fun u => regionExists 10 u), ((out u).faults.region 10 u).out = true ∧
      ((out u).faults.region 10 u).handled = true ∧ ((out u).faults.region 10 u).fenced = false) ∧
    ((out 70).faults.region 10 70).fencedAt + 3000000 ≤ (out 70).clock.up + 3000000 ∧ (up.faults.region 10 70).out = false := by decide

/-! ### Boot, loss of power, and the power monitors -/

/-- Reset with the history restored and boot in a stage. -/
def boot (stage source : Nat) : State := { State.reset with
  modes := { State.reset.modes with bootStage := stage, bootSource := source }, recorder := { State.reset.recorder with restoring := false } }

theorem witness_SystemReset :
    let low : State := { up with modes := { up.modes with rst := true } }
    let off := fun (s : State) => ({ s with bellows := { s.bellows with powerLost := true } } : State)
    low.modes.rst = true ∧ up.modes.rst = false ∧ up.bellows.running = true ∧ up.bellows.powerLost = false ∧ (off up).bellows.powerLost = true ∧
    ({ low with modes := { low.modes with rst := false } } : State).canBoot = true ∧ low.bellows.fresh = false ∧
    ({ off low with modes := { low.modes with rst := false } } : State).canBoot = false ∧ ({ low.bellows with fresh := true } : Bellows).fresh = true := by decide

/-- Stage 1 with an empty slot, with a bundle in the buffer, and as a child. -/
theorem witness_BundlesAreVerified :
    let hand : State := { boot 1 1 with security := { State.reset.security with bootBuffer := le 4 0x544F4F42 ++ zeros 4 ++ le 4 16 } }
    (boot 1 0).canBoot = true ∧ (boot 1 0).modes.standby = false ∧ up.modes.standby = true ∧ (boot 3 0).modes.bootStage ≠ 1 ∧ (boot 3 0).modes.bootSource ≠ 2 ∧
    ((boot 1 0).elapse 0).bundleInHand [] = none ∧ (hand.elapse 0).bundleInHand [] = some (zeros 16) ∧
    (boot 0 2).modes.bootSource = 2 ∧ (boot 0xE1 2).modes.bootStage = 0xE1 ∧ (((boot 0xE1 2).elapse 0).setStage 1 0).bundleInHand [1] = some [1] := by decide

theorem witness_ComplexesBoot :
    let b := fun (stage : Nat) => ({ boot stage 0 with bellows := { State.reset.bellows with complexes := [{}, { absent := true }] } } : State)
    up.booting (0 : Fin 2) = false ∧ (b 2).booting (0 : Fin 2) = true ∧ (b 2).modes.bootStage = 2 ∧ (b 3).booting (0 : Fin 2) = true ∧ (b 3).modes.standby = false ∧
    (west {} { up with bellows := { up.bellows with role := some 1 } }).booting (0 : Fin 2) = true ∧ ((b 2).complex (0 : Fin 2)).requested = false ∧ ({ requested := true } : Machine.Complex).requested = true ∧
    (b 2).modes.releasedAt + ms 600 ≤ (b 2).clock.up + ms 600 ∧ ((b 2).complex (otherDie (0 : Fin 2))).absent = true ∧
    ((boot 2 0).complex (otherDie (0 : Fin 2))).absent = false ∧ (boot 1 0).modes.bootStage < 2 ∧ 3 < up.modes.bootStage ∧
    (boot 3 0).bellows.holder = none ∧ (boot 3 0).modes.stageAt + sec 2 ≤ (boot 3 0).clock.up + sec 2 ∧ (boot 3 0).bellows.bootTries < 3 ∧
    3 ≤ ({ (boot 3 0).bellows with bootTries := 3 } : Bellows).bootTries ∧ (boot 4 0).bellows.holder = none ∧ 3 < (boot 4 0).modes.bootStage ∧
    ({ (boot 4 0).bellows with bothReset := some 0 } : Bellows).bothReset = some 0 ∧ 0 + sec 2 ≤ (boot 4 0).clock.up + sec 2 ∧
    (boot 4 0).clock.up + (sec 2 - 1) < 0 + sec 2 ∧ (boot 4 0).bellows.bothReset = none := by decide

theorem witness_StandbyIsReached :
    let s : State := { boot 3 0 with bellows := { up.bellows with role := none, complexes := [{ requested := true }, { absent := true }] } }
    let waits : State := { s with bellows := { s.bellows with complexes := [{}, {}] } }
    s.bellows.holder = some 0 ∧ s.modes.bootStage = 3 ∧ s.canBoot = true ∧ s.awaitsComplex = false ∧ waits.awaitsComplex = true ∧
    (boot 3 0).bellows.holder = none ∧ (boot 2 0).modes.bootStage ≠ 3 := by decide

theorem witness_BundlesOverTheSkyline :
    let s : State := { boot 2 0 with security := { State.reset.security with image := [1] } }
    2 ≤ s.modes.bootStage ∧ s.modes.bootStage ≤ 4 ∧ s.security.image ≠ [] ∧ (boot 1 0).modes.bootStage < 2 ∧ (boot 2 0).security.image = [] ∧
    (boot 0 2).canBoot = true ∧ (boot 0 2).modes.bootSource = 2 ∧ (boot 0 2).modes.bootRetryAt + sec 2 ≤ (boot 0 2).clock.up + sec 2 ∧
    0xE1 ≤ (boot 0xE3 2).modes.bootStage ∧ (boot 0 2).clock.up + (sec 2 - 1) < (boot 0 2).modes.bootRetryAt + sec 2 ∧
    chained.settings.roles.findIdx? (· == 1) = some 0 ∧ up.settings.roles.findIdx? (· == 1) = none := by decide

theorem witness_PowerLossAndRestore :
    let lost : State := { up with bellows := { up.bellows with powerLost := true, journalSt := 1, recorderSt := 1 } }
    lost.bellows.powerLost = true ∧ up.bellows.powerLost = false ∧ up.bellows.running = true ∧ lost.bellows.journalSt = 1 ∧ up.bellows.journalSt ≠ 1 ∧
    lost.bellows.recorderSt = 1 ∧ up.bellows.recorderSt ≠ 1 ∧ lost.flash.present = true ∧ lost.flash.history.length < 59 ∧
    59 ≤ (List.replicate 59 (0, 0, ([] : List Byte))).length ∧ lost.bellows.running = true ∧ lost.modes.rst = false ∧
    ({ lost.modes with rst := true } : Modes).rst = true := by decide

theorem witness_RailFaults :
    up.bellows.running = true ∧ (1 : Nat) < 2 ∧ 2 ≤ 2 ∧ 9 < 10 ∧ 3134 < 3135 ∧ 3135 ≤ 3466 ∧ (up.elapse 0).railOut 1 698 = true ∧
    (up.elapse 0).railOut 1 699 = false ∧ (up.elapse 0).railOut 1 741 = false ∧ (up.elapse 0).railOut 1 742 = true ∧
    (up.elapse 0).railOut 2 825 = true ∧ (up.elapse 0).railOut 9 1709 = true ∧ (up.elapse 0).railOut 10 3134 = true ∧
    (up.elapse 0).railOut 10 3466 = true ∧ (up.elapse 0).railOut 11 11501 = true ∧ ({ up.bellows with running := false } : Bellows).running = false ∧
    11 < 12 ∧ ({ up.power with coreFault := [true, false] } : Power).coreFault.getD (0 : Fin 2) false = true ∧
    up.power.coreFault.getD (0 : Fin 2) false = false := by decide

theorem witness_BellowsSupply :
    let flat : State := { up with bellows := { up.bellows with inOk := false, capMv := 10499 } }
    10499 < 10500 ∧ 10500 ≤ 11500 ∧ up.bellows.running = true ∧ 10500 ≤ up.bellows.capMv ∧ up.bellows.inOk = true ∧ flat.bellows.capMv < 10500 ∧ flat.bellows.inOk = false ∧
    flat.bellows.running = true ∧ ({ flat.bellows with running := false } : Bellows).running = false ∧ State.reset.recorder.restoring = true ∧
    State.reset.bellows.running = true ∧ up.recorder.restoring = false := by decide

theorem witness_JunctionTemperatures :
    let hot : State := { up with power := { up.power with hotSince := [some 0, none, some 0] } }
    hot.power.hotSince.getD (0 : Fin 3) none = some 0 ∧ 0 + 30000000 ≤ hot.clock.up + 30000000 ∧ (0 : Fin 3).val < 2 ∧ (2 : Fin 3).val = 2 ∧
    hot.power.hotSince.getD (1 : Fin 3) none = none := by decide

theorem witness_ClocksAndVoltages :
    let capped := fun (mw : Nat) => ({ up with settings := { up.settings with capW := 100 }, power := { up.power with powerMw := mw } } : State)
    up.settings.capW = 0 ∧ (capped 100000).power.powerMw ≤ (capped 100000).settings.capW * 1000 ∧ (capped 100001).settings.capW ≠ 0 ∧
    (capped 100001).settings.capW * 1000 < (capped 100001).power.powerMw ∧ 94999 + 5000 < 100 * 1000 ∧ 100 * 1000 < 100001 ∧ 100 * 1000 ≤ 95000 + 5000 ∧
    2 ≤ up.modes.bootStage ∧ up.modes.bootStage ≤ 4 ∧ up.power.avsLimited.getD (0 : Fin 2) false = false ∧
    up.power.avsAt.getD (0 : Fin 2) none = none ∧ ({ up.power with avsLimited := [true, false] } : Power).avsLimited.getD (0 : Fin 2) false = true := by decide

/-- The voltage that a die's clock wants is one it may be set to, whatever the margins are. -/
theorem witness_AvsWants : up.lowestMv 0 (up.power.reedMhz.getD 0 1500) ∈ up.wantedMv 0 := List.mem_cons_self

/-! ### Events, the recorder, live update and management -/

theorem witness_EventRouting :
    let r : EventRec := { code := evBlitDone }
    let on : Ring := { ctrl := 0x80000000, log2 := 8 }
    up.settings.chainRoot = true ∧ ({ r with sev := 4 } : EventRec).sev = 4 ∧ r.sev ≠ 4 ∧ up.routes.getD (r.code / 256 - 1) 0xFF ≠ 0xFF ∧
    ([] : List Nat).getD (r.code / 256 - 1) 0xFF = 0xFF ∧ chained.settings.chainRoot = false ∧ chained.chain.parent = some 0 ∧
    3 < up.rings.length ∧ (up.ring 3).enabled = false ∧ on.enabled = true ∧ ({ on with pidx := 255 } : Ring).full = true ∧ on.full = false ∧
    ([] : List EventRec).length < 64 ∧ 64 ≤ (List.replicate 64 { r with code := evWatermark }).length ∧
    (List.replicate 64 { r with code := evWatermark }).findIdx? (·.same r) = none ∧ ({ chained.chain with parent := none } : Chain).parent = none ∧
    [r].findIdx? (·.same r) = some 0 ∧ ([] : List EventRec).findIdx? (·.same r) = none ∧ up.hostReach = true ∧ up.modes.mode ≤ 1 ∧
    up.serves = true ∧ State.reset.serves = false := by decide

theorem witness_RecordsAreWritten : 3 < up.rings.length ∧ 255 + 1 = 2 ^ (up.ring 3).log2 ∧ 254 + 1 ≠ 2 ^ (up.ring 3).log2 := by decide

theorem witness_RingTimeoutsAndFaults :
    let on : Ring := { ctrl := 0x80000100, log2 := 8, unsignalled := 1 }
    on.enabled = true ∧ up.hostReach = true ∧ on.unsignalled ≠ 0 ∧ on.coalWait ≠ 0 ∧ on.oldest + on.coalWait ≤ up.clock.up + 3000 ∧
    ¬ (on.oldest + on.coalWait ≤ up.clock.up + 2999) ∧ (up.ring 0).enabled = false := by decide

theorem witness_LogRecords :
    recSize - 32 + 32 ≤ recSize ∧ up.recorder.inReset = false ∧ Memory.wf up.recorder.sram = true ∧ up.recorder.wraps = 0 ∧
    ({ up.recorder with inReset := true } : Recorder).inReset = true := by decide

theorem witness_FlushesAndPads :
    let full : Recorder := { up.recorder with unflushed := 16384 }
    let old : Recorder := { up.recorder with unflushed := 32 }
    up.serves = true ∧ full.flushing = none ∧ full.erasing = none ∧ full.inReset = false ∧ 16384 ≤ full.unflushed ∧ old.unflushed ≠ 0 ∧
    old.oldestAt + sec 10 ≤ up.clock.up + sec 10 ∧ ¬ (old.oldestAt + sec 10 ≤ up.clock.up + (sec 10 - 1)) ∧ up.flash.present = true ∧
    ({ up.flash with present := false } : Flash).present = false ∧ ({ full with flushing := some (32, 1) } : Recorder).flushing = some (32, 1) ∧
    ({ full with erasing := some 1 } : Recorder).erasing = some 1 ∧
    (({ full with openRecs := [(64, 32, 0, 1)] } : Recorder).openRecs.find? fun x => x.1 == 64) = some (64, 32, 0, 1) ∧
    0 + ms 10 ≤ up.clock.up + ms 10 ∧ up.clock.up + (ms 10 - 1) < 0 + ms 10 ∧ (full.openRecs.find? fun x => x.1 == 64) = none := by decide

theorem witness_LiveUpdateStages :
    let s := fun (k : Nat) => ({ up with fw := { stage := k, handover := 2 } } : State)
    (s 1).fw.stage = 1 ∧ (s 2).fw.stage = 2 ∧ (s 3).fw.stage = 3 ∧ (s 5).fw.stage = 5 ∧ ((s 5).complex (s 5).fwDie).inReset = false ∧
    ((s 5).complex (s 5).fwDie).fenced = false ∧ (s 6).fw.stage = 6 ∧ up.fw.stage = 0 ∧ (s 4).fw.stage = 4 ∧ (s 4).fw.armed = false ∧
    (s 4).tickInstant (s 4).fw.handover ≤ (s 4).clock.up + 92500000 + 7500000 ∧ ({ (s 4).fw with armed := true } : FwUpdate).granted = false ∧
    (s 4).tickInstant (s 4).fw.handover ≤ (s 4).clock.up + 99997000 + 3000 ∧ 2 ≠ (0 : Nat) ∧
    ¬ ((s 2).fw.stageAt + stageLimit (s 2).fw.stage < (s 2).clock.up + ms 700) ∧ (s 2).fw.stageAt + stageLimit (s 2).fw.stage < (s 2).clock.up + (ms 700 + 1) ∧
    (s 6).fw.stageAt + stageLimit (s 6).fw.stage < (s 6).clock.up + (sec 90 + 1) := by decide

theorem witness_ServiceHours :
    up.bellows.running = true ∧ up.bellows.inOk = true ∧ ({ up.security with lifecycle := 1 } : Security).lifecycle = 1 ∧ up.security.lifecycle ≠ 1 := by decide

/-- A query, an unknown kind, a refused command (no board section names its key), and a port that is closed. -/
theorem witness_ManagementDatagrams :
    let s : State := { up with tb := { up.tb with ptp := [{ mode := 1, flags := 4 }, {}] } }
    let b := fun (kind : Byte) => le 4 0x544D4752 ++ [kind] ++ zeros 35
    up.mgmtOpen (0 : Fin 2) = false ∧ s.mgmtOpen (0 : Fin 2) = true ∧ 40 ≤ (b 0).length ∧ (b 0).length ≤ 8192 ∧ u32 (b 0) 0 = 0x544D4752 ∧
    u8 (b 0) 4 = 0 ∧ 1 < u8 (b 2) 4 ∧ u8 (b 1) 4 = 1 ∧ s.mgmtRefusal (b 1) ≠ 0 ∧ (s.mbx 7).state ≠ 1 ∧ (s.mbx 7).state ≠ 2 ∧
    s.serves = true ∧ s.fw.armed = false ∧ State.reset.serves = false := by decide

theorem witness_ModeGates : up.modes.mode ≠ 7 ∧ up.modes.mode = 0 ∧ (inMode 1 up).modes.mode = 1 ∧ (inMode 1 up).modes.ready = false ∧ up.Serving 0 :=
  ⟨by decide, by decide, by decide, by decide, by decide, by decide, by decide, by decide, by decide⟩

theorem witness_ModeTransitionsValidate :
    let set := fun (m : Byte) => ({ opcode := 0x0201, payload := [m] ++ zeros 7 } : Staged)
    up.comboErrs 3 [set 0] up.settings up.settings = [] ∧ transition 0 2 = 0 ∧ transition 0 0 = 1 ∧ transition 1 2 = 2 ∧
    ({ inMode 1 up with modes := { (inMode 1 up).modes with ready := true } } : State).modes.ready = true ∧ up.settings.mode ≠ 1 ∧
    up.settings.mapped = false ∧ (∃ l ∈ ({ play.settings with links := List.replicate 16 {} } : Settings).linksUsed,
      (({ play.settings with links := List.replicate 16 {} } : Settings).links.getD l {}).rate = 0) := by decide

theorem witness_EraseNeedsItsKey :
    recErase.Starts 0 {} (le 4 0x45534152 ++ zeros 4) up ∧ up.flash.present = true ∧ up.recorder.flushing = none ∧
    ({ up.recorder with erasing := some 1 } : Recorder).erasing = some 1 ∧ u32 (zeros 8) 0 ≠ 0x45534152 ∧
    ({ up.security with lifecycle := 1 } : Security).lifecycle = 1 :=
  ⟨starts_of (by decide), by decide, by decide, by decide, by decide, by decide⟩

/-! ### Worked examples and values of the spec -/

/-- The worked example of 13_frame_store.md: address 0x3_4567_8900. -/
theorem test_address_map_example :
    pcOf 0x345678900 = 19 ∧ (locOf 0x345678900).col = 2 ∧ (locOf 0x345678900).bank = 2 ∧ (locOf 0x345678900).sid = 2 ∧ (locOf 0x345678900).row = 3349 ∧
    regionOf 0x345678900 = 2 := by decide


/-- A flush goes on in the sector that the power-up last began; another power-up begins a new one (R458, R459). -/
theorem test_flushGoesOnInItsSector :
    let f := (({} : Flash).append 1 [List.replicate 32 0x11]).append 1 [List.replicate 32 0x22]
    let g := f.append 2 [List.replicate 32 0x33]
    f.history.length = 1 ∧ f.historySeq = 1 ∧ (f.history.map fun e => e.2.2.length) = [64] ∧ g.history.length = 2 ∧ g.historySeq = 2 := by decide
/-- A component record: TYPE, a place behind the manifest, no bytes, the digest of none. -/
def component (t : Nat) : List Byte := le 4 t ++ le 4 3840 ++ zeros 8 ++ padTo 48 (Config.sha384 [])

/-- A bundle of three components, its signatures left to what Config says of them. -/
def bundle : List Byte :=
  (le 4 0x464D4E45 ++ le 2 1 ++ le 2 3 ++ le 4 320 ++ [3, 0, 0, 0] ++ le 2 3 ++ [1] ++ zeros 21 ++ le 2 0xA9 ++ le 2 0xFFFF ++ [0xFF] ++ zeros 83) ++
    component 1 ++ component 2 ++ component 4 ++ zeros 3520

/-- A bundle whose signatures verify, for a device of its stepping, passes at boot and in a live update; one that is no manifest does
not. -/
theorem witness_bundle_verdicts (sig : bundleSigs bundle = 0) (step : bitOf 0xFFFF (Config.stepping % 256) = true) :
    bootVerdict bundle 0 0 = 2 ∧ bootVerdict [] 0 0 ≠ 2 ∧ ({ up with security := { up.security with staging := bundle } } : State).fwVerdict = 0 := by
  have valid : manifestValid bundle 0 = true := by
    unfold manifestValid
    simp only [Bool.and_eq_true]
    refine ⟨⟨⟨⟨⟨⟨⟨⟨⟨⟨⟨⟨⟨?_, ?_⟩, ?_⟩, ?_⟩, ?_⟩, ?_⟩, ?_⟩, ?_⟩, ?_⟩, ?_⟩, ?_⟩, ?_⟩, ?_⟩, ?_⟩
    on_goal 12 => exact step
    all_goals decide +kernel
  have digests : digestsOk bundle = true := by
    have one : ∀ i < 3, digestOk bundle i = true := by
      intro i hi
      have : i = 0 ∨ i = 1 ∨ i = 2 := by omega
      unfold digestOk
      rw [beq_iff_eq]
      rcases this with rfl | rfl | rfl <;> rfl
    unfold digestsOk
    rw [show manifestCount bundle = 3 from by decide +kernel, List.all_eq_true]
    exact fun i hi => one i (List.mem_range.1 hi)
  have fresh : rollbackBad bundle 0 = false := by decide +kernel
  refine ⟨?_, ?_, ?_⟩
  · unfold bootVerdict
    rw [if_neg (by rw [sig]; decide), valid, digests, fresh]
    rfl
  · unfold bootVerdict
    split
    · decide
    · rw [show manifestValid [] 0 = false from rfl]
      decide
  · show (if bundleSigs bundle ≠ 0 then 1 else if !manifestValid bundle 0 then 3 else if rollbackBad bundle 0 then 2
      else if !digestsOk bundle then 1 else if !skewOk bundle 0 then 3 else 0) = 0
    rw [if_neg (by rw [sig]; decide), valid, digests, fresh, show skewOk bundle 0 = true by decide +kernel]
    rfl

/-- An A9 whose board section holds one management key. -/
def managed : State := { up with
  security := { up.security with image := zeros 6 ++ le 2 1 ++ zeros 120 ++ le 4 3 ++ le 4 192 ++ le 4 2048 ++ zeros 52 ++ le 4 0x31445242 ++ zeros 4 ++ [1] } }

/-- A command datagram that names the device, its session and a new counter. -/
def datagram : List Byte :=
  le 4 0x544D4752 ++ [1, 0, 0, 0] ++ le 8 Config.serial ++ padTo 16 (Config.sessionValue 0) ++ le 8 1 ++ zeros 3389

/-- It is accepted where its signatures verify. -/
theorem witness_management_command_accepted (sig : ∀ key, sigFailure key mgmtLabel (slice datagram 0 56) (slice datagram 56 3373) = 0) :
    managed.mgmtRefusal datagram = 0 := by
  have serial : u64 datagram 8 = Config.serial % 0x10000000000000000 := by
    have same : u64 datagram 8 = u64 (le 4 0x544D4752 ++ le 4 1 ++ le 8 Config.serial ++ []) 8 := rfl
    rw [same, u64_le_at8]
  have session : slice datagram 16 16 = padTo 16 (Config.sessionValue 0) := rfl
  have body : u16 datagram 48 = 0 := by decide +kernel
  have len : datagram.length = 3429 := by decide +kernel
  have counter : u64 datagram 32 = 1 := by decide +kernel
  have key : (managed.mgmtKey 0).isSome = true := by decide +kernel
  obtain ⟨k, hk⟩ := Option.isSome_iff_exists.1 key
  unfold State.mgmtRefusal
  rw [show u8 datagram 5 = 0 from rfl]
  dsimp only
  rw [hk, body, serial, counter]
  dsimp only
  rw [show managed.security.session = 0 from rfl, session, if_pos len, sig]
  simp [managed, up, awake, State.reset, b2n]
/-- Worked examples of 08_lift_and_compose.md: relief offsets of +12, −8 and +30 pixels, to a millionth of a metre. -/
theorem test_lift_offsets :
    let o := fun (d : Rat) => liftOffset d 1920 1 3 (63 / 1000) (1 / 2) (15 / 100) (4 / 10)
    (|o 12 + 165198 / 1000000| < 1 / 1000000) ∧ (|o (-8) - 93052 / 1000000| < 1 / 1000000) ∧ o 30 = -(4 / 10) := by decide +kernel

/-- Worked example of 09_emitter_calibration.md: 41.3 °C lies between sets 1 and 2 with w = 0.42, and codes 460 and 476 with trim code 131
bake to 474. -/
theorem test_bake_example :
    (bakeSets [200, 350, 500, 650] 413).1 = 1 ∧ (bakeSets [200, 350, 500, 650] 413).2.2 = 42 / 100 ∧
    trimRound ((1 - 42 / 100) * 460 + 42 / 100 * 476) 131 1024 = 474 := by decide +kernel

/-- The state a command leaves. -/
def after (i : Instr) (s : State) : State :=
  match exec i s with
  | .next t => t
  | _ => s

/-- Worked example of 02_cruise_and_registers.md: GLB_APERTURE_HI 0x1D, then GLB_APERTURE_LO 0, move the aperture to 116 GiB, in region 11. -/
theorem test_aperture_example :
    (after (.glbApertureHiWrite 0 0x1D) up).pcie.apBase = 0 ∧
    (after (.glbApertureLoWrite 0 0) (after (.glbApertureHiWrite 0 0x1D) up)).pcie.apBase = 116 * gib ∧ regionOf (116 * gib) = 11 := by decide +kernel

/-- SYS.ECHO answers opcode, OK, TAG, length and its payload (R62). -/
theorem test_echo_response :
    slice ((after (.sysEcho 0 { tag := 7 } [0xAB]) up).mbx 0).rspArea 0 17 = [4, 1, 0, 0, 7, 0, 0, 0, 1, 0, 0, 0, 0, 0, 0, 0, 0xAB] ∧
    ((after (.sysEcho 0 { tag := 7 } [0xAB]) up).mbx 0).state = 3 := by decide +kernel

/-- A reserved header byte is answered RESERVED with FIELD 10 (R63, R71). -/
theorem test_reserved_header : slice ((after (.sysEcho 0 { rsv := 1 } []) up).mbx 0).rspArea 2 16 = [2, 1, 0, 0, 0, 0, 8, 0, 0, 0, 0, 0, 0, 0, 10, 0] := by
  decide +kernel

/-- CAL.MEASURE in Standby is answered BAD_MODE (R95). -/
theorem test_measure_in_standby : u16 ((after (.calMeasure 0 {} ([0, 0, 0, 1] ++ zeros 12)) up).mbx 0).rspArea 2 = 0x0104 := by decide +kernel

/-- A byte stored through BAR2 is the byte that a read returns (R46). -/
theorem test_aperture_bytes :
    let s := after (.glbApertureLoWrite 0 0) (after (.glbApertureHiWrite 0 0x1D) up)
    (after (.bar2Read 0 5 1) (after (.bar2Write 0 5 [0x5A]) s)).pcie.lastRead = [0x5A] := by decide +kernel

/-- At its tick the count of ticks is one more and the blank is over (R14, R84). -/
theorem test_tick : (after (.frameTick 300000) blank).clock.tick = 1 ∧ (after (.frameTick 300000) blank).clock.blank = false := by decide +kernel

/-- A step takes the command from the queue. -/
theorem test_step_takes_the_front :
    (match Sys2Proof.Machine.step { up with pending := [.serviceHour 0, .frameTick 0] } with | .next t => t.pending | _ => []) = [.frameTick 0] := by
  decide +kernel


/-- GHASH of one block under the hash key of the all-zero AES-128 key: test case 2 of the specification of GCM. -/
theorem test_ghash_case_2 :
    let bytes := fun (x : Nat) => be 16 x
    ghash (blockNat (bytes 0x66e94bd4ef8a2c3b884cfa59ca342b2e)) [] (bytes 0x0388dace60b6a392f328c2b971b2fe78) =
      blockNat (bytes 0xf38cbb1ad69223dcc3457ae5b6b0f885) := by decide +kernel

/-- Three lanes of a link that are lost take it down, two do not: one moves to the spare, one narrows (R324, R325). -/
theorem test_lanes_lost :
    let s := after (.nakReceived 0 0 1 3 5 0) play
    (s.link 0).state = 4 ∧ (s.link 0).spared = 3 ∧ (s.link 0).narrowed = 5 ∧ (s.link 0).activeLanes = [0, 1, 2, 8, 4, 6, 7] := by decide +kernel

/-- A port of a root comes up at the lower rate where its eye does not allow the higher (R363). -/
theorem test_skyline_rate :
    let s : State := { up with settings := { up.settings with roles := [2, 2, 3, 4] } }
    ((after (.skylinePortUp 0 0 true) s).port 0).state = 2 ∧ ((after (.skylinePortUp 0 0 false) s).port 0).state = 3 := by decide +kernel

/-! ### Rays -/

/-- The ray of the living-room panel's hogel (10, 20) of stand 5, emitter (12, 3), state 3 (07_ray_synthesis.md). -/
theorem test_ray_direction : rayDir (1 / 500) (1 / 2) 12 3 3 = ⟨-(5 / 10000), -(625 / 1000000), 1 / 1000⟩ ∧
    hogelCentre (1 / 500) 128 128 10 20 = ⟨277 / 1000, -(297 / 1000), 0⟩ := by decide +kernel

/-- Codes of drive fractions 0, 1/2 and 1: 1,023 × (1/2)^(1/2.4) = 766.4. -/
theorem test_drive_codes : driveCode 0 = 0 ∧ driveCode (1 / 2) = 766 ∧ driveCode 1 = 1023 := by decide +kernel

/-- An opaque front layer hides what lies behind it. -/
theorem test_composite : composite ⟨9, 9, 9⟩ (insertHit { t := 1, colour := ⟨1, 2, 3⟩, alpha := 1 } [{ t := 0, colour := ⟨5, 5, 5⟩, alpha := 1 }])
    ⟨0, 0, 0⟩ 0 = ⟨1, 2, 3⟩ := by decide +kernel

/-- A kerf that was valid at scan-out start, one that was not, and a poisoned granule of its ray frame. -/
theorem witness_RayPackets :
    let s : State := { play with scanLatch := [[(8192, (false, 0)), (5, (true, 1))]] }
    let a := (s.framesOf s.synth.scanCfg).rayAddr 0 1 3 5
    (List.replicate 512 7).length = 512 ∧ 511 < 512 ∧ 1023 < 1024 ∧ (lookupD (s.scanLatch.getD 0 []) 4 (lookupD (s.scanLatch.getD 0 []) 8192 (false, 0))).1 = false ∧
    lookupD (s.scanLatch.getD 0 []) 5 (lookupD (s.scanLatch.getD 0 []) 8192 (false, 0)) = (true, 1) ∧ s.isPoisoned (a + 4 * 511) = false ∧
    ({ s with fs := { s.fs with poisoned := [granuleOf (a + 4 * 511)] } } : State).isPoisoned (a + 4 * 511) = true := by decide +kernel

theorem witness_KerfsGoToTheirFrame :
    let c := play.settings
    Memory.wf play.fs.mem = true ∧ 3 < 4 ∧ 511 < 512 ∧ ((play.stand 0).kerf 0).select ≤ 1 ∧ play.synth.window.active = false ∧
    ((play.stand 0).kerf 0).insetGen.length = 3 ∧ (∀ state < 4, 60 * gib < c.rayAddr 0 0 state 0 ∨ c.rayAddr 0 0 state 0 + 2048 ≤ 60 * gib) := by
  decide +kernel

theorem witness_RayCodes :
    let s : State := { play with stands := [{ cal := { faults := [{ hogel := 0, emitter := 5, failed := 2#8 }] } }] }
    (s.stand 0).cal.failedCh (rayHogel 0 5) (rayEmitter 5) 1 = true ∧ (s.stand 0).cal.failedCh (rayHogel 0 5) (rayEmitter 5) 0 = false ∧
    1 < 3 ∧ ((s.stand 0).kerf 0).insetGen.length = 3 ∧ (0 : Rat) ≤ 1 / 2 ∧ (1 / 2 : Rat) ≤ 1 ∧ (-1 : Rat) < 0 ∧ (1 : Rat) < 2 ∧
    0 < driveCode (1 / 2) ∧ driveCode (1 / 2) < 1023 := by decide +kernel

end Sys2Proof.Tests
end

section
/-! PROOFS. The frame blank, the tick and the sub-frames: the order of armed transactions, and what each instant does when it is due (R18, R83, R249, R250). -/

namespace Sys2Proof.Machine

/-! ### Armed transactions -/

/-- Putting a transaction in its place is the library's ordered insertion, so the list that results is a permutation. -/
theorem insertTxn_eq_orderedInsert (t : Txn) (l : List Txn) : insertTxn t l = l.orderedInsert (fun a b => a.before b = true) t := by
  induction l with
  | nil => rfl
  | cons u us ih => simp only [insertTxn, List.orderedInsert, ih]

/-- Sorting neither drops nor adds an armed transaction. -/
theorem State.mem_armed (s : State) (t : Txn) : t ∈ s.armed ↔ t ∈ s.txns ∧ t.state = 1 := by
  have sorted : s.armed = (s.txns.filter fun t => t.state == 1).insertionSort (fun a b => a.before b = true) := by
    unfold State.armed List.insertionSort
    congr 1
    funext t l
    exact insertTxn_eq_orderedInsert t l
  rw [sorted, List.mem_insertionSort, List.mem_filter, beq_iff_eq]

/-- `a` applies no later than `b` (R83): in an earlier blank, or in the same one and committed no later. -/
def Txn.NoLater (a b : Txn) : Prop := a.applyTick < b.applyTick ∨ (a.applyTick = b.applyTick ∧ a.order ≤ b.order)

theorem Txn.before_iff {a b : Txn} :
    a.before b = true ↔ a.applyTick < b.applyTick ∨ (a.applyTick = b.applyTick ∧ a.order < b.order) := by
  simp only [Txn.before, Bool.or_eq_true, Bool.and_eq_true, decide_eq_true_eq, beq_iff_eq]

theorem Txn.noLater_of_before {a b : Txn} (h : a.before b = true) : a.NoLater b := by
  rw [Txn.before_iff] at h
  unfold Txn.NoLater
  omega

theorem Txn.noLater_of_not_before {a b : Txn} (h : ¬a.before b = true) : b.NoLater a := by
  rw [Txn.before_iff] at h
  unfold Txn.NoLater
  omega

theorem Txn.NoLater.trans {a b c : Txn} (h : a.NoLater b) (h' : b.NoLater c) : a.NoLater c := by
  unfold Txn.NoLater at *
  omega

/-- A transaction put in its place keeps the order of blank and commit instant. -/
theorem insertTxn_pairwise (t : Txn) {l : List Txn} (h : l.Pairwise Txn.NoLater) : (insertTxn t l).Pairwise Txn.NoLater := by
  induction l with
  | nil => exact List.pairwise_singleton _ t
  | cons u us ih =>
    obtain ⟨first, rest⟩ := List.pairwise_cons.1 h
    unfold insertTxn
    split
    case isTrue hb =>
      have hu := Txn.noLater_of_before hb
      exact List.pairwise_cons.2 ⟨List.forall_mem_cons.2 ⟨hu, fun v hv => hu.trans (first v hv)⟩, h⟩
    case isFalse hb =>
      refine List.pairwise_cons.2 ⟨fun v hv => ?_, ih rest⟩
      rw [insertTxn_eq_orderedInsert, List.mem_orderedInsert] at hv
      obtain rfl | hv := hv
      · exact Txn.noLater_of_not_before hb
      · exact first v hv

theorem State.armed_pairwise (s : State) : s.armed.Pairwise Txn.NoLater := by
  unfold State.armed
  induction s.txns.filter fun t => t.state == 1 with
  | nil => exact List.Pairwise.nil
  | cons t l ih => exact insertTxn_pairwise t ih

theorem State.applyArmed_vacant {s : State} (h : s.bellows.role = none) : s.applyArmed = s := by
  unfold State.applyArmed
  rw [h]
  rfl

theorem State.applyArmed_held {s : State} (h : s.bellows.role ≠ none) :
    s.applyArmed = (s.armed.filter fun t => t.applyTick ≤ s.clock.tick + 1).foldl (fun s t => s.applyTxn t) s := by
  unfold State.applyArmed
  exact if_neg (by simpa using h)

/-! ### Blank, tick and sub-frames -/

/-- The blank does not start twice. -/
theorem State.frameBlank_blank {s : State} (h : s.clock.blank = true) : s.frameBlank = s := by
  unfold State.frameBlank
  exact if_pos (.inl h)

/-- The steps of the blank are compared one at a time: each stands in the next one many times over. -/
theorem frameBlankRuns : Claim.FrameBlankRuns := by
  unfold Claim.FrameBlankRuns
  intro dt s hb ht hr hf t each ended waits a b c
  rw [exec_frame_blank]
  refine State.act_eq ?_
  have due : ¬ ((s.elapse dt).clock.blank = true ∨ (s.elapse dt).clock.up < (s.elapse dt).blankStart ∨
      (!(s.elapse dt).bellows.running) = true ∨ (s.elapse dt).bellows.fresh = true) := by
    show ¬ (s.clock.blank = true ∨ s.clock.up + dt < s.blankStart ∨ (!s.bellows.running) = true ∨ s.bellows.fresh = true)
    simp [hb, hr, hf, ht]
  unfold State.frameBlank
  rw [if_neg due]
  extract_lets t' all clock begun missed closed tb applied released stopped stepped sequenced started
  have sameTick : t' = t := rfl
  have sameEnd : closed = ended := rfl
  clear_value t t'
  subst sameTick
  have sameArmed : released = a := by
    clear_value closed ended
    subst sameEnd
    rfl
  clear_value released a
  subst sameArmed
  rfl

theorem armedTransactionsApplyInOrder : Claim.ArmedTransactionsApplyInOrder := fun s =>
  ⟨State.applyArmed_vacant, State.applyArmed_held, s.armed_pairwise, s.mem_armed⟩

theorem frameTickRuns : Claim.FrameTickRuns := by
  unfold Claim.FrameTickRuns
  intro dt s hb ht hr hf
  rw [exec_frame_tick]
  refine State.act_eq ?_
  unfold State.frameTick
  rw [if_neg, State.frameBlank_blank (show (s.elapse dt).clock.blank = true from hb)]
  · rfl
  · show ¬ (s.clock.up + dt < s.clock.nextUp ∨ (!s.bellows.running) = true ∨ s.bellows.fresh = true)
    simp [hr, hf, ht]

/-- A sub-frame starts where one is left and its time has come. -/
theorem State.subframeStart_due {s : State} (hn : s.clock.sub < 3) (hb : s.clock.blank = false)
    (ht : s.clock.tickUp + (s.clock.sub + 1) * subPeriod s.clock.rate ≤ s.clock.up) :
    s.subframeStart = ({ s with clock := { s.clock with sub := s.clock.sub + 1 } } : State).startSub (s.clock.sub + 1) := by
  unfold State.subframeStart
  refine if_neg ?_
  rintro (last | blank | early)
  · exact absurd last (by omega)
  · exact absurd (hb.symm.trans blank) (by decide)
  · exact absurd early (by omega)

/-- None starts after the last, nor in the blank. -/
theorem State.subframeStart_none {s : State} (h : 3 ≤ s.clock.sub ∨ s.clock.blank = true) : s.subframeStart = s := by
  unfold State.subframeStart
  refine if_pos ?_
  obtain last | blank := h
  · exact .inl (Nat.lt_succ_of_le last)
  · exact .inr (.inl blank)

theorem subframesFollow : Claim.SubframesFollow := fun dt s =>
  ⟨fun hn hb ht => State.act_eq (State.subframeStart_due (s := s.elapse dt) hn hb ht),
    fun h => State.act_eq (State.subframeStart_none (s := s.elapse dt) h)⟩

/-- Settles O33: each instant, where its guard lets it act, runs the steps of its definition; the order of armed transactions is that of
their insertion. -/
theorem frameInstantsRun : Obligations.FrameInstantsRun :=
  ⟨frameBlankRuns, armedTransactionsApplyInOrder, frameTickRuns, subframesFollow⟩

end Sys2Proof.Machine
end

section
/-! PROOFS. The lead deadline, the synthesis window and scan-out of a tick, the front's watermarks and the lift phase. -/

namespace Sys2Proof.Machine

/-! ### What the parts of these instants leave unchanged -/

@[simp] theorem State.reanchorAll_modes (s : State) (n rate : Nat) : (s.reanchorAll n rate).modes = s.modes := by
  unfold State.reanchorAll
  split <;> rfl

@[simp] theorem State.anchorsFor_modes (s : State) (t : Nat) : (s.anchorsFor t).modes = s.modes := by
  unfold State.anchorsFor
  split
  · split
    · rfl
    · exact s.reanchorAll_modes _ _
  · rfl

@[simp] theorem State.raise_synth (s : State) (code unit : Nat) (ps : List Nat) (tag txn : Word) :
    (s.raise code unit ps tag txn).synth = s.synth := by
  obtain ⟨rings, out, held, owed, ports, pba, tick, merged, fired, h, -⟩ := s.raise_cases code unit ps tag txn
  rw [h]

/-- Firing watermarks changes nothing of the windows: each that is due raises an event. -/
@[simp] theorem State.fireWatermarks_synth (s : State) : s.fireWatermarks.synth = s.synth := by
  have events (l : List Watermark) : ∀ s : State,
      (l.foldl (fun s w => s.raise evWatermark noUnit [w.row] w.tag) s).synth = s.synth := by
    induction l with
    | nil => intro s; rfl
    | cons w l ih => intro s; rw [List.foldl_cons, ih, State.raise_synth]
  exact events _ _

/-! ### The kerf deadline -/

/-- The kerfs of a window that no reed finished. -/
def Window.unfinished (w : Window) : List (Nat × Nat) := w.todo.filter fun k => !w.done.contains k

/-- What the kerf deadline leaves of an active window: it is over, and its unfinished kerfs are late, each in one die. -/
theorem State.kerfDeadline_window {s : State} (h : s.synth.window.active = true) :
    let w := s.kerfDeadline.synth.window
    w.todo = s.synth.window.unfinished ∧ w.lateW + w.lateE = s.synth.window.unfinished.length ∧
    w.active = false ∧ w.beyond = true := by
  unfold State.kerfDeadline
  dsimp only
  rw [if_neg (by simp [h])]
  rw [State.fireWatermarks_synth]
  split
  · exact ⟨rfl, Nat.add_sub_cancel' (List.length_filter_le _ _), rfl, rfl⟩
  · rw [State.raise_synth]
    exact ⟨rfl, Nat.add_sub_cancel' (List.length_filter_le _ _), rfl, rfl⟩

theorem kerfDeadlinesEndTheWindow : Claim.KerfDeadlinesEndTheWindow := by
  unfold Claim.KerfDeadlinesEndTheWindow
  intro dt s hs e w
  rw [exec_kerf_deadline]
  constructor
  · intro early
    exact State.act_eq (if_pos (.inr early))
  intro due
  have runs : e.kerfDeadlineAt = e.kerfDeadline := if_neg (not_or.2 ⟨hs, Nat.not_lt.2 due⟩)
  constructor
  · intro idle
    refine State.act_eq (runs.trans ?_)
    exact if_pos (by rw [idle]; rfl)
  · intro active
    exact ⟨State.act_eq runs, State.kerfDeadline_window active⟩

/-! ### Lead deadline, synthesis start and scan-out start -/

theorem leadDeadlinesRun : Claim.LeadDeadlinesRun := by
  unfold Claim.LeadDeadlinesRun
  intro dt sizes s t e a due
  rw [exec_lead_deadline]
  have go : ¬ e.clock.up < e.leadAt t := Nat.not_lt.2 due
  have mode : a.modes.mode = s.modes.mode := congrArg Modes.mode (State.anchorsFor_modes _ t)
  constructor
  · intro still
    rw [← mode] at still
    refine State.act_eq ((if_neg go).trans (if_pos ?_))
    exact congrArg (!·) still
  · intro play
    rw [← mode] at play
    refine State.act_eq ((if_neg go).trans (if_neg ?_))
    exact ne_true_of_eq_false (congrArg (!·) play)

theorem synthesisStartsItsWindow : Claim.SynthesisStartsItsWindow := by
  unfold Claim.SynthesisStartsItsWindow
  intro dt costs s t e f
  rw [exec_synthesis_start]
  constructor
  · intro due
    refine State.act_eq ?_
    unfold State.synthesisStart
    exact if_neg (Nat.not_lt.2 due)
  · intro early
    refine State.act_eq ?_
    unfold State.synthesisStart
    exact if_pos early

theorem scanOutLatches : Claim.ScanOutLatches := by
  unfold Claim.ScanOutLatches
  intro dt s t e
  rw [exec_scan_out_start]
  constructor
  · intro early
    refine State.act_eq ?_
    unfold State.scanOut
    exact if_pos early
  · intro due
    refine State.act_eq ?_
    unfold State.scanOut
    exact if_neg (Nat.not_lt.2 due)

/-! ### The lift phase -/

/-- A run of 60 flat frames ends with a flat one: any other starts it anew. -/
theorem flat_of_sixty {flat : Bool} {n : Nat} (h : (if flat = true then min 60 (n + 1) else 0) = 60) : flat = true := by
  cases flat with
  | false => exact absurd h (by simp)
  | true => rfl

theorem frontAndLift : Claim.FrontAndLift := by
  unfold Claim.FrontAndLift
  intro dt s e due rest
  rw [exec_watermark_fire, exec_lift_phase_end, exec_lift_timeout]
  refine ⟨State.act_eq rfl, fun idle => ⟨State.act_eq (if_pos ?_), State.act_eq (if_neg ?_)⟩, ?_⟩
  · exact congrArg (!·) idle
  · rintro ⟨waits, -⟩
    exact absurd (idle.symm.trans waits) (by decide)
  · intro waits f run o r a b
    constructor
    · refine State.act_eq ((if_neg (ne_true_of_eq_false (congrArg (!·) waits))).trans ?_)
      exact if_congr (and_iff_right_of_imp flat_of_sixty) rfl rfl
    · intro late
      exact State.act_eq (if_pos ⟨waits, State.since_elapse_true late⟩)

/-- Settles O35: a deadline acts where its instant is past and not before; raising events and moving anchors leave windows and mode as
they were. -/
theorem synthesisWindows : Obligations.SynthesisWindows :=
  ⟨leadDeadlinesRun, synthesisStartsItsWindow, kerfDeadlinesEndTheWindow, scanOutLatches, frontAndLift⟩

end Sys2Proof.Machine
end

section
/-! PROOFS. The bytes that a running load holds of a stand's memory are bound by no canonical form, and a load splices them into the frame
store (R230, R319, R336). -/

namespace Sys2Proof.Machine

open Sys2Proof

-- One proof at a time: each thread of the elaborator takes its stack out of the memory the check gives.
set_option Elab.async false

/-- A byte of 0 leaves a register of 0, so zeros without end do. -/
theorem crcZeros_zero (n : Nat) : crcZeros n 0 = 0 := by
  induction n with
  | zero => rfl
  | succ n ih =>
    show crcByte (crcZeros n 0) 0 = 0
    rw [ih]
    rfl

/-- The header of a calibration block of KIND 1 for set 0, its CRC the one of a body that brings the register to 0. -/
def looseHead : List Byte :=
  le 4 calMagic ++ le 2 1 ++ le 1 1 ++ zeros 17 ++ le 4 0 ++ le 4 setBytes ++ le 4 0xFFFFFFFF ++ zeros 28

/-- Its body: the register after the header, which brings the register to 0, and then a listed byte of 0. -/
def looseBody : List Host.Cell := [(0, 157), (1, 43), (2, 91), (3, 69), (4, 0)]

/-- Every check of the load passes. -/
theorem looseBlock_passes {s : State} (h : (s.stand 0).serialSeen = 0) : s.blockResult 0 looseHead looseBody true = 0 := by
  have crc : crcCells (u32 looseHead 28) 0 looseBody ((slice looseHead 0 32).foldl crcByte 0xFFFFFFFF) = 0 := by
    have len : u32 looseHead 28 = setBytes := by decide +kernel
    have reg : (slice looseHead 0 32).foldl crcByte 0xFFFFFFFF = 1163602845 := by decide +kernel
    rw [len, reg]
    have back : crcByte (crcByte (crcByte (crcByte 1163602845 157) 43) 91) 69 = 0 := by decide +kernel
    have cut (k : Nat) (c : Nat) : crcZeros (k - k) c = c := by rw [Nat.sub_self]; rfl
    have below : ∀ k < 5, k < setBytes := fun k hk => lt_trans hk (by decide)
    simp only [looseBody, crcCells, below, cut, Nat.zero_add, Nat.reduceAdd, Nat.reduceLT, if_true]
    rw [back]
    exact crcZeros_zero _
  unfold State.blockResult
  rw [crc, h]
  rw [if_neg (by decide +kernel), if_neg (by decide +kernel), if_neg (by decide +kernel)]
  rfl

/-- A load of set 0 of a stand on link 0 is running, and the stand has sent all of it. -/
def looseLoad : State :=
  { State.reset with
    stands := [{ cal := {
      op := 4, opParams := [0], memoryTo := 69
      memory := looseHead.zipIdx.map (fun e => (e.2, e.1)) ++ looseBody.map fun c => (c.1 + 64, c.2) } }]
    links := { ({} : Link) with state := 2 } :: State.reset.links.tail }

/-- The state in which the load has ended. -/
def looseLoaded : State :=
  (((looseLoad.takeBlock 0 looseHead looseBody true false).updCal 0 fun c => { c with opParams := [0, 0] }).request
    [(looseLoad.settings.setsAddr 0, 4 * setBytes), (looseLoad.settings.liveAddr 0, setBytes)]).rewritten
    (looseLoad.settings.setAddr 0 0) setBytes

theorem looseLoad_ends : looseLoad.calOpEnds 0 [] [] = looseLoaded := by
  have passes : looseLoad.blockResult 0 looseHead looseBody true = 0 := looseBlock_passes rfl
  have block : (looseLoad.stand 0).cal.block [] [] = (looseHead, looseBody) := by decide +kernel
  have op : (looseLoad.stand 0).cal.op = 4 := rfl
  have params : (looseLoad.stand 0).cal.opParams = [0] := rfl
  have up : looseLoad.linkUp (looseLoad.standCfg 0).link = true := rfl
  have seen : (looseLoad.stand 0).removed = false := rfl
  have bakes : (looseLoad.stand 0).cal.baking = none := rfl
  have taken : looseLoad.calOpEnd 0 [] [] =
      (looseLoad.takeBlock 0 looseHead looseBody true false).updCal 0 fun c => { c with opParams := [0, 0] } := by
    unfold State.calOpEnd
    simp [block, op, params, up, seen, bakes, passes, bitOf, u8, byteAt]
  have set : u8 looseHead 6 = 1 ∧ u8 looseHead 7 = 0 := by decide
  unfold State.calOpEnds
  simp [block, taken, op, params, up, seen, bakes, passes, set, looseLoaded]

theorem looseLoad_still : looseLoad.elapse 0 = looseLoad := by decide +kernel

theorem looseLoad_exec : exec (.calOperationEnd 0 0 [] []) looseLoad = .next (looseLoad.ended looseLoaded) := by
  rw [exec_cal_operation_end]
  exact State.act_eq (by rw [looseLoad_still, looseLoad_ends])

/-- The frame store then lists a byte of 0. -/
theorem looseLoad_ended_loose : (looseLoad.ended looseLoaded).memoryOk = false := by decide +kernel

/-- Refutes O6: the block that a stand sent into its calibration memory lists a byte of 0, and the load that ends writes it into the
frame store as it is listed. -/
theorem not_everyStepKeepsTheStateWellFormed : ¬ Obligations.EveryStepKeepsTheStateWellFormed := by
  intro h
  have memory : looseLoad.memoryOk = true := by decide
  have shape : looseLoad.shapeOk = true := by decide
  obtain ⟨kept, -⟩ := h { looseLoad with pending := [.calOperationEnd 0 0 [] []] } _ memory shape looseLoad_exec
  exact ne_true_of_eq_false looseLoad_ended_loose kept

end Sys2Proof.Machine
end

section
/-! PROOFS. The bytes of a command area read back, the doorbell of a mailbox in each of its states, and what completing a command leaves
(R55, R56, R61, R62, R64). -/

namespace Sys2Proof.Machine

open Sys2Proof

-- One proof at a time: each thread of the elaborator takes its stack out of the memory the check gives.
set_option Elab.async false

/-! ### Little-endian fields and slices -/

theorem byteAt_append (pre rest : List Byte) (i : Nat) : byteAt (pre ++ rest) (pre.length + i) = byteAt rest i := by
  simp [byteAt, List.getD_eq_getElem?_getD, List.getElem?_append_right]

theorem byteAt_append_left {pre : List Byte} (rest : List Byte) {i : Nat} (h : i < pre.length) : byteAt (pre ++ rest) i = byteAt pre i := by
  simp [byteAt, List.getD_eq_getElem?_getD, List.getElem?_append_left h]

@[simp] theorem le_length (n v : Nat) : (le n v).length = n := by
  induction n generalizing v with
  | zero => rfl
  | succ n ih => exact congrArg (· + 1) (ih _)

/-- The bytes of a number, wherever they stand, read as the number without the bits that were dropped. -/
theorem uN_le (n v : Nat) (pre rest : List Byte) : uN (pre ++ (le n v ++ rest)) pre.length n = v % 256 ^ n := by
  induction n generalizing v pre with
  | zero => rw [Nat.pow_zero, Nat.mod_one]; rfl
  | succ n ih =>
    have low : u8 (pre ++ (le (n + 1) v ++ rest)) pre.length = v % 256 := by
      unfold u8
      rw [← Nat.add_zero pre.length, byteAt_append]
      exact BitVec.toNat_ofNat v 8
    have high : uN (pre ++ (le (n + 1) v ++ rest)) (pre.length + 1) n = v / 256 % 256 ^ n := by
      have := ih (v / 256) (pre ++ [BitVec.ofNat 8 v])
      rw [List.append_assoc, List.length_append] at this
      exact this
    unfold uN
    rw [low, high, Nat.pow_succ', Nat.mod_mul]

/-- A part of a list is the slice where it stands. -/
theorem slice_append (pre p rest : List Byte) : slice (pre ++ (p ++ rest)) pre.length p.length = p := by
  refine List.ext_getElem (by simp [slice]) fun i _ hi => ?_
  simp only [slice, List.getElem_map, List.getElem_range]
  rw [byteAt_append, byteAt_append_left rest hi]
  simp [byteAt, List.getD_eq_getElem?_getD, hi]

/-- A command's bytes give the command back, whatever follows them. -/
theorem Cmd.parse_bytes {op : Nat} {h : CmdHdr} {p : List Byte} (tail : List Byte) (hop : op < 65536) (hp : p.length ≤ 4080) :
    Cmd.parse h.mbx.val ((Cmd.of op h p).bytes ++ tail) = Cmd.of op h p := by
  have field {off n v : Nat} {area : List Byte} (pre rest : List Byte) (ha : area = pre ++ (le n v ++ rest)) (ho : pre.length = off)
      (hv : v < 256 ^ n) : uN area off n = v := by
    rw [ha, ← ho, uN_le, Nat.mod_eq_of_lt hv]
  have word (x : BitVec 32) : x.toNat < 256 ^ 4 := x.isLt
  have half (x : BitVec 16) : x.toNat < 256 ^ 2 := x.isLt
  have hlen : p.length < 256 ^ 2 := lt_of_le_of_lt hp (by decide)
  generalize ha : (Cmd.of op h p).bytes ++ tail = a
  have area : a = le 2 op ++ (le 2 h.flags.toNat ++ (le 4 h.tag.toNat ++ (le 2 p.length ++ (le 2 h.rsv.toNat ++
      (le 4 h.txn.toNat ++ (p ++ tail)))))) := by
    simp only [← ha, Cmd.bytes, Cmd.of, List.append_assoc]
  have opcode : u16 a 0 = op := field [] _ area rfl hop
  have flags : u16 a 2 = h.flags.toNat := field (le 2 op) _ area rfl (half _)
  have tag : u32 a 4 = h.tag.toNat := field (le 2 op ++ le 2 h.flags.toNat) _ area rfl (word _)
  have len : u16 a 8 = p.length := field (le 2 op ++ le 2 h.flags.toNat ++ le 4 h.tag.toNat) _ area rfl hlen
  have rsv : u16 a 10 = h.rsv.toNat :=
    field (le 2 op ++ le 2 h.flags.toNat ++ le 4 h.tag.toNat ++ le 2 p.length) _ area rfl (half _)
  have txn : u32 a 12 = h.txn.toNat :=
    field (le 2 op ++ le 2 h.flags.toNat ++ le 4 h.tag.toNat ++ le 2 p.length ++ le 2 h.rsv.toNat) _ area rfl (word _)
  have payload : slice a 16 p.length = p := by
    rw [area]
    exact slice_append (le 2 op ++ le 2 h.flags.toNat ++ le 4 h.tag.toNat ++ le 2 p.length ++ le 2 h.rsv.toNat ++ le 4 h.txn.toNat) p tail
  simp only [Cmd.parse, opcode, flags, tag, len, rsv, txn, BitVec.ofNat_toNat, BitVec.setWidth_eq, min_eq_left hp, payload]
  rfl

/-! ### Ringing -/

/-- What the host reaches runs. -/
theorem State.act_live {s m : State} {dt : Nat} {f : State → State} (h : s.barLive = true) (hf : f (s.elapse dt) = m) :
    s.act dt (fun s => s.live f) = .next (s.ended m) :=
  State.act_eq ((if_pos h).trans hf)

/-- In PENDING and RUNNING a ring is ignored with RING_BUSY. -/
theorem State.ringMbx_busy {s : State} {n : Nat} (k : State → State) (h : (s.mbx n).state = 1 ∨ (s.mbx n).state = 2) :
    s.ringMbx n k = s.updMbx n fun m => { m with err := m.err ||| 2#32 } := if_pos h

/-- Where no complex serves, the mailbox is PENDING. -/
theorem State.ringMbx_unserved {s : State} {n : Nat} (k : State → State) (h : ¬((s.mbx n).state = 1 ∨ (s.mbx n).state = 2))
    (hs : s.serves = false) : s.ringMbx n k = s.updMbx n fun m => { m with state := 1, rungAt := s.clock.up } := by
  unfold State.ringMbx
  rw [if_neg h, if_neg (by simp [hs])]

/-- Firmware has taken the command of a mailbox: RUNNING, with its own copy of the area. -/
def State.taken (s : State) (n : Nat) : State :=
  s.updMbx n fun m => { m with state := 2, rungAt := s.clock.up, acceptedAt := s.clock.up, running := m.cmdArea }

/-- Where one serves, firmware takes the command and runs it, or holds it while a handover is armed. -/
theorem State.ringMbx_served {s : State} {n : Nat} (k : State → State) (h : ¬((s.mbx n).state = 1 ∨ (s.mbx n).state = 2))
    (hs : s.serves = true) : s.ringMbx n k = if s.fw.armed then (s.taken n).acceptHeld n else k (s.taken n) := by
  unfold State.ringMbx
  rw [if_neg h, if_pos hs]
  rfl

/-- A ring depends on how its command runs only through the state in which it is taken. -/
theorem State.ringMbx_congr {s : State} {n : Nat} {k k' : State → State} (h : k (s.taken n) = k' (s.taken n)) :
    s.ringMbx n k = s.ringMbx n k' := by
  by_cases busy : (s.mbx n).state = 1 ∨ (s.mbx n).state = 2
  · rw [State.ringMbx_busy k busy, State.ringMbx_busy k' busy]
  cases serve : s.serves with
  | false => rw [State.ringMbx_unserved k busy serve, State.ringMbx_unserved k' busy serve]
  | true => rw [State.ringMbx_served k busy serve, State.ringMbx_served k' busy serve, h]

theorem ringingAMailbox : Claim.RingingAMailbox := by
  unfold Claim.RingingAMailbox
  refine ⟨fun dt m s live busy => ?_, fun dt m s live idle pending running => ?_, fun dt m s serving => ?_⟩
  all_goals rw [exec_ring]
  · exact State.act_live live (State.ringMbx_busy _ busy)
  · exact State.act_live live (State.ringMbx_unserved _ (not_or.2 ⟨pending, running⟩) idle)
  · obtain ⟨live, serves, unarmed, pending, running⟩ := serving
    refine State.act_live live ((State.ringMbx_served (s := s.elapse dt) _ (not_or.2 ⟨pending, running⟩) serves).trans ?_)
    exact if_neg (ne_true_of_eq_false unarmed)

/-! ### Completing -/

/-- Two changes of one mailbox are one. -/
theorem State.updMbx_updMbx (s : State) (n : Nat) (f g : Mailbox → Mailbox) : (s.updMbx n f).updMbx n g = s.updMbx n (g ∘ f) := by
  unfold State.updMbx
  rw [upd_upd]

/-- A mailbox whose command has been answered. -/
def Mailbox.answered (resp : List Byte) (m : Mailbox) : Mailbox :=
  { m with rspArea := overwrite m.rspArea 0 resp, running := [], tunnelled := false, state := 3, doneCount := (m.doneCount + 1) % 65536 }

/-- Sending a response to a management datagram clears no more of the mailbox than where it came from. -/
theorem State.mgmtAnswer_cases (s : State) (n : Nat) (resp : List Byte) :
    ∃ (f : Mailbox → Mailbox) (out : List Out), s.mgmtAnswer n resp = { s.updMbx n f with out := out } ∧ ∀ m, ∃ x, f m = { m with mgmt := x } := by
  unfold State.mgmtAnswer
  split
  · refine ⟨id, s.out, ?_, fun m => ⟨m.mgmt, rfl⟩⟩
    unfold State.updMbx
    rw [upd_id]
  · exact ⟨fun m => { m with mgmt := none }, _, rfl, fun m => ⟨none, rfl⟩⟩

/-- Sending a message, or none, sends out and changes the PBA. -/
theorem State.msixSend_if_cases (s : State) (c : Bool) (v : Nat) :
    ∃ (out : List Out) (pba : BitVec 256), (if c then s.msixSend v else s) = { s with out := out, pcie := { s.pcie with pba := pba } } := by
  split
  · exact s.msixSend_cases v
  · exact ⟨s.out, s.pcie.pba, rfl⟩

/-- Completing a command answers in its mailbox, and beside that sends out and changes the PBA. -/
theorem State.completeBytes_answered (s : State) (n : Nat) (resp : List Byte) :
    ∃ (f : Mailbox → Mailbox) (out : List Out) (pba : BitVec 256),
      s.completeBytes n resp = { s.updMbx n (f ∘ Mailbox.answered resp) with out := out, pcie := { s.pcie with pba := pba } } ∧
      ∀ m, ∃ x, f m = { m with mgmt := x } := by
  obtain ⟨f, out, answer, keeps⟩ := (s.updMbx n (Mailbox.answered resp)).mgmtAnswer_cases n resp
  rw [State.updMbx_updMbx] at answer
  obtain ⟨out', pba, sent⟩ := State.msixSend_if_cases { s.updMbx n (f ∘ Mailbox.answered resp) with out := out } _ _
  refine ⟨f, out', pba, Eq.trans ?_ sent, keeps⟩
  rw [← answer]
  rfl

theorem completingACommand : Claim.CompletingACommand := by
  unfold Claim.CompletingACommand
  intro s c r hn t
  obtain ⟨f, out, pba, ht, keeps⟩ := s.completeBytes_answered c.mbx (r.bytes c)
  have mine : t.mbx c.mbx = f ((s.mbx c.mbx).answered (r.bytes c)) := by
    rw [show t = _ from ht]
    exact State.mbx_updMbx_self _ hn
  obtain ⟨x, hx⟩ := keeps ((s.mbx c.mbx).answered (r.bytes c))
  rw [mine, hx]
  refine ⟨rfl, rfl, rfl, rfl, fun n hn => s.completeBytes_mbx_ne _ hn, ?_⟩
  rw [show t = _ from ht]
  exact ⟨rfl, rfl, rfl, rfl, rfl, rfl⟩

/-- Settles O15: each ring is one branch of the doorbell, and completing is one update of the mailbox. -/
theorem mailboxesRingAndComplete : Obligations.MailboxesRingAndComplete := ⟨ringingAMailbox, completingACommand⟩

/-! ### Submitting -/

/-- A firmware row's opcode names its command, and fits its field. -/
theorem commandDef_of_firmware {i : Instr} {d : CmdDef} {dt : Nat} {h : CmdHdr} {p : List Byte} (hi : firmwareOf i = some (d, dt, h, p)) :
    commandDef d.opcode = some d ∧ d.opcode < 65536 := by
  cases i <;> simp only [firmwareOf, Option.some.injEq, Prod.mk.injEq, reduceCtorEq] at hi
  all_goals (obtain ⟨rfl, rfl, rfl, rfl⟩ := hi; exact ⟨rfl, by decide⟩)

/-- What firmware takes from a mailbox into whose area a command was written is that command. -/
theorem State.runMbx_taken {s : State} {d : CmdDef} {h : CmdHdr} {p : List Byte} (hd : commandDef d.opcode = some d)
    (hop : d.opcode < 65536) (hp : p.length ≤ 4080) (hn : h.mbx.val < s.mailboxes.length) :
    let c := Cmd.of d.opcode h p
    let t := (s.updMbx h.mbx fun m => { m with cmdArea := overwrite m.cmdArea 0 c.bytes }).taken h.mbx
    t.runMbx h.mbx = t.runIn (some d) c := by
  intro c t
  have running : (t.mbx h.mbx).running = c.bytes ++ (s.mbx h.mbx).cmdArea.drop (0 + c.bytes.length) := by
    have := State.mbx_updMbx_self (s := s.updMbx h.mbx fun m => { m with cmdArea := overwrite m.cmdArea 0 c.bytes }) (n := h.mbx)
      (fun m => { m with state := 2, rungAt := s.clock.up, acceptedAt := s.clock.up, running := m.cmdArea }) (by simpa [State.updMbx] using hn)
    rw [State.mbx_updMbx_self _ hn] at this
    exact congrArg Mailbox.running this
  have parsed : Cmd.parse h.mbx.val (t.mbx h.mbx).running = c := by
    rw [running]
    exact Cmd.parse_bytes _ hop hp
  show t.runIn (commandDef (Cmd.parse h.mbx.val (t.mbx h.mbx).running).opcode) (Cmd.parse h.mbx.val (t.mbx h.mbx).running) = _
  rw [parsed, show commandDef c.opcode = some d from hd]

/-- Settles O8: both rings take the same bytes, and those read back as the command submitted. -/
theorem submittingIsWritingThenRinging : Obligations.SubmittingIsWritingThenRinging := by
  unfold Obligations.SubmittingIsWritingThenRinging
  intro i d dt h p s hi hp live hn
  obtain ⟨hd, hop⟩ := commandDef_of_firmware hi
  rw [exec_of_firmware hi]
  refine State.act_eq ?_
  unfold State.submit
  have reached : (s.elapse dt).barLive = true := live
  rw [if_neg (by simp [reached])]
  exact State.ringMbx_congr (State.runMbx_taken (s := s.elapse dt) hd hop hp hn).symm

end Sys2Proof.Machine
end

section
/-! PROOFS. Event rings: their control registers, the consumer index, the signalling wait and a failed write; the routing of events and the
records written (R57, R58, R74, R87 to R89). -/

namespace Sys2Proof.Machine

open Sys2Proof

-- One proof at a time: each thread of the elaborator takes its stack out of the memory the check gives.
set_option Elab.async false

/-! ### One ring of the state -/

/-- A change of a ring is the change of the ring that stands there. -/
theorem State.updRing_eq (s : State) (n : Nat) (f : Ring → Ring) : s.updRing n f = s.updRing n fun _ => f (s.ring n) := by
  have same : upd s.rings n f = upd s.rings n fun _ => f (s.ring n) := by
    refine List.ext_getElem? fun k => ?_
    unfold upd
    rw [List.getElem?_modify, List.getElem?_modify]
    by_cases hk : n = k
    · subst hk
      cases hr : s.rings[n]? <;> simp [State.ring, List.getD_eq_getElem?_getD, hr]
    · simp [hk]
  unfold State.updRing
  rw [same]

theorem State.updRing_congr {s : State} {n : Nat} {f g : Ring → Ring} (h : f (s.ring n) = g (s.ring n)) :
    s.updRing n f = s.updRing n g := by
  rw [s.updRing_eq n f, s.updRing_eq n g, h]

/-! ### EVR_CTRL -/

theorem bitOf_eq_testBit (v i : Nat) : bitOf v i = v.testBit i := by
  rw [Nat.testBit_eq_decide_div_mod_eq]
  exact beq_eq_decide _ _

/-- A bit that is set reads set. -/
theorem bitOf_or (v m : Word) {i : Nat} (h : m.toNat.testBit i = true) : bitOf (v ||| m).toNat i = true := by
  rw [bitOf_eq_testBit, BitVec.toNat_or, Nat.testBit_or, h, Bool.or_true]

/-- A bit that is masked out reads clear. -/
theorem bitOf_and (v m : Word) {i : Nat} (h : m.toNat.testBit i = false) : bitOf (v &&& m).toNat i = false := by
  rw [bitOf_eq_testBit, BitVec.toNat_and, Nat.testBit_and, h, Bool.and_false]

/-- A write with ENABLE to a ring that is not enabled starts it anew, where its size is one a ring has. -/
theorem Ring.writeCtrl_on {q : Ring} {v : Nat} (hv : bitOf v 31 = true) (hq : q.enabled = false) (lo : 8 ≤ q.log2) (hi : q.log2 ≤ 20) :
    q.writeCtrl v = { q with ctrl := BitVec.ofNat 32 (v % 0x10000000) ||| 0x80000000#32, pidx := 0, phase := true, seq := 0, unsignalled := 0 } := by
  simp [Ring.writeCtrl, hv, hq, Nat.not_lt.2 lo, Nat.not_lt.2 hi]

/-- With another size only ENABLE is refused. -/
theorem Ring.writeCtrl_refused {q : Ring} {v : Nat} (hv : bitOf v 31 = true) (hq : q.enabled = false) (size : q.log2 < 8 ∨ 20 < q.log2) :
    q.writeCtrl v = { q with ctrl := BitVec.ofNat 32 (v % 0x10000000), configErr := true } := by
  simp [Ring.writeCtrl, hv, hq, size]

/-- ENABLE on an enabled ring restarts nothing. -/
theorem Ring.writeCtrl_again {q : Ring} {v : Nat} (hv : bitOf v 31 = true) (hq : q.enabled = true) :
    q.writeCtrl v = { q with ctrl := BitVec.ofNat 32 (v % 0x10000000) ||| 0x80000000#32 } := by
  simp [Ring.writeCtrl, hv, hq]

/-- Clearing ENABLE discards and counts what was held. -/
theorem Ring.writeCtrl_off {q : Ring} {v : Nat} (hv : bitOf v 31 = false) (hq : q.enabled = true) :
    q.writeCtrl v = { q with ctrl := BitVec.ofNat 32 (v % 0x10000000), held := [], unsignalled := 0,
                             dropped := min 0xFFFF (q.dropped + q.held.length) } := by
  simp [Ring.writeCtrl, hv, hq, Ring.disable, Ring.drop, sat]

/-- A write without ENABLE to a ring that has none sets the other fields. -/
theorem Ring.writeCtrl_fields {q : Ring} {v : Nat} (hv : bitOf v 31 = false) (hq : q.enabled = false) :
    q.writeCtrl v = { q with ctrl := BitVec.ofNat 32 (v % 0x10000000) } := by
  simp [Ring.writeCtrl, hv, hq]

/-- A write of EVR_CTRL makes the ring what `writeCtrl` makes of it. -/
theorem State.ringWriteReg_ctrl {s : State} {i v : Nat} {q : Ring} (h : (s.ring i).writeCtrl v = q) :
    s.ringWriteReg i 0x10 v = s.updRing i fun _ => q := by
  rw [← h, ← s.updRing_eq i fun r => r.writeCtrl v]
  rfl

/-- A base, mirror or size written while ENABLE is 1 is ignored with CONFIG_ERR. -/
theorem State.ringWriteReg_locked {s : State} {i o v : Nat} (ho : o ∈ [0x00, 0x04, 0x08, 0x0C, 0x14]) (hq : (s.ring i).enabled = true) :
    s.ringWriteReg i o v = s.updRing i fun q => { q with configErr := true } := by
  simp only [List.mem_cons, List.not_mem_nil, or_false] at ho
  obtain rfl | rfl | rfl | rfl | rfl := ho
  all_goals simp [State.ringWriteReg, hq]

theorem ringControlWrites : Claim.RingControlWrites := by
  unfold Claim.RingControlWrites
  intro dt r v s live q fields on put
  rw [exec_ring_enable, exec_ring_disable]
  have set : bitOf on.toNat 31 = true := bitOf_or v _ (by decide)
  have clear : bitOf (v &&& 0x7FFFFFFF#32).toNat 31 = false := bitOf_and v _ (by decide)
  refine ⟨fun off lo hi => ?_, fun off size => ?_, fun run => ?_, fun off => ?_, fun run => ?_, fun o ho run => ?_⟩
  · exact State.act_live live (State.ringWriteReg_ctrl (Ring.writeCtrl_on set off lo hi))
  · exact State.act_live live (State.ringWriteReg_ctrl (Ring.writeCtrl_refused set off size))
  · exact State.act_live live (State.ringWriteReg_ctrl (Ring.writeCtrl_again set run))
  · exact State.act_live live (State.ringWriteReg_ctrl (Ring.writeCtrl_fields clear off))
  · exact State.act_live live (State.ringWriteReg_ctrl (Ring.writeCtrl_off clear run))
  · exact State.ringWriteReg_locked ho run

/-! ### The consumer index, the signalling wait and a failed write -/

theorem consumerIndexWrites : Claim.ConsumerIndexWrites := by
  unfold Claim.ConsumerIndexWrites
  intro dt r v s live e
  rw [exec_evr_cidx_write]
  exact ⟨fun below => State.act_live live (if_neg (Nat.not_le.2 below)), fun beyond => State.act_live live (if_pos beyond)⟩

theorem ringTimeoutsAndFaults : Claim.RingTimeoutsAndFaults := by
  unfold Claim.RingTimeoutsAndFaults
  intro dt r s q e due
  rw [exec_evr_coalesce_timeout, exec_mirror_fault]
  have guard : (q.enabled && e.hostReach && q.unsignalled != 0 && q.coalWait != 0 && e.since q.oldest q.coalWait) = true ↔ due := by
    simp only [Bool.and_eq_true, bne_iff_ne, and_assoc]
    exact and_congr_right fun _ => and_congr_right fun _ => and_congr_right fun _ => and_congr_right fun _ => decide_eq_true_iff
  refine ⟨fun h => State.act_eq (if_pos (guard.2 h)), fun h => State.act_eq (if_neg (mt guard.1 h)), fun run => ?_, fun off => ?_⟩
  · exact State.act_eq ((if_neg (ne_true_of_eq_false (congrArg (!·) run))).trans (State.updRing_congr rfl))
  · exact State.act_eq (if_pos (congrArg (!·) off))

/-- Settles O28: each write is one branch of the register, and the ring that stands there is the one changed. -/
theorem eventRingRegisters : Obligations.EventRingRegisters := ⟨ringControlWrites, consumerIndexWrites, ringTimeoutsAndFaults⟩

/-! ### Routing -/

/-- A record put where the ring is not enabled is dropped and counted. -/
theorem State.ringPut_disabled {s : State} {i : Nat} (r : EventRec) (h : (s.ring i).enabled = false) :
    s.ringPut i r = s.updRing i fun q => q.drop 1 :=
  if_pos (congrArg (!·) h)

/-- Where the ring is full, the host out of reach, or a record held, it is held, merged or dropped. -/
theorem State.ringPut_held {s : State} {i : Nat} {r : EventRec} {l : List EventRec} {lost : Bool} (h : (s.ring i).enabled = true)
    (waits : (s.ring i).full = true ∨ s.hostReach = false ∨ (s.ring i).held ≠ []) (held : holdRec 64 (s.ring i).held r = (l, lost)) :
    s.ringPut i r = s.updRing i fun _ => { s.ring i with held := l, dropped := min 0xFFFF ((s.ring i).dropped + b2n lost) } := by
  unfold State.ringPut
  rw [if_neg (ne_true_of_eq_false (congrArg (!·) h)), if_pos (by simpa [or_assoc] using waits), held]
  exact State.updRing_congr rfl

/-- Else it is written and signalled. -/
theorem State.ringPut_written {s : State} {i : Nat} (r : EventRec) (h : (s.ring i).enabled = true) (room : (s.ring i).full = false)
    (reach : s.hostReach = true) (none : (s.ring i).held = []) : s.ringPut i r = (s.ringWrite i r).ringSignal i := by
  unfold State.ringPut
  rw [if_neg (ne_true_of_eq_false (congrArg (!·) h)), if_neg (by simp [room, reach, none])]

/-- A record that another of the same kind absorbs is folded into it. -/
theorem holdRec_merge {cap k : Nat} {l : List EventRec} {r : EventRec} (h : l.findIdx? (·.same r) = some k) :
    holdRec cap l r = (l.modify k (·.fold r.count), false) := by
  simp only [holdRec, h]

/-- A new one is held below the cap. -/
theorem holdRec_new {cap : Nat} {l : List EventRec} {r : EventRec} (h : l.findIdx? (·.same r) = none) (room : l.length < cap) :
    holdRec cap l r = (l ++ [r], false) := by
  simp only [holdRec, h, if_pos room]

/-- At the cap it is lost. -/
theorem holdRec_lost {cap : Nat} {l : List EventRec} {r : EventRec} (h : l.findIdx? (·.same r) = none) (full : cap ≤ l.length) :
    holdRec cap l r = (l, true) := by
  simp only [holdRec, h, if_neg (Nat.not_lt.2 full)]

theorem holdUp_length (l : List EventRec) (r : EventRec) : (holdUp l r).length ≤ l.length + 1 := by
  unfold holdUp holdRec
  split
  · simp
  · split <;> simp

/-- Below mode 2 no trigger fires. -/
theorem State.fireAll_standby {s : State} (code unit : Nat) (h : s.modes.mode ≤ 1) : s.fireAll code unit = s :=
  if_neg fun display => absurd (display.1.trans h) (by decide)

theorem eventRouting : Claim.EventRouting := by
  unfold Claim.EventRouting
  refine ⟨fun s r root => ?_, fun s r child => ?_, fun s i r hi => ?_, fun s code unit ps tag txn mode => ?_⟩
  · intro ring
    have routed : s.deliver r = s.routeRec r := if_pos root
    rw [routed]
    exact ⟨fun fatal => if_pos fatal, fun plain some => (if_neg plain).trans (if_neg some), fun plain none => (if_neg plain).trans (if_pos none)⟩
  · have up : s.deliver r = _ := if_neg (ne_true_of_eq_false child)
    rw [up]
    constructor
    · intro p parent
      rw [parent]
    · intro alone
      rw [alone]
      exact ⟨rfl, holdUp_length _ _⟩
  · intro q put
    refine ⟨fun off => ?_, fun run waits => ⟨fun k merge => ?_, fun new room => ?_, fun new full => ?_⟩, fun run room reach none => ?_⟩
    · exact (s.ringPut_disabled r off).trans (State.updRing_congr rfl)
    · exact State.ringPut_held run waits (holdRec_merge merge)
    · exact State.ringPut_held run waits (holdRec_new new room)
    · exact State.ringPut_held run waits (holdRec_lost new full)
    · exact s.ringPut_written r run room reach none
  · have raised : s.raise code unit ps tag txn =
        if s.serves then s.deliver (s.mkRec code unit ps tag txn) else { s with owed := s.owed ++ [s.mkRec code unit ps tag txn] } := by
      unfold State.raise
      rw [State.fireAll_standby code unit mode]
    rw [raised]
    exact ⟨fun serves => if_pos serves, fun stopped => if_neg (ne_true_of_eq_false stopped)⟩

/-! ### Records -/

theorem EventRec.body_length (r : EventRec) : r.body.length = 60 := by
  simp [EventRec.body]

theorem recordsAreWritten : Claim.RecordsAreWritten := by
  unfold Claim.RecordsAreWritten
  intro s i r hi q a t
  have mine : t.ring i = { q with
      pidx := (q.pidx + 1) % q.size, phase := q.phase != (q.pidx + 1 == q.size), seq := (q.seq + 1) % 0x80000000
      unsignalled := q.unsignalled + 1, oldest := if q.unsignalled = 0 then s.clock.up else q.oldest } :=
    State.ring_updRing_self _ hi
  rw [mine]
  refine ⟨?_, rfl, rfl, fun wraps => ?_, fun stays => ?_, rfl, fun j hj => State.ring_updRing_ne _ _ hj, r.body_length⟩
  · exact List.append_assoc s.out [_] [_]
  · have last : (q.pidx + 1 == q.size) = true := beq_iff_eq.2 wraps
    simp only [last, Bool.bne_true]
  · have inside : (q.pidx + 1 == q.size) = false := beq_eq_false_iff_ne.2 stays
    simp only [inside, Bool.bne_false]

/-- Settles O57: a record goes the way of its ring's state, and is written whole where the ring stands. -/
theorem eventsAreRouted : Obligations.EventsAreRouted := ⟨eventRouting, recordsAreWritten⟩

end Sys2Proof.Machine
end

section
/-! PROOFS. Accesses of the host that no command runs for: what reset leaves, cold reset requests, and the aperture's reads and writes
(R46, R51, R337, R358). -/

namespace Sys2Proof.Machine

open Sys2Proof

-- One proof at a time: each thread of the elaborator takes its stack out of the memory the check gives.
set_option Elab.async false

/-! ### Reset -/

/-- Settles O4: the reset state is one term, and each value is read off it. -/
theorem resetLeavesTheStatedValues : Obligations.ResetLeavesTheStatedValues :=
  ⟨rfl, rfl, rfl, rfl, rfl, rfl, rfl, by decide, by decide, rfl, rfl⟩

/-- Settles O5: both counts are read off the reset state. -/
theorem resetStateIsWellFormed : Obligations.ResetStateIsWellFormed := ⟨by decide, by decide⟩

/-! ### GLB_RESET_CTRL -/

/-- Die `d` asks for its cold reset. -/
def State.askCold (s : State) (d : Nat) : State :=
  { s with bellows := { s.bellows with
      coldBusy := upd s.bellows.coldBusy d (fun _ => true), resetDue := upd s.bellows.resetDue d (fun _ => 1) } }

/-- Without the key the request is an error. -/
theorem State.resetCtrl_key {s : State} {v : Nat} (key : bitsOf v 31 16 ≠ 0x5A17) : s.resetCtrl v = s.glbErrSet 3 := if_pos key

/-- Both dies are reset together in mode 0 only. -/
theorem State.resetCtrl_both_mode {s : State} {v : Nat} (key : bitsOf v 31 16 = 0x5A17) (west : bitOf v 0 = true) (east : bitOf v 1 = true)
    (mode : s.modes.mode ≠ 0) : s.resetCtrl v = s.glbErrSet 4 := by
  simp [State.resetCtrl, key, west, east, mode]

theorem State.resetCtrl_west {s : State} {v : Nat} (key : bitsOf v 31 16 = 0x5A17) (west : bitOf v 0 = true) (east : bitOf v 1 = false)
    (up : s.bellows.dieOff.getD 0 none = none) (idle : s.bellows.resetDue.getD 0 0 = 0) : s.resetCtrl v = s.askCold 0 := by
  simp [State.resetCtrl, State.askCold, key, west, east, up, idle, -List.getD_eq_getElem?_getD]

theorem State.resetCtrl_east {s : State} {v : Nat} (key : bitsOf v 31 16 = 0x5A17) (west : bitOf v 0 = false) (east : bitOf v 1 = true)
    (up : s.bellows.dieOff.getD 1 none = none) (idle : s.bellows.resetDue.getD 1 0 = 0) : s.resetCtrl v = s.askCold 1 := by
  simp [State.resetCtrl, State.askCold, key, west, east, up, idle, -List.getD_eq_getElem?_getD]

theorem State.resetCtrl_both {s : State} {v : Nat} (key : bitsOf v 31 16 = 0x5A17) (west : bitOf v 0 = true) (east : bitOf v 1 = true)
    (mode : s.modes.mode = 0) (up : s.bellows.dieOff = [none, none]) (idle : s.bellows.resetDue = [0, 0]) :
    s.resetCtrl v = { s with bellows := { s.bellows with
      coldBusy := upd (upd s.bellows.coldBusy 0 fun _ => true) 1 (fun _ => true), resetDue := [1, 1] } } := by
  simp [State.resetCtrl, key, west, east, mode, up, idle, upd]

/-- Settles O26: the key, then the mode, then each die named that is up and idle. -/
theorem coldResetRequests : Obligations.ColdResetRequests := by
  unfold Obligations.ColdResetRequests
  intro dt v s live e w x ask
  rw [exec_cold_west, exec_cold_east]
  have west : bitOf w 0 = true := bitOf_or v 1 (by decide)
  have east : bitOf x 1 = true := bitOf_or v 2 (by decide)
  refine ⟨fun key only up idle => ?_, fun key only up idle => ?_, fun key both mode up idle => ?_, fun key => ?_, fun key both mode => ?_⟩
  · exact State.act_live live (State.resetCtrl_west key west only up idle)
  · exact State.act_live live (State.resetCtrl_east key only east up idle)
  · exact State.act_live live (State.resetCtrl_both (s := s.elapse dt) key west both mode up idle)
  · exact State.act_live live (State.resetCtrl_key key)
  · exact State.act_live live (State.resetCtrl_both_mode key west both mode)

/-! ### One granule through the aperture -/

theorem State.apertureWrite_nil (s : State) (a k : Nat) : s.apertureWrite a [] k = s := by
  cases k with
  | zero => rfl
  | succ k => exact if_pos rfl

/-- Bytes that stay within one granule are one store. -/
theorem State.apertureWrite_stores {s : State} {a : Nat} {data : List Byte} (k : Nat) (some : data ≠ []) (fit : a % 256 + data.length ≤ 256)
    (ok : s.apertureOk a 1 = true) : s.apertureWrite a data (k + 1) =
      { s.request [(a, data.length)] with
        fs := { (s.request [(a, data.length)]).fs with
          mem := Mem.writes s.fs.mem a data, poisoned := clearPoison s.fs.poisoned a data.length }
        pcie := { s.pcie with hostWrites := if s.settings.ordering = 1 then
          s.pcie.hostWrites ||| BitVec.ofNat 2 (if a < 64 * gib then 1 else 2) else s.pcie.hostWrites } } := by
  have whole : min data.length (256 - a % 256) = data.length := by omega
  unfold State.apertureWrite
  simp only [if_neg some, whole, ok, List.take_length, List.drop_length, State.apertureWrite_nil, Bool.not_true, Bool.false_eq_true, if_false]
  rfl

/-- Where the host may not write, they are ignored and the fault is recorded. -/
theorem State.apertureWrite_refused {s : State} {a : Nat} {data : List Byte} (k : Nat) (some : data ≠ []) (fit : a % 256 + data.length ≤ 256)
    (no : s.apertureOk a 1 = false) : s.apertureWrite a data (k + 1) = s.apertureFault a := by
  have whole : min data.length (256 - a % 256) = data.length := by omega
  unfold State.apertureWrite
  simp only [if_neg some, whole, no, List.drop_length, State.apertureWrite_nil, Bool.not_false, if_true]

/-- An access within one granule is one piece. -/
theorem granules_one {a n : Nat} (k : Nat) (some : 1 ≤ n) (fit : a % 256 + n ≤ 256) : granules (k + 2) a n = [(a, n)] := by
  have whole : min n (256 - a % 256) = n := by omega
  have done : granules (k + 1) (a + n) 0 = [] := if_pos rfl
  unfold granules
  simp only [if_neg (Nat.pos_iff_ne_zero.1 some), whole, Nat.sub_self, done]

/-- Bytes of a region that the host may read are those of the store. -/
theorem State.apertureRead_stored {s : State} {a : Nat} (n : Nat) (ok : s.apertureOk a 0 = true) (clean : s.isPoisoned a = false)
    (plain : regionOf a ≠ 9) : s.apertureRead [(a, n)] = (Mem.reads s.fs.mem a n, s.request [(a, n)]) := by
  simp only [State.apertureRead, ok, clean, plain, Bool.not_true, Bool.false_eq_true, if_false, List.append_nil]

/-- In the concealment region they are the entries there, and free values. -/
theorem State.apertureRead_maps {s : State} {a : Nat} (n : Nat) (ok : s.apertureOk a 0 = true) (clean : s.isPoisoned a = false)
    (maps : regionOf a = 9) : s.apertureRead [(a, n)] =
      ((List.range n).map fun i => s.mapsByte (a + i) (s.security.free + i),
        { s with security := { s.security with free := s.security.free + n } }) := by
  simp only [State.apertureRead, ok, clean, maps, Bool.not_true, Bool.false_eq_true, if_false, if_true, List.append_nil]

/-- Where the host may not read, ones return. -/
theorem State.apertureRead_refused {s : State} {a : Nat} (n : Nat) (no : s.apertureOk a 0 = false) :
    s.apertureRead [(a, n)] = (List.replicate n 0xFF, s.apertureFault a) := by
  simp only [State.apertureRead, no, Bool.not_false, if_true, List.append_nil]

/-- A poisoned granule returns ones and counts. -/
theorem State.apertureRead_poisoned {s : State} {a : Nat} (n : Nat) (ok : s.apertureOk a 0 = true) (poisoned : s.isPoisoned a = true) :
    s.apertureRead [(a, n)] = (List.replicate n 0xFF, s.poisonRead a) := by
  simp only [State.apertureRead, ok, poisoned, Bool.not_true, Bool.false_eq_true, if_false, if_true, List.append_nil]

/-! ### BAR2 -/

theorem bar2Fits_pos {off n : Nat} (h : bar2Fits off n = true) : 1 ≤ n := by
  simp only [bar2Fits, Bool.and_eq_true, decide_eq_true_eq] at h
  exact h.1.1

/-- An access that does not fit does nothing. -/
theorem State.bar2Write_unfit {s : State} {off : Nat} {data : List Byte} (bad : bar2Fits off data.length = false) : s.bar2Write off data = s :=
  if_pos (.inr (congrArg (!·) bad))

theorem State.bar2Read_unfit {s : State} {off n : Nat} (bad : bar2Fits off n = false) : s.bar2Read off n = s :=
  if_pos (.inr (congrArg (!·) bad))

/-- A write that fits is the aperture's, past host boot. -/
theorem State.bar2Write_aperture {s : State} {off : Nat} {data : List Byte} (live : s.barLive = true) (past : s.hostBoot = false)
    (fits : bar2Fits off data.length = true) :
    s.bar2Write off data = s.apertureWrite (s.pcie.apBase + off) data (data.length / 256 + 2) := by
  simp [State.bar2Write, live, past, fits]

/-- A read within one granule returns what the aperture's one piece does. -/
theorem State.bar2Read_one {s t : State} {off n : Nat} {data : List Byte} (live : s.barLive = true) (past : s.hostBoot = false)
    (fits : bar2Fits off n = true) (fit : (s.pcie.apBase + off) % 256 + n ≤ 256)
    (read : ({ s with pcie := { s.pcie with lastPoison := false } } : State).apertureRead [(s.pcie.apBase + off, n)] = (data, t)) :
    s.bar2Read off n = { t with pcie := { t.pcie with
      lastRead := data
      hostWrites := s.pcie.hostWrites &&& ~~~(BitVec.ofNat 2 (if s.pcie.apBase + off < 64 * gib then 1 else 2)) } } := by
  have one := granules_one (n / 256) (bar2Fits_pos fits) fit
  unfold State.bar2Read
  rw [if_neg (by simp [live, fits]), if_neg (ne_true_of_eq_false past)]
  simp only [one, read]
  rfl

theorem hostFrameStoreAccesses : Claim.HostFrameStoreAccesses := by
  unfold Claim.HostFrameStoreAccesses
  refine ⟨fun dt off data s live past => ?_, fun dt off len s live past => ?_, fun s a => rfl⟩
  · intro e a w
    rw [exec_bar2_write]
    have some : bar2Fits off data.length = true → data ≠ [] := fun fits => List.ne_nil_of_length_pos (bar2Fits_pos fits)
    have aperture : bar2Fits off data.length = true → e.bar2Write off data = _ := fun fits => State.bar2Write_aperture (s := e) live past fits
    refine ⟨fun bad => State.act_eq (State.bar2Write_unfit bad), fun fits fit ok => ?_, fun fits fit no => ?_⟩
    · exact State.act_eq ((aperture fits).trans (State.apertureWrite_stores _ (some fits) fit ok))
    · exact State.act_eq ((aperture fits).trans (State.apertureWrite_refused _ (some fits) fit no))
  · intro e a seen one
    rw [exec_bar2_read]
    have returns : one → ∀ {t : State} {data : List Byte}, e.apertureRead [(a, len)] = (data, t) →
        s.act dt (fun s => s.bar2Read off len) = .next (s.ended (seen t data)) := fun h _ _ read =>
      State.act_eq (State.bar2Read_one (s := s.elapse dt) live past h.1 h.2 read)
    refine ⟨fun bad => State.act_eq (State.bar2Read_unfit bad), fun h ok clean plain => ?_, fun h ok clean maps => ?_, fun h no => ?_,
      fun h ok poisoned => ?_⟩
    · exact returns h (State.apertureRead_stored len ok clean plain)
    · exact returns h (State.apertureRead_maps len ok clean maps)
    · exact returns h (State.apertureRead_refused len no)
    · exact returns h (State.apertureRead_poisoned len ok poisoned)

theorem memoryWritesOneByte : Claim.MemoryWritesOneByte := fun _ a bs canonical =>
  ⟨Memory.wf_writes bs a canonical, fun i hi =>
    (Mem.read_writes_in bs a i hi canonical).trans (List.getD_eq_getElem _ 0 hi).symm, fun _ out => Mem.read_writes_out bs _ out⟩

/-- Settles O29: an access within one granule is one piece, and each piece is one branch of the aperture. -/
theorem apertureAccesses : Obligations.ApertureAccesses := ⟨hostFrameStoreAccesses, memoryWritesOneByte⟩

end Sys2Proof.Machine
end

section
/-! PROOFS. The boot buffer, the resets and power states of the PCIe function, and the commands of host accesses (R28, R29, R105, R498). -/

namespace Sys2Proof.Machine

open Sys2Proof

-- One proof at a time: each thread of the elaborator takes its stack out of the memory the check gives.
set_option Elab.async false

/-! ### The boot buffer -/

/-- In host boot a write that fits is the boot buffer's. -/
theorem State.bar2Write_boot {s : State} {off : Nat} {data : List Byte} (live : s.barLive = true) (boot : s.hostBoot = true)
    (fits : bar2Fits off data.length = true) : s.bar2Write off data = s.bootWrite off data := by
  simp [State.bar2Write, live, boot, fits]

/-- Bytes inside the buffer land in it, and a verification starts where they leave the mark at its front. -/
theorem State.bootWrite_inside {s : State} {off : Nat} {data : List Byte} (some : data ≠ []) (inside : off + data.length ≤ 0x1000000) :
    s.bootWrite off data =
      if off < 4 ∧ u32 (overwrite s.security.bootBuffer off data) 0 = 0x544F4F42 ∧ (s.modes.bootStage = 0 ∨ 0xE1 ≤ s.modes.bootStage) then
        ({ s with security := { s.security with bootBuffer := overwrite s.security.bootBuffer off data } } : State).setStage 1 0
      else { s with security := { s.security with bootBuffer := overwrite s.security.bootBuffer off data } } := by
  have whole : min data.length (0x1000000 - off) = data.length := by omega
  have long : data.length ≠ 0 := mt List.length_eq_zero_iff.1 some
  simp only [State.bootWrite, whole, Nat.lt_irrefl, if_false, if_neg long, List.take_length, ne_eq, some, not_false_eq_true, true_and]

theorem bootBufferWrites : Claim.BootBufferWrites := by
  unfold Claim.BootBufferWrites
  intro dt off data s live boot fits inside b e
  rw [exec_boot_buffer_write]
  have some : data ≠ [] := List.ne_nil_of_length_pos (bar2Fits_pos fits)
  have written : (if (s.elapse dt).hostBoot then (s.elapse dt).bar2Write off data else s.elapse dt) =
      if off < 4 ∧ u32 b 0 = 0x544F4F42 ∧ (s.modes.bootStage = 0 ∨ 0xE1 ≤ s.modes.bootStage) then e.setStage 1 0 else e :=
    (if_pos boot).trans ((State.bar2Write_boot (s := s.elapse dt) live boot fits).trans (State.bootWrite_inside some inside))
  constructor
  · intro quiet
    refine State.act_eq (written.trans (if_neg ?_))
    rintro ⟨front, mark, idle⟩
    obtain beyond | other | ⟨started, running⟩ := quiet
    · exact Nat.not_le.2 front beyond
    · exact other mark
    · exact idle.elim started (Nat.not_le.2 running)
  · exact fun front mark idle => State.act_eq (written.trans (if_pos ⟨front, mark, idle⟩))

/-! ### Draining the rings -/

theorem State.ringSignal_modes (s : State) (i : Nat) : (s.ringSignal i).modes = s.modes := by
  obtain ⟨f, out, pba, h⟩ := s.ringSignal_cases i
  rw [h]
  rfl

theorem State.ringDrainN_modes (i n : Nat) : ∀ s : State, (s.ringDrainN i n).modes = s.modes := by
  induction n with
  | zero => exact fun _ => rfl
  | succ n ih =>
    intro s
    unfold State.ringDrainN
    dsimp only
    split
    · rfl
    · split
      · rfl
      · exact ih _

theorem State.ringDrain_modes (s : State) (i : Nat) : (s.ringDrain i).modes = s.modes := by
  unfold State.ringDrain
  dsimp only
  split
  · exact (State.ringSignal_modes _ i).trans (State.ringDrainN_modes i 64 s)
  · rfl

theorem State.mirrorCidx_modes (s : State) (q : Nat) : (s.mirrorCidx q).modes = s.modes := by
  unfold State.mirrorCidx
  dsimp only
  split <;> rfl

/-- What the host-memory requests that waited do leaves the mode. -/
theorem State.requestsGoOn_modes (s : State) :
    (forEach (List.range 16) (forEach (List.range 4) s fun r s => s.ringDrain r) fun q s => s.mirrorCidx q).modes = s.modes :=
  forEach_keeps (P := fun t => t.modes = s.modes) _ _ (fun q _ t kept => (t.mirrorCidx_modes q).trans kept)
    (forEach_keeps (P := fun t => t.modes = s.modes) _ _ (fun r _ t kept => (t.ringDrain_modes r).trans kept) rfl)

/-! ### Resets and power states of the function -/

theorem State.functionReset_plain {s : State} (idle : s.fw.armed = false) (rest : s.pcie.d3hot = false ∨ isPlay s.modes.mode = false) :
    s.functionReset = s.flr := by
  have still : (s.pcie.d3hot && isPlay s.modes.mode) = false := Bool.and_eq_false_iff.2 rest
  simp only [State.functionReset, idle, still, Bool.false_eq_true, if_false]

theorem State.functionReset_leavesD3hot {s : State} (idle : s.fw.armed = false) (d3 : s.pcie.d3hot = true) (play : isPlay s.modes.mode = true) :
    s.functionReset = s.flr.resumeIngest := by
  simp only [State.functionReset, idle, d3, play, Bool.and_self, Bool.false_eq_true, if_false, if_true]

/-- Commands held for a handover run first. -/
theorem State.functionReset_armed {s : State} (armed : s.fw.armed = true) (d0 : s.discardHeld.pcie.d3hot = false) :
    s.functionReset = s.discardHeld.flr := by
  simp only [State.functionReset, armed, d0, Bool.false_and, Bool.false_eq_true, if_false, if_true]

theorem State.perstAssert_high {s : State} (high : s.pcie.perst = false) :
    s.perstAssert = { (if s.fw.armed = true then s.discardHeld else s).flr with
      pcie := { (if s.fw.armed = true then s.discardHeld else s).flr.pcie with perst := true } } :=
  if_neg (ne_true_of_eq_false high)

theorem State.perstRelease_low {s : State} (low : s.pcie.perst = true) :
    s.perstRelease = if isPlay s.modes.mode = true then ({ s with pcie := { s.pcie with perst := false } } : State).resumeIngest
      else { s with pcie := { s.pcie with perst := false } } :=
  if_neg (ne_true_of_eq_false (congrArg (!·) low))

/-- The return to D0 lets the requests go on, and in a play mode the streams. -/
theorem State.d0Return_d3hot {s t : State} (d3 : s.pcie.d3hot = true)
    (ht : forEach (List.range 16) (forEach (List.range 4) { s with pcie := { s.pcie with d3hot := false } } fun r s => s.ringDrain r)
      (fun q s => s.mirrorCidx q) = t) : s.d0Return = if isPlay s.modes.mode = true then t.resumeIngest else t := by
  have kept : t.modes = s.modes := by
    rw [← ht]
    exact State.requestsGoOn_modes _
  unfold State.d0Return
  rw [if_neg (ne_true_of_eq_false (congrArg (!·) d3))]
  simp only [ht, kept]

/-- A reset of the function leaves no ring enabled and none with a record held. -/
theorem State.flr_ring (s : State) : ∀ n < 4, (s.flr.ring n).enabled = false ∧ (s.flr.ring n).held = [] := by
  have reset : ∀ n < 4, s.flr.ring n = { ringReset n with held := [] } := fun n hn => by
    simp [State.ring, State.flr, List.getD_eq_getElem?_getD, hn]
  have off : ∀ n < 4, (ringReset n).enabled = false := by decide
  intro n hn
  rw [reset n hn]
  exact ⟨off n hn, rfl⟩

/-- It leaves every mailbox idle. -/
theorem State.flr_mbx (s : State) (n : Nat) : (s.flr.mbx n).state = 0 := by
  unfold State.mbx State.flr
  rw [List.getD_eq_getElem?_getD, List.getElem?_mapIdx]
  cases s.mailboxes[n]? <;> rfl

theorem functionResetsAndPowerStates : Claim.FunctionResetsAndPowerStates := by
  unfold Claim.FunctionResetsAndPowerStates
  intro dt s e first on
  rw [exec_function_level_reset, exec_perst_n, exec_perst_n_deassert, exec_d3hot_entry, exec_d0_return]
  refine ⟨fun live idle rest => ?_, fun live idle d3 play => ?_, fun live armed d0 => ?_, fun n => rfl, fun high => ?_, fun low => ?_,
    fun live => ?_, fun live d3 => ?_, ?_⟩
  · exact State.act_live live (State.functionReset_plain (s := s.elapse dt) idle rest)
  · exact State.act_live live (State.functionReset_leavesD3hot (s := s.elapse dt) idle d3 play)
  · have held : first = e.discardHeld := if_pos armed
    rw [held] at d0 ⊢
    exact State.act_live live (State.functionReset_armed (s := s.elapse dt) armed d0)
  · exact State.act_eq (State.perstAssert_high (s := s.elapse dt) high)
  · exact State.act_eq (State.perstRelease_low (s := s.elapse dt) low)
  · exact State.act_live live rfl
  · exact State.act_live live (State.d0Return_d3hot (s := s.elapse dt) d3 rfl)
  · exact ⟨rfl, rfl, rfl, rfl, rfl, s.flr_ring, fun n _ => s.flr_mbx n, rfl, rfl, rfl, rfl, rfl, rfl⟩

/-! ### Commands of host accesses -/

theorem hostCommandsRun : Claim.HostCommandsRun :=
  ⟨exec_ring, exec_cold_west, exec_cold_east, exec_glb_aperture_hi_write, exec_glb_aperture_lo_write, exec_ring_enable, exec_ring_disable,
    exec_evr_cidx_write, exec_evr_status_read, exec_rec_data_read, exec_cmdset_rev_read, exec_register_write, exec_unmapped, exec_bad_size,
    exec_bar2_read, exec_bar2_write, exec_boot_buffer_write, exec_function_level_reset, exec_perst_n, exec_d3hot_entry, exec_d0_return⟩

/-- Settles O30: each reset is one branch of its pin or request, and the row of a host access is the access once its time has passed. -/
theorem hostBootAndFunctionReset : Obligations.HostBootAndFunctionReset :=
  ⟨bootBufferWrites, functionResetsAndPowerStates, hostCommandsRun⟩

end Sys2Proof.Machine
end

section
/-! PROOFS. How a firmware command runs: its area gives it back, its opcode names it, its checks come first, and then it is staged, forms a transaction of
its own, or completes (R61 to R77). -/

namespace Sys2Proof.Machine

open Sys2Proof

-- One proof at a time: each thread of the elaborator takes its stack out of the memory the check gives.
set_option Elab.async false

/-- Settles O7: each field reads back from where its bytes stand. -/
theorem commandAreaRoundTrip : Obligations.CommandAreaRoundTrip :=
  fun _ _ _ tail hop hp => Cmd.parse_bytes tail hop hp

/-- Settles O9: each firmware row has the opcode that its command is listed under. -/
theorem everyOpcodeNamesItsCommand : Obligations.EveryOpcodeNamesItsCommand :=
  fun _ _ _ _ _ hi => (commandDef_of_firmware hi).1

/-! ### What running a command comes to -/

/-- The failed check that a command answers, if any fails. -/
def CmdDef.failed (d : CmdDef) (c : Cmd) (s : State) : Option Err := Err.pick (c.headerErrs d s ++ d.checks s c ++ s.txnErrs d c)

/-- A command with a check that fails is rejected. -/
theorem runCmd_failed {d : CmdDef} {c : Cmd} {s : State} {e : Err} (h : d.failed c (s.touchTxn c.txn) = some e) :
    runCmd d c s = (s.touchTxn c.txn, e.resp c) := by
  unfold runCmd
  dsimp only
  rw [show Err.pick _ = _ from h]

/-- A stageable command with a transaction ID is staged. -/
theorem runCmd_staged {d : CmdDef} {c : Cmd} {s : State} (h : d.Passes c (s.touchTxn c.txn)) (kind : d.kind = .stageable) (txn : c.txn ≠ 0) :
    runCmd d c s = ((s.touchTxn c.txn).stage c, { status := stStaged, txn := c.txn }) := by
  unfold runCmd
  dsimp only
  rw [show Err.pick _ = none from h, kind]
  exact if_neg txn

/-- One without an ID forms a transaction of its own. -/
theorem runCmd_implicit {d : CmdDef} {c : Cmd} {s : State} (h : d.Passes c (s.touchTxn c.txn)) (kind : d.kind = .stageable) (txn : c.txn = 0) :
    runCmd d c s = (s.touchTxn c.txn).implicit c := by
  unfold runCmd
  dsimp only
  rw [show Err.pick _ = none from h, kind]
  exact if_pos txn

/-- What the end of a command's run leaves and answers. -/
def Result.answer (c : Cmd) : Result → State × Resp
  | .fail s e => (s, e.resp c)
  | .done s p t => (s, { txn := t, payload := p })

/-- A command of another kind runs. -/
theorem runCmd_run {d : CmdDef} {c : Cmd} {s : State} (h : d.Passes c (s.touchTxn c.txn)) (kind : d.kind ≠ .stageable) :
    runCmd d c s = (d.run (s.touchTxn c.txn) c).answer c := by
  unfold runCmd
  dsimp only
  rw [show Err.pick _ = none from h]
  cases hk : d.kind with
  | stageable => exact absurd hk kind
  | immediate => rfl
  | onTxn => rfl

/-! ### What its row comes to -/

/-- Firmware has taken a command and not looked at its transaction yet. -/
def State.accepted (s : State) (dt : Nat) (d : CmdDef) (h : CmdHdr) (p : List Byte) : State :=
  (s.elapse dt).updMbx h.mbx fun m =>
    let area := overwrite m.cmdArea 0 (d.cmd h p).bytes
    { m with cmdArea := area, running := area, state := 2, rungAt := (s.elapse dt).clock.up, acceptedAt := (s.elapse dt).clock.up }

/-- Looking at its transaction restarts the timer there, and changes nothing else. -/
theorem State.begun_cases (s : State) (dt : Nat) (d : CmdDef) (h : CmdHdr) (p : List Byte) :
    ∃ txns : List Txn, s.begun dt d h p = { s.accepted dt d h p with txns := txns } := by
  unfold State.begun State.touchTxn
  dsimp only
  split
  · exact ⟨s.txns, rfl⟩
  · exact ⟨_, rfl⟩

section
variable {i : Instr} {d : CmdDef} {dt : Nat} {h : CmdHdr} {p : List Byte} {s m : State} {r : Resp}

/-- Where firmware serves, the row of a command of this A9 runs it at once and completes it. -/
theorem exec_of_runCmd (hi : firmwareOf i = some (d, dt, h, p)) (serving : s.Serving h.mbx.val) (here : (d.cmd h p).tunnel = false)
    (run : runCmd d (d.cmd h p) (s.accepted dt d h p) = (m, r)) : exec i s = .next (s.ended (m.complete (d.cmd h p) r)) := by
  have local' : ¬((d.cmd h p).tunnel = true ∧ (d.cmd h p).target ≠ (s.accepted dt d h p).ownAddress) := fun t => ne_true_of_eq_false here t.1
  have completes : (s.accepted dt d h p).runIn (some d) (d.cmd h p) = m.complete (d.cmd h p) r := by
    unfold State.runIn
    rw [if_neg local']
    dsimp only
    rw [run]
  rw [exec_of_firmware hi]
  exact State.act_eq ((State.submit_serving serving).trans completes)

/-- A command that starts runs, and answers what its run ends with. -/
theorem exec_of_run (hi : firmwareOf i = some (d, dt, h, p)) (kind : d.kind ≠ .stageable) (starts : d.Starts dt h p s)
    (run : (d.run (s.begun dt d h p) (d.cmd h p)).answer (d.cmd h p) = (m, r)) :
    exec i s = .next (s.ended (m.complete (d.cmd h p) r)) := by
  obtain ⟨serving, here, passes⟩ := starts
  exact exec_of_runCmd hi serving here ((runCmd_run passes kind).trans run)

/-- It completes OK where none of its checks fails as it runs. -/
theorem exec_of_done {payload : List Byte} {txn : Word} (hi : firmwareOf i = some (d, dt, h, p)) (kind : d.kind ≠ .stageable)
    (starts : d.Starts dt h p s) (run : d.run (s.begun dt d h p) (d.cmd h p) = .done m payload txn) :
    exec i s = .next (s.ended (m.complete (d.cmd h p) { txn := txn, payload := payload })) :=
  exec_of_run hi kind starts (congrArg (Result.answer _) run)

/-- Else it answers that check. -/
theorem exec_of_fail {e : Err} (hi : firmwareOf i = some (d, dt, h, p)) (kind : d.kind ≠ .stageable)
    (starts : d.Starts dt h p s) (run : d.run (s.begun dt d h p) (d.cmd h p) = .fail m e) :
    exec i s = .next (s.ended (m.complete (d.cmd h p) (e.resp (d.cmd h p)))) :=
  exec_of_run hi kind starts (congrArg (Result.answer _) run)

end

/-- Settles O10: its kind is not the stageable one, and its run is what the row completes. -/
theorem immediateCommandsComplete : Obligations.ImmediateCommandsComplete :=
  fun _ _ _ _ _ _ _ _ _ hi kind starts run => exec_of_done hi kind starts run

/-! ### Failed checks -/

theorem failedChecksOnlyAnswer : Claim.FailedChecksOnlyAnswer :=
  fun _ _ _ _ _ _ _ hi serving here fails => exec_of_runCmd hi serving here (runCmd_failed fails)

theorem theFirstFailingCodeIsAnswered : Claim.TheFirstFailingCodeIsAnswered := by
  unfold Claim.TheFirstFailingCodeIsAnswered
  intro l e he
  have least : ∀ o ∈ l, e.status ≤ o.status ∧ e ∈ l := by
    intro o ho
    obtain ⟨r, hr, low, mem⟩ := Err.pick_some ho
    obtain rfl : e = r := Option.some.inj (he.symm.trans hr)
    exact ⟨low, mem⟩
  refine ⟨?_, fun o ho => (least o ho).1⟩
  cases l with
  | nil => exact absurd he (by simp [Err.pick])
  | cons o l => exact (least o (List.mem_cons_self ..)).2

/-- Settles O12: a failed check is the answer, and the pick is the least code. -/
theorem failedChecksHaveNoEffect : Obligations.FailedChecksHaveNoEffect := ⟨failedChecksOnlyAnswer, theFirstFailingCodeIsAnswered⟩

/-! ### Stageable commands -/

theorem stageableCommandsAreStaged : Claim.StageableCommandsAreStaged := by
  intro i d dt h p s hi kind starts txn
  obtain ⟨serving, here, passes⟩ := starts
  exact exec_of_runCmd hi serving here (runCmd_staged passes kind txn)

/-- The transaction that a command without an ID forms is opened with the command staged in it. -/
def State.openAlone (s : State) (c : Cmd) : State :=
  { (s.newTxnId c.mbx).2 with txns := s.txns ++
    [({ id := (s.newTxnId c.mbx).1, staged := [{ opcode := c.opcode, tag := c.tag, payload := c.payload }], timerAt := s.clock.up } : Txn)] }

/-- Its commit for the first blank whose cut-off lies ahead. -/
def State.commitAlone (s : State) (c : Cmd) : State × Option Err :=
  (s.openAlone c).commit (s.newTxnId c.mbx).1 s.firstBlank [{ opcode := c.opcode, tag := c.tag, payload := c.payload }] c.tag

/-- The response that the commit of a command's own transaction gets. -/
def State.aloneResp (s : State) (c : Cmd) : State × Option Err → State × Resp
  | (t, some e) => (t, { status := e.status, txn := BitVec.ofNat 32 (s.newTxnId c.mbx).1, payload := e.detail })
  | (t, none) => (t.forgetTxns, { txn := BitVec.ofNat 32 (s.newTxnId c.mbx).1 })

theorem State.implicit_eq (s : State) (c : Cmd) : s.implicit c = s.aloneResp c (s.commitAlone c) := rfl

/-- Where it validates it is armed. -/
theorem State.implicit_armed {s : State} {c : Cmd} (h : (s.commitAlone c).2 = none) :
    s.implicit c = ((s.commitAlone c).1.forgetTxns, { txn := BitVec.ofNat 32 (s.newTxnId c.mbx).1 }) := by
  rcases hc : s.commitAlone c with ⟨t, e⟩
  obtain rfl : e = none := by rw [hc] at h; exact h
  rw [State.implicit_eq, hc]
  rfl

/-- Where it does not, the command is rejected. -/
theorem State.implicit_rejected {s : State} {c : Cmd} {e : Err} (h : (s.commitAlone c).2 = some e) :
    s.implicit c = ((s.commitAlone c).1, { status := e.status, txn := BitVec.ofNat 32 (s.newTxnId c.mbx).1, payload := e.detail }) := by
  rcases hc : s.commitAlone c with ⟨t, x⟩
  obtain rfl : x = some e := by rw [hc] at h; exact h
  rw [State.implicit_eq, hc]
  rfl

/-- What a commit rejects is rejected with TXN_REJECTED. -/
theorem State.commit_status {s : State} {id a : Nat} {staged : List Staged} {tag : Word} {e : Err}
    (h : (s.commit id a staged tag).2 = some e) : e.status = stTxnRejected := by
  unfold State.commit at h
  dsimp only at h
  split at h
  · obtain rfl := Option.some.inj h
    rfl
  · exact absurd h (by simp)

theorem stageableCommandsArmAlone : Claim.StageableCommandsArmAlone := by
  unfold Claim.StageableCommandsArmAlone
  intro i d dt h p s hi kind starts txn b id staged o
  obtain ⟨serving, here, passes⟩ := starts
  have alone {m : State} {r : Resp} (run : b.implicit (d.cmd h p) = (m, r)) : exec i s = .next (s.ended (m.complete (d.cmd h p) r)) :=
    exec_of_runCmd hi serving here ((runCmd_implicit passes kind txn).trans run)
  refine ⟨fun valid => alone (State.implicit_armed valid), fun e invalid => ?_⟩
  have status : e.status = stTxnRejected := State.commit_status invalid
  rw [← status]
  exact alone (State.implicit_rejected invalid)

theorem stageableRows : Claim.StageableRows := by
  intro dt h p staged
  and_intros
  all_goals exact ⟨_, rfl, rfl⟩

/-- Settles O11: a command with an ID is staged, one without is committed alone. -/
theorem stageableCommandsAreHeldOrArmed : Obligations.StageableCommandsAreHeldOrArmed :=
  ⟨stageableCommandsAreStaged, stageableCommandsArmAlone, stageableRows⟩

end Sys2Proof.Machine
end

section
/-! PROOFS. Immediate commands: the status commands, the SYS, REC and PWR commands, and the transaction commands (R73 to R85, R459, R460, R479). -/

namespace Sys2Proof.Machine

open Sys2Proof

-- One proof at a time: each thread of the elaborator takes its stack out of the memory the check gives.
set_option Elab.async false

/-! ### Completing -/

/-- An immediate command that passes carries no transaction ID. -/
theorem CmdDef.Passes.txn_eq_zero {d : CmdDef} {c : Cmd} {s : State} (h : d.Passes c s) (kind : d.kind = .immediate) : c.txn = 0 := by
  unfold CmdDef.Passes at h
  rw [Err.pick_eq_none] at h
  by_contra txn
  have fails : ({ status := stNotStageable, field := 12 } : Err) ∈ c.headerErrs d s := by
    simpa [Cmd.headerErrs, chk, kind] using txn
  have listed := List.mem_append_left (s.txnErrs d c) (List.mem_append_left (d.checks s c) fails)
  rw [h] at listed
  exact absurd listed (List.not_mem_nil)

/-- An immediate command whose run ends with an answer completes with it. -/
theorem CmdDef.completes_of_run {d : CmdDef} {row : Nat → CmdHdr → List Byte → Instr} {effect : State → CmdHdr → List Byte → State}
    {answer : State → List Byte → List Byte} (listed : ∀ dt h p, firmwareOf (row dt h p) = some (d, dt, h, p)) (kind : d.kind = .immediate)
    (run : ∀ s h p, h.txn = 0 → d.run s (d.cmd h p) = .done (effect s h p) (answer s p) h.txn) : d.Completes row effect answer := by
  intro dt h p s starts
  obtain ⟨serving, here, passes⟩ := starts
  have txn : h.txn = 0 := passes.txn_eq_zero kind
  exact exec_of_done (listed dt h p) (by rw [kind]; decide) ⟨serving, here, passes⟩ (run _ h p txn)

/-- Of one whose response names no transaction. -/
theorem CmdDef.completes_of_run_zero {d : CmdDef} {row : Nat → CmdHdr → List Byte → Instr} {effect : State → CmdHdr → List Byte → State}
    {answer : State → List Byte → List Byte} (listed : ∀ dt h p, firmwareOf (row dt h p) = some (d, dt, h, p)) (kind : d.kind = .immediate)
    (run : ∀ s h p, d.run s (d.cmd h p) = .done (effect s h p) (answer s p) 0) : d.Completes row effect answer :=
  CmdDef.completes_of_run listed kind fun s h p txn => by rw [txn]; exact run s h p

/-! ### Status commands -/

/-- The first byte of a list that starts with a number is the number's low byte. -/
theorem u8_le_append (n v : Nat) (rest : List Byte) : u8 (le (n + 1) v ++ rest) 0 = v % 256 := BitVec.toNat_ofNat v 8

@[simp] theorem zeros_length (n : Nat) : (zeros n).length = n := List.length_replicate

/-- Taking a command leaves the modes. -/
@[simp] theorem State.begun_modes (s : State) (dt : Nat) (d : CmdDef) (h : CmdHdr) (p : List Byte) : (s.begun dt d h p).modes = s.modes := by
  obtain ⟨txns, taken⟩ := s.begun_cases dt d h p
  rw [taken]
  rfl

/-- What MODE.GET answers. -/
def State.modeGetBytes (s : State) : List Byte :=
  let sets := s.armed.filterMap fun t => ((t.staged.filter fun c => c.opcode == 0x0201).getLast?).map fun c => (u8 c.payload 0, t.applyTick)
  let last := sets.getLast?
  let ready := (s.stands.filter (·.ready)).length
  let out := (s.stands.filter (·.excluded)).length
  le 1 s.modes.mode ++ le 1 ((last.map (·.1)).getD 0xFF) ++ le 1 (if s.modes.mode = 1 then s.modes.step else 0) ++
    le 1 (b2n s.modes.ready + 2 * b2n (s.modes.drone == 3)) ++ le 2 ready ++ le 2 out ++ le 8 ((last.map (·.2)).getD 0)

/-- What TXN.STATUS answers of a transaction. -/
def State.txnStatusBytes (s : State) (t : Txn) : List Byte :=
  let left := if t.state = 0 then t.timeoutMs - (s.clock.up - t.timerAt) / ms 1 else 0
  let live := t.state == 1 || t.state == 2
  le 1 t.state ++ [0] ++ le 2 t.staged.length ++ le 4 left ++ le 8 (if live then t.applyTick else 0) ++
    le 8 (if live then t.commitTime else 0) ++ zeros 8

theorem modeGet_answers : modeGet.OnlyAnswers .modeGet fun s _ => s.modeGetBytes :=
  CmdDef.completes_of_run (fun _ _ _ => rfl) rfl fun _ _ _ _ => rfl

theorem State.modeGetBytes_length (s : State) : s.modeGetBytes.length = 16 := by simp [State.modeGetBytes]

theorem State.txnStatusBytes_length (s : State) (t : Txn) : (s.txnStatusBytes t).length = 32 := by simp [State.txnStatusBytes]

theorem State.modeGetBytes_mode (s : State) : u8 s.modeGetBytes 0 = s.modes.mode % 256 := by
  unfold State.modeGetBytes
  simp only [List.append_assoc]
  exact u8_le_append 0 _ _

theorem State.txnStatusBytes_state (s : State) (t : Txn) : u8 (s.txnStatusBytes t) 0 = t.state % 256 := by
  unfold State.txnStatusBytes
  simp only [List.append_assoc]
  exact u8_le_append 0 _ _

theorem statusCommandsAnswerTheirPayload : Claim.StatusCommandsAnswerTheirPayload := by
  unfold Claim.StatusCommandsAnswerTheirPayload
  refine ⟨?_, ?_, ?_, ?_, ?_, ?_, ?_, ?_, ?_, fun dt h p s starts => ?_, fun dt h p s starts => ?_⟩
  case refine_2 => exact CmdDef.completes_of_run (fun _ _ _ => rfl) rfl fun _ _ _ _ => rfl
  case refine_10 =>
    refine ⟨(s.begun dt modeGet h p).modeGetBytes, State.modeGetBytes_length _, ?_, modeGet_answers dt h p s starts⟩
    rw [State.modeGetBytes_mode, State.begun_modes]
  case refine_11 =>
    refine ⟨(s.begun dt txnStatus h p).txnStatusBytes (((s.begun dt txnStatus h p).txn h.txn.toNat).getD {}),
      State.txnStatusBytes_length _ _, State.txnStatusBytes_state _ _, ?_⟩
    exact exec_of_done rfl (by decide) starts rfl
  all_goals exact CmdDef.completes_of_run_zero (fun _ _ _ => rfl) rfl fun _ _ _ => rfl

theorem timeGetAnswersTheTime : Claim.TimeGetAnswersTheTime := by
  unfold Claim.TimeGetAnswersTheTime
  exact CmdDef.completes_of_run_zero (fun _ _ _ => rfl) rfl fun _ _ _ => rfl

theorem certificateFragmentsAreAnswered : Claim.CertificateFragmentsAreAnswered := by
  unfold Claim.CertificateFragmentsAreAnswered
  exact CmdDef.completes_of_run_zero (fun _ _ _ => rfl) rfl fun _ _ _ => rfl

/-- Settles O16: the run of each is its answer alone. -/
theorem statusCommandsOnlyAnswer : Obligations.StatusCommandsOnlyAnswer :=
  ⟨statusCommandsAnswerTheirPayload, timeGetAnswersTheTime, certificateFragmentsAreAnswered⟩

/-! ### SYS, REC and PWR commands -/

theorem sysCommandsDo : Claim.SysCommandsDo :=
  ⟨CmdDef.completes_of_run (fun _ _ _ => rfl) rfl fun _ _ _ _ => rfl, CmdDef.completes_of_run (fun _ _ _ => rfl) rfl fun _ _ _ _ => rfl,
    CmdDef.completes_of_run (fun _ _ _ => rfl) rfl fun _ _ _ _ => rfl⟩

/-- What a domain that is switched off loses of its own (R479). -/
theorem State.switchDomain_cases (s : State) (n : Nat) (on : Bool) :
    ∃ (links : List Link) (tb : TimeBase) (chain : Chain),
      s.switchDomain n on = { s with
        power := { s.power with hostOff := if on then s.power.hostOff.filter (· != n) else addOnce s.power.hostOff n,
                                domains := upd s.power.domains n fun _ => b2n on }
        links := links, tb := tb, chain := chain } := by
  unfold State.switchDomain
  dsimp only
  split
  · exact ⟨_, _, _, rfl⟩
  · split <;> exact ⟨_, _, _, rfl⟩

theorem mem_addOnce (l : List Nat) (n : Nat) : n ∈ addOnce l n := by
  unfold addOnce
  split
  case isTrue h => simpa using h
  case isFalse => simp

theorem recErase_run (s : State) (h : CmdHdr) (p : List Byte) : recErase.run s (recErase.cmd h p) = .done
    (if s.flash.present then { s with recorder := { s.recorder with erasing := some h.tag } } else s.raise evRecFlushed noUnit [2, 0] h.tag) [] 0 := by
  unfold recErase
  dsimp only
  cases s.flash.present with
  | false => rfl
  | true => rfl

theorem recorderAndPowerCommandsDo : Claim.RecorderAndPowerCommandsDo := by
  unfold Claim.RecorderAndPowerCommandsDo
  refine ⟨?_, ?_, ?_, ?_⟩
  · exact CmdDef.completes_of_run_zero (fun _ _ _ => rfl) rfl fun _ _ _ => rfl
  · exact CmdDef.completes_of_run_zero (fun _ _ _ => rfl) rfl fun s h p => recErase_run s h p
  · exact CmdDef.completes_of_run (fun _ _ _ => rfl) rfl fun _ _ _ _ => rfl
  · intro s n on hn r
    obtain ⟨links, tb, chain, hr⟩ := s.switchDomain_cases n on
    rw [show r = _ from hr]
    refine ⟨upd_getD_self _ 0 hn, fun k hk => upd_getD_ne _ _ 0 hk, rfl, rfl, rfl, rfl, fun h => ?_, fun h => ?_⟩
    · subst h
      simp
    · subst h
      exact mem_addOnce _ n

/-- Settles O17: each runs at once; switching a domain writes its own entry of both lists. -/
theorem systemAndRecorderCommandsDo : Obligations.SystemAndRecorderCommandsDo := ⟨sysCommandsDo, recorderAndPowerCommandsDo⟩

/-! ### Transaction commands -/

/-- Taking a command lets its time pass, and counts no transaction. -/
theorem State.begun_up (s : State) (dt : Nat) (d : CmdDef) (h : CmdHdr) (p : List Byte) : (s.begun dt d h p).clock.up = s.clock.up + dt := by
  obtain ⟨txns, taken⟩ := s.begun_cases dt d h p
  rw [taken]
  rfl

theorem State.begun_txnCount (s : State) (dt : Nat) (d : CmdDef) (h : CmdHdr) (p : List Byte) :
    (s.begun dt d h p).txnCount = s.txnCount := by
  obtain ⟨txns, taken⟩ := s.begun_cases dt d h p
  rw [taken]
  rfl

/-- The state with a transaction opened for an ID and the state that counts it. -/
def State.opened (t : State) (id : Nat) (p : List Byte) : State :=
  { t with txns := t.txns ++
    [{ id := id, timeoutMs := if u32 p 0 = 0 then 5000 else u32 p 0, timerAt := t.clock.up, both := t.modes.drone == 3 }] }

/-- TXN.BEGIN opens a transaction with the ID that comes next. -/
theorem txnBegin_run (s : State) (h : CmdHdr) (p : List Byte) : txnBegin.run s (txnBegin.cmd h p) =
    .done ((s.newTxnId h.mbx).2.opened (s.newTxnId h.mbx).1 p).forgetTxns [] (BitVec.ofNat 32 (s.newTxnId h.mbx).1) := rfl

theorem beginOpensATransaction : Claim.BeginOpensATransaction := by
  unfold Claim.BeginOpensATransaction
  intro dt h p s starts b n t
  have id : b.nextTxnId h.mbx = 8 * n + h.mbx.val := by
    unfold State.nextTxnId
    rw [State.begun_txnCount]
  have next : b.newTxnId h.mbx = (8 * n + h.mbx.val, { b with txnCount := n }) := by
    unfold State.newTxnId
    rw [id, Nat.mul_add_div (by decide), Nat.div_eq_of_lt h.mbx.isLt, Nat.add_zero]
  have new : ({ b with txnCount := n } : State).opened (8 * n + h.mbx.val) p = { b with txns := b.txns ++ [t], txnCount := n } := by
    unfold State.opened
    rw [show State.clock _ = b.clock from rfl, show State.modes _ = b.modes from rfl, State.begun_up, State.begun_modes]
  have run := txnBegin_run b h p
  rw [next, new] at run
  exact exec_of_done rfl (by decide) starts run

/-! #### Committing -/

/-- The state without what a commit's preparation changes: stands, links, the frame store and what is sent out. -/
def State.apart (s : State) : State := { s with stands := [], links := [], fs := {}, out := [] }

theorem State.loadLut_apart (s : State) (i : Nat) (table : List Byte) : (s.loadLut i table).apart = s.apart := by
  unfold State.loadLut
  split <;> rfl

theorem State.queueLut_apart (s : State) (i a : Nat) (table : List Byte) : (s.queueLut i a table).apart = s.apart := by
  unfold State.queueLut
  dsimp only
  split
  · exact State.loadLut_apart _ _ _
  · rfl

/-- What a fold's steps keep, it keeps. -/
theorem foldl_keeps {α : Type} {P : State → Prop} (f : State → α → State) (hf : ∀ s a, P s → P (f s a)) (l : List α) :
    ∀ {s : State}, P s → P (l.foldl f s) := by
  induction l with
  | nil => exact id
  | cons a l ih => exact fun hs => ih (hf _ a hs)

theorem State.startPrepared_apart (s : State) (a : Nat) (base : Settings) (staged : List Staged) :
    (s.startPrepared a base staged).apart = s.apart := by
  unfold State.startPrepared
  refine foldl_keeps (P := fun t => t.apart = s.apart) _ (fun t c kept => ?_) staged rfl
  dsimp only
  split
  · refine forEach_keeps (P := fun t => t.apart = s.apart) _ _ (fun k _ t kept => ?_) kept
    split
    · exact (State.queueLut_apart _ _ _ _).trans kept
    · exact kept
  · split <;> exact kept

/-- A transaction as it is armed. -/
def Txn.arm (s : State) (a : Nat) (staged : List Staged) (tag : Word) (t : Txn) : Txn :=
  { t with state := 1, staged := staged, applyTick := a, commitTime := s.nowNs, order := s.armOrder, tag := tag, both := s.modes.drone == 3
           die := s.bellows.role.getD 0 }

/-- A commit that validates arms its transaction and starts what it prepares. -/
theorem State.commit_armed {s : State} {id a : Nat} {staged : List Staged} {tag : Word} (h : (s.commit id a staged tag).2 = none) :
    ∃ staged' : List Staged, (s.commit id a staged tag).1 =
      ({ s.updTxn id (Txn.arm s a staged' tag) with armOrder := s.armOrder + 1 } : State).startPrepared a (s.configAt a) staged' := by
  unfold State.commit at h ⊢
  dsimp only at h ⊢
  split at h
  · exact absurd h (by simp)
  · exact ⟨_, rfl⟩

/-- The transaction of an ID, changed. -/
theorem State.txn_updTxn {s : State} {id : Nat} {t : Txn} {f : Txn → Txn} (h : s.txn id = some t) (keep : ∀ t, (f t).id = t.id) :
    (s.updTxn id f).txn id = some (f t) := by
  unfold State.txn at h ⊢
  have same : ((fun u : Txn => u.id == id) ∘ fun u => if u.id = id then f u else u) = fun u => u.id == id := by
    funext u
    simp only [Function.comp]
    split <;> simp [keep]
  have id' : (t.id == id) = true := List.find?_some (p := fun u : Txn => u.id == id) h
  show (List.map _ s.txns).find? _ = _
  rw [List.find?_map, same, h]
  simp [beq_iff_eq.1 id']

theorem committingArms : Claim.CommittingArms := by
  unfold Claim.CommittingArms
  intro s id a staged tag t ht valid r
  obtain ⟨staged', hr⟩ := State.commit_armed valid
  have kept : r.apart = ({ s.updTxn id (Txn.arm s a staged' tag) with armOrder := s.armOrder + 1 } : State).apart := by
    rw [show r = _ from hr]
    exact State.startPrepared_apart _ _ _ _
  have field {α : Type} (f : State → α) : f r.apart = f _ := congrArg f kept
  have txns : r.txns = (s.updTxn id (Txn.arm s a staged' tag)).txns := field State.txns
  refine ⟨⟨Txn.arm s a staged' tag t, ?_, rfl, rfl, rfl, rfl, rfl⟩, field State.armOrder, field State.settings, field State.modes,
    field State.clock⟩
  show r.txns.find? _ = _
  rw [txns]
  exact State.txn_updTxn ht fun _ => rfl

/-- What TXN.COMMIT commits in a state in which firmware has taken it. -/
def State.commitNamed (s : State) (h : CmdHdr) (p : List Byte) : State × Option Err :=
  s.commit h.txn.toNat (if u64 p 0 = 0 then s.firstBlank else u64 p 0) ((s.txn h.txn.toNat).getD {}).staged h.tag

theorem txnCommit_run_armed {s t : State} {h : CmdHdr} {p : List Byte} (armed : s.commitNamed h p = (t, none)) :
    txnCommit.run s (txnCommit.cmd h p) = .done t ((t.txn h.txn.toNat).getD {}).commitBytes h.txn := by
  unfold txnCommit
  dsimp only [CmdDef.cmd, Cmd.of]
  rw [show State.commit _ _ _ _ _ = _ from armed]

theorem txnCommit_run_rejected {s t : State} {h : CmdHdr} {p : List Byte} {e : Err} (rejected : s.commitNamed h p = (t, some e)) :
    txnCommit.run s (txnCommit.cmd h p) = .fail t e := by
  unfold txnCommit
  dsimp only [CmdDef.cmd, Cmd.of]
  rw [show State.commit _ _ _ _ _ = _ from rejected]

theorem txnRollback_run {s : State} {h : CmdHdr} {t : Txn} (p : List Byte) (held : s.txn h.txn.toNat = some t) :
    txnRollback.run s (txnRollback.cmd h p) = .done (s.closeTxn t 3) [] h.txn := by
  unfold txnRollback
  dsimp only [CmdDef.cmd, Cmd.of]
  rw [held]

theorem commitAndRollback : Claim.CommitAndRollback := by
  unfold Claim.CommitAndRollback
  refine ⟨?_, ?_, ?_⟩
  · intro dt h p s starts b o valid
    exact exec_of_done rfl (by decide) starts (txnCommit_run_armed (Prod.ext rfl valid))
  · intro dt h p s e starts b o invalid
    exact ⟨State.commit_status invalid, exec_of_fail rfl (by decide) starts (txnCommit_run_rejected (Prod.ext rfl invalid))⟩
  · intro dt h p s t starts held
    exact exec_of_done rfl (by decide) starts (txnRollback_run p held)

/-- Settles O19: the ID and the timer of a new transaction are those of the count and the instant, and a commit writes the one it names. -/
theorem transactionCommandsDo : Obligations.TransactionCommandsDo := ⟨beginOpensATransaction, commitAndRollback, committingArms⟩

/-! ### At the blank -/

@[simp] theorem State.raise_settings (s : State) (code unit : Nat) (ps : List Nat) (tag txn : Word) :
    (s.raise code unit ps tag txn).settings = s.settings := by
  obtain ⟨rings, out, held, owed, ports, pba, tick, merged, fired, h, -⟩ := s.raise_cases code unit ps tag txn
  rw [h]

@[simp] theorem State.raise_modes (s : State) (code unit : Nat) (ps : List Nat) (tag txn : Word) :
    (s.raise code unit ps tag txn).modes = s.modes := by
  obtain ⟨rings, out, held, owed, ports, pba, tick, merged, fired, h, -⟩ := s.raise_cases code unit ps tag txn
  rw [h]

/-- Closing a transaction leaves the settings and the modes. -/
theorem State.closeTxn_keeps (s : State) (t : Txn) (state : Nat) :
    (s.closeTxn t state).settings = s.settings ∧ (s.closeTxn t state).modes = s.modes := by
  unfold State.closeTxn
  dsimp only
  split <;> exact ⟨rfl, rfl⟩

/-- Settles O25: where the transaction validates its commands apply in order, else it is closed, which leaves settings and modes. -/
theorem transactionsApplyWhole : Obligations.TransactionsApplyWhole := by
  unfold Obligations.TransactionsApplyWhole
  intro s t a id
  refine ⟨fun valid => ?_, fun e invalid => ?_⟩
  · unfold State.applyTxn
    dsimp only
    rw [show State.validateTxn _ _ _ _ _ = _ from valid]
  · have dropped : s.applyTxn t = (s.closeTxn t 6).raise evTxnDropped noUnit [e.index, e.cause] t.tag id := by
      unfold State.applyTxn
      dsimp only
      rw [show State.validateTxn _ _ _ _ _ = _ from invalid]
    obtain ⟨settings, modes⟩ := s.closeTxn_keeps t 6
    rw [dropped]
    exact ⟨rfl, (State.raise_settings _ _ _ _ _ _).trans settings, (State.raise_modes _ _ _ _ _ _).trans modes⟩

end Sys2Proof.Machine
end

section
/-! PROOFS. What a calm state leaves out: a command that is RUNNING in a mailbox while no chanter serves runs as soon as one serves again (R64, R67). -/

namespace Sys2Proof.Machine

open Sys2Proof

-- One proof at a time: each thread of the elaborator takes its stack out of the memory the check gives.
set_option Elab.async false

/-- Standby with the chanter role vacant, as mailbox 0 holds a RUNNING command. -/
def vacantStandby : State := { State.reset with
  modes := { State.reset.modes with standby := true }
  mailboxes := upd State.reset.mailboxes 0 fun b => { b with state := 2 } }

/-- The same once die West has taken the role and the Cruise table shows it. -/
def servedStandby : State :=
  let s : State := { vacantStandby with bellows := { vacantStandby.bellows with role := some 0 } }
  { s with pcie := { s.pcie with shown := s.cruiseView } }

/-- What a kind of spares counts does not depend on the mode, the mailboxes, the role or the registers. -/
theorem State.spareUnits_congr (s : State) (modes : Modes) (mailboxes : List Mailbox) (bellows : Bellows) (pcie : Pcie) (k : Nat) :
    ({ s with modes := modes, mailboxes := mailboxes, bellows := bellows, pcie := pcie } : State).spareUnits k = s.spareUnits k := rfl

/-- Nothing that `Calm` names is due: no mailbox is PENDING, and no handover is armed. -/
theorem servedStandby_calm : Calm vacantStandby servedStandby where
  recoveries := rfl
  update := rfl
  held := rfl
  fences := rfl
  owed := rfl
  mailboxes := by decide
  bringUp := by decide
  rejoins := by decide
  admissions := by decide
  domains := rfl
  routes := by decide
  descriptors := Or.inr (by decide)
  relays := Or.inl (by decide)
  holds := by decide
  ready := by decide
  spares := fun k _ => (State.reset.spareUnits_congr _ _ _ _ (k + 1)).trans (State.reset.spareUnits_congr _ _ _ _ (k + 1)).symm
  banks := rfl
  triggers := rfl
  table := ⟨rfl, rfl⟩
  packets := fun _ _ _ h => nomatch h
  streams := by decide
  attempts := by decide
  wakes := by decide
  dozes := by decide

/-- The command runs of itself: its opcode is unknown, and its mailbox is DONE. -/
theorem servedStandby_runs : ((servedStandby.settle vacantStandby).mbx 0).state = 3 := by decide +kernel

/-- Refutes O3: `Calm` lets a mailbox be RUNNING, and what firmware had accepted before no chanter served runs when one serves again. -/
theorem not_nothingFollowsInACalmState : ¬ Obligations.NothingFollowsInACalmState := by
  intro h
  have runs := servedStandby_runs
  rw [h vacantStandby servedStandby servedStandby_calm] at runs
  exact absurd runs (by decide)

end Sys2Proof.Machine
end

section
/-! PROOFS. What each stageable command does at its blank (R83, R96). -/

namespace Sys2Proof.Machine

open Sys2Proof

-- One proof at a time: each thread of the elaborator takes its stack out of the memory the check gives.
set_option Elab.async false

/-- A staged command at its blank: the setting it makes, then what else its rule has happen. -/
theorem Staged.effect_of {op : Nat} {d : CmdDef} (listed : stageDef op = some d) (tag id : Word) (p : List Byte) (s : State) :
    Staged.effect { opcode := op, tag := tag, payload := p } id s = d.effect s.settings p tag id { s with settings := d.apply p s.settings } := by
  unfold Staged.effect
  dsimp only
  rw [listed]

theorem plainSettingsTakeTheirPayload : Claim.PlainSettingsTakeTheirPayload :=
  fun _ _ _ _ => ⟨rfl, rfl, rfl, rfl, rfl, rfl, rfl, rfl, rfl, rfl⟩

theorem modeSetMakesItsModeDue : Claim.ModeSetMakesItsModeDue := by
  unfold Claim.ModeSetMakesItsModeDue
  intro s tag id p t
  refine ⟨rfl, rfl, ?_, rfl, rfl, rfl, rfl, rfl, rfl, rfl⟩
  show (if (u8 p 0 != s.modes.mode) = true then some (u8 p 0) else none) = _
  simp only [bne_iff_ne, ite_not]

/-! ### Streams and layers -/

/-- A new dead time changes where the operation in progress stands, and none of the operations. -/
theorem Compose.newDeadtime_keeps (c : Compose) (dead now : Nat) :
    (c.newDeadtime dead now).deadtimeNs = dead ∧ (c.newDeadtime dead now).blits = c.blits := by
  unfold Compose.newDeadtime
  dsimp only
  split <;> exact ⟨rfl, rfl⟩

/-- With no timing change under way an open takes the anchors of the blank. -/
theorem streamOpen_effect {s : State} (still : s.tb.change = none) (old : Settings) (p : List Byte) (tag id : Word) :
    streamOpen.effect old p tag id s =
      let r := s.setStream (u8 p 0)
        (some { openStream p (s.clock.tick + 1) with keys := lookupD s.ingest.armedKeys (u8 p 0) (List.replicate 4 none) })
      { r with ingest := { r.ingest with armedKeys := removeKey s.ingest.armedKeys (u8 p 0) } } := by
  unfold streamOpen
  dsimp only
  rw [still]
  rfl

/-- A close drains where DRAIN is set. -/
theorem streamClose_drains {p : List Byte} (drain : bitOf (u8 p 1) 0 = true) (tag id : Word) (s : State) :
    Staged.effect { opcode := 0x0403, tag := tag, payload := p } id s =
      s.updStream (u8 p 0) fun st => { st with draining := true, drainDue := st.drainDue || st.endRaised } := by
  rw [Staged.effect_of (d := streamClose) rfl]
  unfold streamClose
  dsimp only
  rw [if_pos drain, if_pos drain]

/-- Else it removes the stream. -/
theorem streamClose_closes {p : List Byte} (drain : bitOf (u8 p 1) 0 = false) (tag id : Word) (s : State) :
    Staged.effect { opcode := 0x0403, tag := tag, payload := p } id s =
      ({ s with settings := { s.settings with streams := upd s.settings.streams (u8 p 0) fun _ => none } } : State).closeStream (u8 p 0) := by
  rw [Staged.effect_of (d := streamClose) rfl]
  unfold streamClose
  dsimp only
  rw [if_neg (ne_true_of_eq_false drain), if_neg (ne_true_of_eq_false drain)]

theorem streamAndLayerSettings : Claim.StreamAndLayerSettings := by
  unfold Claim.StreamAndLayerSettings
  intro s tag id p run c
  obtain ⟨dead, blits⟩ := s.compose.newDeadtime_keeps (u16 p 0) s.clock.up
  refine ⟨fun still => ?_, fun drain => streamClose_drains drain tag id s, fun drain => streamClose_closes drain tag id s, rfl, rfl, ?_, rfl,
    dead, blits⟩
  · exact (Staged.effect_of (d := streamOpen) rfl tag id p s).trans
      (streamOpen_effect (s := { s with settings := streamOpen.apply p s.settings }) still _ p tag id)
  · exact List.length_append

/-! ### Ingest and the skyline leave the settings -/

theorem foldl_settings {α : Type} {f : State → α → State} (hf : ∀ s a, (f s a).settings = s.settings) (l : List α) (s : State) :
    (l.foldl f s).settings = s.settings :=
  foldl_keeps (P := fun t => t.settings = s.settings) f (fun t a kept => (hf t a).trans kept) l rfl

theorem forEach_settings {f : Nat → State → State} (hf : ∀ n s, (f n s).settings = s.settings) (l : List Nat) (s : State) :
    (forEach l s f).settings = s.settings := foldl_settings (fun s n => hf n s) l s

@[simp] theorem State.queueError_settings (s : State) (n idx cause : Nat) : (s.queueError n idx cause).settings = s.settings := by
  unfold State.queueError
  split <;> simp

@[simp] theorem State.decodeError_settings (s : State) (n decoder cause : Nat) : (s.decodeError n decoder cause).settings = s.settings := by
  simp [State.decodeError]

@[simp] theorem State.keyRefused_settings (s : State) (n frame cause : Nat) : (s.keyRefused n frame cause).settings = s.settings := by
  simp [State.keyRefused]

@[simp] theorem State.tooLarge_settings (s : State) (n idx : Nat) (d : List Byte) : (s.tooLarge n idx d).settings = s.settings := by
  simp [State.tooLarge]

@[simp] theorem State.streamEnd_settings (s : State) (n : Nat) : (s.streamEnd n).settings = s.settings := by
  unfold State.streamEnd
  split
  · rfl
  · split <;> simp

@[simp] theorem State.checkEnd_settings (s : State) (n : Nat) : (s.checkEnd n).settings = s.settings := by
  unfold State.checkEnd
  split
  · rfl
  · split <;> simp

@[simp] theorem State.judgeControl_settings (s : State) (n num : Nat) (last : Bool) : (s.judgeControl n num last).settings = s.settings := by
  unfold State.judgeControl
  split
  · rfl
  · split
    · rfl
    · split
      · rfl
      · split <;> simp

@[simp] theorem State.frameComplete_settings (s : State) (n num : Nat) : (s.frameComplete n num).settings = s.settings := by
  simp [State.frameComplete]

@[simp] theorem State.stopFetch_settings (s : State) (n : Nat) : (s.stopFetch n).settings = s.settings := by
  unfold State.stopFetch
  split <;> simp

@[simp] theorem State.placeDesc_settings (s : State) (n idx : Nat) (d : List Byte) (key : Option KeySlot) (p : Placed) :
    (s.placeDesc n idx d key p).settings = s.settings := by
  unfold State.placeDesc
  split
  · rfl
  · split
    · rfl
    · simp [apply_ite State.settings]

@[simp] theorem State.fetchDesc_settings (s : State) (n : Nat) (e : Desc) : (s.fetchDesc n e).1.settings = s.settings := by
  unfold State.fetchDesc
  dsimp only
  split
  · rfl
  · simp [apply_ite State.settings, apply_ite Prod.fst]

@[simp] theorem State.relayRun_settings (n : Nat) (l : List (List Byte × Placed)) :
    ∀ (s : State) (checked : Bool), (s.relayRun n checked l).settings = s.settings := by
  induction l with
  | nil => exact fun _ _ => rfl
  | cons e rest ih =>
    intro s checked
    obtain ⟨d, p⟩ := e
    have fetched : (if checked then (s, true) else s.fetchDesc n { bytes := d }).1.settings = s.settings := by split <;> simp
    unfold State.relayRun
    generalize (if checked then (s, true) else s.fetchDesc n { bytes := d }) = r at fetched ⊢
    dsimp only
    split
    · rw [ih, fetched]
    · split
      · rw [ih, State.checkEnd_settings, fetched]
      · split <;> simp [ih, fetched]

@[simp] theorem State.spliceLoss_settings (s : State) (n seq : Nat) (d : List Byte) : (s.spliceLoss n seq d).settings = s.settings := by
  unfold State.spliceLoss
  split
  · rfl
  · rename_i st _
    obtain ⟨before, its⟩ := st.lostFrames (seq - st.relaySeq) d
    dsimp only
    rw [State.updStream_settings]
    exact forEach_settings (fun _ t => t.queueError_settings n 0 8) _ s

@[simp] theorem State.relayTake_settings (s : State) (n seq : Nat) (d : List Byte) (p : Placed) :
    (s.relayTake n seq d p).settings = s.settings := by
  unfold State.relayTake
  split
  · rfl
  · simp only [apply_ite State.settings, State.relayRun_settings, State.updStream_settings, State.spliceLoss_settings, ite_self]

@[simp] theorem State.sendPort_settings (s : State) (p kind : Nat) (body : List Byte) : (s.sendPort p kind body).settings = s.settings := rfl

@[simp] theorem State.relayOut_settings (s : State) (n seq : Nat) (d : List Byte) (p : Placed) :
    (s.relayOut n seq d p).settings = s.settings := by
  unfold State.relayOut
  dsimp only
  split
  · rfl
  · exact forEach_settings (fun q t => t.sendPort_settings q _ _) _ s

@[simp] theorem State.relayOn_settings (s : State) (n seq : Nat) (d : List Byte) (p : Placed) :
    (s.relayOn n seq d p).settings = s.settings := s.relayOut_settings n seq d p

@[simp] theorem State.splice_settings (s : State) (port : Nat) : (s.splice port).settings = s.settings := by
  unfold State.splice
  refine foldl_settings (fun t k => ?_) _ (s.updPort port fun q => { q with buffer := [] })
  split
  · rfl
  · rw [State.relayTake_settings, State.relayOn_settings]

@[simp] theorem State.noteDepths_settings (s : State) : s.noteDepths.settings = s.settings := rfl

@[simp] theorem State.announce_settings (s : State) (c : Claim) : (s.announce c).settings = s.settings := by
  unfold State.announce
  split <;> rfl

@[simp] theorem State.flushHeld_settings (s : State) (p : Nat) : (s.flushHeld p).settings = s.settings := by
  unfold State.flushHeld
  exact foldl_settings (fun _ _ => by rfl) _ _

@[simp] theorem State.holdover_settings (s : State) (cause : Nat) : (s.holdover cause).settings = s.settings := by
  simp [State.holdover, apply_ite State.settings]

@[simp] theorem State.noParent_settings (s : State) : s.noParent.settings = s.settings := by
  simp [State.noParent, apply_ite State.settings]

@[simp] theorem State.setParent_settings (s : State) (p : Nat) : (s.setParent p).settings = s.settings := by
  unfold State.setParent
  dsimp only
  rw [State.noteDepths_settings, State.splice_settings]
  exact (foldl_settings State.announce_settings _ _).trans (State.flushHeld_settings _ _)

@[simp] theorem State.parentLost_settings (s : State) (p address : Nat) : (s.parentLost p address).settings = s.settings := by
  unfold State.parentLost
  split <;> simp

@[simp] theorem State.lose_settings (s : State) (p sn : Nat) : (s.lose p sn).settings = s.settings := by
  unfold State.lose
  split
  · dsimp only
    split <;> rfl
  · rfl

@[simp] theorem State.forget_settings (s : State) (p : Nat) : (s.forget p).settings = s.settings :=
  foldl_settings (fun t sn => t.lose_settings p sn) _ s

@[simp] theorem State.portTrain_settings (s : State) (p : Nat) : (s.portTrain p).settings = s.settings := rfl

@[simp] theorem State.rolePort_settings (s : State) (p old new : Nat) : (s.rolePort p old new).settings = s.settings := by
  simp [State.rolePort, apply_ite State.settings]

@[simp] theorem State.routeRec_settings (s : State) (e : EventRec) : (s.routeRec e).settings = s.settings := by
  obtain ⟨rings, out, pba, h, -⟩ := s.routeRec_cases e
  rw [h]

/-- Changing roles leaves the settings it is given. -/
theorem chainRole_effect_settings (old : Settings) (p : List Byte) (tag id : Word) (s : State) :
    (chainRole.effect old p tag id s).settings = s.settings := by
  have ports : (forEach (List.range 4) s fun i s => s.rolePort i (old.roles.getD i 0) (u8 p (2 + i))).settings = s.settings :=
    forEach_settings (fun i t => t.rolePort_settings _ _ _) _ s
  unfold chainRole
  dsimp only
  split
  · exact ports
  · split
    · exact (foldl_settings State.routeRec_settings _ _).trans ports
    · exact ports

/-! ### Timing, time source, roles and triggers -/

/-- A new rate or spread count starts a timing change at the next tick where none is under way. -/
theorem State.startTiming_new {s : State} {rate spread : Nat} (tag txn : Word) (still : s.tb.change = none)
    (new : rate ≠ s.clock.rate ∨ spread ≠ s.clock.spread) : (s.startTiming rate spread tag txn).tb.change =
      some { loadTick := s.clock.tick + 1, direct := s.modes.mode ≤ 1, newRate := rate, newSpread := spread, tag := tag, txn := txn } := by
  have differs : ¬(!(s.tb.change.any fun c => c.loadTick == s.clock.tick + 1) && rate == s.clock.rate && spread == s.clock.spread) = true := by
    simp only [still, Option.any_none, Bool.not_false, Bool.true_and, Bool.and_eq_true, beq_iff_eq]
    exact fun same => new.elim (· same.1) (· same.2)
  unfold State.startTiming
  dsimp only
  rw [if_neg differs, still]
  rfl

/-- It leaves settings and clock. -/
theorem State.startTiming_keeps (s : State) (rate spread : Nat) (tag txn : Word) :
    (s.startTiming rate spread tag txn).settings = s.settings ∧ (s.startTiming rate spread tag txn).clock = s.clock := by
  unfold State.startTiming
  dsimp only
  split <;> exact ⟨rfl, rfl⟩

/-- A time source takes effect with its jump threshold. -/
theorem State.takeSource_jumpUs (s : State) (source jumpUs : Nat) :
    (s.takeSource source jumpUs).settings = s.settings ∧ (s.takeSource source jumpUs).tb.jumpUs = (if jumpUs = 0 then 50 else jumpUs) := by
  unfold State.takeSource
  dsimp only
  split <;> exact ⟨rfl, rfl⟩

/-- A new one starts anew. -/
theorem State.takeSource_new {s : State} {source : Nat} (jumpUs : Nat) (new : source ≠ s.tb.source) :
    let t := s.takeSource source jumpUs
    t.tb.source = source ∧ t.tb.state = (if source = 0 then 0 else 1) ∧ t.tb.offsetNs = 0 ∧ t.tb.acceptedJump = none := by
  unfold State.takeSource
  dsimp only
  rw [if_neg new]
  exact ⟨rfl, rfl, rfl, rfl⟩

theorem timingAndChainSettings : Claim.TimingAndChainSettings := by
  unfold Claim.TimingAndChainSettings
  intro s tag id p run c
  let put (d : CmdDef) : State := { s with settings := d.apply p c }
  have timing : run 0x0901 = (put scanTiming).startTiming (u8 p 0) (u8 p 1) tag id := Staged.effect_of (d := scanTiming) rfl tag id p s
  have source : run 0x0D01 = (put timeSource).takeSource (u8 p 0) (u32 p 4) := Staged.effect_of (d := timeSource) rfl tag id p s
  have roles : (run 0x0C01).settings = chainRole.apply p c :=
    (congrArg State.settings (Staged.effect_of (d := chainRole) rfl tag id p s)).trans (chainRole_effect_settings c p tag id _)
  obtain ⟨timed, clock⟩ := (put scanTiming).startTiming_keeps (u8 p 0) (u8 p 1) tag id
  obtain ⟨sourced, jump⟩ := (put timeSource).takeSource_jumpUs (u8 p 0) (u32 p 4)
  rw [timing, source, roles]
  refine ⟨timed, clock, fun still new => ⟨_, State.startTiming_new (s := put scanTiming) tag id still new, rfl, rfl, rfl, rfl⟩, sourced, jump,
    fun new => State.takeSource_new (s := put timeSource) _ new, rfl, rfl, rfl, ?_, ?_, rfl⟩
  · exact (List.length_map _).trans List.length_range
  · exact (List.length_map _).trans List.length_range

/-! ### The wall -/

/-- A setting of stands leaves which stands a payload names. -/
theorem Settings.updStands_named (c : Settings) (p q : List Byte) (f : StandCfg → StandCfg) : (c.updStands p f).named q = c.named q := by
  have length : (c.updStands p f).stands.length = c.stands.length := by
    unfold Settings.updStands
    split
    · exact List.length_map f
    · exact upd_length _ _ _
  unfold Settings.named
  rw [length]

/-- Stands are queued for their bakes, each once. -/
theorem forEach_queueBake (l : List Nat) : ∀ s : State,
    (forEach l s fun i s => s.queueBake i) = { s with bakeQueue := l.foldl addOnce s.bakeQueue } := by
  induction l with
  | nil => exact fun _ => rfl
  | cons i l ih => exact fun s => ih (s.queueBake i)

@[simp] theorem State.loadLut_settings (s : State) (i : Nat) (table : List Byte) : (s.loadLut i table).settings = s.settings := by
  unfold State.loadLut
  split <;> rfl

@[simp] theorem State.wantLut_settings (s : State) (i t : Nat) : (s.wantLut i t).settings = s.settings := by
  unfold State.wantLut
  dsimp only
  rw [State.updStand_settings]
  split
  · rfl
  · exact s.loadLut_settings _ _

@[simp] theorem State.onLink_settings (s : State) (l : Nat) (f : Stand → Stand) : (s.onLink l f).settings = s.settings :=
  forEach_settings (fun i t => t.updStand_settings i f) _ s

@[simp] theorem State.dropCmds_settings (s : State) (l : Nat) : (s.dropCmds l).settings = s.settings := by
  unfold State.dropCmds
  dsimp only
  refine (forEach_settings (fun i t => ?_) _ _).trans (s.updLink_settings l _)
  split <;> rfl

@[simp] theorem State.startBringup_settings (s : State) (l : Nat) : (s.startBringup l).settings = s.settings := by
  unfold State.startBringup State.releaseSafe
  split
  · rfl
  · split <;> rfl

@[simp] theorem State.retrain_settings (s : State) (l : Nat) : (s.retrain l).settings = s.settings := by
  have safe : (s.assertSafe l).settings = s.settings := rfl
  simp [State.retrain, apply_ite State.settings, safe]

/-- A link's own setting is what applies, whether it retrains or not. -/
theorem standLink_effect_settings (old : Settings) (p : List Byte) (tag id : Word) (s : State) :
    (standLink.effect old p tag id s).settings = s.settings := by
  unfold standLink
  dsimp only
  split
  · exact s.retrain_settings _
  · rfl

/-- In Standby no link retrains. -/
theorem standLink_effect_standby {s : State} (standby : s.modes.mode = 0) (old : Settings) (p : List Byte) (tag id : Word) :
    standLink.effect old p tag id s = s := by
  unfold standLink
  exact if_neg fun retrains => retrains.1 standby

/-- A map has as many stands as its payload lists. -/
theorem State.applyMap_counts (s : State) (old : Settings) (p : List Byte) :
    (s.applyMap old p).settings.stands.length = (mapStands p).length ∧ (s.applyMap old p).stands.length = (mapStands p).length := by
  have listed : (({ s with settings := old } : State).mapFrom (({ s with settings := old } : State).mapSerials p)).length = (mapStands p).length := by
    simp [State.mapFrom, State.mapSerials]
  constructor
  · exact List.length_mapIdx
  · unfold State.applyMap
    dsimp only
    rw [apply_ite List.length, List.length_map, List.length_mapIdx, ite_self, listed]

/-- Updating named stands one after another updates each that is named. -/
theorem forEach_updStand_stands (f : Stand → Stand) (idem : ∀ st, f (f st) = f st) (l : List Nat) : ∀ s : State,
    (forEach l s fun i s => s.updStand i f).stands = s.stands.mapIdx fun i st => if l.contains i then f st else st := by
  induction l with
  | nil => exact fun s => List.ext_getElem? fun k => by simp [forEach]
  | cons a l ih =>
    intro s
    show (forEach l (s.updStand a f) fun i s => s.updStand i f).stands = _
    rw [ih]
    refine List.ext_getElem? fun k => ?_
    simp only [State.updStand, upd, List.getElem?_mapIdx, List.getElem?_modify]
    cases s.stands[k]? with
    | none => simp
    | some st =>
      by_cases ha : a = k
      · subst ha
        simp [idem]
      · simp [ha, Ne.symm ha]

/-- A drive table's effect: no settings but those given, and each stand named has it due. -/
theorem steerTable_effect (old : Settings) (p : List Byte) (tag id : Word) (s : State) :
    (steerTable.effect old p tag id s).settings = s.settings ∧
    (steerTable.effect old p tag id s).stands =
      s.stands.mapIdx fun i st => if (s.settings.named p).contains i then { st with steerDue := true } else st := by
  have due (t : State) : (forEach (t.settings.named p) t fun i s => s.updStand i fun st => { st with steerDue := true }).settings = t.settings :=
    forEach_settings (fun i u => u.updStand_settings i _) _ t
  have stands (t : State) := forEach_updStand_stands (fun st => { st with steerDue := true }) (fun _ => rfl) (t.settings.named p) t
  unfold steerTable
  dsimp only
  split <;> exact ⟨due _, stands _⟩

theorem wallSettings : Claim.WallSettings := by
  unfold Claim.WallSettings
  intro s tag id p run c put
  refine ⟨?_, rfl, rfl, ?_, ?_, ?_, ?_, fun standby => ?_, rfl, ?_, ?_⟩
  · intro d
    have named : d.named p = c.named p := c.updStands_named p p _
    rw [← named]
    exact forEach_queueBake (d.named p) (put d)
  · exact (State.applyMap_counts _ _ _).1
  · exact (State.applyMap_counts _ _ _).2
  · exact forEach_settings (fun i t => t.wantLut_settings i _) _ _
  · exact congrArg Settings.links (standLink_effect_settings c p tag id (put (standLink.apply p c)))
  · exact standLink_effect_standby (s := put (standLink.apply p c)) standby c p tag id
  · exact (steerTable_effect c p tag id _).1
  · have named : (steerTable.apply p c).named p = c.named p := c.updStands_named p p _
    rw [← named]
    exact (steerTable_effect c p tag id _).2

/-- Settles O24: each command's effect is taken apart at its blank, and what it starts leaves the setting that it makes. -/
theorem settingsApplyAtTheirBlank : Obligations.SettingsApplyAtTheirBlank :=
  ⟨plainSettingsTakeTheirPayload, modeSetMakesItsModeDue, streamAndLayerSettings, wallSettings, timingAndChainSettings⟩

end Sys2Proof.Machine
end

section
/-! PROOFS. The mode gates of CAL.MEASURE and STAND.ADMIT, and the change of mode at its tick (R92, R95, R96, R100). -/

namespace Sys2Proof.Machine

open Sys2Proof

-- One proof at a time: each thread of the elaborator takes its stack out of the memory the check gives.
set_option Elab.async false

/-! ### Codes among the checks that fail -/

/-- Some check of the list fails with the code `k`. -/
def FailsWith (k : Nat) (l : List Err) : Prop := ∃ e ∈ l, e.status = k

@[simp] theorem failsWith_append (k : Nat) (l m : List Err) : FailsWith k (l ++ m) ↔ FailsWith k l ∨ FailsWith k m := by
  simp only [FailsWith, List.mem_append, or_and_right, exists_or]

@[simp] theorem failsWith_chk (k : Nat) (c : Bool) (status field : Nat) : FailsWith k (chk c status field) ↔ c = true ∧ status = k := by
  cases c <;> simp [FailsWith, chk]

@[simp] theorem failsWith_chkP (k : Nat) (c : Bool) (status off : Nat) : FailsWith k (chkP c status off) ↔ c = true ∧ status = k :=
  failsWith_chk k c status (16 + off)

/-- Reserved bits fail with RESERVED alone. -/
@[simp] theorem not_badMode_rsvBits (p : List Byte) (off : Nat) (mask : Byte) : ¬FailsWith stBadMode (rsvBits p off mask) := by
  simp [rsvBits]

/-- So do reserved bytes. -/
@[simp] theorem not_badMode_rsvBytes (p : List Byte) (lo hi : Nat) : ¬FailsWith stBadMode (rsvBytes p lo hi) := by
  unfold rsvBytes
  split <;> simp [FailsWith]

/-- No check that every command makes fails with BAD_MODE. -/
@[simp] theorem not_badMode_headerErrs (d : CmdDef) (s : State) (c : Cmd) : ¬FailsWith stBadMode (c.headerErrs d s) := by
  simp [Cmd.headerErrs]

/-- An immediate command has no check of a transaction. -/
theorem State.txnErrs_immediate (s : State) {d : CmdDef} (c : Cmd) (kind : d.kind = .immediate) : s.txnErrs d c = [] := by
  unfold State.txnErrs
  simp only [kind]

/-! ### Mode gates -/

theorem calMeasure_badMode_iff (s : State) (c : Cmd) : FailsWith stBadMode (calMeasure.checks s c) ↔ s.modes.mode ≠ 7 := by
  simp [calMeasure, State.noStand, State.calBusy]

theorem standAdmit_badMode_iff (s : State) (c : Cmd) :
    FailsWith stBadMode (standAdmit.checks s c) ↔ s.modes.mode = 0 ∨ (s.modes.mode = 1 ∧ s.modes.ready = false) := by
  simp [standAdmit, State.noStand]

/-- The checks of a command as firmware has taken it. -/
def CmdDef.errs (d : CmdDef) (dt : Nat) (h : CmdHdr) (p : List Byte) (s : State) : List Err :=
  (d.cmd h p).headerErrs d (s.begun dt d h p) ++ d.checks (s.begun dt d h p) (d.cmd h p) ++ (s.begun dt d h p).txnErrs d (d.cmd h p)

/-- Of an immediate command BAD_MODE is a check of its own. -/
theorem CmdDef.errs_badMode_iff {d : CmdDef} (kind : d.kind = .immediate) (dt : Nat) (h : CmdHdr) (p : List Byte) (s : State) :
    FailsWith stBadMode (d.errs dt h p s) ↔ FailsWith stBadMode (d.checks (s.begun dt d h p) (d.cmd h p)) := by
  rw [CmdDef.errs, State.txnErrs_immediate _ _ kind]
  simp

/-- A command of which a check fails with the code `k` answers a failed check, whose code is `k` where none stands before `k`. -/
theorem CmdDef.answers_of_failsWith {i : Instr} {d : CmdDef} {dt k : Nat} {h : CmdHdr} {p : List Byte} {s : State}
    (hi : firmwareOf i = some (d, dt, h, p)) (serving : s.Serving h.mbx.val) (here : (d.cmd h p).tunnel = false)
    (fails : FailsWith k (d.errs dt h p s)) : ∃ e ∈ d.errs dt h p s,
      exec i s = .next (s.ended ((s.begun dt d h p).complete (d.cmd h p) { status := e.status, txn := h.txn, payload := e.detail })) ∧
      e.status ≤ k ∧ ((∀ o ∈ d.errs dt h p s, k ≤ o.status) → e.status = k) := by
  obtain ⟨o, listed, rfl⟩ := fails
  obtain ⟨e, picked, least, mem⟩ := Err.pick_some listed
  exact ⟨e, mem, failedChecksOnlyAnswer i d dt h p s e hi serving here picked, least, fun low => le_antisymm least (low e mem)⟩

/-- Settles O13: beside its mode check no check of either command fails with BAD_MODE, and the least code of those that fail is answered. -/
theorem modeGates : Obligations.ModeGates := by
  unfold Obligations.ModeGates
  intro dt h p s gate
  have gated {d : CmdDef} {i : Instr} {shut : Prop} (hi : firmwareOf i = some (d, dt, h, p))
      (iff : FailsWith stBadMode (d.errs dt h p s) ↔ shut) : gate d i shut :=
    ⟨iff, fun serving here closed => CmdDef.answers_of_failsWith hi serving here (iff.2 closed)⟩
  constructor
  · refine gated rfl ((CmdDef.errs_badMode_iff rfl dt h p s).trans ?_)
    rw [calMeasure_badMode_iff, State.begun_modes]
  · refine gated rfl ((CmdDef.errs_badMode_iff rfl dt h p s).trans ?_)
    rw [standAdmit_badMode_iff, State.begun_modes]

/-! ### The change of mode -/

/-- The mode `m` is in force: the event, the record, and what every change of mode does. -/
def State.modeShown (s : State) (m : Nat) : State :=
  ((({ s with modes := { s.modes with mode := m, modeDue := none, prevMode := s.modes.mode, enteredAt := s.clock.tick } } : State).raise
    evModeChanged noUnit [s.modes.mode, m] s.modes.modeTag s.modes.modeTxn).recFixed 0x0031
      [s.modes.mode, m, lo32 s.clock.tick]).banksForMode.abortMeasure

/-- Ingest resumes, pauses or goes on as it was, as the modes `old` and `m` play. -/
def State.ingestFor (s : State) (old m : Nat) : State :=
  if isPlay m ∧ !isPlay old then ({ s with clock := { s.clock with leadTick := max s.clock.leadTick (s.clock.tick + 3) } } : State).resumeIngest
  else if isPlay old ∧ !isPlay m then s.pauseIngest else s

/-- What entering the mode `m` does beside. -/
def State.entering (s : State) (m : Nat) : State := if m = 0 then s.enterStandby else if m = 1 then s.bringStart else s

theorem State.modeChange_none {s : State} (due : s.modes.modeDue = none) : s.modeChange = s := by
  unfold State.modeChange
  rw [due]

/-- A mode that is due and new is shown, ingest follows it, and it is entered. -/
theorem State.modeChange_due {s : State} {m : Nat} (due : s.modes.modeDue = some m) (new : m ≠ s.modes.mode) :
    s.modeChange = ((s.modeShown m).ingestFor s.modes.mode m).entering m := by
  unfold State.modeChange
  rw [due]
  exact if_neg new.symm

theorem State.ingestFor_same (s : State) {old m : Nat} (same : isPlay m = isPlay old) : s.ingestFor old m = s := by
  unfold State.ingestFor
  rw [same]
  simp

theorem State.ingestFor_notPlay (s : State) {old m : Nat} (still : isPlay m = false) :
    s.ingestFor old m = if isPlay old then s.pauseIngest else s := by
  unfold State.ingestFor
  simp [still]

theorem State.ingestFor_play (s : State) {old m : Nat} (play : isPlay m = true) (still : isPlay old = false) : s.ingestFor old m =
    ({ s with clock := { s.clock with leadTick := max s.clock.leadTick (s.clock.tick + 3) } } : State).resumeIngest :=
  if_pos ⟨play, congrArg (!·) still⟩

/-- A display mode is entered without more. -/
theorem State.entering_display (s : State) {m : Nat} (display : 1 < m) : s.entering m = s := by
  unfold State.entering
  rw [if_neg (by omega), if_neg (by omega)]

/-- Only display modes play. -/
theorem one_lt_of_isPlay {m : Nat} (play : isPlay m = true) : 1 < m := by
  by_contra low
  obtain rfl | rfl : m = 0 ∨ m = 1 := by omega
  · exact absurd play (by decide)
  · exact absurd play (by decide)

/-- Settles O34: the mode due is shown, then ingest follows it, then it is entered; the modes that play and the modes 0 and 1 are distinct. -/
theorem modesChangeAtTheirTick : Obligations.ModesChangeAtTheirTick := by
  unfold Obligations.ModesChangeAtTheirTick
  refine fun s => ⟨State.modeChange_none, ?_⟩
  intro m due new a resumed old
  have change : s.modeChange = (a.ingestFor old m).entering m := State.modeChange_due due new
  rw [change]
  refine ⟨fun display same => ?_, fun play still => ?_, fun display still play => ?_, ?_, ?_⟩
  · rw [State.ingestFor_same a same, State.entering_display a display]
  · rw [State.ingestFor_play a play still]
    exact State.entering_display resumed (one_lt_of_isPlay play)
  · rw [State.ingestFor_notPlay a still, if_pos play, State.entering_display _ display]
  · rintro rfl
    rw [State.ingestFor_notPlay a rfl]
    rfl
  · rintro rfl
    rw [State.ingestFor_notPlay a rfl]
    rfl

end Sys2Proof.Machine
end

section
/-! PROOFS. Boot: SYS_RST_N, the verification of a bundle, the self-tests of the complexes, the lease, and the end of boot in Standby
(R103 to R111, R497). -/

namespace Sys2Proof.Machine

open Sys2Proof

-- One proof at a time: each thread of the elaborator takes its stack out of the memory the check gives.
set_option Elab.async false

/-! ### SYS_RST_N -/

/-- Keeping the journal touches Bellows' copy of it and nothing else. -/
theorem State.keepJournal_cases (s : State) : ∃ blocks, s.keepJournal = { s with bellows := { s.bellows with oldJournal := blocks } } := by
  unfold State.keepJournal
  split
  · exact ⟨s.bellows.oldJournal, rfl⟩
  · exact ⟨_, rfl⟩

/-- What a reset of the A9 with its I/O die clears. -/
theorem State.halt_clears (s : State) :
    (s.halt true).modes.mode = 0 ∧ (s.halt true).settings = {} ∧ (s.halt true).txns = [] ∧
    (s.halt true).rings = (List.range 4).map ringReset ∧ (s.halt true).mailboxes = (List.range 8).map mailboxReset ∧
    (s.halt true).bellows.holder = none :=
  ⟨rfl, rfl, rfl, rfl, rfl, rfl⟩

/-- What it keeps: the links held safe, the log, and the hours of service. -/
theorem State.halt_keeps (s : State) (io : Bool) :
    (s.halt io).bellows.safeLinks = s.bellows.safeLinks ∧ (s.halt io).recorder.sram = s.recorder.sram ∧
    (s.halt io).recorder.head = s.recorder.head ∧ (s.halt io).flash.serviceHours = s.flash.serviceHours := by
  obtain ⟨blocks, kept⟩ := s.keepJournal_cases
  unfold State.halt
  rw [kept]
  exact ⟨rfl, rfl, rfl, rfl⟩

/-- STAND_SAFE asserted on every link. -/
theorem State.safeLoss_all (s : State) : (s.safeLoss 0xFFFF).bellows.safeLinks = 0xFFFF#16 := BitVec.or_allOnes

theorem State.rstAssert_low {s : State} (low : s.modes.rst = true) : s.rstAssert = s := if_pos low

theorem State.rstAssert_stopped {s : State} (high : s.modes.rst = false) (stopped : s.bellows.running = false ∨ s.bellows.powerLost = true) :
    s.rstAssert = { s with modes := { s.modes with rst := true } } := by
  unfold State.rstAssert
  rw [if_neg (by simp [high])]
  exact if_pos (stopped.imp_left (congrArg (!·)))

/-- SYS_RST_N low asserts STAND_SAFE on every link and holds the A9 in reset. -/
theorem State.rstAssert_runs {s : State} (high : s.modes.rst = false) (running : s.bellows.running = true) (power : s.bellows.powerLost = false) :
    s.rstAssert = { (s.safeLoss 0xFFFF).halt true with modes := { ((s.safeLoss 0xFFFF).halt true).modes with rst := true } } := by
  unfold State.rstAssert
  rw [if_neg (by simp [high]), if_neg (by simp [running, power])]

/-- SYS_RST_N is high, with the straps sampled. -/
def State.strapped (s : State) (straps : BitVec 3) : State :=
  { s with modes := { s.modes with rst := false, strapSrc := straps.toNat % 4, strapPref := straps.toNat / 4 } }

/-- A start is counted. -/
def State.startCounted (s : State) : State := { s with bellows := { s.bellows with starts := (s.bellows.starts + 1) % 0x100000000 } }

theorem State.rstRelease_high {s : State} (straps : BitVec 3) (high : s.modes.rst = false) : s.rstRelease straps = s :=
  if_pos (congrArg (!·) high)

theorem State.rstRelease_waits {s : State} {straps : BitVec 3} (low : s.modes.rst = true) (waits : (s.strapped straps).canBoot = false) :
    s.rstRelease straps = s.strapped straps :=
  (if_neg (ne_true_of_eq_false (congrArg (!·) low))).trans (if_pos (congrArg (!·) waits))

/-- Where the A9 can run its release counts a start and boots, after the clock's own start where Bellows is fresh. -/
theorem State.rstRelease_boots {s : State} {straps : BitVec 3} (low : s.modes.rst = true) (can : (s.strapped straps).canBoot = true) :
    s.rstRelease straps =
      (if s.bellows.fresh then (s.strapped straps).startClock else s.strapped straps).startCounted.bootWhenRestored :=
  (if_neg (ne_true_of_eq_false (congrArg (!·) low))).trans (if_neg (ne_true_of_eq_false (congrArg (!·) can)))

theorem systemReset : Claim.SystemReset := by
  unfold Claim.SystemReset
  intro dt straps s e
  rw [exec_sys_rst_n_assert, exec_sys_rst_n_release]
  refine ⟨fun low => State.act_eq (State.rstAssert_low (s := e) low), ?_, ?_, ?_⟩
  · intro high running power m
    obtain ⟨mode, settings, txns, rings, mailboxes, holder⟩ := (e.safeLoss 0xFFFF).halt_clears
    obtain ⟨safe, sram, head, hours⟩ := (e.safeLoss 0xFFFF).halt_keeps true
    exact ⟨State.act_eq (State.rstAssert_runs (s := e) high running power), mode, settings, txns, rings, mailboxes,
      safe.trans e.safeLoss_all, holder, sram, head, hours⟩
  · exact fun high stopped => State.act_eq (State.rstAssert_stopped (s := e) high stopped)
  · intro up
    refine ⟨fun high => ?_, fun low waits => ?_, fun low can old => ?_, fun low can fresh => ?_⟩
    · exact State.act_eq (State.rstRelease_high (s := e) straps high)
    · exact State.act_eq (State.rstRelease_waits (s := e) low waits)
    · refine State.act_eq ((State.rstRelease_boots (s := e) low can).trans ?_)
      rw [if_neg (ne_true_of_eq_false (show e.bellows.fresh = false from old))]
      rfl
    · refine State.act_eq ((State.rstRelease_boots (s := e) low can).trans ?_)
      rw [if_pos (show e.bellows.fresh = true from fresh)]
      rfl

/-! ### Verification -/

/-- The bundle comes over the skyline: verification starts as it does. -/
def State.skyBundle (s : State) : Bool := s.modes.bootSource == 2 && (s.modes.bootStage == 0 || 0xE1 ≤ s.modes.bootStage)

/-- The bundle in hand is verified. -/
def State.verified (s : State) (sent : List Byte) : State :=
  match s.bundleInHand sent with
  | none => s.verifyFails 0xE1 0
  | some b => if bootVerdict b s.security.lifecycle s.security.fuses = 2 then (s.verifyRecords b).releaseComplexes b
      else (s.verifyRecords b).verifyFails (bootVerdict b s.security.lifecycle s.security.fuses) (manifestRollback b)

theorem State.verified_none {s : State} {sent : List Byte} (h : s.bundleInHand sent = none) : s.verified sent = s.verifyFails 0xE1 0 := by
  unfold State.verified
  rw [h]

theorem State.verified_some {s : State} {sent b : List Byte} (h : s.bundleInHand sent = some b) : s.verified sent =
    if bootVerdict b s.security.lifecycle s.security.fuses = 2 then (s.verifyRecords b).releaseComplexes b
    else (s.verifyRecords b).verifyFails (bootVerdict b s.security.lifecycle s.security.fuses) (manifestRollback b) := by
  unfold State.verified
  rw [h]

theorem State.bundleVerified_idle {s : State} (sent : List Byte) (idle : s.canBoot = false ∨ s.modes.standby = true) :
    s.bundleVerified sent = s := if_pos (idle.imp_left (congrArg (!·)))

section
variable {s : State} (sent : List Byte) (can : s.canBoot = true) (boots : s.modes.standby = false)
include can boots

/-- Before Standby a bundle is verified in stage 1, or in stage 1 as it comes over the skyline, and else not. -/
theorem State.bundleVerified_eq : s.bundleVerified sent =
    if !s.skyBundle && s.modes.bootStage != 1 then s else (if s.skyBundle then s.setStage 1 0 else s).verified sent :=
  if_neg (by simp [can, boots])

theorem State.bundleVerified_elsewhere (stage : s.modes.bootStage ≠ 1) (source : s.modes.bootSource ≠ 2) : s.bundleVerified sent = s := by
  rw [State.bundleVerified_eq sent can boots]
  exact if_pos (by simp [State.skyBundle, stage, source])

theorem State.bundleVerified_stage (stage : s.modes.bootStage = 1) : s.bundleVerified sent = s.verified sent := by
  have here : s.skyBundle = false := by simp [State.skyBundle, stage]
  rw [State.bundleVerified_eq sent can boots, here]
  exact if_neg (by simp [stage])

theorem State.bundleVerified_sky (source : s.modes.bootSource = 2) (stage : s.modes.bootStage = 0 ∨ 0xE1 ≤ s.modes.bootStage) :
    s.bundleVerified sent = (s.setStage 1 0).verified sent := by
  have sky : s.skyBundle = true := by simpa [State.skyBundle, source] using stage
  rw [State.bundleVerified_eq sent can boots, sky]
  rfl

end

theorem bundlesAreVerified : Claim.BundlesAreVerified := by
  unfold Claim.BundlesAreVerified
  intro dt sent s e run
  have runs {m : State} (h : e.bundleVerified sent = m) : run = .next (s.ended m) :=
    (exec_bundle_verify_end dt sent s).trans (State.act_eq h)
  refine ⟨fun idle => ?_, fun can boots stage source => ?_, fun can boots stage => ?_, fun can boots source stage => ?_⟩
  · exact runs (State.bundleVerified_idle (s := e) sent idle)
  · exact runs (State.bundleVerified_elsewhere (s := e) sent can boots stage source)
  · have verifies : e.bundleVerified sent = e.verified sent := State.bundleVerified_stage (s := e) sent can boots stage
    exact ⟨fun h => runs (verifies.trans (State.verified_none h)), fun b h => runs (verifies.trans (State.verified_some h))⟩
  · have verifies : e.bundleVerified sent = (e.setStage 1 0).verified sent := State.bundleVerified_sky (s := e) sent can boots source stage
    exact ⟨fun h => runs (verifies.trans (State.verified_none h)), fun b h => runs (verifies.trans (State.verified_some h))⟩

/-! ### The complexes -/

/-- The self-test of a complex has ended, and with it the handler of its own error. -/
def State.selfTested (s : State) (d : Nat) (ok : Bool) : State :=
  let t := s.updComplex d fun c => { c with present := ok || c.present, passed := ok, stopped := false, epochSeen := s.bellows.epoch }
  match s.handling (otherDie d) with
  | some r => if r.kind = 8 ∧ r.unit = d then t.handlerEnd (otherDie d) (b2n (!ok)) else t
  | none => t

theorem State.selfTestEnd_idle {s : State} {d : Nat} (ok : Bool) (idle : s.booting d = false) : s.selfTestEnd d ok = s :=
  if_pos (congrArg (!·) idle)

section
variable {s : State} {d : Nat} (booting : s.booting d = true)
include booting

theorem State.selfTestEnd_fails : s.selfTestEnd d false = ((s.selfTested d false).selfFence d 5 2).escalate :=
  if_neg (ne_true_of_eq_false (congrArg (!·) booting))

/-- A self-test that passes brings stage 3 in stage 2; in Standby it makes the complex the drone unless it is fenced or the chanter. -/
theorem State.selfTestEnd_passes : let t := s.selfTested d true
    s.selfTestEnd d true =
      if t.modes.bootStage = 2 then t.setStage 3 (manifestRollback t.security.image)
      else if t.modes.standby && !(t.complex d).fenced && t.bellows.role != some d then { t with modes := { t.modes with drone := 2 } }
      else t :=
  if_neg (ne_true_of_eq_false (congrArg (!·) booting))

end

/-- A complex without a request 600 ms after its release is left absent; stage 3 follows where the other is absent too. -/
theorem State.complexAbsent_late {s : State} {d : Nat} (die : d < 2) (low : 2 ≤ s.modes.bootStage) (high : s.modes.bootStage ≤ 3)
    (silent : (s.complex d).requested = false) (late : s.since s.modes.releasedAt (ms 600) = true) :
    let m := s.updComplex d fun c => { c with absent := true }
    s.complexAbsent d = if m.modes.bootStage = 2 ∧ (m.complex (otherDie d)).absent then m.setStage 3 (manifestRollback m.security.image) else m :=
  if_pos ⟨die, low, high, congrArg (!·) silent, late⟩

theorem State.complexAbsent_none {s : State} {d : Nat} (h : s.modes.bootStage < 2 ∨ 3 < s.modes.bootStage ∨ (s.complex d).requested = true ∨
    s.since s.modes.releasedAt (ms 600) = false) : s.complexAbsent d = s := by
  refine if_neg ?_
  rintro ⟨-, low, high, silent, late⟩
  obtain early | past | asked | soon := h
  · omega
  · omega
  · simp [asked] at silent
  · exact absurd (soon.symm.trans late) (by decide)

/-- Both dies restart from stage 3 without a lease, three times at most. -/
theorem State.leadershipTimeout_boot {s : State} (stage : s.modes.bootStage = 3) (vacant : s.bellows.holder = none) (tries : s.bellows.bootTries < 3)
    (late : s.since s.modes.stageAt (sec 2) = true) : s.leadershipTimeout =
      ({ s with bellows := { s.bellows with bootTries := s.bellows.bootTries + 1 } } : State).coldRestart 3 3 false :=
  if_pos ⟨stage, vacant, tries, late⟩

/-- They restart later where a reset left neither complex running. -/
theorem State.leadershipTimeout_reset {s : State} {t : Nat} (stage : 3 < s.modes.bootStage) (vacant : s.bellows.holder = none)
    (reset : s.bellows.bothReset = some t) (tries : s.bellows.bootTries < 3) (late : s.since t (sec 2) = true) : s.leadershipTimeout =
      ({ s with bellows := { s.bellows with bootTries := s.bellows.bootTries + 1, bothReset := none } } : State).coldRestart 3 3 false := by
  have past : (s.bellows.bothReset.any fun t => s.since t (sec 2)) = true := by
    rw [reset, Option.any_some]
    exact late
  unfold State.leadershipTimeout
  rw [if_neg (fun boot => stage.ne' boot.1), if_pos ⟨stage, vacant, tries, past⟩]

/-- Neither restart is due. -/
theorem State.leadershipTimeout_none {s : State} (h : s.modes.bootStage < 3 ∨ s.bellows.holder ≠ none ∨ 3 ≤ s.bellows.bootTries ∨
    (3 < s.modes.bootStage ∧ ∀ t, s.bellows.bothReset = some t → s.since t (sec 2) = false)) : s.leadershipTimeout = s := by
  unfold State.leadershipTimeout
  rw [if_neg, if_neg]
  · rintro ⟨stage, vacant, tries, late⟩
    obtain early | held | spent | ⟨-, soon⟩ := h
    · omega
    · exact held vacant
    · omega
    · obtain ⟨t, reset, past⟩ := (Option.any_eq_true ..).1 late
      exact absurd ((soon t reset).symm.trans past) (by decide)
  · rintro ⟨stage, vacant, tries, -⟩
    obtain early | held | spent | ⟨past, -⟩ := h
    · omega
    · exact held vacant
    · omega
    · omega

/-- The end of a self-test, clause by clause. -/
theorem selfTestsEnd (dt : Nat) (die : Fin 2) (s : State) (booting : s.booting die = true) :
    let e := s.elapse dt
    let t := e.selfTested die true
    exec (.complexSelfTestEnd dt die false) s = .next (s.ended ((e.selfTested die false).selfFence die 5 2).escalate) ∧
    (t.modes.bootStage = 2 → exec (.complexSelfTestEnd dt die true) s = .next (s.ended (t.setStage 3 (manifestRollback t.security.image)))) ∧
    (t.modes.bootStage ≠ 2 → t.modes.standby = true → (t.complex die).fenced = false → t.bellows.role ≠ some die.val →
      exec (.complexSelfTestEnd dt die true) s = .next (s.ended { t with modes := { t.modes with drone := 2 } })) ∧
    (t.modes.bootStage ≠ 2 → t.modes.standby = false ∨ (t.complex die).fenced = true ∨ t.bellows.role = some die.val →
      exec (.complexSelfTestEnd dt die true) s = .next (s.ended t)) := by
  intro e t
  rw [exec_complex_self_test_end, exec_complex_self_test_end]
  have passes := State.selfTestEnd_passes (s := e) booting
  refine ⟨State.act_eq (State.selfTestEnd_fails (s := e) booting), fun stage => ?_, fun stage up free drone => ?_, fun stage other => ?_⟩
  · exact State.act_eq (passes.trans (if_pos stage))
  · refine State.act_eq (passes.trans ((if_neg stage).trans (if_pos ?_)))
    simp [t, up, free, drone]
  · refine State.act_eq (passes.trans ((if_neg stage).trans (if_neg ?_)))
    obtain down | fenced | chanter := other
    · simp [t, down]
    · simp [t, fenced]
    · simp [t, chanter]

theorem complexesBoot : Claim.ComplexesBoot := by
  unfold Claim.ComplexesBoot
  intro dt die s e test rb
  rw [exec_complex_absent, exec_leadership_timeout]
  refine ⟨fun idle ok => ?_, selfTestsEnd dt die s, ?_, ?_, ?_, ?_, ?_⟩
  · rw [exec_complex_self_test_end]
    exact State.act_eq (State.selfTestEnd_idle (s := e) ok idle)
  · intro low high silent late m
    have absent := State.complexAbsent_late (s := e) die.isLt low high silent (State.since_elapse_true late)
    refine ⟨fun stage both => State.act_eq (absent.trans (if_pos ⟨stage, both⟩)), fun other => State.act_eq (absent.trans (if_neg ?_))⟩
    rintro ⟨stage, both⟩
    obtain third | here := other
    · exact absurd (third.symm.trans stage) (by decide)
    · exact absurd (here.symm.trans both) (by decide)
  · exact fun h => State.act_eq (State.complexAbsent_none (s := e) (h.imp_right (Or.imp_right (Or.imp_right State.since_elapse_false))))
  · intro stage vacant late
    exact ⟨fun tries => State.act_eq (State.leadershipTimeout_boot (s := e) stage vacant tries (State.since_elapse_true late)),
      fun spent => State.act_eq (State.leadershipTimeout_none (s := e) (.inr (.inr (.inl spent))))⟩
  · intro stage vacant t reset
    refine ⟨fun tries late => ?_, fun other => State.act_eq (State.leadershipTimeout_none (s := e) (.inr (.inr (other.imp_right fun soon => ?_))))⟩
    · exact State.act_eq (State.leadershipTimeout_reset (s := e) stage vacant reset tries (State.since_elapse_true late))
    · refine ⟨stage, fun u hu => ?_⟩
      obtain rfl : t = u := Option.some.inj (reset.symm.trans hu)
      exact State.since_elapse_false soon
  · rintro (early | held | ⟨stage, never⟩)
    · exact State.act_eq (State.leadershipTimeout_none (s := e) (.inl early))
    · exact State.act_eq (State.leadershipTimeout_none (s := e) (.inr (.inl held)))
    · exact State.act_eq (State.leadershipTimeout_none (s := e) (.inr (.inr (.inr ⟨stage, fun t ht => absurd (never.symm.trans ht) (by simp)⟩))))

/-! ### Standby -/

@[simp] theorem State.raise_security (s : State) (code unit : Nat) (ps : List Nat) (tag txn : Word) :
    (s.raise code unit ps tag txn).security = s.security := by
  obtain ⟨rings, out, held, owed, ports, pba, tick, merged, fired, h, -⟩ := s.raise_cases code unit ps tag txn
  rw [h]

@[simp] theorem State.raise_bellows (s : State) (code unit : Nat) (ps : List Nat) (tag txn : Word) :
    (s.raise code unit ps tag txn).bellows = s.bellows := by
  obtain ⟨rings, out, held, owed, ports, pba, tick, merged, fired, h, -⟩ := s.raise_cases code unit ps tag txn
  rw [h]

@[simp] theorem State.complete_modes (s : State) (c : Cmd) (r : Resp) : (s.complete c r).modes = s.modes := by
  obtain ⟨f, out, pba, h⟩ := s.completeBytes_cases c.mbx (r.bytes c)
  rw [State.complete, h]
  rfl

@[simp] theorem State.complete_security (s : State) (c : Cmd) (r : Resp) : (s.complete c r).security = s.security := by
  obtain ⟨f, out, pba, h⟩ := s.completeBytes_cases c.mbx (r.bytes c)
  rw [State.complete, h]
  rfl

/-- Aborting the commands that run leaves the modes and what security holds. -/
theorem State.abortRunning_keeps (s : State) : s.abortRunning.modes = s.modes ∧ s.abortRunning.security = s.security := by
  unfold State.abortRunning
  refine forEach_keeps (P := fun t => t.modes = s.modes ∧ t.security = s.security) _ _ (fun n _ t kept => ?_) ⟨rfl, rfl⟩
  obtain ⟨modes, security⟩ := kept
  dsimp only
  split
  · exact ⟨modes, security⟩
  · split
    · simp [modes, security]
    · simp [modes, security]

/-- Counting a boot touches the flash alone. -/
theorem State.countBoot_cases (s : State) : ∃ flash, s.countBoot = { s with flash := flash } := by
  unfold State.countBoot
  split
  · exact ⟨s.flash, rfl⟩
  · split <;> exact ⟨_, rfl⟩

/-- EV_STANDBY with the boot source, the fuse, and the count of boots. -/
def State.standbyTold (s : State) (d rb source : Nat) : State :=
  (((s.updComplex d fun c => { c with supervises := true }).raise evStandby noUnit [source]).advanceFuses rb).countBoot

/-- Telling leaves the modes and the role, and advances the fuse. -/
theorem State.standbyTold_keeps (s : State) (d rb source : Nat) :
    (s.standbyTold d rb source).modes = s.modes ∧ (s.standbyTold d rb source).bellows.role = s.bellows.role ∧
    (s.standbyTold d rb source).security.fuses = max s.security.fuses (min 64 rb) := by
  unfold State.standbyTold
  obtain ⟨flash, counted⟩ := State.countBoot_cases
    (((s.updComplex d fun c => { c with supervises := true }).raise evStandby noUnit [source]).advanceFuses rb)
  rw [counted]
  simp [State.advanceFuses, State.updComplex]

/-- Standby waits for the lease, stage 3, an A9 that can run, and every complex. -/
theorem State.standbyReached_waits {s : State} (h : s.bellows.holder = none ∨ s.modes.bootStage ≠ 3 ∨ s.canBoot = false ∨ s.awaitsComplex = true) :
    s.standbyReached = s := by
  unfold State.standbyReached
  split
  · rfl
  · next d held =>
    refine if_pos ?_
    obtain vacant | waits := h
    · exact absurd (vacant.symm.trans held) (by simp)
    · exact waits.imp_right (Or.imp_left (congrArg (!·)))

/-- The steps of the end of boot are compared one at a time: each stands in the next one many times over. -/
theorem standbyIsReached : Claim.StandbyIsReached := by
  unfold Claim.StandbyIsReached
  refine ⟨?_, fun dt s h => State.act_eq (State.standbyReached_waits (s := s.elapse dt) h)⟩
  intro dt d s held stage can heard e rb a b c absent f g h
  have reached : e.standbyReached = h.droneDown.endBootHold := by
    have goes : ¬(e.modes.bootStage ≠ 3 ∨ (!e.canBoot) = true ∨ e.awaitsComplex = true) := by
      show ¬(s.modes.bootStage ≠ 3 ∨ (!s.canBoot) = true ∨ s.awaitsComplex = true)
      simp [stage, can, heard]
    unfold State.standbyReached
    rw [show e.bellows.holder = some d from held]
    refine (if_neg goes).trans ?_
    extract_lets rb' a' _ _ _ b' absent' raised c' f' g' h'
    have sameAborted : a = a' := rfl
    clear_value a a'
    subst sameAborted
    have sameRole : b = b' := rfl
    have sameSource : b.modes.bootSource = a.modes.bootSource := rfl
    clear_value b b'
    subst sameRole
    have sameTold : c' = c := congrArg (b.standbyTold d rb) sameSource
    clear_value c c'
    subst sameTold
    rfl
  obtain ⟨aborted, security⟩ : a.modes = (e.setStage 4 rb).modes ∧ a.security = (e.setStage 4 rb).security := State.abortRunning_keeps _
  clear_value a
  obtain ⟨modes, role, fuses⟩ : c.modes = b.modes ∧ c.bellows.role = b.bellows.role ∧ c.security.fuses = max b.security.fuses (min 64 rb) :=
    b.standbyTold_keeps d rb _
  refine ⟨State.act_eq reached, ?_, ?_, ?_, role, ?_⟩
  · rw [modes]
  · rw [modes]
  · rw [modes]
    exact congrArg Modes.bootStage aborted
  · rw [fuses]
    exact congrArg (fun k : Security => max k.fuses (min 64 rb)) security

/-! ### Bundles over the skyline -/

theorem State.serveBundle_serves {s : State} {p : Nat} (port : p ≤ 3) (low : 2 ≤ s.modes.bootStage) (high : s.modes.bootStage ≤ 4)
    (image : s.security.image ≠ []) : s.serveBundle p =
      ({ s with modes := { s.modes with served := s.modes.served + 1 } } : State).sendPort p 0x12 (4 :: s.security.image) := by
  refine if_neg ?_
  rintro (far | early | late | empty)
  · omega
  · omega
  · omega
  · exact image empty

theorem State.bootRetry_due {s : State} (can : s.canBoot = true) (source : s.modes.bootSource = 2)
    (stage : s.modes.bootStage = 0 ∨ 0xE1 ≤ s.modes.bootStage) (late : s.since s.modes.bootRetryAt (sec 2) = true) :
    s.bootRetry = (if s.modes.bootStage = 0 then s.setStage 0xE3 0 else s).askBundle :=
  if_pos (by simp [can, source, stage, late])

theorem State.bootRetry_none {s : State} (h : s.canBoot = false ∨ s.modes.bootSource ≠ 2 ∨ s.since s.modes.bootRetryAt (sec 2) = false) :
    s.bootRetry = s := by
  refine if_neg ?_
  obtain stopped | source | soon := h
  · simp [stopped]
  · simp [source]
  · simp [soon]

theorem State.askBundle_parent {s : State} {q : Nat} (parent : s.settings.roles.findIdx? (· == 1) = some q) :
    s.askBundle = ({ s with modes := { s.modes with bootRetryAt := s.clock.up } } : State).sendPort q 0x12 [3] := by
  unfold State.askBundle
  dsimp only
  rw [parent]

theorem State.askBundle_alone {s : State} (alone : s.settings.roles.findIdx? (· == 1) = none) :
    s.askBundle = { s with modes := { s.modes with bootRetryAt := s.clock.up } } := by
  unfold State.askBundle
  dsimp only
  rw [alone]

theorem bundlesOverTheSkyline : Claim.BundlesOverTheSkyline := by
  unfold Claim.BundlesOverTheSkyline
  intro dt p s e
  rw [exec_skyline_bundle_request, exec_skyline_boot_retry]
  refine ⟨fun low high image => ?_, fun unserved => ?_, fun can source late => ?_, ?_, fun idle => ?_⟩
  · exact State.act_eq (State.serveBundle_serves (s := e) (Nat.le_of_lt_succ p.isLt) low high image)
  · exact State.act_eq (if_pos (.inr unserved))
  · have due := State.bootRetry_due (s := e) can source
    have past := State.since_elapse_true late
    exact ⟨fun stage => State.act_eq ((due (.inl stage) past).trans (congrArg State.askBundle (if_pos stage))),
      fun stage => State.act_eq ((due (.inr stage) past).trans (congrArg State.askBundle (if_neg (by show ¬s.modes.bootStage = 0; omega))))⟩
  · exact ⟨fun q parent => State.askBundle_parent (s := e) parent, fun alone => State.askBundle_alone (s := e) alone⟩
  · exact State.act_eq (State.bootRetry_none (s := e) (idle.imp_right (Or.imp_right State.since_elapse_false)))

/-- Settles O54: each event of a boot is one branch of its operation; what ends a boot leaves the modes that its end sets. -/
theorem bootReachesStandby : Obligations.BootReachesStandby :=
  ⟨systemReset, bundlesAreVerified, complexesBoot, standbyIsReached, bundlesOverTheSkyline⟩

end Sys2Proof.Machine
end

section
/-! PROOFS. Queues are polled, descriptors placed and streams resumed; frames are decoded or lost; the 2D engine ends its operations
(R118, R122, R125, R127, R139, R142, R154, R220). -/

namespace Sys2Proof.Machine

/-! ### Queues -/

/-- A queue that is configured is one of the queues of the state. -/
theorem State.queue_lt_of_log2 {s : State} {n : Nat} (h : (s.queue n).log2 ≠ 0) : n < s.ingest.queues.length := by
  by_contra beyond
  refine h ?_
  unfold State.queue
  rw [List.getD_eq_default _ _ (Nat.not_lt.1 beyond)]

/-- A queue changed reads as changed. -/
theorem State.queue_updQueue_self {s : State} {n : Nat} (f : Queue → Queue) (h : n < s.ingest.queues.length) :
    (s.updQueue n f).queue n = f (s.queue n) := upd_getD_self f {} h

/-- The poll of a queue is dated now (R118). -/
def State.markPolled (s : State) (q : Nat) : State := s.updQueue q fun x => { x with polled := some s.clock.up }

theorem State.queue_markPolled {s : State} {q : Nat} (h : q < s.ingest.queues.length) :
    (s.markPolled q).queue q = { s.queue q with polled := some s.clock.up } := State.queue_updQueue_self _ h

theorem State.badIdxAt_markPolled {s : State} {q : Nat} (h : q < s.ingest.queues.length) :
    ((s.markPolled q).queue q).badIdxAt = (s.queue q).badIdxAt := by
  rw [State.queue_markPolled h]

/-- A queue of no stream, or of a stream that does not fetch, is not polled. -/
theorem State.queuePoll_unserved {s : State} {q : Nat} (h : s.streamOfQueue q = none ∨ ∃ n, s.streamOfQueue q = some n ∧ s.fetches n = false)
    (pidx : Option Nat) (descs : List (Option (List Byte))) : s.queuePoll q pidx descs = s := by
  unfold State.queuePoll
  obtain free | ⟨n, serves, idle⟩ := h
  · rw [free]
  · rw [serves]
    exact if_pos (.inr (.inr (.inl (congrArg (!·) idle))))

section
variable {s : State} {q n : Nat} (small : q ≤ 15) (serves : s.streamOfQueue q = some n) (fetching : s.fetches n = true)
  (configured : (s.queue q).log2 ≠ 0) (due : ∀ t, (s.queue q).polled = some t → s.since t (us s.ingest.pollUs) = true)
include small fetching configured due

/-- Nothing holds back the poll of a configured queue whose stream fetches, once the interval is over. -/
theorem State.pollGuard_open : ¬(15 < q ∨ (s.queue q).log2 = 0 ∨ (!s.fetches n) = true ∨
    ((s.queue q).polled.any fun t => !s.since t (us s.ingest.pollUs)) = true) := by
  rintro (far | bare | idle | early)
  · omega
  · exact configured bare
  · simp [fetching] at idle
  · obtain ⟨t, polled, soon⟩ := (Option.any_eq_true ..).1 early
    simp [due t polled] at soon

include serves

theorem State.queuePoll_read (i : Nat) (descs : List (Option (List Byte))) :
    s.queuePoll q (some i) descs =
      let once := (s.emit (.hostRead (s.queue q).pidxAddr 4)).markPolled q
      if 2 ^ (s.queue q).log2 ≤ i then once.badIndex q n i else once.indexRead q n i (s.queue q).polled descs := by
  unfold State.queuePoll
  rw [serves]
  exact if_neg (State.pollGuard_open small fetching configured due)

theorem State.queuePoll_unread (descs : List (Option (List Byte))) :
    s.queuePoll q none descs = ((((s.emit (.hostRead (s.queue q).pidxAddr 4)).emit (.hostRead (s.queue q).pidxAddr 4)).markPolled q).queueError
      n (s.queue q).read 8) := by
  unfold State.queuePoll
  rw [serves]
  exact if_neg (State.pollGuard_open small fetching configured due)

end

/-- An index that is none is reported where no report was made within the last millisecond. -/
theorem State.badIndex_reports {s : State} {q : Nat} (h : ∀ t, (s.queue q).badIdxAt = some t → s.since t (ms 1) = true) (n pidx : Nat) :
    s.badIndex q n pidx = (s.updQueue q fun x => { x with badIdxAt := some s.clock.up }).queueError n pidx 10 := by
  refine if_neg fun soon => ?_
  obtain ⟨t, last, early⟩ := (Option.any_eq_true ..).1 soon
  simp [h t last] at early

theorem State.badIndex_quiet {s : State} {q t : Nat} (last : (s.queue q).badIdxAt = some t) (soon : s.since t (ms 1) = false) (n pidx : Nat) :
    s.badIndex q n pidx = s := by
  refine if_pos ?_
  rw [last, Option.any_some, soon]
  rfl

/-- The index read at a poll, with what its queue held before it. -/
theorem State.indexRead_markPolled {s : State} {q : Nat} (h : q < s.ingest.queues.length) (n pidx : Nat) (descs : List (Option (List Byte))) :
    (s.markPolled q).indexRead q n pidx (s.queue q).polled descs =
      let x := s.queue q
      let count := (pidx + 2 ^ x.log2 - x.read) % 2 ^ x.log2
      let idle := (x.polled.map fun t => s.clock.up - t).getD 0
      let a := (s.markPolled q).updStream n fun st => { st with emptyFor := if count == 0 && x.fetched == [] then st.emptyFor + idle else 0 }
      let l := (descs.take count).map (Option.map (padTo 64))
      let b := (l.zipIdx).foldl (fun s d => s.readTry (x.base + 64 * ((x.read + d.2) % 2 ^ x.log2)) 64 d.1.isNone) a
      (b.updQueue q (·.readDescs l)).fetchOn q n := by
  unfold State.indexRead
  rw [State.queue_markPolled h]
  dsimp only
  cases (s.queue q).polled <;> rfl

theorem queuePollsFetch : Claim.QueuePollsFetch := by
  unfold Claim.QueuePollsFetch
  refine ⟨fun dt q pidx descs s h => ?_, ?_⟩
  · rw [exec_queue_poll]
    exact State.act_eq (State.queuePoll_unserved (s := s.elapse dt) h pidx descs)
  intro dt q n descs s serves fetching configured interval x e polled once
  have small : q.val ≤ 15 := Nat.le_of_lt_succ q.isLt
  have due : ∀ t, (e.queue q).polled = some t → e.since t (us e.ingest.pollUs) = true := fun t ht => State.since_elapse_true (interval t ht)
  have known : q.val < e.ingest.queues.length := State.queue_lt_of_log2 (s := s) configured
  have read := State.queuePoll_read (s := e) small serves fetching configured due
  have reported : (once.queue q).badIdxAt = x.badIdxAt := State.badIdxAt_markPolled (s := e.emit (.hostRead x.pidxAddr 4)) known
  refine ⟨fun pidx within => ?_, fun pidx beyond => ⟨fun apart => ?_, fun t last soon => ?_⟩, ?_⟩
  · intro count idle a l b
    rw [exec_queue_poll]
    refine State.act_eq ((read pidx descs).trans ((if_neg (Nat.not_le.2 within)).trans ?_))
    exact State.indexRead_markPolled (s := e.emit (.hostRead x.pidxAddr 4)) known n pidx descs
  · rw [exec_queue_poll]
    refine State.act_eq ((read pidx descs).trans ((if_pos beyond).trans (State.badIndex_reports (fun t ht => ?_) n pidx)))
    exact State.since_elapse_true (s := s) (apart t (reported.symm.trans ht))
  · rw [exec_queue_poll]
    exact State.act_eq ((read pidx descs).trans ((if_pos beyond).trans
      (State.badIndex_quiet (reported.trans last) (State.since_elapse_false (s := s) soon) n pidx)))
  · rw [exec_queue_poll]
    exact State.act_eq (State.queuePoll_unread (s := e) small serves fetching configured due descs)

/-! ### Descriptors and streams -/

/-- The descriptor read is placed, unless it was read for the children alone, and leaves its queue; the next is fetched. -/
def State.placedNext (s : State) (q n : Nat) (d : Desc) (key : Option KeySlot) (p : Placed) : State :=
  ((if d.onlyRelay then s else s.placeDesc n d.index d.bytes key p).dropHead q).fetchOn q n

theorem State.descriptorPlaced_served {s : State} {q n : Nat} {d : Desc} {rest : List Desc} {v : Serve} (serving : s.ingest.serving = some v)
    (mine : v.stream = n) (serves : s.streamOfQueue q = some n) (head : (s.queue q).fetched = d :: rest) (on : s.ingestOn = true) (p : Placed) :
    s.descriptorPlaced q p =
      let a := ({ s with ingest := { s.ingest with serving := none, lastServed := n } } : State).readTry (u64 d.bytes 8) (dSize d.bytes) p.failed
      let b := if dSubsamples d.bytes = 0 ∨ p.failed = true then a else a.readTry (u64 d.bytes 32) (8 * dSubsamples d.bytes) p.subsFailed
      let c := if (p.failed || p.subsFailed) = true then b else b.relayFetched n d.bytes p
      c.placedNext q n d v.key p := by
  have go : ¬(v.stream ≠ n ∨ (!s.ingestOn) = true) := by simp [mine, on]
  unfold State.descriptorPlaced
  rw [serving, serves, head]
  exact if_neg go

theorem placedDescriptorsPass : Claim.PlacedDescriptorsPass := by
  unfold Claim.PlacedDescriptorsPass
  intro dt q n p d rest v s serving mine serves head on e a addr table size pass
  have served := State.descriptorPlaced_served (s := e) serving mine serves head on p
  rw [exec_descriptor_placed]
  dsimp only at served
  refine ⟨fun ok bare subs => ?_, fun ok parts subs => ?_, fun ok parts subs => ?_, fun failed => ?_⟩
  · rw [ok, subs, if_pos (c := _ ∨ _) (.inl bare)] at served
    exact State.act_eq served
  · rw [ok, subs, if_neg (c := _ ∨ _) (by simp [parts])] at served
    exact State.act_eq served
  · rw [ok, subs, if_neg (c := _ ∨ _) (by simp [parts])] at served
    exact State.act_eq served
  · rw [failed, if_pos (c := _ ∨ _) (.inr rfl)] at served
    exact State.act_eq served

/-- The bytes of the next data of a stream: of the descriptor at the front of its queue. -/
def State.headSize (s : State) (n : Nat) : Nat := ((s.headDesc n).map dSize).getD 0

theorem State.fetchResume_eq {s : State} {n : Nat} {st : SceneStream} (h : s.stream n = some st) :
    s.fetchResume n =
      let go := s.updStream n fun st => { st with stopped := false }
      if st.stopped = true ∧ st.heldFrames ≤ st.low ∧ st.used + s.headSize n ≤ st.share then
        if s.ingestOn = true ∧ st.queue ≠ 0xFF then go.fetchOn st.queue n else go
      else s := by
  unfold State.fetchResume State.headSize
  rw [h]
  cases s.headDesc n <;> simp only [decide_eq_true_eq] <;> rfl

theorem State.drainTimeout_eq {s : State} {n : Nat} {st : SceneStream} (h : s.stream n = some st) :
    s.drainTimeout n =
      if st.draining = true ∧ sec 1 ≤ st.emptyFor then s.updStream n fun st => { st with drainDue := true } else s := by
  unfold State.drainTimeout
  rw [h]

theorem streamsResumeAndDrain : Claim.StreamsResumeAndDrain := by
  unfold Claim.StreamsResumeAndDrain
  intro dt n s st open' go fits
  have resumed := State.fetchResume_eq (s := s.elapse dt) open'
  have drained := State.drainTimeout_eq (s := s.elapse dt) open'
  have room : fits ↔ st.used + (s.elapse dt).headSize n ≤ st.share := by
    show fits ↔ st.used + ((s.headDesc n).map dSize).getD 0 ≤ st.share
    unfold fits
    cases s.headDesc n <;> rfl
  rw [exec_fetch_resume, exec_drain_timeout]
  refine ⟨fun stopped low fit on queue => ?_, fun stopped low fit off => ?_, fun waits => ?_, fun draining late => ?_, fun waits => ?_⟩
  · exact State.act_eq (resumed.trans ((if_pos ⟨stopped, low, room.1 fit⟩).trans (if_pos ⟨on, queue⟩)))
  · refine State.act_eq (resumed.trans ((if_pos ⟨stopped, low, room.1 fit⟩).trans (if_neg ?_)))
    rintro ⟨on, queue⟩
    obtain paused | relayed := off
    · exact absurd (paused.symm.trans on) (by decide)
    · exact queue relayed
  · refine State.act_eq (resumed.trans (if_neg ?_))
    rintro ⟨stopped, low, fit⟩
    obtain runs | many | tight := waits
    · exact absurd (runs.symm.trans stopped) (by decide)
    · omega
    · exact tight (room.2 fit)
  · exact State.act_eq (drained.trans (if_pos ⟨draining, late⟩))
  · refine State.act_eq (drained.trans (if_neg ?_))
    rintro ⟨draining, late⟩
    obtain stays | soon := waits
    · exact absurd (stays.symm.trans draining) (by decide)
    · omega

/-- Settles O36: each operation is one branch of its definition once its guard is known; a queue that is configured is one of the
state's, so what a poll marks in it reads back. -/
theorem ingestFetchesInOrder : Obligations.IngestFetchesInOrder :=
  ⟨queuePollsFetch, placedDescriptorsPass, streamsResumeAndDrain⟩

/-! ### Decoding -/

theorem State.decodeDone_idle {s : State} {n : Nat} {st : SceneStream} (h : s.stream n = some st) (idle : st.decoding = none)
    (found : List Picture) : s.decodeDone n found = s := by
  unfold State.decodeDone
  rw [h]
  dsimp only
  rw [idle]

/-- The first substream, in ascending order, whose picture of a frame is not what it must carry (log entry 123). -/
def SceneStream.badSub (st : SceneStream) (f : SceneFrame) (found : List Picture) : Option Nat :=
  ((st.dueSubs f).filter st.isVideo).find? fun sub => st.pictureCause f (st.picture f found sub) != 0

/-- What follows a frame's turn: still frames behind it are finished, and decoders and the end of the stream are judged anew. -/
def State.afterDecode (s : State) (n : Nat) : State :=
  ((s.updStream n fun st => st.finishStills st.frames.length).decoderStates).checkEnd n

theorem State.decodeDone_decoded {s : State} {n : Nat} {st : SceneStream} {f : SceneFrame} {found : List Picture} (h : s.stream n = some st)
    (turn : st.decoding = some f) (good : st.badSub f found = none) :
    s.decodeDone n found = (s.updStream n (·.decodedFrame f found)).afterDecode n := by
  unfold SceneStream.badSub at good
  unfold State.decodeDone
  rw [h]
  dsimp only
  rw [turn]
  dsimp only
  rw [good]
  rfl

theorem State.decodeDone_lost {s : State} {n sub : Nat} {st : SceneStream} {f : SceneFrame} {found : List Picture} (h : s.stream n = some st)
    (turn : st.decoding = some f) (bad : st.badSub f found = some sub) :
    s.decodeDone n found =
      let unit := ((st.decoders.find? fun (e : Nat × Nat × Nat) => e.1 == sub).map fun (e : Nat × Nat × Nat) => e.2.1).getD noUnit
      ((s.updStream n fun st => { (st.updFrame f.num fun f => { f with bad := true }) with awaitRap := true }).decodeError n unit
        (st.pictureCause f (st.picture f found sub))).afterDecode n := by
  unfold SceneStream.badSub at bad
  unfold State.decodeDone
  rw [h]
  dsimp only
  rw [turn]
  dsimp only
  rw [bad]
  rfl

theorem framesAreDecodedOrLost : Claim.FramesAreDecodedOrLost := by
  unfold Claim.FramesAreDecodedOrLost
  intro dt n found s st open' after
  rw [exec_decode_done]
  constructor
  · intro idle
    exact State.act_eq (State.decodeDone_idle (s := s.elapse dt) open' idle found)
  · intro f turn wrong bad
    exact ⟨fun good => State.act_eq (State.decodeDone_decoded (s := s.elapse dt) open' turn good),
      fun sub lost => State.act_eq (State.decodeDone_lost (s := s.elapse dt) open' turn lost)⟩

/-! ### The 2D engine -/

theorem State.blitComplete_silent {s : State} {b : Blit} {rest : List Blit} (h : s.compose.blits = b :: rest)
    (silent : bitOf (u8 b.payload 1) 0 = false) :
    s.blitComplete = { s with
      fs := { s.fs with mem := blitMem s.fs.mem b.payload }
      compose := { s.compose with
        blits := rest, blitDone := b.seq, blitStart := s.clock.up, blitFrom := 0, blitsSince := s.compose.blitsSince + 1 } } := by
  unfold State.blitComplete
  rw [h]
  dsimp only
  rw [silent]
  rfl

theorem State.blitComplete_notifies {s : State} {b : Blit} {rest : List Blit} (h : s.compose.blits = b :: rest)
    (notify : bitOf (u8 b.payload 1) 0 = true) :
    s.blitComplete = ({ s with
      fs := { s.fs with mem := blitMem s.fs.mem b.payload }
      compose := { s.compose with
        blits := rest, blitDone := b.seq, blitStart := s.clock.up, blitFrom := 0, blitsSince := 0 } } : State).raise
      evBlitDone noUnit [s.compose.blitsSince + 1] b.tag := by
  unfold State.blitComplete
  rw [h]
  dsimp only
  rw [notify]
  rfl

theorem State.blitDoneNow_early {s : State} {b : Blit} {rest : List Blit} (h : s.compose.blits = b :: rest)
    (early : s.since s.compose.blitStart (blitTime b.payload s.compose.deadtimeNs s.compose.blitFrom) = false) : s.blitDoneNow = s := by
  unfold State.blitDoneNow
  rw [h]
  exact if_neg (ne_true_of_eq_false early)

/-- What an operation leaves of the poison that stood before it: the granules it read are counted and those it writes carry on what it read. -/
def State.blitPoisoned (s : State) (before : List Nat) (p : List Byte) : State :=
  let s := s.request (blitSpans p)
  if before = [] then s else
  let m := (blitMeets before p).foldl (fun s g => s.updPc (pcOf (256 * g)) fun c =>
    { c with poisonReads := (c.poisonReads + 1) % 0x100000000 }) s
  (blitPoison before p).foldl (fun s g => s.poison g) { m with fs := { m.fs with poisoned := blitClears before p } }

theorem State.blitDoneNow_ends {s : State} {b : Blit} {rest : List Blit} (h : s.compose.blits = b :: rest)
    (late : s.since s.compose.blitStart (blitTime b.payload s.compose.deadtimeNs s.compose.blitFrom) = true) :
    s.blitDoneNow = s.blitComplete.blitPoisoned s.fs.poisoned b.payload := by
  unfold State.blitDoneNow State.blitEnd
  rw [h]
  exact if_pos late

theorem blitsEndInOrder : Claim.BlitsEndInOrder := by
  unfold Claim.BlitsEndInOrder
  intro dt s b rest queued e n due done poison
  rw [exec_blit_done]
  refine ⟨fun early => ?_, fun late => ⟨fun silent => ?_, fun notify => ?_⟩⟩
  · exact State.act_eq (State.blitDoneNow_early (s := e) queued (State.since_elapse_false early))
  · refine State.act_eq ((State.blitDoneNow_ends (s := e) queued (State.since_elapse_true late)).trans ?_)
    exact congrArg (·.blitPoisoned e.fs.poisoned b.payload) (State.blitComplete_silent (s := e) queued silent)
  · refine State.act_eq ((State.blitDoneNow_ends (s := e) queued (State.since_elapse_true late)).trans ?_)
    exact congrArg (·.blitPoisoned e.fs.poisoned b.payload) (State.blitComplete_notifies (s := e) queued notify)

/-! ### The rows of ingest, the 2D engine and calibration -/

theorem ingestCommandsRun : Claim.IngestCommandsRun :=
  ⟨exec_queue_poll, exec_descriptor_placed, exec_fetch_resume, exec_decode_done, exec_drain_timeout, exec_blit_done, exec_bake_start,
    exec_bake_end, exec_cal_operation_end, exec_conceal_rebuild_end⟩

/-- Settles O37: a frame's turn and a running operation are decided by one search and one instant, and each outcome is a branch of its
definition. -/
theorem decodingAndBlits : Obligations.DecodingAndBlits :=
  ⟨framesAreDecodedOrLost, blitsEndInOrder, ingestCommandsRun⟩

end Sys2Proof.Machine
end

section
/-! PROOFS. The codes of the rays, the ray frames that take them with the kerf contexts beside them, and the RAY packets that carry them
(R22, R178, R179, R181, R187, R314, R338). -/

namespace Sys2Proof.Machine

open Sys2Proof

-- One proof at a time: each thread of the elaborator takes its stack out of the memory the check gives.
set_option Elab.async false

/-! ### The code of a drive fraction (R178) -/

/-- Of a property that holds below wherever it holds, exactly the numbers below their count have it. -/
theorem lt_length_filter_range {p : Nat → Bool} (down : ∀ a b, a ≤ b → p b = true → p a = true) (n N : Nat) :
    n < ((List.range N).filter p).length ↔ n < N ∧ p n = true := by
  induction N generalizing n with
  | zero => simp
  | succ N ih =>
    rw [List.range_succ, List.filter_append, List.length_append]
    cases top : p N with
    | true =>
      have all : ((List.range N).filter p).length = N := by
        rw [List.filter_eq_self.2 fun a ha => down a N (List.mem_range.1 ha).le top, List.length_range]
      have below : n < N + 1 → p n = true := fun h => down n N (Nat.lt_succ_iff.1 h) top
      simpa [top, all] using below
    | false =>
      have other : p n = true → n ≠ N := fun h e => by simp [e, top] at h
      have same : n < N ∧ p n = true ↔ n < N + 1 ∧ p n = true :=
        ⟨fun ⟨h, hp⟩ => ⟨by omega, hp⟩, fun ⟨h, hp⟩ => ⟨by have := other hp; omega, hp⟩⟩
      rw [← same, ← ih n, List.filter_singleton, top]
      rfl

/-- What the fifth power of a drive fraction reaches where its code lies above `n`: the twelfth power of (n + 1/2) / 1,023. -/
def codeStep (n : Nat) : Rat := ((2 * (n : Rat) + 1) / 2046) ^ 12

theorem codeStep_le {a b : Nat} (h : a ≤ b) : codeStep a ≤ codeStep b := by
  unfold codeStep
  gcongr

theorem codeStep_pos (n : Nat) : 0 < codeStep n := by
  unfold codeStep
  positivity

theorem codeStep_le_one {n : Nat} (h : n < 1023) : codeStep n ≤ 1 := by
  have bound : (n : Rat) ≤ 1022 := by exact_mod_cast (by omega : n ≤ 1022)
  refine pow_le_one₀ (by positivity) ?_
  linarith

/-- The code of a fraction counts the steps that the fraction, clamped, has reached: the model lists the numbers of the steps as fractions
already, here they are the numbers themselves. -/
theorem driveCode_eq (v : Rat) :
    driveCode v = ((List.range 1023).filter fun n => decide (codeStep n ≤ max 0 (min 1 v) ^ 5)).length := by
  simp only [driveCode, codeStep, List.bind_eq_flatMap, List.pure_def, ← List.map_eq_flatMap, List.filter_map, List.length_map,
    Function.comp_def]
  rfl

/-- Steps rise, so those a fraction has reached are the first ones. -/
theorem lt_driveCode_iff (v : Rat) (n : Nat) : n < driveCode v ↔ n < 1023 ∧ codeStep n ≤ max 0 (min 1 v) ^ 5 := by
  have down (a b : Nat) (h : a ≤ b) (hb : decide (codeStep b ≤ max 0 (min 1 v) ^ 5) = true) :
      decide (codeStep a ≤ max 0 (min 1 v) ^ 5) = true :=
    decide_eq_true ((codeStep_le h).trans (of_decide_eq_true hb))
  rw [driveCode_eq, lt_length_filter_range down, decide_eq_true_eq]

theorem driveCode_le (v : Rat) : driveCode v ≤ 1023 :=
  not_lt.1 fun above => lt_irrefl _ ((lt_driveCode_iff v 1023).1 above).1

theorem driveCode_rounds {v : Rat} (low : 0 ≤ v) (high : v ≤ 1) :
    (0 < driveCode v → ((2 * (driveCode v : Rat) - 1) / 2046) ^ 12 ≤ v ^ 5) ∧
    (driveCode v < 1023 → v ^ 5 < ((2 * (driveCode v : Rat) + 1) / 2046) ^ 12) := by
  have step (n : Nat) : n < driveCode v ↔ n < 1023 ∧ codeStep n ≤ v ^ 5 := by
    rw [lt_driveCode_iff, min_eq_right high, max_eq_right low]
  constructor
  · intro pos
    obtain ⟨n, hn⟩ := Nat.exists_eq_succ_of_ne_zero pos.ne'
    have reached : codeStep n ≤ v ^ 5 := ((step n).1 (by omega)).2
    have half : 2 * ((n + 1 : Nat) : Rat) - 1 = 2 * (n : Rat) + 1 := by push_cast; ring
    rw [hn, Nat.succ_eq_add_one, half]
    exact reached
  · intro below
    by_contra reached
    exact lt_irrefl _ ((step _).2 ⟨below, not_lt.1 reached⟩)

theorem driveCode_of_neg {v : Rat} (h : v < 0) : driveCode v = 0 := by
  by_contra pos
  have clamped : max 0 (min 1 v) = 0 := max_eq_left ((min_le_right ..).trans h.le)
  have reached := ((lt_driveCode_iff v 0).1 (Nat.pos_of_ne_zero pos)).2
  rw [clamped, zero_pow (by decide)] at reached
  exact absurd reached (not_le.2 (codeStep_pos 0))

theorem driveCode_of_one_lt {v : Rat} (h : 1 < v) : driveCode v = 1023 := by
  have clamped : max 0 (min 1 v) = 1 := by rw [min_eq_left h.le, max_eq_right zero_le_one]
  have above : 1022 < driveCode v := by
    rw [lt_driveCode_iff, clamped, one_pow]
    exact ⟨by decide, codeStep_le_one (by decide)⟩
  exact le_antisymm (driveCode_le v) above

/-! ### The word of a ray -/

theorem rayWord_lt (r g b : Nat) : rayWord r g b < 2 ^ 30 := by
  unfold rayWord
  omega

theorem rayWord_fields {r g b : Nat} (hr : r < 1024) (hg : g < 1024) (hb : b < 1024) :
    rayWord r g b / 2 ^ 20 = r ∧ rayWord r g b / 2 ^ 10 % 2 ^ 10 = g ∧ rayWord r g b % 2 ^ 10 = b := by
  unfold rayWord
  omega

theorem State.rayCode_failed {s : State} {j k r ch : Nat} (h : (s.stand j).cal.failedCh (rayHogel k r) (rayEmitter r) ch = true)
    (i : Nat) : s.rayCode i j k r ch = 0 := if_pos h

theorem State.rayCode_sound {s : State} {j k r ch : Nat} (h : (s.stand j).cal.failedCh (rayHogel k r) (rayEmitter r) ch = false)
    (i : Nat) : s.rayCode i j k r ch =
      min 1023 (driveCode ((s.rayDrive i j k r).getD ch 0) + Config.rayLatitude s.synth.window.num i k r ch % 3 - 1) :=
  if_neg (ne_true_of_eq_false h)

theorem State.rayCode_lt (s : State) (i j k r ch : Nat) : s.rayCode i j k r ch < 1024 := by
  cases h : (s.stand j).cal.failedCh (rayHogel k r) (rayEmitter r) ch with
  | true => rw [State.rayCode_failed h]; decide
  | false => rw [State.rayCode_sound h]; omega

/-- A channel that works gives the code of its drive fraction or one beside it (log entry 20). -/
theorem State.rayCode_near {s : State} {j k r ch : Nat} (h : (s.stand j).cal.failedCh (rayHogel k r) (rayEmitter r) ch = false)
    (i : Nat) :
    s.rayCode i j k r ch ≤ driveCode ((s.rayDrive i j k r).getD ch 0) + 1 ∧
    driveCode ((s.rayDrive i j k r).getD ch 0) ≤ s.rayCode i j k r ch + 1 := by
  have bound := driveCode_le ((s.rayDrive i j k r).getD ch 0)
  rw [State.rayCode_sound h]
  omega

theorem driveCodes : Claim.DriveCodes := by
  unfold Claim.DriveCodes
  refine ⟨fun s i j k r => ?_, fun v low high => ?_, fun v => ⟨driveCode_of_neg, driveCode_of_one_lt⟩⟩
  · obtain ⟨red, green, blue⟩ := rayWord_fields (s.rayCode_lt i j k r 0) (s.rayCode_lt i j k r 1) (s.rayCode_lt i j k r 2)
    exact ⟨rayWord_lt .., red, green, blue, fun ch _ => ⟨fun h => State.rayCode_failed h i, fun h => State.rayCode_near h i⟩⟩
  · exact ⟨driveCode_le v, driveCode_rounds low high⟩

/-! ### The words of a kerf in a ray frame (R338) -/

@[simp] theorem State.kerfWords_length (s : State) (i k state : Nat) : (s.kerfWords i k state).length = 512 := by
  unfold State.kerfWords
  split
  · rw [List.length_map, List.length_range]
  · exact List.length_replicate

theorem State.kerfWords_lt {s : State} {i k state w : Nat} (h : w ∈ s.kerfWords i k state) : w < 2 ^ 30 := by
  unfold State.kerfWords at h
  split at h
  · obtain ⟨m, -, rfl⟩ := List.mem_map.1 h
    exact rayWord_lt ..
  · rw [List.eq_of_mem_replicate h]
    decide

/-- Numbers of `w` bytes each take `w` bytes a number. -/
theorem length_flatMap_le (w : Nat) (l : List Nat) : (l.flatMap (le w)).length = w * l.length := by
  simp [List.length_flatMap, Nat.mul_comm]

@[simp] theorem State.kerfBytes_length (s : State) (i k state : Nat) : (s.kerfBytes i k state).length = 2048 := by
  unfold State.kerfBytes
  rw [length_flatMap_le, State.kerfWords_length]

/-- The bytes of the n-th of many words stand where n words end. -/
theorem slice_flatMap_le {l : List Nat} {n : Nat} (h : n < l.length) : slice (l.flatMap (le 4)) (4 * n) 4 = le 4 (l.getD n 0) := by
  have split : l.flatMap (le 4) = (l.take n).flatMap (le 4) ++ (le 4 (l.getD n 0) ++ (l.drop (n + 1)).flatMap (le 4)) := by
    rw [← List.flatMap_cons, ← List.flatMap_append, List.getD_eq_getElem _ _ h, List.getElem_cons_drop, List.take_append_drop]
  have start : ((l.take n).flatMap (le 4)).length = 4 * n := by rw [length_flatMap_le, List.length_take, min_eq_left h.le]
  rw [split, ← start]
  exact slice_append _ (le 4 (l.getD n 0)) _

/-- A number of four bytes reads back. -/
theorem u32_le {v : Nat} (h : v < 2 ^ 32) : u32 (le 4 v) 0 = v := by
  have read := uN_le 4 v [] []
  rw [List.append_nil, List.nil_append, List.length_nil, Nat.mod_eq_of_lt (h.trans_eq (by decide))] at read
  exact read

/-- Runs of bytes written one after the other leave alone what none of them covers. -/
theorem Mem.read_foldl_writes_out {addr : Nat → Nat} {bytes : Nat → List Byte} {a : Nat} (l : List Nat) (m : List Host.Cell)
    (out : ∀ x ∈ l, a < addr x ∨ addr x + (bytes x).length ≤ a) :
    Mem.read (l.foldl (fun m x => Mem.writes m (addr x) (bytes x)) m) a = Mem.read m a := by
  induction l generalizing m with
  | nil => rfl
  | cons x l ih =>
    rw [List.forall_mem_cons] at out
    rw [List.foldl_cons, ih _ out.2, Mem.read_writes_out _ _ out.1]

/-- Of runs of bytes written one after the other, one that no later one meets reads back. -/
theorem Mem.read_foldl_writes_in {addr : Nat → Nat} {bytes : Nat → List Byte} {l : List Nat} {m : List Host.Cell} {x i : Nat}
    (wf : Memory.wf m = true) (hx : x ∈ l) (hi : i < (bytes x).length)
    (apart : ∀ y ∈ l, y ≠ x → addr x + i < addr y ∨ addr y + (bytes y).length ≤ addr x + i) :
    Mem.read (l.foldl (fun m x => Mem.writes m (addr x) (bytes x)) m) (addr x + i) = (bytes x)[i] := by
  induction l generalizing m with
  | nil => cases hx
  | cons y l ih =>
    rw [List.forall_mem_cons] at apart
    rw [List.foldl_cons]
    by_cases later : x ∈ l
    · exact ih (Memory.wf_writes _ _ wf) later apart.2
    · obtain rfl : x = y := (List.mem_cons.1 hx).resolve_right later
      rw [Mem.read_foldl_writes_out l _ fun z hz => apart.2 z hz fun e => later (e ▸ hz)]
      exact Mem.read_writes_in (bytes x) (addr x) i hi wf

/-- The codes of a kerf for one steering state lie 16 MiB above those for the state before. -/
theorem Settings.rayAddr_state (c : Settings) (i frame state k : Nat) :
    c.rayAddr i frame state k = c.rayAddr i frame 0 k + 0x1000000 * state := by
  unfold Settings.rayAddr
  ring

theorem State.read_writeFrame_in (s : State) (c : Settings) (i k frame : Nat) {state n : Nat} {m : List Host.Cell}
    (wf : Memory.wf m = true) (hs : state < 4) (hn : n < 2048) :
    Mem.read (s.writeFrame c i k frame m) (c.rayAddr i frame state k + n) = byteAt (s.kerfBytes i k state) n := by
  have inside : n < (s.kerfBytes i k state).length := by rwa [State.kerfBytes_length]
  refine (Mem.read_foldl_writes_in wf (List.mem_range.2 hs) inside fun y _ ne => ?_).trans ?_
  · rw [State.kerfBytes_length, c.rayAddr_state i frame y, c.rayAddr_state i frame state]
    omega
  · exact (List.getD_eq_getElem _ _ inside).symm

theorem State.reads_writeFrame (s : State) (c : Settings) (i k frame : Nat) {state n : Nat} {m : List Host.Cell}
    (wf : Memory.wf m = true) (hs : state < 4) (hn : n < 512) :
    Mem.reads (s.writeFrame c i k frame m) (c.rayAddr i frame state k + 4 * n) 4 = le 4 ((s.kerfWords i k state).getD n 0) := by
  rw [← slice_flatMap_le (by rwa [State.kerfWords_length])]
  refine List.map_congr_left fun j hj => ?_
  have := List.mem_range.1 hj
  rw [Nat.add_assoc]
  exact s.read_writeFrame_in c i k frame wf hs (by omega)

theorem State.kerfWords_getD_lt (s : State) (i k state n : Nat) : (s.kerfWords i k state).getD n 0 < 2 ^ 32 := by
  by_cases h : n < (s.kerfWords i k state).length
  · rw [List.getD_eq_getElem _ _ h]
    exact (State.kerfWords_lt (List.getElem_mem h)).trans (by decide)
  · rw [List.getD_eq_default _ _ (not_lt.1 h)]
    decide

/-! ### Kerf contexts (R181, R187) -/

theorem State.writtenKerf_select (s : State) (i k : Nat) {x : Kerf} (h : x.select ≤ 1) :
    (s.writtenKerf i k x).select ≠ x.select ∧ (s.writtenKerf i k x).select ≤ 1 := by
  have flips : (s.writtenKerf i k x).select = 1 - x.select := rfl
  omega

/-- Between windows the frame store's memory takes only what bakes rewrite. -/
theorem State.elapse_mem_quiet {s : State} (h : s.synth.window.active = false) (dt : Nat) :
    (s.elapse dt).fs.mem = s.bakeWrites dt s.fs.mem := by
  simp [State.elapse, s.reelTo_quiet h]

theorem State.kerfRecord_length {s : State} {i k : Nat} (h : ((s.stand i).kerf k).insetGen.length = 3) : (s.kerfRecord i k).length = 64 := by
  unfold State.kerfRecord
  generalize (s.stand i).kerf k = x at h ⊢
  simp only [List.length_append, le_length, zeros_length, length_flatMap_le, h]

theorem kerfsGoToTheirFrame : Claim.KerfsGoToTheirFrame := by
  unfold Claim.KerfsGoToTheirFrame
  refine ⟨fun s c i k frame state n m wf hs hn => ?_, fun s c i k frame a m _ out => ?_, fun s i k x hx => ?_,
    fun s dt quiet => State.elapse_mem_quiet quiet dt, fun s i k h => State.kerfRecord_length h⟩
  · rw [s.reads_writeFrame c i k frame wf hs hn, u32_le (s.kerfWords_getD_lt i k state n)]
  · refine Mem.read_foldl_writes_out _ m fun state hs => ?_
    rw [State.kerfBytes_length]
    exact out state (List.mem_range.1 hs)
  · obtain ⟨flips, low⟩ := s.writtenKerf_select i k hx
    exact ⟨rfl, rfl, rfl, rfl, flips, low, rfl, rfl, rfl, rfl, rfl, rfl, rfl, rfl⟩

/-! ### RAY packets (R314) -/

/-- Placed side by side, codes of 30 bits are the digits of one number. -/
theorem packCodes_eq (l : List Nat) : packCodes l = le 1920 (Nat.ofDigits (2 ^ 30) (l.map (· % 2 ^ 30))) := by
  unfold packCodes
  rw [Nat.ofDigits_eq_sum_mapIdx, List.mapIdx_eq_zipIdx_map, List.zipIdx_map, List.map_map, List.sum_eq_foldl]
  simp only [Function.comp_def, Prod.map, ← pow_mul]
  rfl

/-- A digit of a number is what is left of it after the division by the power of its place. -/
theorem ofDigits_div_pow_mod {b : Nat} {l : List Nat} (h : ∀ d ∈ l, d < b) {n : Nat} (hn : n < l.length) :
    Nat.ofDigits b l / b ^ n % b = l[n] := by
  have digit : l[n] < b := h _ (List.getElem_mem hn)
  rw [Nat.ofDigits_div_pow_eq_ofDigits_drop n (by omega) l h, List.drop_eq_getElem_cons hn, Nat.ofDigits_cons,
    Nat.add_mul_mod_self_left, Nat.mod_eq_of_lt digit]

theorem packCodes_getD {l : List Nat} {n : Nat} (full : l.length = 512) (hn : n < 512) :
    uN (packCodes l) 0 1920 / 2 ^ (30 * n) % 2 ^ 30 = l.getD n 0 % 2 ^ 30 := by
  have small : ∀ d ∈ l.map (· % 2 ^ 30), d < 2 ^ 30 := by
    intro d hd
    obtain ⟨x, -, rfl⟩ := List.mem_map.1 hd
    exact Nat.mod_lt _ (by decide)
  have fits : Nat.ofDigits (2 ^ 30) (l.map (· % 2 ^ 30)) < 256 ^ 1920 := by
    have room : ((2 ^ 30) ^ 512 : Nat) = 256 ^ 1920 := by rw [← pow_mul, show (256 : Nat) = 2 ^ 8 from rfl, ← pow_mul]
    have := Nat.ofDigits_lt_base_pow_length (by decide) small
    rwa [List.length_map, full, room] at this
  have whole := uN_le 1920 (Nat.ofDigits (2 ^ 30) (l.map (· % 2 ^ 30))) [] []
  rw [List.append_nil, List.nil_append, List.length_nil, Nat.mod_eq_of_lt fits, ← packCodes_eq] at whole
  have place : n < (l.map (· % 2 ^ 30)).length := by rw [List.length_map]; omega
  rw [whole, pow_mul, ofDigits_div_pow_mod small place, List.getElem_map, List.getD_eq_getElem]

theorem levelCode_eq {level : Nat} (h : level < 1024) : levelCode level = level * 2 ^ 20 + level * 2 ^ 10 + level := by
  unfold levelCode rayWord
  omega

theorem State.scanCodes_level (s : State) (i k sub tick level : Nat) {n : Nat} (hn : n < 512) :
    (s.scanCodes i k sub tick (some level)).getD n 0 = levelCode level := by
  unfold State.scanCodes
  rw [List.getD_replicate _ hn]

/-- What scan-out start latched of a kerf: whether it was VALID, and the ray frame that its bit named (R22, R188). -/
def State.kerfLatch (s : State) (i k : Nat) : Bool × Nat :=
  let bits := s.scanLatch.getD i []
  lookupD bits k (lookupD bits 8192 (false, 0))

theorem State.scanCodes_invalid {s : State} {i k : Nat} (h : (s.kerfLatch i k).1 = false) (sub tick : Nat) :
    s.scanCodes i k sub tick none = List.replicate 512 0 :=
  if_pos (congrArg not h)

theorem State.scanCodes_valid {s : State} {i k : Nat} (h : (s.kerfLatch i k).1 = true) (sub tick : Nat) {n : Nat} (hn : n < 512) :
    (s.scanCodes i k sub tick none).getD n 0 =
      let a := (s.shownFrames s.synth.scanCfg tick).rayAddr i (s.kerfLatch i k).2 sub k
      if s.isPoisoned (a + 4 * n) then 0 else u32 (Mem.reads s.fs.mem (a + 4 * n) 4) 0 % 2 ^ 30 := by
  have shown : ¬(!(s.kerfLatch i k).1) = true := by simp [h]
  refine (congrArg (List.getD · n 0) (if_neg shown)).trans ?_
  rw [List.getD_eq_getElem _ _ (by rwa [List.length_map, List.length_range]), List.getElem_map, List.getElem_range]
  rfl

theorem State.rayBody_length (s : State) (i k sub tick : Nat) (level : Option Nat) : (s.rayBody i k sub tick level).length = 1933 := by
  simp [State.rayBody, packCodes]

theorem rayPacketsCarryTheCodes : Claim.RayPacketsCarryTheCodes := by
  unfold Claim.RayPacketsCarryTheCodes
  refine ⟨fun l n full hn => ⟨le_length .., packCodes_getD full hn⟩, State.rayBody_length, fun s i k sub tick => ?_⟩
  refine ⟨fun invalid n => ?_, fun valid n hn => ⟨fun poisoned => ?_, fun sound => ?_⟩, fun level n hl hn => ?_⟩
  · rw [State.scanCodes_invalid invalid]
    exact List.getElem?_getD_replicate_default_eq ..
  · exact (State.scanCodes_valid valid sub tick hn).trans (if_pos poisoned)
  · exact (State.scanCodes_valid valid sub tick hn).trans (if_neg (ne_true_of_eq_false sound))
  · rw [s.scanCodes_level i k sub tick level hn, levelCode_eq hl]

/-- Settles O60: a code is the number of steps its fraction has reached, a kerf's four runs of bytes lie 16 MiB apart, and the codes of a
packet are the digits of one number to the base 2^30. -/
theorem rayCodes : Obligations.RayCodes :=
  ⟨driveCodes, kerfsGoToTheirFrame, rayPacketsCarryTheCodes⟩

end Sys2Proof.Machine
end


section
/-! PROOFS. Bakes start and end, calibration operations end with their results, and the entries of a stand's fault lists are rebuilt
(R222, R225, R227, R231, R232, R243, R245; log entries 30, 31, 128). -/

namespace Sys2Proof.Machine

/-! ### Bakes -/

/-- A die that is supervised, out of Hold, with its store up and no bake running starts the first queued bake that may run (R227). -/
theorem State.bakeStarts_first {s : State} {die i : Nat} (served : (s.supervisor die).isSome = true) (mode : s.modes.mode ≠ 6)
    (up : s.fs.avail.getD die false = true) (free : ∀ k < s.stands.length, s.dieOfStand k = die → (s.stand k).cal.baking = none)
    (first : (s.bakeQueue.find? fun k => s.dieOfStand k == die && !(s.stand k).cal.holdsBake &&
      (s.stand k).temp.isSome && !(s.stand k).tempLost) = some i) :
    s.bakeStarts die = { s.updCal i fun c => { c with baking := (s.stand i).temp, bakeFrom := s.clock.up } with
      bakeQueue := s.bakeQueue.filter (· != i) } := by
  have idle : (((List.range s.stands.length).filter fun k => s.dieOfStand k == die).any fun k => (s.stand k).cal.baking.isSome) = false := by
    refine List.any_eq_false.2 fun k mine => ?_
    obtain ⟨known, here⟩ := List.mem_filter.1 mine
    rw [free k (List.mem_range.1 known) (beq_iff_eq.1 here)]
    decide
  unfold State.bakeStarts State.bakeStart
  rw [if_pos served]
  dsimp only
  rw [if_neg (by rw [idle, up]; simp [mode]), first]

/-- What the end of a bake leaves before the operations that waited for it: the live set whole, its generation, and EV_CAL_REBAKE (R227, R228). -/
def State.baked (s : State) (i : Nat) (t : Int) : State :=
  let left := s.bakeHogels i t (fun h => s.clock.up < s.bakeAt i h) s.fs.mem
  ((({ s with fs := { s.fs with mem := left } } : State).updCal i
    fun c => { c with baking := none, bakeT := some t, liveGen := (c.liveGen + 1) % 65536, mixed := false }).raise evCalRebake i [p32 t]).bakeOnTemp i

/-- A load of Bring-up or admission whose block is taken waits for the bake (R232). -/
def Cal.awaitsBake (c : Cal) : Prop := (c.op = 4 ∨ c.op = 5) ∧ c.opParams.length = 2

/-- A bake that ends frees the live set of poison and wakes the stack IDs that hold it and the sets (R348, R358). -/
theorem State.bakeEnds_baking {s : State} {i : Nat} {t : Int} (h : (s.stand i).cal.baking = some t) :
    s.bakeEnds i = ((s.bakeEnd i).rewritten (s.settings.liveAddr i) setBytes).request
      [(s.settings.setsAddr i, 4 * setBytes), (s.settings.liveAddr i, setBytes)] := by
  unfold State.bakeEnds
  exact if_neg (by simp [h])

theorem State.bakeEnd_free {s : State} {i : Nat} {t : Int} (h : (s.stand i).cal.baking = some t) (free : ¬((s.baked i t).stand i).cal.awaitsBake) :
    s.bakeEnd i = ((s.baked i t).updCal i Cal.unpark).askMemory i := by
  unfold State.bakeEnd
  rw [h]
  exact if_neg free

theorem State.bakeEnd_awaited {s : State} {i : Nat} {t : Int} (h : (s.stand i).cal.baking = some t) (waits : ((s.baked i t).stand i).cal.awaitsBake) :
    s.bakeEnd i = ((s.baked i t).updStand i fun st => { st with loaded := true }).calDone i 0 := by
  unfold State.bakeEnd
  rw [h]
  exact if_pos waits

theorem bakesRun : Claim.BakesRun := by
  unfold Claim.BakesRun
  constructor
  · intro dt i die s served mode up free first
    rw [exec_bake_start]
    exact State.act_eq (State.bakeStarts_first (s := s.elapse dt) served mode up free first)
  · intro dt i t s baking e left a waited freed
    have ends := State.bakeEnds_baking (s := e) baking
    rw [exec_bake_end]
    constructor
    · intro free
      exact State.act_eq (ends.trans (congrArg freed (State.bakeEnd_free (s := e) baking free)))
    · intro waits
      exact State.act_eq (ends.trans (congrArg freed (State.bakeEnd_awaited (s := e) baking waits)))

/-! ### Calibration operations -/

/-- The stand that an operation is for is gone (R438). -/
def Stand.gone (st : Stand) : Bool := st.removed && !st.seen

/-- An operation that can end now: it runs, and neither a bake nor its own wait for one holds it (R232). -/
structure Cal.CanEnd (c : Cal) : Prop where
  runs : c.op ≠ 0
  unbaked : c.baking = none
  unwaiting : ¬c.awaitsBake

/-- Only a load of Bring-up or admission waits for a bake. -/
theorem Cal.CanEnd.of_op {c : Cal} (unbaked : c.baking = none) (op : c.op = 1 ∨ c.op = 2 ∨ c.op = 3) : c.CanEnd :=
  ⟨by omega, unbaked, fun waits => by have := waits.1; omega⟩

/-- The guard of the model for the end of an operation lets one that can end pass. -/
theorem Cal.CanEnd.guard {c : Cal} (h : c.CanEnd) : ¬(c.op = 0 ∨ c.baking.isSome ∨ ((c.op = 4 ∨ c.op = 5) ∧ c.opParams.length = 2)) := by
  rintro (idle | bakes | waits)
  · exact h.runs idle
  · simp [h.unbaked] at bakes
  · exact h.unwaiting waits

/-- The same guard where poison is cleared behind the operation. -/
theorem Cal.CanEnd.guard_false {c : Cal} (h : c.CanEnd) :
    (c.op == 0 || c.baking.isSome || ((c.op == 4 || c.op == 5) && c.opParams.length == 2)) = false :=
  Bool.eq_false_iff.2 fun waits => h.guard (by simpa [or_assoc] using waits)

/-- A load takes its block from the frame store, not from the stand's memory (R232). -/
def Cal.fromStore (c : Cal) : Bool := c.op == 1 && u8 c.opParams 2 != 0

/-- The header of the block that a load checks (R229). -/
def State.loadHead (s : State) (i : Nat) (header : List Byte) (cells : List Host.Cell) : List Byte :=
  let c := (s.stand i).cal
  if c.fromStore then Mem.reads s.fs.mem (u64 c.opParams 8) 64 else (c.block header cells).1

/-- The payload of the block that a load checks (R229). -/
def State.loadBody (s : State) (i : Nat) (header : List Byte) (cells : List Host.Cell) : List Host.Cell :=
  let c := (s.stand i).cal
  if c.fromStore then Mem.spanOf s.fs.mem (u64 c.opParams 8 + 64) (u32 (s.loadHead i header cells) 28) else (c.block header cells).2

/-- The block of a load can come: its stand is there, and its link is up where the stand's memory holds the block (R232). -/
def State.loadCame (s : State) (i : Nat) : Bool :=
  !(s.stand i).gone && ((s.stand i).cal.fromStore || s.linkUp (s.standCfg i).link)

theorem Cal.fromStore_of_memory {c : Cal} (h : u8 c.opParams 2 = 0) : c.fromStore = false := by
  simp [Cal.fromStore, h]

theorem State.loadCame_unlinked {s : State} {i : Nat} (memory : (s.stand i).cal.fromStore = false)
    (down : s.linkUp (s.standCfg i).link = false) : s.loadCame i = false := by
  simp [State.loadCame, memory, down]

theorem State.loadCame_of {s : State} {i : Nat} (here : (s.stand i).gone = false)
    (came : (s.stand i).cal.fromStore = true ∨ s.linkUp (s.standCfg i).link = true) : s.loadCame i = true := by
  simpa [State.loadCame, here] using came

theorem State.loadCame_here {s : State} {i : Nat} (came : s.loadCame i = true) : (s.stand i).gone = false := by
  unfold State.loadCame at came
  simpa using (Bool.and_eq_true_iff.1 came).1

theorem State.loadCame_linked {s : State} {i : Nat} (came : s.loadCame i = true) (memory : (s.stand i).cal.fromStore = false) :
    s.linkUp (s.standCfg i).link = true := by
  unfold State.loadCame at came
  simpa [memory] using (Bool.and_eq_true_iff.1 came).2

/-- A load adopts the T values of its block: a CAL.LOAD with that flag, any other load always (R230). -/
def Cal.adopts (c : Cal) : Bool := c.op != 1 || bitOf (u8 c.opParams 3) 0

/-- The checks of a load on the block that came (R230). -/
def State.loadResult (s : State) (i : Nat) (header : List Byte) (cells : List Host.Cell) : Nat :=
  s.blockResult i (s.loadHead i header cells) (s.loadBody i header cells) (s.stand i).cal.adopts

/-- The block that came, taken into the stand (R230). -/
def State.loadTaken (s : State) (i : Nat) (header : List Byte) (cells : List Host.Cell) (reset : Bool) : State :=
  s.takeBlock i (s.loadHead i header cells) (s.loadBody i header cells) (s.stand i).cal.adopts reset

/-- The data of a calibration operation: the four sets and the live set of its stand. -/
def State.calSpans (s : State) (i : Nat) : List (Nat × Nat) :=
  [(s.settings.setsAddr i, 4 * setBytes), (s.settings.liveAddr i, setBytes)]

/-- The sets that a block has replaced whole lose their poison (R358). -/
def State.setsRewritten (t : State) (c : Settings) (i : Nat) (head : List Byte) : State :=
  match u8 head 6 with
  | 0 => t.rewritten (c.setsAddr i) (4 * setBytes)
  | 1 => t.rewritten (c.setAddr i (u8 head 7)) setBytes
  | _ => t

section
variable {s : State} {i : Nat} {header : List Byte} {cells : List Host.Cell}

/-! #### What the operation itself does -/

theorem State.calOpEnd_gone (can : (s.stand i).cal.CanEnd) (gone : (s.stand i).gone = true) :
    s.calOpEnd i header cells = if (s.stand i).cal.op = 2 then s.stopMeasure i (s.clock.tick + 2) 6 else s.calDone i 6 := by
  unfold State.calOpEnd
  exact (if_neg can.guard).trans (if_pos (by simpa [Stand.gone] using gone))

theorem Stand.not_gone {st : Stand} (here : st.gone = false) : ¬(st.removed ∧ !st.seen) := by
  simpa [Stand.gone] using here

theorem State.calOpEnd_measure (can : (s.stand i).cal.CanEnd) (here : (s.stand i).gone = false) (op : (s.stand i).cal.op = 2) :
    s.calOpEnd i header cells =
      if (s.stand i).cal.passLeft = 0 then s.calDone i 0
      else if !s.linkUp (s.standCfg i).link then s.stopMeasure i (s.clock.tick + 2) 5 else s := by
  unfold State.calOpEnd
  refine (if_neg can.guard).trans ((if_neg (Stand.not_gone here)).trans ?_)
  rw [op]
  rfl

theorem State.calOpEnd_read (can : (s.stand i).cal.CanEnd) (here : (s.stand i).gone = false) (op : (s.stand i).cal.op = 3) :
    s.calOpEnd i header cells = (s.writeBlock i (s.stand i).cal.opParams).calDone i 0 := by
  unfold State.calOpEnd
  refine (if_neg can.guard).trans ((if_neg (Stand.not_gone here)).trans ?_)
  rw [op]
  rfl

theorem State.calOpEnd_load (can : (s.stand i).cal.CanEnd) (here : (s.stand i).gone = false) (op : (s.stand i).cal.op = 1) :
    s.calOpEnd i header cells =
      if s.loadCame i then
        let r := s.loadResult i header cells
        (if r = 0 then s.loadTaken i header cells (bitOf (u8 (s.stand i).cal.opParams 3) 1) else s).calDone i r
      else s.calDone i 5 := by
  unfold State.calOpEnd
  refine (if_neg can.guard).trans ((if_neg (Stand.not_gone here)).trans ?_)
  rw [op]
  by_cases memory : u8 (s.stand i).cal.opParams 2 = 0
  · cases up : s.linkUp (s.standCfg i).link
    · simp [State.loadCame, Cal.fromStore, here, memory, up]
    · simp [State.loadCame, State.loadResult, State.loadTaken, State.loadHead, State.loadBody, Cal.fromStore, Cal.adopts, here, op, memory, up]
  · simp [State.loadCame, State.loadResult, State.loadTaken, State.loadHead, State.loadBody, Cal.fromStore, Cal.adopts, here, op, memory]

theorem State.loadHead_memory (memory : (s.stand i).cal.fromStore = false) :
    s.loadHead i header cells = ((s.stand i).cal.block header cells).1 := if_neg (ne_true_of_eq_false memory)

theorem State.loadBody_memory (memory : (s.stand i).cal.fromStore = false) :
    s.loadBody i header cells = ((s.stand i).cal.block header cells).2 := if_neg (ne_true_of_eq_false memory)

/-- Bring-up and an admission load from the stand's memory and adopt the T values. -/
theorem Cal.admission_load {c : Cal} (op : c.op = 4 ∨ c.op = 5) : c.fromStore = false ∧ c.adopts = true := by
  obtain op | op := op <;> simp [Cal.fromStore, Cal.adopts, op]

theorem State.calOpEnd_admission (can : (s.stand i).cal.CanEnd) (here : (s.stand i).gone = false)
    (op : (s.stand i).cal.op = 4 ∨ (s.stand i).cal.op = 5) (up : s.linkUp (s.standCfg i).link = true) :
    s.calOpEnd i header cells =
      let p := (s.stand i).cal.opParams
      let r := s.loadResult i header cells
      if r = 0 then (s.loadTaken i header cells (bitOf (u8 p 0) 1)).updCal i fun c => { c with opParams := [0, byteAt p 0] }
      else s.calDone i r := by
  obtain ⟨memory, adopts⟩ := Cal.admission_load op
  have shut : ¬(!s.linkUp (s.standCfg i).link) = true := by simp [up]
  unfold State.loadResult State.loadTaken
  rw [State.loadHead_memory memory, State.loadBody_memory memory, adopts]
  unfold State.calOpEnd
  refine (if_neg can.guard).trans ((if_neg (Stand.not_gone here)).trans ?_)
  dsimp only
  split
  case h_1 other | h_2 other | h_3 other => omega
  case h_4 =>
    rw [if_neg shut]
    split
    next good => rfl
    next bad => rfl

/-! #### What it leaves of poison and power-down -/

theorem State.calOpEnds_measure (can : (s.stand i).cal.CanEnd) (op : (s.stand i).cal.op = 2) :
    s.calOpEnds i header cells = (s.calOpEnd i header cells).request [] := by
  unfold State.calOpEnds
  refine (if_neg (ne_true_of_eq_false can.guard_false)).trans ?_
  rw [op]
  rfl

/-- The spans that an operation other than a measurement asked for. -/
theorem State.calSpans_of_op (runs : (s.stand i).cal.op ≠ 0) (other : (s.stand i).cal.op ≠ 2) :
    (if (s.stand i).cal.op = 0 ∨ (s.stand i).cal.op = 2 then [] else
      [(s.settings.setsAddr i, 4 * setBytes), (s.settings.liveAddr i, setBytes)]) = s.calSpans i :=
  if_neg (by omega)

theorem State.calOpEnds_read (can : (s.stand i).cal.CanEnd) (here : (s.stand i).gone = false) (op : (s.stand i).cal.op = 3) :
    s.calOpEnds i header cells =
      let a := u64 (s.stand i).cal.opParams 8
      let t := (s.calOpEnd i header cells).request (s.calSpans i)
      t.rewritten a (64 + u32 (Mem.reads t.fs.mem a 64) 28) := by
  unfold State.calOpEnds
  refine (if_neg (ne_true_of_eq_false can.guard_false)).trans ?_
  rw [op]
  exact if_neg (Stand.not_gone here)

theorem State.calOpEnds_load (can : (s.stand i).cal.CanEnd)
    (op : (s.stand i).cal.op = 1 ∨ (s.stand i).cal.op = 4 ∨ (s.stand i).cal.op = 5) :
    s.calOpEnds i header cells =
      let t := (s.calOpEnd i header cells).request (s.calSpans i)
      if (s.loadCame i && s.loadResult i header cells == 0) = true then t.setsRewritten s.settings i (s.loadHead i header cells) else t := by
  rw [← State.calSpans_of_op can.runs (by omega)]
  unfold State.calOpEnds
  refine (if_neg (ne_true_of_eq_false can.guard_false)).trans ?_
  dsimp only
  split
  case h_1 => omega
  case h_2 | h_3 | h_4 =>
    cases taken : s.loadCame i && s.loadResult i header cells == 0
    · exact if_pos (congrArg not taken)
    · exact if_neg (ne_true_of_eq_false (congrArg not taken))
  case h_5 notRead notLoad notBring notAdmit =>
    obtain op | op | op := op
    · exact (notLoad op).elim
    · exact (notBring op).elim
    · exact (notAdmit op).elim

theorem State.calOpEnds_gone (can : (s.stand i).cal.CanEnd) (gone : (s.stand i).gone = true)
    (op : (s.stand i).cal.op = 1 ∨ (s.stand i).cal.op = 3) :
    s.calOpEnds i header cells = (s.calOpEnd i header cells).request (s.calSpans i) := by
  obtain op | op := op
  · exact (State.calOpEnds_load can (.inl op)).trans (if_neg (by simp [State.loadCame, gone]))
  · rw [← State.calSpans_of_op can.runs (by omega)]
    unfold State.calOpEnds
    refine (if_neg (ne_true_of_eq_false can.guard_false)).trans ?_
    rw [op]
    exact if_pos (by simpa [Stand.gone] using gone)

/-! #### Loads that are taken and loads that are not -/

theorem State.calOpEnd_load_taken (can : (s.stand i).cal.CanEnd) (op : (s.stand i).cal.op = 1) (came : s.loadCame i = true)
    (good : s.loadResult i header cells = 0) :
    s.calOpEnd i header cells = (s.loadTaken i header cells (bitOf (u8 (s.stand i).cal.opParams 3) 1)).calDone i 0 := by
  rw [State.calOpEnd_load can (State.loadCame_here came) op, if_pos came, good]
  rfl

theorem State.calOpEnd_admission_taken (can : (s.stand i).cal.CanEnd) (op : (s.stand i).cal.op = 4 ∨ (s.stand i).cal.op = 5)
    (came : s.loadCame i = true) (good : s.loadResult i header cells = 0) :
    s.calOpEnd i header cells = (s.loadTaken i header cells (bitOf (u8 (s.stand i).cal.opParams 0) 1)).updCal i
      fun c => { c with opParams := [0, byteAt (s.stand i).cal.opParams 0] } :=
  (State.calOpEnd_admission can (State.loadCame_here came) op (State.loadCame_linked came (Cal.admission_load op).1)).trans (if_pos good)

theorem State.calOpEnd_refused (can : (s.stand i).cal.CanEnd)
    (op : (s.stand i).cal.op = 1 ∨ (s.stand i).cal.op = 4 ∨ (s.stand i).cal.op = 5) (came : s.loadCame i = true)
    (bad : s.loadResult i header cells ≠ 0) :
    s.calOpEnd i header cells = s.calDone i (s.loadResult i header cells) := by
  obtain op | op := op
  · rw [State.calOpEnd_load can (State.loadCame_here came) op, if_pos came]
    exact congrArg (State.calDone · i _) (if_neg bad)
  · exact (State.calOpEnd_admission can (State.loadCame_here came) op (State.loadCame_linked came (Cal.admission_load op).1)).trans (if_neg bad)

theorem State.calOpEnds_taken (can : (s.stand i).cal.CanEnd)
    (op : (s.stand i).cal.op = 1 ∨ (s.stand i).cal.op = 4 ∨ (s.stand i).cal.op = 5) (came : s.loadCame i = true)
    (good : s.loadResult i header cells = 0) :
    s.calOpEnds i header cells =
      ((s.calOpEnd i header cells).request (s.calSpans i)).setsRewritten s.settings i (s.loadHead i header cells) :=
  (State.calOpEnds_load can op).trans (if_pos (by rw [came, good]; rfl))

theorem State.calOpEnds_refused (can : (s.stand i).cal.CanEnd)
    (op : (s.stand i).cal.op = 1 ∨ (s.stand i).cal.op = 4 ∨ (s.stand i).cal.op = 5) (bad : s.loadResult i header cells ≠ 0) :
    s.calOpEnds i header cells = (s.calOpEnd i header cells).request (s.calSpans i) :=
  (State.calOpEnds_load can op).trans (if_neg (by simp [bad]))

end

theorem Cal.adopts_load {c : Cal} (op : c.op = 1) : c.adopts = bitOf (u8 c.opParams 3) 0 := by
  simp [Cal.adopts, op]

theorem calibrationOperationsEnd : Claim.CalibrationOperationsEnd := by
  unfold Claim.CalibrationOperationsEnd
  intro dt i header cells s st p e gone run freed unbaked
  have ends {t : State} (h : e.calOpEnds i header cells = t) : run = .next (s.ended t) :=
    (exec_cal_operation_end ..).trans (State.act_eq h)
  have asked (other : st.cal.op ≠ 2) (t : State) : freed t = t.request (e.calSpans i) := congrArg t.request (if_neg other)
  have quiet (measure : st.cal.op = 2) (t : State) : freed t = t.request [] := congrArg t.request (if_pos measure)
  have can (op : st.cal.op = 1 ∨ st.cal.op = 2 ∨ st.cal.op = 3) : (e.stand i).cal.CanEnd := .of_op unbaked op
  refine ⟨fun op here => ends ?_, fun op here all => ends ?_, fun op left => ends ?_, fun op left => ends ?_, fun op here more down => ends ?_,
    fun op here memory down => ends ?_, ?_⟩
  · rw [State.calOpEnds_read (can (by omega)) here op, State.calOpEnd_read (can (by omega)) here op, asked (by omega)]
    rfl
  · rw [State.calOpEnds_measure (can (by omega)) op, State.calOpEnd_measure (can (by omega)) here op, quiet op]
    exact congrArg (State.request · []) (if_pos all)
  · have other : st.cal.op ≠ 2 := by omega
    rw [State.calOpEnds_gone (can (by omega)) left op, State.calOpEnd_gone (can (by omega)) left, asked other]
    exact congrArg (State.request · (e.calSpans i)) (if_neg other)
  · rw [State.calOpEnds_measure (can (by omega)) op, State.calOpEnd_gone (can (by omega)) left, quiet op]
    exact congrArg (State.request · []) (if_pos op)
  · rw [State.calOpEnds_measure (can (by omega)) op, State.calOpEnd_measure (can (by omega)) here op, quiet op]
    exact congrArg (State.request · []) ((if_neg more).trans (if_pos (congrArg not down)))
  · have stays : e.loadCame i = false := State.loadCame_unlinked (Cal.fromStore_of_memory memory) down
    rw [State.calOpEnds_load (can (by omega)) (.inl op), State.calOpEnd_load (can (by omega)) here op, asked (by omega), stays]
    rfl
  · intro store h body clear here came
    have comes : e.loadCame i = true := State.loadCame_of here came
    have refused (op : st.cal.op = 1 ∨ st.cal.op = 4 ∨ st.cal.op = 5) (can : (e.stand i).cal.CanEnd) (bad : e.loadResult i header cells ≠ 0) :
        run = .next (s.ended (freed (e.calDone i (e.loadResult i header cells)))) := by
      rw [asked (by omega), ← State.calOpEnd_refused can op comes bad]
      exact ends (State.calOpEnds_refused can op bad)
    have taken (op : st.cal.op = 1 ∨ st.cal.op = 4 ∨ st.cal.op = 5) (can : (e.stand i).cal.CanEnd) (good : e.loadResult i header cells = 0)
        {t : State} (h : e.calOpEnd i header cells = t) : run = .next (s.ended (clear (freed t))) := by
      rw [asked (by omega), ← h]
      exact ends (State.calOpEnds_taken can op comes good)
    refine ⟨fun op => ?_, fun op waits => ?_⟩
    · have adopts : st.cal.adopts = bitOf (u8 p 3) 0 := Cal.adopts_load op
      have result : e.loadResult i header cells = s.blockResult i h body (bitOf (u8 p 3) 0) := congrArg (s.blockResult i h body) adopts
      have block := congrArg (e.takeBlock i h body · (bitOf (u8 p 3) 1)) adopts
      rw [← result]
      exact ⟨fun good => taken (.inl op) (can (.inl op)) good
        ((State.calOpEnd_load_taken (can (.inl op)) op comes good).trans (congrArg (State.calDone · i 0) block)),
        refused (.inl op) (can (.inl op))⟩
    · have adopts : st.cal.adopts = true := (Cal.admission_load op).2
      have can : (e.stand i).cal.CanEnd := ⟨by show st.cal.op ≠ 0; omega, unbaked, fun wait => waits wait.2⟩
      have result : e.loadResult i header cells = s.blockResult i h body true := congrArg (s.blockResult i h body) adopts
      have block := congrArg (e.takeBlock i h body · (bitOf (u8 p 0) 1)) adopts
      rw [← result]
      exact ⟨fun good => taken (.inr op) can good ((State.calOpEnd_admission_taken can op comes good).trans
        (congrArg (State.updCal · i fun c => { c with opParams := [0, byteAt p 0] }) block)), refused (.inr op) can⟩

/-! ### Concealment -/

/-- What a fault list is concealed by depends on nothing else of the calibration state (R244, R246). -/
theorem Cal.buildEntries_congr {c d : Cal} (h : c.faults = d.faults) (room : Nat) : c.buildEntries room = d.buildEntries room := by
  have covers : c.entriesOf = d.entriesOf := funext fun f => by
    simp only [Cal.entriesOf, Cal.hogelReceivers, Cal.emReceivers, Cal.failedHogel, Cal.failedCh, h]
  unfold Cal.buildEntries
  rw [covers, h]

@[simp] theorem State.raise_stands (s : State) (code unit : Nat) (ps : List Nat) (tag txn : Word) :
    (s.raise code unit ps tag txn).stands = s.stands := by
  obtain ⟨rings, out, held, owed, ports, pba, tick, merged, fired, h, -⟩ := s.raise_cases code unit ps tag txn
  rw [h]

/-- A rebuild that ends: its entries are ready, made under `room` from the fault list that asked for it (R243). -/
def Rebuild.finished (room : Nat) (q : Rebuild) : Rebuild :=
  if q.ready then q else { q with ready := true, entries := (({ faults := q.faults } : Cal).buildEntries room).1 }

theorem Rebuild.finished_eq (c : Cal) (room : Nat) (q : Rebuild) : q.finished room = if q.ready then q else
    { q with ready := true, entries := (({ c with faults := q.faults } : Cal).buildEntries room).1 } := by
  unfold Rebuild.finished
  rw [Cal.buildEntries_congr (c := { faults := q.faults }) (d := { c with faults := q.faults }) rfl]

/-- The first `k` rebuilds of stand `i` have ended between two states, and nothing that the rest are made from has changed. -/
structure State.RebuiltTo (s : State) (i k : Nat) (t : State) : Prop where
  settings : t.settings = s.settings
  known : t.stands.length = s.stands.length
  others : ∀ j, j ≠ i → t.stand j = s.stand j
  entries : (t.stand i).cal.entries = (s.stand i).cal.entries
  rebuilds : (t.stand i).cal.rebuilds = (s.stand i).cal.rebuilds.mapIdx fun n (q : Rebuild) =>
    if n < k then q.finished (1048576 - s.entriesElsewhere i) else q

/-- The room that the other stands of a die leave a stand stays as its own rebuilds end. -/
theorem State.RebuiltTo.entriesElsewhere {s t : State} {i k : Nat} (h : s.RebuiltTo i k t) : t.entriesElsewhere i = s.entriesElsewhere i := by
  have die (j : Nat) : t.dieOfStand j = s.dieOfStand j := congrArg (fun c : Settings => dieOfLink (c.stands.getD j {}).link) h.settings
  unfold State.entriesElsewhere
  simp only [h.known, die]
  refine congrArg (List.foldl (· + ·) 0) (List.map_congr_left fun j others => ?_)
  rw [h.others j (by simp at others; exact others.2.1)]

/-- A stand changed reads as changed. -/
theorem State.stand_updStand_self {s : State} {n : Nat} (f : Stand → Stand) (h : n < s.stands.length) :
    (s.updStand n f).stand n = f (s.stand n) := upd_getD_self f {} h

/-- Changes that agree on the entry they change are one. -/
theorem upd_congr {α : Type} {l : List α} {n : Nat} {f g : α → α} (d : α) (h : n < l.length → f (l.getD n d) = g (l.getD n d)) :
    upd l n f = upd l n g := by
  refine List.ext_getElem? fun k => ?_
  simp only [upd, List.getElem?_modify]
  by_cases here : n = k
  · subst here
    cases entry : l[n]? with
    | none => rfl
    | some a => simpa [List.getD_eq_getElem?_getD, entry] using h (List.getElem?_eq_some_iff.1 entry).1
  · simp [here]

/-- A rebuild that is ended already, or that is none, is not ended again. -/
theorem State.rebuildOne_idle {s : State} {i n : Nat} (h : ((s.stand i).cal.rebuilds.getD n {}).ready = true ∨ (s.stand i).cal.rebuilds.length ≤ n) :
    s.rebuildOne i n = s := if_pos h

/-- A rebuild ends with entries and with the breaches that its fault list involves. -/
def Cal.endRebuild (c : Cal) (n : Nat) (entries : List (Nat × Nat × Nat × Nat)) (breaches : List (Nat × Nat)) : Cal :=
  { c with rebuilds := upd c.rebuilds n fun (q : Rebuild) => { q with ready := true, entries := entries }, breaches := breaches }

/-- One rebuild that ends changes its stand's calibration state; the events of R248 change no stand and no setting. -/
theorem State.rebuildOne_due {s : State} {i n : Nat}
    (h : ¬(((s.stand i).cal.rebuilds.getD n {}).ready = true ∨ (s.stand i).cal.rebuilds.length ≤ n)) :
    let q := (s.stand i).cal.rebuilds.getD n {}
    ∃ b, (s.rebuildOne i n).stands =
        (s.updCal i (·.endRebuild n (({ (s.stand i).cal with faults := q.faults } : Cal).buildEntries (1048576 - s.entriesElsewhere i)).1 b)).stands ∧
      (s.rebuildOne i n).settings = s.settings := by
  intro q
  unfold State.rebuildOne
  rw [if_neg h]
  dsimp only
  refine ⟨_, foldl_keeps (P := fun t => t.stands = (s.updCal i (·.endRebuild n _ _)).stands ∧ t.settings = s.settings) _ ?_ _ ⟨rfl, rfl⟩⟩
  rintro t hogel ⟨stands, settings⟩
  exact ⟨(State.raise_stands ..).trans stands, (State.raise_settings ..).trans settings⟩

/-- One rebuild that ends is finished in its place (R243). -/
theorem State.rebuildOne_rebuilds {s : State} {i : Nat} (known : i < s.stands.length) (n : Nat) :
    ((s.rebuildOne i n).stand i).cal.rebuilds = upd (s.stand i).cal.rebuilds n (Rebuild.finished (1048576 - s.entriesElsewhere i)) := by
  by_cases idle : ((s.stand i).cal.rebuilds.getD n {}).ready = true ∨ (s.stand i).cal.rebuilds.length ≤ n
  · rw [State.rebuildOne_idle idle]
    refine ((upd_congr {} fun within => ?_).trans (upd_id ..)).symm
    exact if_pos (idle.resolve_right (by omega))
  · obtain ⟨b, stands, -⟩ := State.rebuildOne_due idle
    have mine := (congrArg (·.getD i {}) stands).trans (State.stand_updStand_self _ known)
    refine (congrArg (·.cal.rebuilds) mine).trans (upd_congr {} fun _ => ?_)
    rw [Rebuild.finished_eq (s.stand i).cal]
    exact (if_neg fun ready => idle (.inl ready)).symm

/-- It changes no setting, no other stand, and not the entries in force (R243). -/
theorem State.rebuildOne_frame {s : State} {i : Nat} (known : i < s.stands.length) (n : Nat) :
    (s.rebuildOne i n).settings = s.settings ∧ (s.rebuildOne i n).stands.length = s.stands.length ∧
    (∀ j, j ≠ i → (s.rebuildOne i n).stand j = s.stand j) ∧ ((s.rebuildOne i n).stand i).cal.entries = (s.stand i).cal.entries := by
  by_cases idle : ((s.stand i).cal.rebuilds.getD n {}).ready = true ∨ (s.stand i).cal.rebuilds.length ≤ n
  · rw [State.rebuildOne_idle idle]
    exact ⟨rfl, rfl, fun _ _ => rfl, rfl⟩
  · obtain ⟨b, stands, settings⟩ := State.rebuildOne_due idle
    have mine := (congrArg (·.getD i {}) stands).trans (State.stand_updStand_self _ known)
    refine ⟨settings, (congrArg List.length stands).trans (upd_length ..), fun j other => ?_, congrArg (·.cal.entries) mine⟩
    exact (congrArg (·.getD j {}) stands).trans (State.stand_updStand_ne _ _ other)

theorem State.RebuiltTo.refl (s : State) (i : Nat) : s.RebuiltTo i 0 s :=
  ⟨rfl, rfl, fun _ _ => rfl, rfl, List.ext_getElem? fun k => by simp⟩

/-- A change of the places below `k` and then of the place `k` is one of the places below `k + 1`. -/
theorem upd_mapIdx_below {α : Type} (l : List α) (k : Nat) (f : α → α) :
    upd (l.mapIdx fun n a => if n < k then f a else a) k f = l.mapIdx fun n a => if n < k + 1 then f a else a := by
  refine List.ext_getElem? fun n => ?_
  simp only [upd, List.getElem?_modify, List.getElem?_mapIdx]
  cases l[n]? with
  | none => rfl
  | some a =>
    obtain lt | eq | gt := Nat.lt_trichotomy n k
    · simp [lt, Nat.lt_succ_of_lt lt, Nat.ne_of_gt lt]
    · simp [eq]
    · simp [Nat.not_lt.2 (Nat.le_of_lt gt), Nat.not_lt.2 (Nat.succ_le_of_lt gt), Nat.ne_of_lt gt]

theorem State.RebuiltTo.step {s t : State} {i k : Nat} (known : i < s.stands.length) (h : s.RebuiltTo i k t) :
    s.RebuiltTo i (k + 1) (t.rebuildOne i k) := by
  have here : i < t.stands.length := h.known ▸ known
  obtain ⟨settings, length, others, entries⟩ := State.rebuildOne_frame here k
  refine ⟨settings.trans h.settings, length.trans h.known, fun j other => (others j other).trans (h.others j other), entries.trans h.entries, ?_⟩
  rw [State.rebuildOne_rebuilds here, h.entriesElsewhere, h.rebuilds]
  exact upd_mapIdx_below ..

/-- Firmware ends the rebuilds of a stand one after the other. -/
theorem State.forEach_rebuildOne {s : State} {i : Nat} (known : i < s.stands.length) (k : Nat) :
    s.RebuiltTo i k (forEach (List.range k) s fun n s => s.rebuildOne i n) := by
  induction k with
  | zero => exact .refl s i
  | succ k ih =>
    unfold forEach at *
    rw [List.range_succ, List.foldl_concat]
    exact ih.step known

/-- Once all have ended, every rebuild is finished. -/
theorem State.rebuild_rebuilds {s : State} {i : Nat} (known : i < s.stands.length) :
    ((s.rebuild i).stand i).cal.rebuilds = (s.stand i).cal.rebuilds.map (Rebuild.finished (1048576 - s.entriesElsewhere i)) := by
  refine (State.forEach_rebuildOne known _).rebuilds.trans (List.ext_getElem (by simp) fun n within _ => ?_)
  rw [List.length_mapIdx] at within
  simp [within]

theorem State.concealRebuilt_due {s : State} {i : Nat} (known : i < s.stands.length) (due : ∃ q ∈ (s.stand i).cal.rebuilds, q.ready = false)
    (served : (s.supervisor (s.dieOfStand i)).isSome = true) (mode : s.modes.mode ≠ 6) : s.concealRebuilt i = s.rebuild i := by
  obtain ⟨q, asked, waits⟩ := due
  exact if_pos ⟨known, List.any_eq_true.2 ⟨q, asked, by simp [waits]⟩, served, mode⟩

theorem concealmentIsRebuilt : Claim.ConcealmentIsRebuilt := by
  unfold Claim.ConcealmentIsRebuilt
  intro dt i s known due served mode c r
  rw [exec_conceal_rebuild_end]
  refine ⟨State.act_eq (State.concealRebuilt_due (s := s.elapse dt) known due served mode), ?_,
    (State.forEach_rebuildOne (s := s.elapse dt) known _).entries⟩
  refine (State.rebuild_rebuilds (s := s.elapse dt) known).trans ?_
  exact List.map_congr_left fun q _ => Rebuild.finished_eq c (1048576 - s.entriesElsewhere i) q

/-- Settles O38: a bake and a load end in a branch of their definitions once what may hold them back is known; the rebuilds of a stand end one
after the other, and none changes what the next is made from. -/
theorem calibrationWorkEnds : Obligations.CalibrationWorkEnds :=
  ⟨bakesRun, calibrationOperationsEnd, concealmentIsRebuilt⟩

end Sys2Proof.Machine
end

section
/-! PROOFS. What the packets of the stand receivers do: TEMP, STATUS, DIAG and ACK, and rails that are back in range (R239, R275, R284, R287,
R319, R320, R321, R323; log entries 32, 54, 97, 126). -/

namespace Sys2Proof.Machine

/-! ### Readings -/

theorem State.tempTimeout_due {s : State} {i : Nat} (known : i < s.stands.length) (missed : 60 ≤ (s.stand i).tempMiss)
    (first : (s.stand i).tempLost = false) :
    s.tempTimeout i = (s.raise evStandTemp i [0x80000000]).updStand i fun st => { st with tempLost := true } :=
  if_pos ⟨known, missed, congrArg not first⟩

theorem temperaturesArrive : Claim.TemperaturesArrive := by
  unfold Claim.TemperaturesArrive
  refine ⟨fun dt l readings s up => ?_, fun dt i s known missed first => ?_⟩
  · rw [exec_temp_received]
    exact State.act_eq (if_pos up)
  · rw [exec_temp_timeout]
    exact State.act_eq (State.tempTimeout_due (s := s.elapse dt) known missed first)

/-! ### STATUS -/

/-- What holds of a stand and of every value of a change to it holds of the stand after the change. -/
theorem State.stand_updStand_keeps {P : Stand → Prop} {s : State} {n k : Nat} {f : Stand → Stand} (hf : ∀ st, P st → P (f st)) (h : P (s.stand k)) :
    P ((s.updStand n f).stand k) := by
  by_cases here : k = n
  · subst here
    by_cases known : k < s.stands.length
    · rw [State.stand_updStand_self f known]
      exact hf _ h
    · have beyond : (s.updStand k f).stand k = s.stand k := by
        unfold State.stand State.updStand
        rw [List.getD_eq_default _ _ (by simpa using known), List.getD_eq_default _ _ (by simpa using known)]
      rwa [beyond]
  · rwa [State.stand_updStand_ne s f here]

@[simp] theorem State.raise_stand (s : State) (code unit : Nat) (ps : List Nat) (tag txn : Word) (k : Nat) :
    (s.raise code unit ps tag txn).stand k = s.stand k := congrArg (·.getD k {}) (State.raise_stands ..)

/-- A property of a stand that its exclusion, and that of another stand of its link, keeps (R114). -/
structure Stand.Outlasts (P : Stand → Prop) : Prop where
  excluded : ∀ st, P st → P { st with excluded := true, dark := true, kss := 0, kssDue := false, kssEnd := 0, ready := false }
  inFlight : ∀ st, P st → P st.unknownInFlight

section
variable {P : Stand → Prop} (hP : Stand.Outlasts P) {s : State} {k : Nat} (h : P (s.stand k))
include hP h

theorem State.exclude_keeps (i : Nat) : P ((s.exclude i).stand k) := by
  unfold State.exclude
  exact forEach_keeps (P := fun t => P (t.stand k)) _ _ (fun j _ t ht => State.stand_updStand_keeps hP.inFlight ht)
    (State.stand_updStand_keeps hP.excluded h)

theorem State.excludeStatus_keeps (i step : Nat) : P ((s.excludeStatus i step).stand k) := by
  have reported : P (((s.exclude i).raise evStandStatus i [(s.stand i).flags.toNat]).stand k) := by
    rw [State.raise_stand]
    exact State.exclude_keeps hP h i
  unfold State.excludeStatus State.stepRecord
  split
  · exact reported
  · exact reported

theorem State.undriven_keeps (i : Nat) : P ((s.undriven i).stand k) := by
  unfold State.undriven
  split
  · exact State.excludeStatus_keeps hP h i 6
  · exact h

end

/-- A stand with what a STATUS packet says of it (R323). -/
def Stand.withStatus (b : List Byte) (st : Stand) : Stand :=
  { st with
    statusBytes := padTo 40 b, stypeSeen := u8 b 4, serialSeen := u64 b 8, seen := true, reported := true, flags := BitVec.ofNat 16 (u16 b 6),
    railP := u16 b 16, railN := u16 b 18, failedDrivers := u16 b 20, statusMiss := 0 }

/-- The packet is taken, with EV_STAND_STATUS where a flag rose or a rail fault began (R323, R287). -/
def State.statusSeen (s : State) (i : Nat) (b : List Byte) : State :=
  let old := s.stand i
  let t := s.updStand i (Stand.withStatus b)
  if (u16 b 6 &&& (0xFFFF ^^^ old.flags.toNat) != 0) = true ∨ ((t.stand i).railBad ∧ !old.railFault) then t.raise evStandStatus i [u16 b 6] else t

/-- Its rails are judged, once the packet is taken (R287). -/
def State.statusRails (s : State) (i : Nat) (old : Stand) (bad : Bool) : State :=
  if bad then s.railFaulted i
  else if old.railFault then s.updStand i fun st => { st with railOkAt := some (st.railOkAt.getD s.clock.up) } else s

/-- The hogel of a failed driver is wholly failed (R242). -/
def State.statusHogel (s : State) (i : Nat) (old : Stand) (b : List Byte) : State :=
  if u16 b 22 < 16384 ∧ u16 b 20 ≠ 0 ∧ !(old.cal.failedHogel (u16 b 22)) then
    (s.updCal i fun c => c.wholeHogel (u16 b 22) s.nowNs).needRebuild i else s

/-- Bands that cannot be driven exclude their stand in a sequence (R114, R295). -/
def State.statusDriven (s : State) (i : Nat) (old : Stand) (b : List Byte) (bad : Bool) : State :=
  if bitOf (u16 b 6) 5 ∧ old.kss ≠ 0 ∧ !old.excluded then s.excludeStatus i 6
  else if bitOf (u16 b 6) 5 ∨ bad then s.undriven i else s

theorem State.statusPacket_eq (s : State) (i : Nat) (b : List Byte) : s.statusPacket i b =
    let old := s.stand i
    let bad := ((s.updStand i (Stand.withStatus b)).stand i).railBad
    (((s.statusSeen i b).statusRails i old bad).statusHogel i old b).statusDriven i old b bad := rfl

/-- Taking the packet changes its stand alone. -/
theorem State.statusSeen_stands (s : State) (i : Nat) (b : List Byte) : (s.statusSeen i b).stands = upd s.stands i (Stand.withStatus b) := by
  unfold State.statusSeen
  dsimp only
  split
  · exact State.raise_stands ..
  · rfl

theorem State.statusSeen_stand {s : State} {i : Nat} (known : i < s.stands.length) (b : List Byte) :
    (s.statusSeen i b).stand i = (s.stand i).withStatus b :=
  (congrArg (·.getD i {}) (s.statusSeen_stands i b)).trans (upd_getD_self _ {} known)

/-- What holds once the rails are judged holds after the packet, where a change of the calibration state and an exclusion keep it. -/
theorem State.statusPacket_keeps {P : Stand → Prop} (hP : Stand.Outlasts P) (hcal : ∀ st c, P st → P { st with cal := c }) {s : State} {i : Nat}
    {b : List Byte} (h : P (((s.statusSeen i b).statusRails i (s.stand i) ((s.updStand i (Stand.withStatus b)).stand i).railBad).stand i)) :
    P ((s.statusPacket i b).stand i) := by
  rw [State.statusPacket_eq]
  dsimp only
  generalize (s.statusSeen i b).statusRails _ _ _ = t at h ⊢
  have listed : P ((t.statusHogel i (s.stand i) b).stand i) := by
    unfold State.statusHogel
    split
    · exact State.stand_updStand_keeps (fun st => hcal st _) (State.stand_updStand_keeps (fun st => hcal st _) h)
    · exact h
  unfold State.statusDriven
  split
  · exact State.excludeStatus_keeps hP listed i 6
  · split
    · exact State.undriven_keeps hP listed i
    · exact listed

/-- What a STATUS packet brings of a stand (R323), and the step of the stand's admission. -/
def Stand.report (st : Stand) : List Byte × Nat × Nat × Bool × Nat × Nat × Nat × Nat :=
  (st.statusBytes, st.stypeSeen, st.serialSeen, st.seen, st.statusMiss, st.railP, st.railN, st.admission)

/-- After the packet the stand has what the packet brought. -/
theorem State.statusPacket_report {s : State} {i : Nat} (known : i < s.stands.length) (b : List Byte) :
    ((s.statusPacket i b).stand i).report = ((s.stand i).withStatus b).report := by
  refine State.statusPacket_keeps (P := fun st => st.report = ((s.stand i).withStatus b).report)
    ⟨fun _ h => h, fun _ h => h⟩ (fun _ _ h => h) ?_
  have brought := congrArg Stand.report (State.statusSeen_stand known b)
  unfold State.statusRails
  split
  · exact State.stand_updStand_keeps (P := fun st => st.report = _) (fun _ h => h) brought
  · split
    · exact State.stand_updStand_keeps (P := fun st => st.report = _) (fun _ h => h) brought
    · exact brought

/-- A rail out of range makes the stand dark (R287). -/
theorem State.statusPacket_railFault {s : State} {i : Nat} (known : i < s.stands.length) {b : List Byte}
    (bad : ((s.stand i).withStatus b).railBad = true) :
    ((s.statusPacket i b).stand i).railFault = true ∧ ((s.statusPacket i b).stand i).dark = true := by
  refine State.statusPacket_keeps (P := fun st => st.railFault = true ∧ st.dark = true)
    ⟨fun _ h => ⟨h.1, rfl⟩, fun _ h => h⟩ (fun _ _ h => h) ?_
  rw [State.stand_updStand_self _ known, bad]
  have faulted := State.stand_updStand_self (s := s.statusSeen i b) (n := i)
    (fun st => { st.unknownAll with railFault := true, railOkAt := none, dark := true, kss := 0, kssDue := false })
    (by rwa [s.statusSeen_stands i b, upd_length])
  exact ⟨congrArg Stand.railFault faulted, congrArg Stand.dark faulted⟩

theorem Stand.railBad_of_railP {st : Stand} (h : st.railP < 14250 ∨ 15750 < st.railP) : st.railBad = true := by
  have out : railsOk st.railP st.railN = false := by
    unfold railsOk
    obtain low | high := h
    · simp [Nat.not_le.2 low]
    · simp [Nat.not_le.2 high]
  simp [Stand.railBad, out]

/-- A STATUS packet of a stand that awaits no IDENTIFY acts as the packet alone (R323). -/
theorem State.statusReceived_of {s : State} {l pos i : Nat} {b : List Byte} (up : s.linkUp l = true) (here : s.standAt l pos = some i)
    (done : ((s.statusPacket i b).stand i).admission ≠ 1) : s.statusReceived l pos b = s.statusPacket i b := by
  unfold State.statusReceived
  rw [if_neg (by simp [up]), here]
  exact if_neg done

theorem statusIsTaken : Claim.StatusIsTaken := by
  unfold Claim.StatusIsTaken
  intro dt pos i l b s up here waitless known m
  have report := State.statusPacket_report (s := s.elapse dt) known b
  simp only [Stand.report, Stand.withStatus, Prod.mk.injEq] at report
  obtain ⟨bytes, stype, serial, seen, miss, railP, railN, admission⟩ := report
  rw [exec_status_received]
  refine ⟨State.act_eq (State.statusReceived_of (s := s.elapse dt) up here fun asks => waitless (admission.symm.trans asks)),
    bytes, stype, serial, seen, miss, railP, railN, fun out => ?_⟩
  exact State.statusPacket_railFault (s := s.elapse dt) known (Stand.railBad_of_railP out)

/-! ### DIAG -/

section
variable {s : State} {l pos i tick : Nat} (up : s.linkUp l = true) (here : s.standIn l pos (s.fullTick tick) = some i)
include up here

/-- Each fault that the sweep lists is declared (R242, R319). -/
theorem State.diagReceived_faults (sub row first : Nat) (data : List Byte) : s.diagReceived l pos 2 sub row tick first data =
    (List.range (data.length / 4)).foldl (fun s n =>
      if u16 data (4 * n) < 16384 ∧ u8 data (4 * n + 3) % 4 < 3 then
        s.declareFault i (u16 data (4 * n)) (u8 data (4 * n + 2)) (u8 data (4 * n + 3) % 4) (bitOf (u8 data (4 * n + 3)) 2)
      else s) s := by
  unfold State.diagReceived
  rw [if_neg (by simp [up]), here]
  rfl

theorem State.diagReceived_memory (sub row first : Nat) (data : List Byte) :
    s.diagReceived l pos 3 sub row tick first data = s.updCal i fun c => c.memoryIn first data := by
  unfold State.diagReceived
  rw [if_neg (by simp [up]), here]
  rfl

/-- Samples that no slot asked for are dropped (R319). -/
theorem State.diagReceived_unasked {sub : Nat}
    (unasked : ((s.link l).measSlots.find? fun c => c.2.2.1 == i && c.1 % 0x100000000 == tick && (c.2.1 == sub || s.calSlot c)) = none)
    (row first : Nat) (data : List Byte) : s.diagReceived l pos 1 sub row tick first data = s := by
  unfold State.diagReceived
  rw [if_neg (by simp [up]), here]
  dsimp only
  rw [unasked]
  rfl

/-- Samples go to the slot that asked for them; the last ones close it (R268, R319). -/
theorem State.diagReceived_samples {sub : Nat} {slot : Nat × Nat × Nat × Nat}
    (asked : ((s.link l).measSlots.find? fun c => c.2.2.1 == i && c.1 % 0x100000000 == tick && (c.2.1 == sub || s.calSlot c)) = some slot)
    (row first : Nat) (data : List Byte) :
    s.diagReceived l pos 1 sub row tick first data =
      let a := s.samplesOf (s.calSlot slot) (!voidSlot slot) i (if s.calSlot slot then row else slot.2.2.2) first (diagSamples data)
      if 49152 ≤ first + (diagSamples data).length ∧ (s.calSlot slot = false ∨ (row = 255 ∧ sub = 3)) then a.closeSlot l slot else a := by
  unfold State.diagReceived
  rw [if_neg (by simp [up]), here]
  dsimp only
  rw [asked]
  simp

end

theorem diagnosticsAreTaken : Claim.DiagnosticsAreTaken := by
  unfold Claim.DiagnosticsAreTaken
  intro dt pos i sub row tick first l data s up here e one
  refine ⟨?_, ?_, fun c op next fits => if_pos ⟨op, next, fits⟩, fun slot asked => ?_, fun unasked => ?_⟩
  · exact (exec_diag_received ..).trans (State.act_eq (State.diagReceived_faults (s := e) up here sub row first data))
  · exact (exec_diag_received ..).trans (State.act_eq (State.diagReceived_memory (s := e) up here sub row first data))
  · intro cal n a
    have samples := State.diagReceived_samples (s := e) up here asked row first data
    rw [exec_diag_received]
    refine ⟨fun more => State.act_eq (samples.trans (if_neg ?_)), fun full last => State.act_eq (samples.trans (if_pos ⟨full, last⟩))⟩
    rintro ⟨full, last⟩
    obtain short | ⟨inCal, before⟩ := more
    · omega
    · obtain live | ⟨row, sub⟩ := last
      · exact absurd (inCal.symm.trans live) (by decide)
      · omega
  · exact (exec_diag_received ..).trans (State.act_eq (State.diagReceived_unasked (s := e) up here unasked row first data))

/-! ### ACK -/

/-- The ACK of a command other than LOAD_LUT ends its wait and changes nothing else (R321). -/
theorem State.cmdAck_other {s : State} {l pos cmdId op : Nat} (waits : (s.link l).cmds.find? (fun c => c.1 == cmdId) = some (cmdId, pos, op))
    (other : op ≠ 1) : s.cmdAck l cmdId = s.updLink l fun k => { k with cmds := k.cmds.filter fun c => c.1 != cmdId } := by
  unfold State.cmdAck
  rw [waits]
  dsimp only
  split
  · rfl
  · exact if_neg fun lut => other lut.1

/-- The ACK of a window, for the stands of the map in force (R288, R321). -/
def State.ackWindow (s : State) (l pos sub tick states dark pairs : Nat) : State :=
  match s.standIn l pos (s.fullTick tick) with
  | none => s
  | some i =>
    let win := (s.stand i).steerWin - 1
    if win / 4 % 0x100000000 = tick ∧ win % 4 = sub then s.windowAck i (win / 4) sub states dark pairs else s

theorem State.ackReceived_command {s : State} {l : Nat} (up : s.linkUp l = true) (pos sub cmdId tick states dark pairs : Nat) :
    s.ackReceived l pos 0 sub cmdId tick states dark pairs = s.cmdAck l cmdId := by
  unfold State.ackReceived
  rw [if_neg (by simp [up])]
  rfl

theorem State.ackReceived_window {s : State} {l : Nat} (up : s.linkUp l = true) (pos sub cmdId tick states dark pairs : Nat) :
    s.ackReceived l pos 1 sub cmdId tick states dark pairs = s.withLeft (·.ackWindow l pos sub tick states dark pairs) := by
  unfold State.ackReceived
  rw [if_neg (by simp [up])]
  rfl

/-- Without stands that a new map dropped, the stands are those of the map in force (R24). -/
theorem State.withLeft_none {s : State} (h : s.synth.left = []) (f : State → State) : s.withLeft f = f s := if_pos h

theorem acksAreTaken : Claim.AcksAreTaken := by
  unfold Claim.AcksAreTaken
  intro dt pos sub cmdId tick states dark pairs l s up e
  refine ⟨fun op waits other => ?_, ?_⟩
  · rw [exec_ack_received]
    exact State.act_eq ((State.ackReceived_command (s := e) up ..).trans (State.cmdAck_other (s := e) waits other))
  · intro took
    rw [exec_ack_received]
    exact ⟨State.act_eq (State.ackReceived_window (s := e) up ..), fun gone => State.withLeft_none (s := e) gone took⟩

/-! ### Rails back in range -/

theorem State.railRecovered_eq {s : State} {i t : Nat} (h : (s.stand i).railOkAt = some t) :
    s.railRecovered i = if (s.stand i).railFault ∧ s.since t (ms 100) then
      s.updStand i fun st => { st with kssDue := true, railOkAt := none, railFault := false } else s := by
  unfold State.railRecovered
  dsimp only
  rw [h]

theorem railsRecover : Claim.RailsRecover := by
  unfold Claim.RailsRecover
  intro dt i t s inRange
  have recovered := State.railRecovered_eq (s := s.elapse dt) inRange
  rw [exec_stand_rail_recovered]
  refine ⟨fun fault late => ?_, fun waits => ?_⟩
  · exact State.act_eq (recovered.trans (if_pos ⟨fault, State.since_elapse_true late⟩))
  · refine State.act_eq (recovered.trans (if_neg ?_))
    rintro ⟨fault, late⟩
    obtain sound | early := waits
    · exact absurd (sound.symm.trans fault) (by decide)
    · exact absurd ((State.since_elapse_false early).symm.trans late) (by decide)

/-- Settles O41: each packet is one branch of its operation once its stand or slot is found; what a STATUS packet brought survives the exclusions
that may follow it. -/
theorem standReports : Obligations.StandReports :=
  ⟨temperaturesArrive, statusIsTaken, diagnosticsAreTaken, acksAreTaken, railsRecover⟩

end Sys2Proof.Machine
end

section
/-! PROOFS. The frame's times: at each rate the four sub-frames and the blank fill the frame with nothing left over (R18, R249). -/

namespace Sys2Proof.Machine

theorem framePeriod_120 : framePeriod 120 = 25000000 := if_pos rfl

/-- The model reads every rate other than 120 Hz as 60 Hz. -/
theorem framePeriod_other {rate : Nat} (other : rate ≠ 120) : framePeriod rate = 50000000 := if_neg other

theorem blankTime_eq : blankTime = 300000 := rfl

theorem guardTime_eq : guardTime = 150000 := rfl

theorem framePeriod_eq_or (rate : Nat) : framePeriod rate = 25000000 ∨ framePeriod rate = 50000000 := by
  obtain rfl | other := eq_or_ne rate 120
  · exact .inl framePeriod_120
  · exact .inr (framePeriod_other other)

theorem blankTime_le_framePeriod (rate : Nat) : blankTime ≤ framePeriod rate := by
  rw [blankTime_eq]
  obtain h | h := framePeriod_eq_or rate <;> omega

/-- The division in the sub-frame period is exact (R249). -/
theorem four_dvd_framePeriod_sub_blankTime (rate : Nat) : 4 ∣ framePeriod rate - blankTime := by
  rw [blankTime_eq]
  obtain h | h := framePeriod_eq_or rate <;> omega

theorem four_subPeriod_add_blankTime (rate : Nat) : 4 * subPeriod rate + blankTime = framePeriod rate :=
  calc 4 * ((framePeriod rate - blankTime) / 4) + blankTime
      = framePeriod rate - blankTime + blankTime := by rw [Nat.mul_div_cancel' (four_dvd_framePeriod_sub_blankTime rate)]
    _ = framePeriod rate := Nat.sub_add_cancel (blankTime_le_framePeriod rate)

/-- Settles O31: P, B and G have the values of R18, and a frame without its blank divides by four exactly. -/
theorem frameTimes : Obligations.FrameTimes :=
  ⟨framePeriod_other (by decide), framePeriod_120, blankTime_eq, guardTime_eq, four_subPeriod_add_blankTime 60,
    four_subPeriod_add_blankTime 120⟩

end Sys2Proof.Machine
end

section
/-! PROOFS. Loss and return of power, the flushes of a loss, rails out of range, and the supply of Bellows (R291, R461, R463, R481, R482, R484, R486). -/

namespace Sys2Proof.Machine

open Sys2Proof

/-! ### Loss of power -/

/-- What a reset of the A9 keeps of a loss: whether it is declared, its latch and its LOSS fields. -/
theorem State.halt_keeps_loss (s : State) (io : Bool) :
    (s.halt io).bellows.powerLost = s.bellows.powerLost ∧ (s.halt io).bellows.latch = s.bellows.latch ∧
    (s.halt io).bellows.lossValid = s.bellows.lossValid ∧ (s.halt io).bellows.lossTick = s.bellows.lossTick := by
  obtain ⟨blocks, kept⟩ := s.keepJournal_cases
  unfold State.halt
  rw [kept]
  exact ⟨rfl, rfl, rfl, rfl⟩

/-- STAND_SAFE is asserted and the loss declared, latched and written to the log, before the reset that follows. -/
def State.lossDeclared (s : State) : State :=
  let s := s.safeLoss 0xFFFF
  let s := ({ s with bellows := { s.bellows with powerLost := true, lossAt := s.clock.up } } : State).latch 16#32
  s.recFixed 0x0051 [lo32 s.bellows.lossTick, s.bellows.lossOffNs, s.bellows.capMv, s.bellows.lossLinks.toNat]

theorem State.lossDeclared_bellows (s : State) :
    s.lossDeclared.bellows.powerLost = true ∧ s.lossDeclared.bellows.safeLinks = 0xFFFF#16 ∧
    s.lossDeclared.bellows.latch = s.bellows.latch ||| 16#32 ∧ s.lossDeclared.bellows.lossValid = true ∧
    s.lossDeclared.bellows.lossTick = s.clock.tick :=
  ⟨rfl, s.safeLoss_all, rfl, rfl, rfl⟩

/-- The journal flush runs, and the recorder's has not started. -/
def State.journalFlushing (s : State) : State := { s with bellows := { s.bellows with journalSt := 1, recorderSt := 0 } }

theorem State.powerLoss_none {s : State} (h : s.bellows.powerLost = true ∨ s.bellows.running = false) : s.powerLoss = s :=
  if_pos (h.imp_right (congrArg (!·)))

theorem State.powerLoss_declares {s : State} (power : s.bellows.powerLost = false) (running : s.bellows.running = true) :
    s.powerLoss = (s.lossDeclared.halt true).journalFlushing :=
  if_neg (by simp [power, running])

theorem State.powerLossBy_ioRail {s : State} {rail : Nat} (h : rail = 3 ∨ rail = 9) : s.powerLossBy rail = s.powerLoss :=
  (if_neg (by omega)).trans (if_pos h)

theorem State.powerLossBy_bellowsIn (s : State) : s.powerLossBy 10 = s.onBank.powerLoss := if_pos rfl

theorem State.powerLossBy_other {s : State} {rail : Nat} (vddIod : rail ≠ 3) (vddio : rail ≠ 9) (bellowsIn : rail ≠ 10) :
    s.powerLossBy rail = s :=
  (if_neg bellowsIn).trans (if_neg (by omega))

/-- What a declared loss leaves. -/
theorem State.powerLoss_leaves {s : State} (power : s.bellows.powerLost = false) (running : s.bellows.running = true) :
    let t := s.powerLoss
    t.bellows.powerLost = true ∧ t.bellows.safeLinks = 0xFFFF#16 ∧ t.bellows.latch = s.bellows.latch ||| 16#32 ∧
    t.bellows.journalSt = 1 ∧ t.bellows.recorderSt = 0 ∧ t.bellows.holder = none ∧ t.bellows.lossValid = true ∧
    t.bellows.lossTick = s.clock.tick ∧ t.settings = {} ∧ t.txns = [] := by
  rw [State.powerLoss_declares power running]
  obtain ⟨lost, safe, latch, valid, tick⟩ := s.lossDeclared_bellows
  obtain ⟨-, settings, txns, -, -, holder⟩ := s.lossDeclared.halt_clears
  obtain ⟨keepsSafe, -, -, -⟩ := s.lossDeclared.halt_keeps true
  obtain ⟨keepsLost, keepsLatch, keepsValid, keepsTick⟩ := s.lossDeclared.halt_keeps_loss true
  exact ⟨keepsLost.trans lost, keepsSafe.trans safe, keepsLatch.trans latch, rfl, rfl, holder, keepsValid.trans valid,
    keepsTick.trans tick, settings, txns⟩

/-! ### The flushes of a loss, and the return of power -/

theorem State.journalFlushed_idle {s : State} (ok : Bool) (idle : s.bellows.journalSt ≠ 1) : s.journalFlushed ok = s := if_pos idle

/-- The recorder's flush starts as the journal's ends. -/
theorem State.journalFlushed_ends {s : State} (ok : Bool) (runs : s.bellows.journalSt = 1) :
    let f := s.flushJournal (ok && s.flash.present)
    s.journalFlushed ok = { f with bellows := { f.bellows with recorderSt := 1 } } :=
  if_neg (not_not_intro runs)

theorem State.recorderFlushed_idle {s : State} (ok : Bool) (idle : s.bellows.recorderSt ≠ 1) : s.recorderFlushed ok = s := if_pos idle

/-- A flush of the recorder that runs succeeds where the flash takes it and a sector of the history is free. -/
theorem State.recorderFlushed_ends {s : State} (ok : Bool) (runs : s.bellows.recorderSt = 1) :
    let taken := ok && s.flash.present && decide (s.flash.history.length < 59)
    let f := s.powerFlush taken
    s.recorderFlushed ok =
      if taken then { f with bellows := { f.bellows with recorderSt := 2 } }
      else ({ f with bellows := { f.bellows with recorderSt := 3 } } : State).latch 4#32 :=
  if_neg (not_not_intro runs)

theorem State.recorderFlushed_succeeds {s : State} {ok : Bool} (runs : s.bellows.recorderSt = 1) (good : ok = true)
    (flash : s.flash.present = true) (room : s.flash.history.length < 59) :
    let f := s.powerFlush true
    s.recorderFlushed ok = { f with bellows := { f.bellows with recorderSt := 2 } } := by
  have taken : (ok && s.flash.present && decide (s.flash.history.length < 59)) = true := by simp [good, flash, room]
  rw [State.recorderFlushed_ends ok runs, taken]
  exact if_pos rfl

theorem State.recorderFlushed_fails {s : State} {ok : Bool} (runs : s.bellows.recorderSt = 1)
    (h : ok = false ∨ s.flash.present = false ∨ 59 ≤ s.flash.history.length) :
    let f := s.powerFlush false
    s.recorderFlushed ok = ({ f with bellows := { f.bellows with recorderSt := 3 } } : State).latch 4#32 := by
  have refused : (ok && s.flash.present && decide (s.flash.history.length < 59)) = false := by
    obtain bad | missing | full := h
    · simp [bad]
    · simp [missing]
    · simp [Nat.not_lt.2 full]
  rw [State.recorderFlushed_ends ok runs, refused]
  exact if_neg Bool.false_ne_true

/-- BELLOWS_IN serves Bellows. -/
def State.servedByIn (s : State) : State := { s with bellows := { s.bellows with inOk := true, onHoldup := false } }

/-- The rails are back: the loss is over, and BELLOWS_IN serves Bellows. -/
def State.lossOver (s : State) : State := { s with bellows := { s.bellows with powerLost := false, inOk := true, onHoldup := false } }

theorem State.powerRestore_stopped {s : State} (stopped : s.bellows.running = false) : s.powerRestore = s :=
  if_pos (congrArg (!·) stopped)

theorem State.powerRestore_unlost {s : State} (power : s.bellows.powerLost = false) (running : s.bellows.running = true) :
    s.powerRestore = s.servedByIn := by
  unfold State.powerRestore
  rw [if_neg (by simp [running]), if_pos (by simp [power])]
  rfl

/-- Both dies restart with the rails back, unless SYS_RST_N holds the A9. -/
theorem State.powerRestore_lost {s : State} (lost : s.bellows.powerLost = true) (running : s.bellows.running = true) :
    s.powerRestore = if s.modes.rst then s.lossOver else s.lossOver.coldRestart 3 3 true := by
  unfold State.powerRestore
  rw [if_neg (by simp [running]), if_neg (by simp [lost])]
  rfl

theorem powerLossAndRestore : Claim.PowerLossAndRestore := by
  unfold Claim.PowerLossAndRestore
  intro dt ok s e
  rw [exec_journal_flush_end, exec_recorder_flush_end, exec_power_restore]
  refine ⟨fun rail h => ?_, fun rail vddIod vddio bellowsIn => ?_, ?_, ?_, ?_, ?_, ?_, ?_, ?_, ?_, ?_, ?_, ?_⟩
  · rw [exec_power_loss]
    exact State.act_eq (State.powerLossBy_ioRail h)
  · rw [exec_power_loss]
    exact State.act_eq (State.powerLossBy_other vddIod vddio bellowsIn)
  · rw [exec_power_loss]
    exact State.act_eq e.powerLossBy_bellowsIn
  · exact State.powerLoss_none (s := e)
  · exact State.powerLoss_leaves (s := e)
  · exact fun runs => State.act_eq (State.journalFlushed_ends (s := e) ok runs)
  · exact fun idle => State.act_eq (State.journalFlushed_idle (s := e) ok idle)
  · exact fun runs good flash room => State.act_eq (State.recorderFlushed_succeeds (s := e) runs good flash room)
  · exact fun runs bad => State.act_eq (State.recorderFlushed_fails (s := e) runs bad)
  · exact fun idle => State.act_eq (State.recorderFlushed_idle (s := e) ok idle)
  · intro lost running b
    have restored := State.powerRestore_lost (s := e) lost running
    exact ⟨fun low => State.act_eq (restored.trans (if_pos low)),
      fun high => State.act_eq (restored.trans (if_neg (ne_true_of_eq_false high)))⟩
  · exact fun power running => State.act_eq (State.powerRestore_unlost (s := e) power running)
  · exact fun stopped => State.act_eq (State.powerRestore_stopped (s := e) stopped)

/-! ### Rails out of range -/

/-- A rail's reading is recorded, and EV_RAIL_FAULT raised. -/
def State.railRecorded (s : State) (rail mv : Nat) : State :=
  ({ s with power := { s.power with railMv := upd s.power.railMv rail fun _ => sat 0xFFFF mv } } : State).railEvent rail

theorem State.railFault_none {s : State} {rail mv : Nat} (h : s.bellows.running = false ∨ 11 < rail ∨ s.railOut rail mv = false) :
    s.railFault rail mv = s := by
  refine if_pos ?_
  obtain stopped | unknown | inRange := h
  · exact .inr (.inl (congrArg (!·) stopped))
  · exact .inl unknown
  · exact .inr (.inr (congrArg (!·) inRange))

section
variable {s : State} {rail mv : Nat} (running : s.bellows.running = true) (out : s.railOut rail mv = true)
include running out

/-- What a rail out of range does once it is recorded, by the rail. -/
theorem State.railFault_out (known : rail ≤ 11) :
    let f := s.railRecorded rail mv
    let t := if rail = 11 then f.bankReads mv else f
    s.railFault rail mv =
      if rail < 2 then
        ({ t with power := { t.power with coreFault := upd t.power.coreFault rail fun _ => true } } : State).hardwareError 9 rail 7
      else if rail < 10 then t.powerLoss
      else if rail = 10 then (if mv < 3135 then t.onBank.powerLoss else t.onBank)
      else t := by
  refine if_neg ?_
  rintro (unknown | stopped | inRange)
  · omega
  · simp [running] at stopped
  · simp [out] at inRange

/-- A core rail is an error of its die. -/
theorem State.railFault_core (core : rail < 2) :
    let f := s.railRecorded rail mv
    s.railFault rail mv =
      ({ f with power := { f.power with coreFault := upd f.power.coreFault rail fun _ => true } } : State).hardwareError 9 rail 7 := by
  rw [State.railFault_out running out (by omega), if_pos core, if_neg (by omega)]

/-- A rail of the I/O die is a loss of power. -/
theorem State.railFault_io (low : 2 ≤ rail) (high : rail < 10) : s.railFault rail mv = (s.railRecorded rail mv).powerLoss := by
  rw [State.railFault_out running out (by omega), if_neg (by omega), if_pos high, if_neg (by omega)]

/-- BELLOWS_IN serves Bellows no longer, and below its range it is a loss of power. -/
theorem State.railFault_in (bellowsIn : rail = 10) :
    s.railFault rail mv = if mv < 3135 then (s.railRecorded rail mv).onBank.powerLoss else (s.railRecorded rail mv).onBank := by
  rw [State.railFault_out running out (by omega), if_neg (by omega), if_neg (by omega), if_pos bellowsIn, if_neg (show rail ≠ 11 by omega)]

/-- The reading of BELLOWS_CAP is the bank's. -/
theorem State.railFault_cap (cap : rail = 11) : s.railFault rail mv = (s.railRecorded rail mv).bankReads mv := by
  rw [State.railFault_out running out (by omega), if_neg (by omega), if_neg (by omega), if_neg (by omega), if_pos cap]

end

theorem State.coreRestored_sound {s : State} {d : Nat} (sound : s.power.coreFault.getD d false = false) : s.coreRestored d = s :=
  if_pos (.inr (congrArg (!·) sound))

theorem State.coreRestored_powersUp {s : State} {d : Nat} (die : d < 2) (fault : s.power.coreFault.getD d false = true) :
    s.coreRestored d = ({ s with power := { s.power with coreFault := upd s.power.coreFault d fun _ => false } } : State).diePowerUp d := by
  refine if_neg ?_
  rintro (far | sound)
  · omega
  · rw [fault] at sound
    exact absurd sound (by decide)

theorem railFaults : Claim.RailFaults := by
  unfold Claim.RailFaults
  intro dt rail mv s e f
  rw [exec_rail_fault]
  refine ⟨fun running out => ⟨fun core => ?_, fun low high => ?_, fun bellowsIn low => ?_, fun bellowsIn high => ?_, fun cap => ?_⟩,
    fun none => ?_, fun die fault => ?_, fun die sound => ?_⟩
  · exact State.act_eq (State.railFault_core (s := e) running out core)
  · exact State.act_eq (State.railFault_io (s := e) running out low high)
  · exact State.act_eq ((State.railFault_in (s := e) running out bellowsIn).trans (if_pos low))
  · exact State.act_eq ((State.railFault_in (s := e) running out bellowsIn).trans (if_neg (Nat.not_lt.2 high)))
  · exact State.act_eq (State.railFault_cap (s := e) running out cap)
  · exact State.act_eq (State.railFault_none (s := e) none)
  · rw [exec_core_rail_restored]
    exact State.act_eq (State.coreRestored_powersUp (s := e) die.isLt fault)
  · rw [exec_core_rail_restored]
    exact State.act_eq (State.coreRestored_sound (s := e) sound)

/-! ### The hold-up bank -/

/-- The bank's voltage and the reading of its rail. -/
def State.bankAt (s : State) (v : Nat) : State :=
  { s with bellows := { s.bellows with capMv := v }, power := { s.power with railMv := upd s.power.railMv 11 fun _ => v } }

/-- A reading of the bank from 10.5 V on is one that charges it. -/
theorem State.bankAt_holdupOk (s : State) (mv : Nat) : (s.bankAt (sat 0xFFFF mv)).holdupOk = decide (10500 ≤ mv) := by
  have charged : 10500 ≤ sat 0xFFFF mv ↔ 10500 ≤ mv := by
    unfold sat
    omega
  exact decide_eq_decide.2 charged

/-- EV_HOLDUP_LOW comes of a charged bank that reads low while BELLOWS_IN serves Bellows. -/
theorem State.bankReads_eq (s : State) (mv : Nat) :
    let t := s.bankAt (sat 0xFFFF mv)
    s.bankReads mv = if 10500 ≤ s.bellows.capMv ∧ mv < 10500 ∧ s.bellows.inOk = true then (t.latch 2#32).holdupEvent else t := by
  intro t
  have falls : (s.holdupOk && !t.holdupOk && t.bellows.inOk) = true ↔ 10500 ≤ s.bellows.capMv ∧ mv < 10500 ∧ s.bellows.inOk = true := by
    rw [s.bankAt_holdupOk mv]
    simp [State.holdupOk, t, State.bankAt, and_assoc]
  exact if_congr falls rfl rfl

theorem State.holdupLow_none {s : State} {mv : Nat} (h : 10500 ≤ mv ∨ s.bellows.running = false) : s.holdupLow mv = s :=
  if_pos (h.imp_right (congrArg (!·)))

theorem State.holdupLow_reads {s : State} {mv : Nat} (low : mv < 10500) (running : s.bellows.running = true) :
    s.holdupLow mv = s.bankReads mv :=
  if_neg (by simp [low, running])

theorem State.holdupSet_reads {s : State} {mv : Nat} (low : 10500 ≤ mv) (high : mv ≤ 11500) (running : s.bellows.running = true)
    (inOk : s.bellows.inOk = true) : s.holdupSet mv = s.bankReads mv :=
  if_neg (by simp [low, high, running, inOk])

/-! ### Bellows stops and powers up -/

/-- Bellows is stopped: STAND_SAFE asserted everywhere, the bank empty. -/
def State.bellowsOff (s : State) : State :=
  { s with bellows := { s.bellows with running := false, onHoldup := false, safeLinks := 0xFFFF, capMv := 0 }
           power := { s.power with railMv := upd s.power.railMv 11 fun _ => 0 } }

theorem State.bellowsStop_none {s : State} (h : s.bellows.inOk = true ∨ s.bellows.running = false) : s.bellowsStop = s :=
  if_pos (h.imp_right (congrArg (!·)))

theorem State.bellowsStop_stops {s : State} (inLost : s.bellows.inOk = false) (running : s.bellows.running = true) :
    s.bellowsStop = (s.halt true).bellowsOff :=
  if_neg (by simp [inLost, running])

theorem State.bellowsPowerUp_runs {s : State} (running : s.bellows.running = true) : s.bellowsPowerUp = s := if_pos running

/-- Bellows' state, its log and its clock at its power-up, before SYS_RST_N counts. -/
def State.bellowsFresh (s : State) : State :=
  let s := s.halt true
  ({ s with
    bellows := { powerUps := s.bellows.powerUps + 1, starts := 0, fresh := true
                 journalSeq := match s.newestJournal with | some j => u32 j 8 | none => 0 }
    recorder := {}
    faults := {}
    clock := { up := s.clock.up, tickUp := s.clock.up, nextUp := s.clock.up + framePeriod 60, tbref := s.clock.tbref }
    tb := {}
    power := { s.power with domains := List.replicate 82 0 ++ [3] } } : State).newSession

/-- The clock starts at once where SYS_RST_N is high, and that start counts. -/
theorem State.bellowsPowerUp_fresh {s : State} (stopped : s.bellows.running = false) :
    s.bellowsPowerUp = if s.bellowsFresh.modes.rst then s.bellowsFresh
      else { s.bellowsFresh.startClock with bellows := { s.bellowsFresh.startClock.bellows with starts := 1 } } :=
  if_neg (by simp [stopped])

/-- A reset keeps the number of power-ups of Bellows. -/
theorem State.halt_powerUps (s : State) (io : Bool) : (s.halt io).bellows.powerUps = s.bellows.powerUps := by
  obtain ⟨blocks, kept⟩ := s.keepJournal_cases
  unfold State.halt
  rw [kept]

theorem State.bellowsFresh_starts (s : State) :
    s.bellowsFresh.bellows.running = true ∧ s.bellowsFresh.bellows.powerUps = s.bellows.powerUps + 1 ∧ s.bellowsFresh.bellows.epoch = 0 ∧
    s.bellowsFresh.recorder = {} ∧ s.bellowsFresh.clock.tick = 0 ∧ s.bellowsFresh.settings = {} :=
  ⟨rfl, congrArg (· + 1) (s.halt_powerUps true), rfl, rfl, rfl, rfl⟩

/-- The state, log and clock of Bellows start anew at its power-up, with SYS_RST_N at either level. -/
theorem State.bellowsPowerUp_starts {s : State} (stopped : s.bellows.running = false) :
    let t := s.bellowsPowerUp
    t.bellows.running = true ∧ t.bellows.powerUps = s.bellows.powerUps + 1 ∧ t.bellows.epoch = 0 ∧ t.recorder = {} ∧
    t.clock.tick = 0 ∧ t.settings = {} := by
  rw [State.bellowsPowerUp_fresh stopped]
  obtain ⟨running, powerUps, epoch, recorder, tick, settings⟩ := s.bellowsFresh_starts
  split
  · exact ⟨running, powerUps, epoch, recorder, tick, settings⟩
  · exact ⟨running, powerUps, epoch, recorder, rfl, settings⟩

theorem State.historyRestored_none {s : State} (h : s.recorder.restoring = false ∨ s.bellows.running = false) : s.historyRestored = s :=
  if_pos (h.imp (congrArg (!·)) (congrArg (!·)))

theorem State.historyRestored_boots {s : State} (restoring : s.recorder.restoring = true) (running : s.bellows.running = true) :
    s.historyRestored = s.restoreEnd.bootWhenRestored :=
  if_neg (by simp [restoring, running])

theorem bellowsSupply : Claim.BellowsSupply := by
  unfold Claim.BellowsSupply
  intro dt mv s e v low
  rw [exec_holdup_low, exec_holdup_ok_set, exec_bellows_stop, exec_bellows_power_up, exec_history_restore_end]
  have reads : e.bankReads mv =
      if 10500 ≤ s.bellows.capMv ∧ mv < 10500 ∧ s.bellows.inOk = true then (low.latch 2#32).holdupEvent else low := e.bankReads_eq mv
  refine ⟨?_, ?_, ?_, ?_, ?_, ?_, ?_, ?_, ?_, ?_⟩
  · intro under running charged inOk
    exact State.act_eq ((State.holdupLow_reads (s := e) under running).trans (reads.trans (if_pos ⟨charged, under, inOk⟩)))
  · intro under running other
    refine State.act_eq ((State.holdupLow_reads (s := e) under running).trans (reads.trans (if_neg ?_)))
    rintro ⟨charged, -, inOk⟩
    obtain empty | inLost := other
    · omega
    · exact absurd (inLost.symm.trans inOk) (by decide)
  · exact fun none => State.act_eq (State.holdupLow_none (s := e) none)
  · intro full high running inOk
    refine State.act_eq ((State.holdupSet_reads (s := e) full high running inOk).trans (reads.trans (if_neg ?_)))
    rintro ⟨-, under, -⟩
    omega
  · exact fun inLost running => State.act_eq (State.bellowsStop_stops (s := e) inLost running)
  · exact fun none => State.act_eq (State.bellowsStop_none (s := e) none)
  · exact fun running => State.act_eq (State.bellowsPowerUp_runs (s := e) running)
  · exact fun stopped => ⟨rfl, State.bellowsPowerUp_starts (s := e) stopped⟩
  · exact fun restoring running => State.act_eq (State.historyRestored_boots (s := e) restoring running)
  · exact fun none => State.act_eq (State.historyRestored_none (s := e) none)

/-- Settles O55: each event of the supplies is one branch of its operation; what a loss leaves is what its declaration sets and the reset
after it keeps or clears. -/
theorem powerLossAndSupplies : Obligations.PowerLossAndSupplies := ⟨powerLossAndRestore, railFaults, bellowsSupply⟩

end Sys2Proof.Machine
end

section
/-! PROOFS. The blocks of the stand links: scrambled bodies, ordered blocks, and lanes that arrive inverted (R303, R307). -/

namespace Sys2Proof.Machine

/-- A body scrambled twice under one register is the body (R303). -/
theorem scramble_scramble (x body : Nat) : (scramble x (scramble x body).2).2 = body := Nat.xor_xor_cancel_right ..

/-- The bytes of a number that bytes spell are those bytes. -/
theorem le_uN (bs : List Byte) (off n : Nat) : le n (uN bs off n) = slice bs off n := by
  induction n generalizing off with
  | zero => rfl
  | succ n ih =>
    have low : BitVec.ofNat 8 (u8 bs off + 256 * uN bs (off + 1) n) = byteAt bs off := by
      refine BitVec.eq_of_toNat_eq ?_
      have small : u8 bs off < 256 := (byteAt bs off).isLt
      rw [BitVec.toNat_ofNat]
      unfold u8 at *
      omega
    have high : (u8 bs off + 256 * uN bs (off + 1) n) / 256 = uN bs (off + 1) n := by
      have small : u8 bs off < 256 := (byteAt bs off).isLt
      omega
    have rest : slice bs off (n + 1) = byteAt bs off :: slice bs (off + 1) n := by
      simp [slice, List.range_succ_eq_map, Function.comp_def, Nat.add_assoc, Nat.add_comm 1]
    unfold uN le
    rw [low, high, ih, rest]

theorem slice_all (bs : List Byte) {n : Nat} (h : bs.length = n) : slice bs 0 n = bs := by
  subst h
  simpa using slice_append [] bs []

theorem beq_false_of_head {a b : List Byte} (h : a.head? ≠ b.head?) : (a == b) = false :=
  beq_eq_false_iff_ne.2 fun same => h (congrArg _ same)

/-- The ordered block that a body is, is the first of the five whose bytes it is (R303, R307). -/
theorem readOrdered_block {o : Ordered} (whole : o.bytes.length = 16) : readOrdered o.block =
    [.skip, .train (slice o.bytes 1 7), .doze, .sleep, .wake (u8 o.bytes 1)].find? fun r => r.bytes == o.bytes := by
  have body : le 16 o.block.2 = o.bytes := (le_uN o.bytes 0 16).trans (slice_all _ whole)
  unfold readOrdered
  rw [body]
  rfl

theorem readOrdered_train {f : List Byte} (seven : f.length = 7) : readOrdered (Ordered.train f).block = some (.train f) := by
  have bytes : (Ordered.train f).bytes = [0x2D] ++ (f ++ List.replicate 8 0x4A) :=
    congrArg (0x2D :: · ++ List.replicate 8 0x4A) (slice_all f seven)
  have fields : slice (Ordered.train f).bytes 1 7 = f := by
    rw [bytes, ← seven]
    exact slice_append [0x2D] f _
  have skip : (Ordered.skip.bytes == (Ordered.train f).bytes) = false := beq_false_of_head (by simp [Ordered.bytes])
  rw [readOrdered_block (by simp [bytes, seven]), fields]
  simp only [List.find?_cons, skip, beq_self_eq_true]

theorem readOrdered_wake {lane : Nat} (small : lane < 256) : readOrdered (Ordered.wake lane).block = some (.wake lane) := by
  have field : u8 (Ordered.wake lane).bytes 1 = lane := (BitVec.toNat_ofNat lane 8).trans (Nat.mod_eq_of_lt small)
  have other {o : Ordered} (h : o.bytes.head? ≠ some 0x3C) : (o.bytes == (Ordered.wake lane).bytes) = false := beq_false_of_head h
  have train : (Ordered.train (slice (Ordered.wake lane).bytes 1 7)).bytes.head? ≠ some 0x3C := by simp [Ordered.bytes]
  rw [readOrdered_block rfl, field]
  simp only [List.find?_cons, other (o := .skip) (by decide), other train, other (o := .doze) (by decide), other (o := .sleep) (by decide),
    beq_self_eq_true]

/-- A block that arrives inverted is put upright (R307). -/
theorem Link.upright_inverted {k : Link} {h x : Nat} (header : h ≤ 3) (body : x < 2 ^ 128) (inverted : k.inverted.getD k.retLane false = true) :
    k.upright (3 - h, 2 ^ 128 - 1 - x) = (h, x) := by
  unfold Link.upright
  rw [if_pos inverted]
  exact Prod.ext (by dsimp only; omega) (by dsimp only; omega)

theorem blocksAreRead : Claim.BlocksAreRead := by
  refine ⟨scramble_scramble, ?_, fun k h x header body inverted => Link.upright_inverted header body inverted⟩
  rintro o (rfl | rfl | rfl | ⟨f, seven, rfl⟩ | ⟨lane, small, rfl⟩)
  · exact readOrdered_block rfl
  · exact (readOrdered_block rfl).trans (by decide)
  · exact (readOrdered_block rfl).trans (by decide)
  · exact readOrdered_train seven
  · exact readOrdered_wake small

end Sys2Proof.Machine
end

section
/-! PROOFS. The return-lane frames of the stand links: taken in order, and what their tags free and ask for (R309 to R311; log entry 103). -/

namespace Sys2Proof.Machine

/-! ### Links changed -/

theorem State.link_updLink_self {s : State} {n : Nat} (f : Link → Link) (h : n < s.links.length) : (s.updLink n f).link n = f (s.link n) :=
  upd_getD_self f {} h

/-- Changes that agree on the link they change are one. -/
theorem State.updLink_congr {s : State} {n : Nat} {f g : Link → Link} (h : f (s.link n) = g (s.link n)) : s.updLink n f = s.updLink n g :=
  congrArg (fun l => ({ s with links := l } : State)) (upd_congr {} fun _ => h)

theorem State.updLink_updLink (s : State) (n : Nat) (f g : Link → Link) : (s.updLink n f).updLink n g = s.updLink n (g ∘ f) :=
  congrArg (fun l => ({ s with links := l } : State)) (upd_upd s.links n f g)

/-- A link that is not down is one of the A9's. -/
theorem State.link_known {s : State} {l : Nat} (h : (s.link l).state ≠ 0) : l < s.links.length := by
  by_contra beyond
  exact h (by rw [State.link, List.getD_eq_default _ _ (by omega)])

theorem State.linkUp_state {s : State} {l : Nat} (up : s.linkUp l = true) : 2 ≤ (s.link l).state := of_decide_eq_true up

theorem State.linkUp_known {s : State} {l : Nat} (up : s.linkUp l = true) : l < s.links.length :=
  State.link_known (by have := State.linkUp_state up; omega)

/-! ### Frames in order and their acknowledgements -/

/-- A link whose directions wake for a return-lane frame (R329). -/
def Link.roused (k : Link) : Link := { k.wake with retDoze := 0 }

/-- A link with a return-lane frame judged (R310): the next SEQ expected, or the frame counted and what follows discarded. -/
def Link.judges (k : Link) (f : LinkFrame) : Link :=
  if k.takes f then { k with rxExpect := (k.rxExpect + 1) % 32768, rxDiscard := false }
  else { k with rxDiscard := true, rxCrc := (k.rxCrc + 1) % 0x100000000, frameBad := true }

/-- How many frames an ACK_SEQ frees, where it names one of those that wait (R311). -/
def Link.acked (k : Link) (ack : Nat) : Nat := seqGap k.txAcked ((ack + 1) % 32768)

/-- A link with an ACK_SEQ taken (R311): what it acknowledges is freed. -/
def Link.frees (k : Link) (ack now : Nat) : Link :=
  if 0 < k.acked ack ∧ k.acked ack ≤ seqGap k.txAcked k.txNext then
    { k with txAcked := (ack + 1) % 32768, txSince := now, txReplays := 0, txReplay := none, txHeld := k.txHeld.drop (k.acked ack) }
  else k

/-- A link with a return-lane frame received, but for its NAK: awake, the frame judged, the tag of a good one taken (R310, R311). -/
def Link.hears (k : Link) (f : LinkFrame) (now : Nat) : Link :=
  if f.good then (k.roused.judges f).frees f.ack now else k.roused.judges f

theorem Link.judges_taken {k : Link} {f : LinkFrame} (h : k.takes f = true) :
    k.judges f = { k with rxExpect := (k.rxExpect + 1) % 32768, rxDiscard := false } := if_pos h

theorem Link.judges_discarded {k : Link} {f : LinkFrame} (h : k.takes f = false) :
    k.judges f = { k with rxDiscard := true, rxCrc := (k.rxCrc + 1) % 0x100000000, frameBad := true } := if_neg (by simp [h])

/-- The judging leaves the replay buffer. -/
theorem Link.judges_tx (k : Link) (f : LinkFrame) : (k.judges f).txAcked = k.txAcked ∧ (k.judges f).txNext = k.txNext ∧
    (k.judges f).txReplay = k.txReplay ∧ (k.judges f).txReplays = k.txReplays ∧ (k.judges f).txHeld = k.txHeld := by
  unfold Link.judges
  split <;> exact ⟨rfl, rfl, rfl, rfl, rfl⟩

/-- An ACK_SEQ leaves what is expected. -/
theorem Link.frees_rx (k : Link) (ack now : Nat) : (k.frees ack now).rxExpect = k.rxExpect ∧ (k.frees ack now).rxDiscard = k.rxDiscard ∧
    (k.frees ack now).rxCrc = k.rxCrc := by
  unfold Link.frees
  split <;> exact ⟨rfl, rfl, rfl⟩

theorem Link.frees_none {k : Link} {ack : Nat} (h : k.acked ack = 0 ∨ seqGap k.txAcked k.txNext < k.acked ack) (now : Nat) : k.frees ack now = k :=
  if_neg (by omega)

theorem Link.frees_some {k : Link} {ack : Nat} (some : 0 < k.acked ack) (waits : k.acked ack ≤ seqGap k.txAcked k.txNext) (now : Nat) :
    k.frees ack now =
      { k with txAcked := (ack + 1) % 32768, txSince := now, txReplays := 0, txReplay := none, txHeld := k.txHeld.drop (k.acked ack) } :=
  if_pos ⟨some, waits⟩

theorem Link.hears_bad {f : LinkFrame} (bad : f.good = false) (k : Link) (now : Nat) : k.hears f now = k.roused.judges f := if_neg (by simp [bad])

theorem Link.hears_good {f : LinkFrame} (good : f.good = true) (k : Link) (now : Nat) :
    k.hears f now = (k.roused.judges f).frees f.ack now := if_pos good

/-- What a received frame makes of what is expected is its judging. -/
theorem Link.hears_rx (k : Link) (f : LinkFrame) (now : Nat) : (k.hears f now).rxExpect = (k.roused.judges f).rxExpect ∧
    (k.hears f now).rxDiscard = (k.roused.judges f).rxDiscard ∧ (k.hears f now).rxCrc = (k.roused.judges f).rxCrc := by
  unfold Link.hears
  split
  · exact Link.frees_rx _ f.ack now
  · exact ⟨rfl, rfl, rfl⟩

theorem Link.hears_taken {k : Link} {f : LinkFrame} (h : k.takes f = true) (now : Nat) :
    (k.hears f now).rxExpect = (k.rxExpect + 1) % 32768 ∧ (k.hears f now).rxDiscard = false ∧ (k.hears f now).rxCrc = k.rxCrc := by
  have heard := k.hears_rx f now
  rwa [Link.judges_taken (k := k.roused) h] at heard

theorem Link.hears_discarded {k : Link} {f : LinkFrame} (h : k.takes f = false) (now : Nat) :
    (k.hears f now).rxExpect = k.rxExpect ∧ (k.hears f now).rxDiscard = true ∧ (k.hears f now).rxCrc = (k.rxCrc + 1) % 0x100000000 := by
  have heard := k.hears_rx f now
  rwa [Link.judges_discarded (k := k.roused) h] at heard

/-- A change under a condition is a change by what the condition picks. -/
theorem State.ite_updLink (s : State) (n : Nat) (c : Prop) [Decidable c] (f : Link → Link) :
    (if c then s.updLink n f else s) = s.updLink n (if c then f else id) := by
  split
  · rfl
  · exact congrArg (fun l => ({ s with links := l } : State)) (upd_id s.links n).symm

theorem State.frameIn_bad (s : State) {f : LinkFrame} (l : Nat) (bad : f.good = false) :
    s.frameIn l f = s.updLink l (·.hears f s.clock.up) :=
  have judged : s.frameIn l f = (s.updLink l Link.roused).updLink l (·.judges f) := if_pos (by simp [bad])
  judged.trans ((s.updLink_updLink l _ _).trans (State.updLink_congr (Link.hears_bad bad _ _).symm))

/-- The tag of a good frame is taken with the frame, and then its NAK may start a replay (R311). -/
theorem State.frameIn_good {s : State} {l : Nat} {f : LinkFrame} (known : l < s.links.length) (good : f.good = true) :
    let t := s.updLink l (·.hears f s.clock.up)
    s.frameIn l f =
      if f.nak ∧ !((t.link l).txReplay = some ((f.ack + 1) % 32768) ∧ t.clock.up < (t.link l).txReplayTo) then
        t.replay l fun k => { k with naked := (k.naked + 1) % 0x100000000 }
      else t := by
  intro t
  let k := (s.updLink l Link.roused).link l
  let j := (s.updLink l Link.roused).updLink l (·.judges f)
  let a := if 0 < k.acked f.ack ∧ k.acked f.ack ≤ seqGap k.txAcked k.txNext then
      j.updLink l fun i => { i with
        txAcked := (f.ack + 1) % 32768, txSince := j.clock.up, txReplays := 0, txReplay := none, txHeld := i.txHeld.drop (k.acked f.ack) }
    else j
  have branches : s.frameIn l f =
      if f.nak ∧ !((a.link l).txReplay = some ((f.ack + 1) % 32768) ∧ a.clock.up < (a.link l).txReplayTo) then
        a.replay l fun k => { k with naked := (k.naked + 1) % 0x100000000 }
      else a := if_neg (by simp [good])
  have freed : a = t := by
    let i := (s.link l).roused.judges f
    have roused : k = (s.link l).roused := State.link_updLink_self _ known
    obtain ⟨first, next, -⟩ := (s.link l).roused.judges_tx f
    have moved : k.acked f.ack = i.acked f.ack := by rw [roused]; exact (congrArg (seqGap · _) first).symm
    have waits : seqGap k.txAcked k.txNext = seqGap i.txAcked i.txNext := by rw [roused, first, next]
    refine (State.ite_updLink j l _ _).trans ?_
    rw [State.updLink_updLink, State.updLink_updLink, moved, waits]
    refine State.updLink_congr ((?_ : _ = i.frees f.ack s.clock.up).trans (Link.hears_good good _ _).symm)
    unfold Link.frees
    rw [Function.comp_apply]
    split <;> rfl
  rw [branches, freed]

/-- A frame without a NAK, or with a bad CRC, changes its link alone. -/
theorem State.frameIn_unnaked {s : State} {l : Nat} {f : LinkFrame} (known : l < s.links.length) (h : f.nak = false ∨ f.good = false) :
    s.frameIn l f = s.updLink l (·.hears f s.clock.up) := by
  cases good : f.good with
  | false => exact s.frameIn_bad l good
  | true =>
    have nak : f.nak = false := h.resolve_right (by simp [good])
    exact (State.frameIn_good known good).trans (if_neg (by simp [nak]))

theorem Link.takes_good {f : LinkFrame} (good : f.good = true) (k : Link) :
    k.takes f = true ↔ f.seq = k.rxExpect ∧ (k.rxDiscard = false ∨ f.replay = true) := by
  simp [Link.takes, LinkFrame.takenBy, good]

theorem Link.takes_bad {f : LinkFrame} (bad : f.good = false) (k : Link) : k.takes f = false := by
  simp [Link.takes, LinkFrame.takenBy, bad]

/-- The 64 blocks of a frame with no ordered block before it are read, judged, and the packets of one that is taken act (R309, R310, R313). -/
theorem State.blocksReceived_frame {s : State} {l : Nat} (up : s.linkUp l = true) (sent : Nat) {blocks : List (Nat × Nat)}
    (spare : List (Nat × Nat)) (whole : blocks.length = 64)
    (unordered : ∀ x, (blocks.map ((s.framesSent l sent).link l).upright).head? = some x → readOrdered x = none) :
    let a := s.framesSent l sent
    let b := a.spareIn l spare
    let r := (b.link l).readFrame (blocks.map (a.link l).upright)
    let c := b.updLink l fun _ => r.1
    s.blocksReceived l blocks spare sent =
      if (c.link l).takes r.2 then (c.frameIn l r.2).packetsIn l r.2.body else c.frameIn l r.2 := by
  intro a
  have state := State.linkUp_state up
  have awake : (if (s.link l).state = 1 then s.updLink l (·.noteInverted blocks spare) else s) = s := if_neg (by omega)
  have none : (blocks.map (a.link l).upright).takeWhile (fun x => (readOrdered x).isSome) = [] := by
    generalize blocks.map (a.link l).upright = bs at unordered
    cases bs with
    | nil => rfl
    | cons x xs => simp [unordered x rfl]
  have length : (blocks.map (a.link l).upright).length = 64 := by rw [List.length_map, whole]
  unfold State.blocksReceived
  rw [if_neg (by omega)]
  simp only [awake, up, Bool.true_or, if_true]
  rw [none]
  exact if_pos ⟨length, trivial⟩

theorem linkFramesAreTakenInOrder : Claim.LinkFramesAreTakenInOrder := by
  refine ⟨?_, ?_, ?_⟩
  · intro dt sent l blocks spare s up a bs b r c whole unordered
    have received := State.blocksReceived_frame (s := s.elapse dt) up sent spare whole unordered
    rw [exec_link_frame_received]
    exact ⟨fun taken => State.act_eq (received.trans (if_pos taken)),
      fun discarded => State.act_eq (received.trans (if_neg (Bool.eq_false_iff.1 discarded)))⟩
  · intro dt sent l blocks spare s down
    exact (exec_link_frame_received ..).trans (State.act_eq (if_pos down))
  · intro l f s known k m
    have unnaked (h : f.nak = false ∨ f.good = false) : m = s.updLink l (·.hears f s.clock.up) := State.frameIn_unnaked known h
    have link (h : f.nak = false ∨ f.good = false) : m.link l = k.hears f s.clock.up :=
      (congrArg (·.link l) (unnaked h)).trans (State.link_updLink_self _ known)
    refine ⟨fun h => ?_, fun good nak seq taken => ?_, fun good nak other => ?_, fun bad => ?_⟩
    · rw [unnaked h]
      exact ⟨fun j other => State.link_updLink_ne s _ other, rfl, rfl, rfl⟩
    · rw [link (.inl nak)]
      exact Link.hears_taken ((Link.takes_good good k).2 ⟨seq, taken⟩) _
    · rw [link (.inl nak)]
      refine Link.hears_discarded (Bool.eq_false_iff.2 fun taken => ?_) _
      obtain ⟨seq, replay⟩ := (Link.takes_good good k).1 taken
      obtain gap | ⟨discard, first⟩ := other
      · exact gap seq
      · simp [k, discard, first] at replay
    · obtain ⟨acked, -, replay, -, held⟩ := k.roused.judges_tx f
      obtain ⟨expect, discard, crc⟩ := Link.hears_discarded (Link.takes_bad bad k) s.clock.up
      rw [link (.inr bad)]
      refine ⟨expect, discard, crc, ?_⟩
      rw [Link.hears_bad bad]
      exact ⟨acked, replay, held⟩

theorem acknowledgementsFreeTheBuffer : Claim.AcknowledgementsFreeTheBuffer := by
  intro l f s known good k next moved m
  have heard : m = s.updLink l (·.hears f s.clock.up) := State.frameIn_unnaked known (.inl rfl)
  have link : m.link l = (k.roused.judges f).frees f.ack s.clock.up :=
    (congrArg (·.link l) heard).trans ((State.link_updLink_self _ known).trans (Link.hears_good good _ _))
  have up : m.clock.up = s.clock.up := congrArg (·.clock.up) heard
  have nak := State.frameIn_good known good
  rw [← heard] at nak
  obtain ⟨acked, last, replay, replays, held⟩ := k.roused.judges_tx f
  have gap : (k.roused.judges f).acked f.ack = moved := congrArg (seqGap · next) acked
  have waits : seqGap (k.roused.judges f).txAcked (k.roused.judges f).txNext = seqGap k.txAcked k.txNext := by rw [acked, last]; rfl
  refine ⟨fun some within => ?_, fun h => ?_, fun isNak other => ?_, fun isNak same running => ?_⟩
  · rw [link, Link.frees_some (by omega) (by omega), gap]
    exact ⟨rfl, rfl, rfl, rfl, congrArg (List.drop moved) held⟩
  · rw [link, Link.frees_none (by omega)]
    exact ⟨acked, replays, replay, held⟩
  · have idle : ¬((m.link l).txReplay = some next ∧ m.clock.up < (m.link l).txReplayTo) := by
      rintro ⟨same, running⟩
      obtain otherFrame | late := other
      · exact otherFrame same
      · exact absurd running (by rw [up]; omega)
    exact nak.trans (if_pos ⟨isNak, by rw [decide_eq_false idle]; rfl⟩)
  · have runs : (m.link l).txReplay = some next ∧ m.clock.up < (m.link l).txReplayTo := ⟨same, by rw [up]; exact running⟩
    exact nak.trans (if_neg fun h => absurd (h.2.symm.trans (congrArg not (decide_eq_true runs))) (by decide))

end Sys2Proof.Machine
end

section
/-! PROOFS. Replays, recoveries and the loss of stand links (R114, R311, R312, R328; log entries 48, 51). -/

namespace Sys2Proof.Machine

/-! ### Replays and recoveries -/

theorem State.replayTimeout_due {s : State} {l : Nat} (up : s.linkUp l = true) (awake : (s.link l).retDoze = 0)
    (waits : (s.link l).txAcked ≠ (s.link l).txNext)
    (due : s.since (s.link l).txSince (us 4) = true ∨ seqGap (s.link l).txAcked (s.link l).txNext = 256) :
    s.replayTimeout l = s.replay l fun k => { k with timeouts := (k.timeouts + 1) % 0x100000000 } := if_pos ⟨up, awake, waits, due⟩

/-- The instants of the recoveries of the last second, one that starts now with them (R312). -/
def State.recoveriesWith (s : State) (l : Nat) : List Nat := ((s.link l).recoveryTimes.filter fun t => !s.since t (sec 1)) ++ [s.clock.up]

/-- A link awake, with a recovery that starts now counted. -/
def State.recoveryCounted (s : State) (l : Nat) : State := s.updLink l fun k => { k.wake with recoveryTimes := s.recoveriesWith l }

theorem State.countRecovery_eq (s : State) (l : Nat) : s.countRecovery l = s.recoveryCounted l := State.updLink_congr rfl

/-- A recovery of a link that runs: the third within a second takes it down (R312). -/
theorem State.startRecovery_up {s : State} {l : Nat} (up : s.linkUp l = true) :
    let a := s.recoveryCounted l
    s.startRecovery l =
      if 3 ≤ (s.recoveriesWith l).length then (a.linkDown l 7).recFixed 0x0060 [l, 1, (s.recoveriesWith l).length]
      else (a.updLink l fun k => { k with
        awake := k.state, state := 1, recovering := some s.clock.up, txReplay := none, txReplays := 0, rxDiscard := false
        blanked := true }).onLink l fun st => { st with kss := 0, kssDue := st.kssDue || st.kss != 0 } := by
  intro a
  have times : (a.link l).recoveryTimes = s.recoveriesWith l :=
    congrArg Link.recoveryTimes (State.link_updLink_self _ (State.linkUp_known up))
  have state := State.linkUp_state up
  unfold State.startRecovery State.recoveryFailed
  rw [if_neg (by omega), State.countRecovery_eq]
  dsimp only
  rw [times]
  rfl

/-- What ends a recovery with the link's loss (R312, R328): more lanes lost than spares and narrowing carry, an order that the receivers cannot
use, or its time over. -/
def State.recoveryLost (s : State) (c : List (Option Nat)) (order : List Nat) (ret : List (List Byte)) (t : Nat) : Prop :=
  3 ≤ (List.range 9).countP (laneFailed c) ∨ laneFailed c 9 = true ∨ (laneFailed c 10 = true ∧ laneFailed c 11 = true) ∨
    lanesArrive c order ret = false ∨ t + us 200 < s.clock.up

section
variable {s : State} {l t : Nat} (runs : (s.link l).recovering = some t) (lanes : List LaneReport) {order : List Nat} {ret : List (List Byte)}
include runs

theorem State.recoveryEnd_down (lost : s.recoveryLost (laneCauses false (s.settings.links.getD l {}).clocking lanes) order ret t) :
    s.recoveryEnd l lanes order ret = s.recoveryFailed l 7 := by
  unfold State.recoveryEnd
  dsimp only
  rw [runs]
  exact if_pos (by simpa [State.recoveryLost] using lost)

/-- A recovery that the link survives: it resumes with what waits sent again, and the bands in flight are unknown (R312, R328). -/
theorem State.recoveryEnd_resumes (ok : ¬s.recoveryLost (laneCauses false (s.settings.links.getD l {}).clocking lanes) order ret t) :
    let c := laneCauses false (s.settings.links.getD l {}).clocking lanes
    let resumed := s.updLink l fun k => { k.lanes (lostLanes c) (!laneFailed c 8) (laneFailed c 10) (!laneFailed c 11) with
      recovering := none, recoveries := (k.recoveries + 1) % 0x100000000, txReplay := some k.txAcked, txSince := s.clock.up, txDeal := 0
      litFrom := k.rayWin }
    s.recoveryEnd l lanes order ret = ((resumed.resend l).recFixed 0x0060 [l, 0, (s.link l).recoveryTimes.length]).onLink l fun st =>
      if st.bands.any (·.inFlight) then { st.unknownInFlight with kssDue := true, dark := true } else st := by
  unfold State.recoveryEnd
  dsimp only
  rw [runs]
  exact if_neg (by simpa [State.recoveryLost] using ok)

end

theorem replaysAndRecoveries : Claim.ReplaysAndRecoveries := by
  refine ⟨?_, ?_, ?_⟩
  · intro dt l s up awake waits due a
    have replays : (s.elapse dt).replayTimeout l = if 4 ≤ (s.link l).txReplays + 1 then a.startRecovery l else a.resend l :=
      State.replayTimeout_due (s := s.elapse dt) up awake waits (due.imp_left State.since_elapse_true)
    rw [exec_replay_timeout]
    exact ⟨fun few => State.act_eq (replays.trans (if_neg (by omega))), fun fourth => State.act_eq (replays.trans (if_pos (by omega)))⟩
  · intro dt l s up recent a
    have starts := State.startRecovery_up (s := s.elapse dt) up
    rw [exec_link_recovery]
    exact ⟨fun few => State.act_eq (starts.trans (if_neg (Nat.not_le.2 few))), fun third => State.act_eq (starts.trans (if_pos third))⟩
  · intro dt l lanes order ret s t runs n c resumed bad
    rw [exec_link_recovery_end]
    exact ⟨fun ok => State.act_eq (State.recoveryEnd_resumes (s := s.elapse dt) runs lanes ok),
      fun lost => State.act_eq (State.recoveryEnd_down (s := s.elapse dt) runs lanes lost)⟩

/-! ### Links that go down -/

@[simp] theorem State.raise_links (s : State) (code unit : Nat) (ps : List Nat) (tag txn : Word) :
    (s.raise code unit ps tag txn).links = s.links := by
  obtain ⟨rings, out, held, owed, ports, pba, tick, merged, fired, h, -⟩ := s.raise_cases code unit ps tag txn
  rw [h]

@[simp] theorem State.raise_fs (s : State) (code unit : Nat) (ps : List Nat) (tag txn : Word) :
    (s.raise code unit ps tag txn).fs = s.fs := by
  obtain ⟨rings, out, held, owed, ports, pba, tick, merged, fired, h, -⟩ := s.raise_cases code unit ps tag txn
  rw [h]

@[simp] theorem State.raise_txns (s : State) (code unit : Nat) (ps : List Nat) (tag txn : Word) :
    (s.raise code unit ps tag txn).txns = s.txns := by
  obtain ⟨rings, out, held, owed, ports, pba, tick, merged, fired, h, -⟩ := s.raise_cases code unit ps tag txn
  rw [h]

/-- Between two states STAND_SAFE may have been asserted on link `l`, and links, settings, frame store and transactions stayed (R114). -/
structure State.SafeOn (l : Nat) (s t : State) : Prop where
  links : t.links = s.links
  settings : t.settings = s.settings
  fs : t.fs = s.fs
  txns : t.txns = s.txns
  asserted : s.bellows.safeLinks.getLsbD l = true → t.bellows.safeLinks.getLsbD l = true
  others : ∀ j, j ≠ l → t.bellows.safeLinks.getLsbD j = s.bellows.safeLinks.getLsbD j

/-- A change that reaches none of these. -/
theorem State.SafeOn.of_eq {l : Nat} {s t : State} (links : t.links = s.links) (settings : t.settings = s.settings) (fs : t.fs = s.fs)
    (txns : t.txns = s.txns) (bellows : t.bellows = s.bellows) : s.SafeOn l t :=
  ⟨links, settings, fs, txns, fun h => by rwa [bellows], fun _ _ => by rw [bellows]⟩

theorem State.SafeOn.trans {l : Nat} {s t u : State} (h : s.SafeOn l t) (k : t.SafeOn l u) : s.SafeOn l u :=
  ⟨k.links.trans h.links, k.settings.trans h.settings, k.fs.trans h.fs, k.txns.trans h.txns, fun on => k.asserted (h.asserted on),
    fun j other => (k.others j other).trans (h.others j other)⟩

theorem State.SafeOn.refl (l : Nat) (s : State) : s.SafeOn l s := .of_eq rfl rfl rfl rfl rfl

theorem State.safeOn_updStand (l : Nat) (s : State) (i : Nat) (f : Stand → Stand) : s.SafeOn l (s.updStand i f) := .of_eq rfl rfl rfl rfl rfl

theorem State.safeOn_raise (l : Nat) (s : State) (code unit : Nat) (ps : List Nat) : s.SafeOn l (s.raise code unit ps) :=
  .of_eq (s.raise_links ..) (s.raise_settings ..) (s.raise_fs ..) (s.raise_txns ..) (s.raise_bellows ..)

theorem State.safeOn_forEach {l : Nat} (s : State) (is : List Nat) {f : Nat → State → State}
    (h : ∀ i ∈ is, ∀ t, s.SafeOn l t → t.SafeOn l (f i t)) : s.SafeOn l (forEach is s f) :=
  forEach_keeps (P := s.SafeOn l) is f (fun i mem t kept => kept.trans (h i mem t kept)) (.refl l s)

theorem State.assertSafe_getLsbD (s : State) {l : Nat} (small : l < 16) (j : Nat) :
    (s.assertSafe l).bellows.safeLinks.getLsbD j = (s.bellows.safeLinks.getLsbD j || decide (j = l)) := by
  have bit : (BitVec.ofNat 16 (2 ^ l)).getLsbD j = decide (j = l) := by
    rw [BitVec.getLsbD_ofNat, Nat.testBit_two_pow]
    by_cases same : l = j
    · subst same
      simp [small]
    · simp [same, Ne.symm same]
  unfold State.assertSafe
  rw [BitVec.getLsbD_or, bit]

theorem State.safeOn_assertSafe {l : Nat} (small : l < 16) (s : State) : s.SafeOn l (s.assertSafe l) where
  links := rfl
  settings := rfl
  fs := rfl
  txns := rfl
  asserted on := by rw [s.assertSafe_getLsbD small, on]; rfl
  others j other := by rw [s.assertSafe_getLsbD small, decide_eq_false other, Bool.or_false]

section
variable {l i : Nat} (small : l < 16) {s : State} (on : (s.standCfg i).link = l)
include small on

/-- The exclusion of a stand asserts STAND_SAFE on its link alone (R114). -/
theorem State.safeOn_exclude : s.SafeOn l (s.exclude i) := by
  unfold State.exclude
  dsimp only
  rw [show ((s.updStand i _).standCfg i).link = l from on]
  exact (State.safeOn_updStand ..).trans ((State.safeOn_assertSafe small _).trans
    (State.safeOn_forEach _ _ fun j _ t _ => State.safeOn_updStand ..))

theorem State.safeOn_excludeStatus (step : Nat) : s.SafeOn l (s.excludeStatus i step) := by
  have reported : s.SafeOn l ((s.exclude i).raise evStandStatus i [(s.stand i).flags.toNat]) :=
    (State.safeOn_exclude small on).trans (State.safeOn_raise ..)
  refine reported.trans ?_
  unfold State.excludeStatus State.stepRecord
  split
  · exact .of_eq rfl rfl rfl rfl rfl
  · exact .refl ..

theorem State.safeOn_undriven : s.SafeOn l (s.undriven i) := by
  unfold State.undriven
  split
  · exact State.safeOn_excludeStatus small on 6
  · exact .refl ..

end

theorem Settings.mem_standsOn {c : Settings} {l i : Nat} (h : i ∈ c.standsOn l) : (c.stands.getD i {}).link = l :=
  beq_iff_eq.1 (List.mem_filter.1 h).2

/-- Dropping the commands of a link ends their wait, and may owe its stands their drive tables (R281, R296). -/
theorem State.safeOn_dropCmds (s : State) (l : Nat) : (s.updLink l fun k => { k with cmds := [] }).SafeOn l (s.dropCmds l) :=
  State.safeOn_forEach _ _ fun i _ t _ => by
    split
    · exact State.safeOn_updStand ..
    · exact .refl ..

theorem State.SafeOn.updLink {l : Nat} {s t : State} (h : s.SafeOn l t) (f : Link → Link) : (s.updLink l f).SafeOn l (t.updLink l f) :=
  ⟨congrArg (upd · l f) h.links, h.settings, h.fs, h.txns, h.asserted, h.others⟩

/-- A link taken down, without what it awaited (R296, R312). -/
def Link.gone (k : Link) : Link :=
  { k with cmds := [], state := 0, doze := 0, recovering := none, everUp := false, framing := none, blanked := false }

/-- Taking a link down changes that link, asserts STAND_SAFE on it, and leaves the other links, settings, frame store and transactions. -/
theorem State.linkDown_safeOn {l : Nat} (small : l < 16) (s : State) (cause : Nat) :
    (s.updLink l Link.gone).SafeOn l (s.linkDown l cause) ∧ (s.linkDown l cause).bellows.safeLinks.getLsbD l = true := by
  let a := (s.dropCmds l).updLink l fun k =>
    { k with state := 0, doze := 0, recovering := none, everUp := false, framing := none, blanked := false }
  let b := (a.assertSafe l).onLink l fun st => { st.unknownInFlight with seen := false, reported := false, kss := 0 }
  have gone : (s.updLink l Link.gone).SafeOn l a := by
    have dropped := (s.safeOn_dropCmds l).updLink fun k =>
      { k with state := 0, doze := 0, recovering := none, everUp := false, framing := none, blanked := false }
    rwa [State.updLink_updLink] at dropped
  have stands : (a.assertSafe l).SafeOn l (b.raise evLinkDown l [cause]) :=
    (State.safeOn_forEach _ _ fun i _ t _ => State.safeOn_updStand ..).trans (State.safeOn_raise ..)
  have excluded : (b.raise evLinkDown l [cause]).SafeOn l (s.linkDown l cause) :=
    State.safeOn_forEach _ _ fun i mem t kept => State.safeOn_undriven small <|
      (congrArg (fun c : Settings => (c.stands.getD i {}).link) (kept.settings.trans (State.raise_settings ..))).trans (Settings.mem_standsOn mem)
  refine ⟨gone.trans ((State.safeOn_assertSafe small a).trans (stands.trans excluded)), (stands.trans excluded).asserted ?_⟩
  rw [a.assertSafe_getLsbD small, decide_eq_true rfl, Bool.or_true]

theorem State.linkDown_settings {l : Nat} (small : l < 16) (s : State) (cause : Nat) : (s.linkDown l cause).settings = s.settings :=
  (s.linkDown_safeOn small cause).1.settings

theorem linksGoDown : Claim.LinksGoDown := by
  intro s l cause small known t
  obtain ⟨frame, asserted⟩ := s.linkDown_safeOn small cause
  have link (j : Nat) : t.link j = (s.updLink l Link.gone).link j := congrArg (·.getD j {}) frame.links
  have gone : t.link l = (s.link l).gone := (link l).trans (State.link_updLink_self _ known)
  exact ⟨congrArg Link.state gone, congrArg Link.recovering gone, fun j other => (link j).trans (State.link_updLink_ne s _ other), asserted,
    frame.others, frame.settings, frame.fs, frame.txns⟩

/-- Settles O39: a frame is one judging of its link and then its tag; each recovery is one branch of its operation; what follows a link's loss
reaches STAND_SAFE and the stands of that link. -/
theorem linkFramesAndReplay : Obligations.LinkFramesAndReplay :=
  ⟨blocksAreRead, linkFramesAreTakenInOrder, acknowledgementsFreeTheBuffer, replaysAndRecoveries, linksGoDown⟩

end Sys2Proof.Machine
end

section
/-! PROOFS. Stand links: bring-up attempts, lanes lost, and waking (R304 to R306, R322, R324, R325, R327, R329; log entries 48, 55). -/

namespace Sys2Proof.Machine

/-! ### Bring-up attempts -/

theorem State.bringupFailed_again {s : State} {l : Nat} (few : (s.link l).attempts < 2) (cause : Nat) :
    s.bringupFailed l cause = (s.updLink l fun k => { k with attempts := (s.link l).attempts + 1 }).startBringup l :=
  if_pos (Nat.succ_lt_succ few)

/-- The third attempt that fails takes the link down and excludes its stands (R114). -/
theorem State.bringupFailed_third {s : State} {l : Nat} (small : l < 16) (third : 2 ≤ (s.link l).attempts) (cause : Nat) :
    s.bringupFailed l cause = (forEach (s.settings.standsOn l) ((s.updLink l fun k => { k with attempts := 0 }).linkDown l cause)
      fun i s => s.exclude i).stepRecord l 3 1 l := by
  unfold State.bringupFailed
  rw [if_neg (by omega)]
  dsimp only
  rw [State.linkDown_settings small, State.updLink_settings]

/-- A link that comes up (R304, R305, R328, R330): `lanes` is what its lanes report, `ret` the TRAIN bodies of the return lanes. -/
def State.comesUp (s : State) (l : Nat) (lanes : List LaneReport) (ret : List (List Byte)) : State :=
  let cfg := s.settings.links.getD l {}
  let c := laneCauses true cfg.clocking lanes
  let s := s.updLink l fun k => { (k.lanes (lostLanes c) (!laneFailed c 8) (laneFailed c 10) (!laneFailed c 11)).seeded with
    attempts := 0, recoveries := 0, inverted := [trainInverted (ret.getD 0 []), trainInverted (ret.getD 1 [])]
    eye := (List.range 12).map fun n => (lanes.getD n {}).eyeMv, everUp := true, txSince := s.clock.up, framing := none, blanked := false }
  let s := ((s.raise evLinkUp l [cfg.rate, cfg.clocking]).sparedEvents l (lostLanes c) (laneFailed c 10)).stepRecord l 3 0 l
  (s.reloadLuts l).sequenceAfterUp l

section
variable {s : State} {l : Nat} (training : (s.link l).state = 1) (attempt : (s.link l).recovering = none)
  {steps order : List Nat} {lanes : List LaneReport} {frameErrs : Bool} {ret : List (List Byte)}
include training attempt

theorem State.bringupEnd_fails {why : Nat}
    (found : attemptCause (s.link l) (s.settings.links.getD l {}).clocking steps lanes frameErrs order ret = some why) :
    s.bringupEnd l steps lanes frameErrs order ret = s.bringupFailed l why := by
  unfold State.bringupEnd
  rw [if_neg (by simp [training, attempt])]
  dsimp only
  rw [found]

/-- An attempt with no cause to fail ends once its TEST packets are over, with the link up (R304). -/
theorem State.bringupEnd_sound
    (found : attemptCause (s.link l) (s.settings.links.getD l {}).clocking steps lanes frameErrs order ret = none) :
    s.bringupEnd l steps lanes frameErrs order ret = if s.testing l then s else s.comesUp l lanes ret := by
  unfold State.bringupEnd
  rw [if_neg (by simp [training, attempt])]
  dsimp only
  rw [found]
  rfl

theorem State.bringupTimeout_due (late : s.since (s.link l).attemptAt (ms 25) = true) (cause : Nat) :
    s.bringupTimeout l cause = s.bringupFailed l cause := if_pos ⟨training, by simp [attempt], late⟩

end

/-- The causes of R334 that lanes give are those of its first steps. -/
theorem laneCause_lt {eye : Bool} {r : LaneReport} {k : Nat} (h : laneCause eye r = some k) : k < 7 := by
  unfold laneCause at h
  split at h
  · cases h; decide
  · split at h
    · cases h; decide
    · split at h
      · cases h; decide
      · split at h
        · cases h; decide
        · cases h

theorem fatalCauses_lt {eye : Bool} {clocking : Nat} {lanes : List LaneReport} {k : Nat}
    (h : k ∈ fatalCauses (laneCauses eye clocking lanes)) : k < 7 := by
  have clock : (laneCauses eye clocking lanes).getD 9 none =
      if clocking = 1 then none else laneCause eye { lanes.getD 9 {} with headers := 64, skew := 0 } := rfl
  unfold fatalCauses at h
  dsimp only at h
  rw [clock] at h
  rcases List.mem_append.1 h with seconds | ninth
  · rcases List.mem_append.1 seconds with data | ret
    · exact List.mem_range.1 (List.mem_filter.1 (List.mem_of_mem_take data)).1
    · exact List.mem_range.1 (List.mem_filter.1 (List.mem_of_mem_take ret)).1
  · split at ninth
    · cases ninth
    · exact laneCause_lt (Option.mem_toList.1 ninth)

/-- Where an attempt has no cause to fail, its steps kept their limits, no more lanes failed than sparing takes, the rest arrive as R307 asks,
equalisation ended, and no frame had an error (R304, R305). -/
theorem attemptCause_none {k : Link} {clocking : Nat} {steps order : List Nat} {lanes : List LaneReport} {frameErrs : Bool}
    {ret : List (List Byte)} (found : attemptCause k clocking steps lanes frameErrs order ret = none) :
    (∀ n < 7, steps.getD n 0 ≤ stepLimits.getD n 0) ∧ lanesArrive (laneCauses true clocking lanes) order ret = true ∧
    fatalCauses (laneCauses true clocking lanes) = [] ∧ k.framing.isSome = true ∧ frameErrs = false ∧ k.frameBad = false := by
  unfold attemptCause at found
  extract_lets c slow all at found
  have absent (n : Nat) (step : n < 7) : n ∉ all := fun mem => List.find?_eq_none.1 found n (List.mem_range.2 step) (List.elem_eq_true_of_mem mem)
  have steps_ok (n : Nat) (step : n < 7) : steps.getD n 0 ≤ stepLimits.getD n 0 := by
    by_contra long
    have named : [1, 1, 2, 3, 4, 5, 6].getD n 0 ∈ slow :=
      List.mem_map_of_mem (f := fun n => [1, 1, 2, 3, 4, 5, 6].getD n 0) (List.mem_filter.2 ⟨List.mem_range.2 step, by simpa using long⟩)
    have small : ∀ n < 7, [1, 1, 2, 3, 4, 5, 6].getD n 0 < 7 := by decide
    exact absent _ (small n step) (by simp only [all, List.mem_append, named, true_or, or_true])
  have arrive : lanesArrive c order ret = true := by
    by_contra other
    exact absent 3 (by decide) (by simp [all, other])
  have fatal : fatalCauses c = [] := List.eq_nil_iff_forall_not_mem.2 fun n mem =>
    absent n (fatalCauses_lt mem) (by simp only [all, List.mem_append, mem, true_or])
  have framing : k.framing.isSome = true := by
    by_contra other
    exact absent 5 (by decide) (by simp [all, other])
  have clean : (frameErrs || k.frameBad) = false := by
    by_contra other
    exact absent 6 (by decide) (by simp [all, other])
  obtain ⟨stand, own⟩ := Bool.or_eq_false_iff.1 clean
  exact ⟨steps_ok, arrive, fatal, framing, stand, own⟩

theorem bringUpAttemptsEnd : Claim.BringUpAttemptsEnd := by
  intro dt cause l steps order lanes frameErrs ret s training attempt e cfg c found up again down run fails
  have failed (why : Nat) : ((s.link l).attempts < 2 → e.bringupFailed l why = again) ∧
      (2 ≤ (s.link l).attempts → e.bringupFailed l why = down why) :=
    ⟨fun few => State.bringupFailed_again (s := e) few why, fun third => State.bringupFailed_third (s := e) l.isLt third why⟩
  have ends : run = s.act dt (·.bringupEnd l steps lanes frameErrs order ret) := exec_link_bringup_end ..
  refine ⟨fun sound tested => ?_, fun sound testing => ?_, fun why cause => ?_, attemptCause_none, fun late => ?_⟩
  · exact ends.trans (State.act_eq ((State.bringupEnd_sound (s := e) training attempt sound).trans (if_neg (Bool.eq_false_iff.1 tested))))
  · exact ends.trans (State.act_eq ((State.bringupEnd_sound (s := e) training attempt sound).trans (if_pos testing)))
  · have stops := State.bringupEnd_fails (s := e) training attempt cause
    exact ⟨fun few => ends.trans (State.act_eq (stops.trans ((failed why).1 few))),
      fun third => ends.trans (State.act_eq (stops.trans ((failed why).2 third)))⟩
  · have stops := State.bringupTimeout_due (s := e) training attempt (State.since_elapse_true late) cause
    rw [exec_link_bringup_timeout]
    exact ⟨fun few => State.act_eq (stops.trans ((failed cause).1 few)), fun third => State.act_eq (stops.trans ((failed cause).2 third))⟩

/-! ### Lanes lost -/

section
variable {s : State} {l lane : Nat}

/-- A lost lane moves to the spare (R324). -/
theorem State.loseLane_spared (here : (s.link l).narrowed ≠ lane) (spare : (s.link l).dataSpare = true) (free : (s.link l).spared = 0xFF) :
    s.loseLane l lane = ((s.updLink l fun k =>
      { k with spared := lane, dataSpare := false, awake := 3, state := if k.state = 5 then 5 else 3 }).switchReplay l).raise
        evLaneSpared l [lane] := by
  unfold State.loseLane
  exact (if_neg here).trans (if_pos ⟨spare, free⟩)

/-- Without a spare it narrows the link (R325). -/
theorem State.loseLane_narrows (known : lane < 8) (full : (s.link l).narrowed = 0xFF) (spare : (s.link l).dataSpare = false) :
    s.loseLane l lane = ((s.updLink l fun k => { k with
      spared := if k.spared = lane then 0xFF else k.spared, narrowed := lane, narrowFrom := k.rayWin, txDeal := 0, awake := 4
      state := if k.state = 5 then 5 else 4 }).switchReplay l).raise evLinkNarrow l [lane] := by
  unfold State.loseLane
  exact (if_neg (by omega)).trans ((if_neg (by simp [spare])).trans (if_pos full))

/-- A narrowed link is taken down by another (R325). -/
theorem State.loseLane_down (narrow : (s.link l).narrowed ≠ 0xFF) (here : (s.link l).narrowed ≠ lane) (spare : (s.link l).dataSpare = false) :
    s.loseLane l lane = s.linkDown l 8 := by
  unfold State.loseLane
  exact (if_neg here).trans ((if_neg (by simp [spare])).trans (if_neg narrow))

variable (up : s.linkUp l = true)
include up

theorem State.nakPacket_lane (cmdId : Nat) : s.nakPacket l 1 lane 0xFF cmdId = s.loseLane l lane := by
  unfold State.nakPacket
  rw [if_neg (by simp [up])]
  exact if_neg (by decide)

theorem State.nakPacket_lanes {lane2 : Nat} (second : lane2 < 8) (cmdId : Nat) :
    s.nakPacket l 1 lane lane2 cmdId = (s.loseLane l (min lane lane2)).loseLane l (max lane lane2) := by
  unfold State.nakPacket
  rw [if_neg (by simp [up])]
  exact if_pos second

/-- A refused command is awaited no more, and a refused drive table is owed again (R281, R322). -/
theorem State.nakPacket_refused {cmdId pos op : Nat} (waits : ((s.link l).cmds.find? fun c => c.1 == cmdId) = some (cmdId, pos, op))
    (other : op ≠ 1) (lane2 : Nat) :
    let left := s.updLink l fun k => { k with cmds := k.cmds.filter fun c => c.1 != cmdId }
    s.nakPacket l 2 lane lane2 cmdId = forEach ((s.settings.standsOn l).filter fun i => s.settings.position i == pos) left fun i s =>
      if op = 2 then s.updStand i fun st => { st with steerDue := true } else s := by
  intro left
  unfold State.nakPacket
  rw [if_neg (by simp [up])]
  dsimp only
  rw [waits]
  refine congrArg (forEach _ left) (funext fun i => funext fun t => ?_)
  exact if_congr Iff.rfl rfl (if_neg fun lut => other lut.1)

theorem State.returnLost_spare (spare : (s.link l).retSpare = true) (first : (s.link l).retOnSpare = false) :
    s.returnLost l = ((s.updLink l fun k => { k with retOnSpare := true, retSpare := false }).linkCmd l 5 0).raise evLaneSpared l [16] := by
  unfold State.returnLost
  rw [if_neg (by simp [up])]
  exact if_pos ⟨spare, by simp [first]⟩

theorem State.returnLost_fails (h : (s.link l).retSpare = false ∨ (s.link l).retOnSpare = true) :
    s.returnLost l = (s.countRecovery l).recoveryFailed l 9 := by
  unfold State.returnLost
  rw [if_neg (by simp [up])]
  refine if_neg fun free => ?_
  obtain gone | used := h
  · simp [gone] at free
  · simp [used] at free

theorem State.spareFault_data (spare : (s.link l).dataSpare = true) :
    s.spareFault l 8 = (s.updLink l fun k => { k with dataSpare := false }).raise evLaneSpared l [8] := by
  unfold State.spareFault
  rw [if_neg (by simp [up])]
  exact if_pos ⟨rfl, spare⟩

theorem State.spareFault_return (spare : (s.link l).retSpare = true) :
    s.spareFault l 17 = (s.updLink l fun k => { k with retSpare := false }).raise evLaneSpared l [17] := by
  unfold State.spareFault
  rw [if_neg (by simp [up])]
  exact (if_neg fun data => absurd data.1 (by decide)).trans (if_pos ⟨rfl, spare⟩)

end

theorem lanesAreSpared : Claim.LanesAreSpared := by
  intro dt lane cmdId l s up awake k e
  rw [exec_return_lane_lost, exec_spare_lane_fault, exec_spare_lane_fault]
  refine ⟨fun data here spare free => ?_, fun data full spare => ?_, fun lane2 second => ?_, fun data narrow here spare => ?_,
    fun pos op waits other => ?_, fun spare first => ?_, fun gone => ?_, fun spare => ?_, fun spare => ?_⟩
  · exact (exec_nak_received ..).trans (State.act_eq ((State.nakPacket_lane (s := e) up cmdId).trans (State.loseLane_spared here spare free)))
  · exact (exec_nak_received ..).trans (State.act_eq ((State.nakPacket_lane (s := e) up cmdId).trans (State.loseLane_narrows data full spare)))
  · exact (exec_nak_received ..).trans (State.act_eq (State.nakPacket_lanes (s := e) up second cmdId))
  · exact (exec_nak_received ..).trans (State.act_eq ((State.nakPacket_lane (s := e) up cmdId).trans (State.loseLane_down narrow here spare)))
  · have refused := State.nakPacket_refused (s := e) (lane := lane) up waits other 0xFF
    rw [exec_nak_received]
    refine ⟨fun rest => State.act_eq (refused.trans (forEach_id _ _ _ fun i _ => if_neg rest)), fun table => State.act_eq (refused.trans ?_)⟩
    exact congrArg (forEach _ _) (funext fun i => funext fun t => if_pos table)
  · exact State.act_eq (State.returnLost_spare (s := e) up spare first)
  · exact State.act_eq (State.returnLost_fails (s := e) up gone)
  · exact State.act_eq (State.spareFault_data (s := e) up spare)
  · exact State.act_eq (State.spareFault_return (s := e) up spare)

/-! ### Waking -/

theorem Link.wake_asleep {k : Link} (asleep : k.state = 5) : k.wake.state = k.awake := if_pos asleep

theorem linksWake : Claim.LinksWake := by
  intro dt l s asleep known t
  have wakes : t.link l = (s.link l).wake := State.link_updLink_self (s := s.elapse dt) Link.wake known
  rw [exec_link_wake, wakes]
  exact ⟨State.act_eq (if_pos asleep), Link.wake_asleep asleep, rfl, fun j other => State.link_updLink_ne (s.elapse dt) _ other⟩

theorem linkCommandsRun : Claim.LinkCommandsRun :=
  ⟨exec_link_frame_received, exec_replay_timeout, exec_diag_received, exec_temp_received, exec_ack_received, exec_nak_received,
    exec_status_received, exec_return_lane_lost, exec_spare_lane_fault, exec_link_recovery, exec_link_recovery_end, exec_link_bringup_end,
    exec_link_bringup_timeout, exec_link_wake, exec_temp_timeout, exec_stand_removed, exec_stand_rail_recovered⟩

/-- Settles O40: an attempt ends by the causes that are found or not; a lane lost, a refused command and a spare that fails are each one branch of
their operation. -/
theorem linkBringUpAndLanes : Obligations.LinkBringUpAndLanes :=
  ⟨bringUpAttemptsEnd, lanesAreSpared, linksWake, linkCommandsRun⟩

end Sys2Proof.Machine
end

section
/-! PROOFS. The frame store: refresh debt, power-down, stack sensors and the FIFOs of real-time ports (R339, R341, R346, R348, R489; log
entries 85, 102). -/

namespace Sys2Proof.Machine

/-! ### Pseudo-channels -/

/-- Changes that agree on the pseudo-channel they change are one. -/
theorem State.updPc_congr {s : State} {n : Nat} {f g : PseudoChannel → PseudoChannel} (h : f (s.fs.pc n) = g (s.fs.pc n)) :
    s.updPc n f = s.updPc n g :=
  congrArg (fun c => ({ s with fs := { s.fs with pcs := putPc c s.fs.pcs } } : State)) h

/-! ### Refresh debt (R346) and power-down (R348) -/

/-- A refresh before it is due does nothing. -/
theorem State.refreshDue_early {s : State} {n : Nat} (early : s.clock.up < s.refreshAt n) (rt : Bool) : s.refreshDue n rt = s :=
  if_pos (by simp [early])

/-- What a refresh that falls due does to its pseudo-channel but for the debt: the stack IDs in power-down wake. -/
def PseudoChannel.refreshed (c : PseudoChannel) (now : Nat) (rt : Bool) : PseudoChannel :=
  { c with inRt := rt, refAt := now, powered := []
           woke := (c.woke.filter fun x => !c.powered.contains x.1) ++ c.powered.map fun k => (k, now) }

section
variable {s : State} {n : Nat} (up : s.storeUp (n / 64) = true) (awake : s.fs.selfRefresh = false)

section
variable (due : s.refreshAt n ≤ s.clock.up)
include up awake due

/-- A refresh that is due is issued, or postponed, or forced. -/
theorem State.refreshDue_due (rt : Bool) : s.refreshDue n rt = s.updPc n fun c =>
    let r := c.refreshed s.clock.up rt
    if !rt then r else if c.debt < 4 then { r with debt := c.debt + 1, maxDebt := max c.maxDebt (c.debt + 1) }
    else { r with forced := c.forced + 1 } :=
  if_neg (by simp [up, awake, due])

theorem State.refreshDue_issued : s.refreshDue n false = s.updPc n fun c => c.refreshed s.clock.up false :=
  State.refreshDue_due up awake due false

theorem State.refreshDue_postponed (few : (s.fs.pc n).debt < 4) : s.refreshDue n true = s.updPc n fun c =>
    { c.refreshed s.clock.up true with debt := c.debt + 1, maxDebt := max c.maxDebt (c.debt + 1) } :=
  (State.refreshDue_due up awake due true).trans (State.updPc_congr (if_pos few))

theorem State.refreshDue_forced (full : 4 ≤ (s.fs.pc n).debt) : s.refreshDue n true = s.updPc n fun c =>
    { c.refreshed s.clock.up true with forced := c.forced + 1 } :=
  (State.refreshDue_due up awake due true).trans (State.updPc_congr (if_neg (Nat.not_lt.2 full)))

end

theorem State.refreshRepay_owed (owed : 0 < (s.fs.pc n).debt) (k : Nat) :
    s.refreshRepay n k = s.updPc n fun c => { c with inRt := false, debt := c.debt - k } := if_neg (by omega)

theorem State.refreshRepay_none (none : (s.fs.pc n).debt = 0) (k : Nat) : s.refreshRepay n k = s := if_pos none

include up awake in
theorem State.powerDown_idle {sid : Nat} (on : s.settings.pdOff = false) (known : sid ≤ 3) (idle : s.busyId n sid = false) :
    s.powerDown n sid = s.updPc n fun c => { c with powered := addOnce c.powered sid } :=
  if_neg (by simp [on, known, up, awake, idle])

theorem State.powerDown_stays {sid : Nat} (h : s.settings.pdOff = true ∨ s.busyId n sid = true) : s.powerDown n sid = s :=
  if_pos (by obtain off | busy := h <;> simp [*])

end

theorem refreshes : Claim.Refreshes := by
  intro dt n k sid s known up awake c e issued
  have due (rt : Bool) : exec (.refreshDue dt n rt) s = s.act dt fun s => s.refreshDue n rt :=
    (exec_refresh_due ..).trans (by simp only [if_pos known])
  have idle : exec (.idlePowerDown dt n sid) s = s.act dt fun s => s.powerDown n sid :=
    (exec_idle_power_down ..).trans (by simp only [if_pos known])
  rw [idle, exec_refresh_repay]
  refine ⟨fun late => ⟨?_, fun few => ?_, fun full => ?_⟩, fun early rt => ?_, fun owed => ?_, fun none => ?_, fun on small quiet => ?_,
    fun stays => ?_⟩
  · exact (due false).trans (State.act_eq (State.refreshDue_issued (s := e) up awake late))
  · exact (due true).trans (State.act_eq (State.refreshDue_postponed (s := e) up awake late few))
  · exact (due true).trans (State.act_eq (State.refreshDue_forced (s := e) up awake late full))
  · exact (due rt).trans (State.act_eq (State.refreshDue_early (s := e) early rt))
  · exact State.act_eq (State.refreshRepay_owed (s := e) owed k)
  · exact State.act_eq (State.refreshRepay_none (s := e) none k)
  · exact State.act_eq (State.powerDown_idle (s := e) up awake on small quiet)
  · exact State.act_eq (State.powerDown_stays (s := e) stays)

/-! ### Stack sensors (R489) -/

@[simp] theorem State.raise_power (s : State) (code unit : Nat) (ps : List Nat) (tag txn : Word) :
    (s.raise code unit ps tag txn).power = s.power := by
  obtain ⟨rings, out, held, owed, ports, pba, tick, merged, fired, h, -⟩ := s.raise_cases code unit ps tag txn
  rw [h]

/-- EV_THROTTLE leaves the frame store and the stacks' throttle. -/
theorem State.throttleEvent_keeps (s : State) (die : Nat) (was : Bool) :
    (s.throttleEvent die was).fs = s.fs ∧ (s.throttleEvent die was).power.stackThr = s.power.stackThr := by
  unfold State.throttleEvent
  split
  · exact ⟨rfl, rfl⟩
  · exact ⟨State.raise_fs .., by rw [State.raise_power]⟩

theorem State.stackThrottle_fs (s : State) : s.stackThrottle.fs = s.fs :=
  (State.throttleEvent_keeps ..).1.trans (State.throttleEvent_keeps ..).1

/-- One of a die's two stacks is above 95.0 °C. -/
def FrameStore.stackHot (f : FrameStore) (d : Nat) : Bool :=
  [2 * d, 2 * d + 1].any fun k => (f.stackTemp.getD k none).any fun t => 950 < t

theorem State.stackThrottle_stackThr (s : State) : s.stackThrottle.power.stackThr = [s.fs.stackHot 0, s.fs.stackHot 1] :=
  (State.throttleEvent_keeps ..).2.trans (State.throttleEvent_keeps ..).2

theorem State.stackSample_stackTemp (s : State) (temps : List (Option Int)) {k : Nat} (known : k < 4) :
    (s.stackSample temps).fs.stackTemp.getD k none = (temps.getD k none).map (clampI (-32767) 32767) := by
  simp [State.stackSample, List.getD_eq_getElem?_getD, known]

/-! ### The FIFOs of real-time ports (R339, R341) -/

/-- The frame store with the FIFO of a port at `fill` bytes, and the underrun counted where it ran empty owing data. -/
def FrameStore.filled (f : FrameStore) (port fill : Nat) (owes : Bool) : FrameStore :=
  let g := { f with rtFill := upd f.rtFill port fun _ => fill }
  if fill = 0 ∧ owes ∧ f.rtFill.getD port 0 ≠ 0 then
    { g with underruns := upd g.underruns (dieOfPort port) fun n => (n + 1) % 0x100000000 } else g

theorem FrameStore.filled_some {f : FrameStore} {port fill : Nat} (some : fill ≠ 0) (owes : Bool) :
    f.filled port fill owes = { f with rtFill := upd f.rtFill port fun _ => fill } := if_neg fun h => some h.1

/-- A port enters panic, counted at itself for the frame and at its die. -/
def FrameStore.panicEntered (f : FrameStore) (port : Nat) : FrameStore :=
  { f with
    rtPanic := insertKey f.rtPanic port true
    panicsFrame := insertKey f.panicsFrame port (lookupD f.panicsFrame port 0 + 1)
    panics := upd f.panics (dieOfPort port) fun n => (n + 1) % 0x100000000 }

section
variable (s : State) (port : Fin 16) (fill : Nat) (owes : Bool)

theorem State.rtPanicChange_port :
    let f := s.fs.filled port fill owes
    s.rtPanicChange port fill owes = { s with
      fs := if fill < 24576 && !lookupD s.fs.rtPanic port false then f.panicEntered port
        else if 49152 ≤ fill then { f with rtPanic := removeKey f.rtPanic port } else f } :=
  if_neg (by omega)

variable {s port fill}

theorem State.rtPanicChange_enters (low : fill < 24576) (calm : lookupD s.fs.rtPanic port false = false) :
    s.rtPanicChange port fill owes = { s with fs := (s.fs.filled port fill owes).panicEntered port } := by
  rw [State.rtPanicChange_port, if_pos (by simp [low, calm])]

theorem State.rtPanicChange_panics (low : fill < 24576) (panics : lookupD s.fs.rtPanic port false = true) :
    s.rtPanicChange port fill owes = { s with fs := s.fs.filled port fill owes } := by
  rw [State.rtPanicChange_port, if_neg (by simp [panics]), if_neg (by omega)]

theorem State.rtPanicChange_between (low : 24576 ≤ fill) (high : fill < 49152) :
    s.rtPanicChange port fill owes = { s with fs := { s.fs with rtFill := upd s.fs.rtFill port fun _ => fill } } := by
  rw [State.rtPanicChange_port, if_neg (by simp [low]), if_neg (by omega), FrameStore.filled_some (by omega)]

theorem State.rtPanicChange_leaves (full : 49152 ≤ fill) :
    s.rtPanicChange port fill owes =
      { s with fs := { s.fs with rtFill := upd s.fs.rtFill port fun _ => fill, rtPanic := removeKey s.fs.rtPanic port } } := by
  rw [State.rtPanicChange_port, if_neg (by simp; omega), if_pos full, FrameStore.filled_some (by omega)]

end

theorem sensorsAndPanics : Claim.SensorsAndPanics := by
  refine ⟨?_, ?_⟩
  · intro dt temps s m
    have kept : m.fs = ((s.elapse dt).stackSample temps).fs := State.stackThrottle_fs _
    have judged := State.stackThrottle_stackThr ((s.elapse dt).stackSample temps)
    refine ⟨(exec_stack_temp_sample ..).trans (State.act_eq rfl), fun k known => ?_, fun d known => ?_⟩
    · rw [kept]
      exact State.stackSample_stackTemp _ temps known
    · rw [judged, kept]
      match d, known with
      | 0, _ => rfl
      | 1, _ => rfl
  · intro dt port s e at' enters ran inNow fill owes
    rw [exec_real_time_panic]
    exact ⟨fun low calm => State.act_eq (State.rtPanicChange_enters (s := e) owes low calm),
      fun low panics => State.act_eq (State.rtPanicChange_panics (s := e) owes low panics),
      fun low high => State.act_eq (State.rtPanicChange_between (s := e) owes low high),
      fun full => State.act_eq (State.rtPanicChange_leaves (s := e) owes full)⟩

/-- Settles O43: each command is one branch of its operation, and EV_THROTTLE leaves what the sensors gave. -/
theorem refreshAndPorts : Obligations.RefreshAndPorts := ⟨refreshes, sensorsAndPanics⟩

end Sys2Proof.Machine
end

section
/-! PROOFS. The frame store: training passes and set-point changes (R349 to R354; log entries 60, 61). -/

namespace Sys2Proof.Machine

/-! ### Live passes that firmware starts (R351) -/

/-- A stack whose store is up has moved 5 °C since its last pass. -/
theorem FrameStore.moved_iff (f : FrameStore) : f.moved = true ↔
    ∃ k < 4, f.avail.getD (k / 2) false = true ∧ ∃ t, f.stackTemp.getD k none = some t ∧ 50 ≤ (t - f.lastTrainTemp.getD k 0).natAbs := by
  have warm (k : Nat) : (match f.stackTemp.getD k none with
      | some t => decide (50 ≤ (t - f.lastTrainTemp.getD k 0).natAbs)
      | none => false) = true ↔ ∃ t, f.stackTemp.getD k none = some t ∧ 50 ≤ (t - f.lastTrainTemp.getD k 0).natAbs := by
    cases f.stackTemp.getD k none <;> simp
  unfold FrameStore.moved
  simp only [List.any_eq_true, List.mem_range, Bool.and_eq_true]
  exact exists_congr fun k => and_congr_right fun _ => and_congr_right fun _ => warm k

/-- A live pass may start: a die answers, and no pass or change is under way. -/
def State.trainIdle (s : State) : Bool :=
  (s.storeUp 0 || s.storeUp 1) && !s.fs.selfRefresh && s.fs.trainQueue == [] && s.fs.trainAfter == [] && !s.fs.changing

theorem State.liveAuto_eq (s : State) :
    s.liveAuto = if s.trainIdle && (s.since s.fs.lastTrainUp (sec 10) || s.fs.moved) then s.queuePass 0xFF 2 0 else s := rfl

theorem State.liveAuto_starts {s : State} (idle : s.trainIdle = true)
    (due : s.fs.lastTrainUp + sec 10 ≤ s.clock.up ∨ s.fs.moved = true) : s.liveAuto = s.queuePass 0xFF 2 0 := by
  rw [State.liveAuto_eq, if_pos (by simpa [idle, State.since] using due)]

theorem State.liveAuto_early {s : State} (early : s.clock.up < s.fs.lastTrainUp + sec 10) (still : ¬s.fs.moved = true) : s.liveAuto = s := by
  rw [State.liveAuto_eq, if_neg (by simp [still, State.since, early])]

theorem State.liveAuto_busy {s : State} (busy : s.trainIdle = false) : s.liveAuto = s := by
  rw [State.liveAuto_eq, if_neg (by simp [busy])]

/-! ### What the end of a pass or change leaves of the frame store -/

/-- A change that starts at once only marks that it runs. -/
theorem State.changeAtOnce_fs (s : State) : ∃ c, s.changeAtOnce.fs = { s.fs with changing := c } := by
  unfold State.changeAtOnce State.changeStart
  split
  · split
    · exact ⟨true, rfl⟩
    · exact ⟨_, rfl⟩
  · exact ⟨_, rfl⟩

theorem State.changeAtOnce_lastTrainUp (s : State) : s.changeAtOnce.fs.lastTrainUp = s.fs.lastTrainUp := by
  obtain ⟨c, kept⟩ := s.changeAtOnce_fs
  rw [kept]

theorem State.changeOver_fs (s : State) (old now : Nat) : (s.changeOver old now).fs =
    { s.fs with pending := none, changing := false, trainQueue := s.fs.trainQueue ++ s.fs.trainAfter, trainAfter := [] } :=
  State.raise_fs ..

/-! ### Passes that end (R350 to R352) -/

/-- The set point a pass trains: 0xFF is the one in force. -/
def State.passPoint (s : State) (sp : Nat) : Nat := if sp = 0xFF then s.fs.setPoint else sp

/-- What the end of a pass leaves whether it succeeds or fails: it is off the queue, and the dies that ran it have it as their last. -/
def State.passed (s : State) (kind : Nat) (rest : List (Nat × Nat × Word)) : FrameStore :=
  { s.fs with
    trainQueue := rest, lastTrainUp := s.clock.up, changeFrom := s.clock.up
    lastTrainTemp := (List.range 4).map fun k => if (s.passDies kind).contains (k / 2)
      then (s.fs.stackTemp.getD k none).getD (s.fs.lastTrainTemp.getD k 0) else s.fs.lastTrainTemp.getD k 0
    lastTrainAt := s.fs.lastTrainAt.mapIdx fun d t => if (s.passDies kind).contains d then s.nowNs else t }

/-- One more on the dies that ran the pass. -/
def State.passCount (s : State) (kind : Nat) (l : List Nat) : List Nat :=
  l.mapIdx fun d n => if (s.passDies kind).contains d then (n + 1) % 0x100000000 else n

def State.passedGood (s : State) (kind : Nat) (rest : List (Nat × Nat × Word)) : FrameStore :=
  { s.passed kind rest with trainPasses := s.passCount kind s.fs.trainPasses }

def State.passedBad (s : State) (kind : Nat) (rest : List (Nat × Nat × Word)) : FrameStore :=
  { s.passed kind rest with trainFails := s.passCount kind s.fs.trainFails }

/-- What a full pass that succeeds leaves: its set point trained, the dies up, and at Bring-up their soft repairs permanent. -/
def State.trainedFull (s : State) (kind point : Nat) (rest : List (Nat × Nat × Word)) : FrameStore :=
  { s.passedGood kind rest with
    trained := s.fs.trained.mapIdx fun d m => if (s.passDies kind).contains d then m ||| 2 ^ point else m
    avail := s.fs.avail.mapIdx fun d a => a || (s.passDies kind).contains d
    scrubAt := s.fs.scrubAt.mapIdx fun d t => if (s.passDies kind).contains d && !s.fs.avail.getD d false then s.clock.up else t
    pcs := if kind = 3 then s.fs.pcs.map fun (c : PseudoChannel) =>
        if (s.passDies kind).contains (c.pc / 64) then { c with bankSoft := [] } else c
      else s.fs.pcs }

/-- What a full pass that fails leaves: its set point untrained. -/
def State.untrainedFull (s : State) (kind point : Nat) (rest : List (Nat × Nat × Word)) : FrameStore :=
  { s.passedBad kind rest with
    trained := s.fs.trained.mapIdx fun d m => if (s.passDies kind).contains d then m &&& (15 ^^^ 2 ^ point) else m }

theorem mapIdx_entry {α : Type} (l : List α) : (l.mapIdx fun _ a => a) = l := by
  refine List.ext_getElem? fun i => ?_
  simp

theorem livePass_kind {kind : Nat} (live : livePass kind = true) : ¬(kind = 4 ∨ kind = 5) := by
  intro rejoin
  obtain rfl | rfl := rejoin <;> cases live

section
variable {s : State} {sp kind : Nat} {tag : Word} {rest : List (Nat × Nat × Word)}
  (runs : s.fs.trainQueue = (sp, kind, tag) :: rest) (free : s.fs.changing = false)
include runs free

theorem State.passEnd_live_good (live : livePass kind = true) : s.passEnd true =
    (({ s with fs := s.passedGood kind rest } : State).raise evTrainDone noUnit [s.passPoint sp, 0] tag).changeAtOnce := by
  unfold State.passEnd
  rw [runs]
  dsimp only
  rw [if_neg (by simp [free])]
  simp only [live, livePass_kind live, mapIdx_entry, Bool.false_eq_true, if_false, if_true, Bool.not_true, Bool.false_and, Bool.true_and]
  rfl

theorem State.passEnd_live_bad (live : livePass kind = true) : s.passEnd false =
    (({ s with fs := s.passedBad kind rest } : State).raise evTrainDone noUnit [s.passPoint sp, 1] tag).changeAtOnce := by
  unfold State.passEnd
  rw [runs]
  dsimp only
  rw [if_neg (by simp [free])]
  simp only [live, livePass_kind live, mapIdx_entry, Bool.false_eq_true, if_false, if_true, Bool.not_true, Bool.not_false, Bool.false_and,
    Bool.true_and, Bool.and_false]
  rfl

theorem State.passEnd_full_good (full : livePass kind = false) :
    let f := s.trainedFull kind (s.passPoint sp) rest
    s.passEnd true = (({ s with fs := if kind = 4 ∨ kind = 5 then f.refill (kind - 4) else f } : State).raise
      evTrainDone noUnit [s.passPoint sp, 0] tag).changeAtOnce := by
  unfold State.passEnd
  rw [runs]
  dsimp only
  rw [if_neg (by simp [free])]
  simp only [full, mapIdx_entry, Bool.false_eq_true, if_false, if_true, Bool.not_true, Bool.false_and, Bool.true_and, beq_iff_eq]
  rfl

theorem State.passEnd_full_bad (full : livePass kind = false) :
    let m := ({ s with fs := s.untrainedFull kind (s.passPoint sp) rest } : State).raise evTrainDone noUnit [s.passPoint sp, 2] tag
    s.passEnd false = if s.fs.pending = some (s.passPoint sp) then m.changeOver s.fs.setPoint s.fs.setPoint else m.changeAtOnce := by
  unfold State.passEnd
  rw [runs]
  dsimp only
  rw [if_neg (by simp [free])]
  simp only [full, mapIdx_entry, Bool.false_eq_true, if_false, Bool.not_false, Bool.false_and, Bool.true_and, Bool.or_false, ite_self,
    beq_iff_eq, State.raise_fs]
  rfl

/-- A pass of any kind that ends restarts the 10 s of R351. -/
theorem State.passEnd_lastTrainUp (ok : Bool) : (s.passEnd ok).fs.lastTrainUp = s.clock.up := by
  cases live : livePass kind <;> cases ok
  · rw [State.passEnd_full_bad runs free live]
    split
    · rw [State.changeOver_fs, State.raise_fs]
      rfl
    · rw [State.changeAtOnce_lastTrainUp, State.raise_fs]
      rfl
  · rw [State.passEnd_full_good runs free live, State.changeAtOnce_lastTrainUp, State.raise_fs]
    dsimp only
    split <;> rfl
  · rw [State.passEnd_live_bad runs free live, State.changeAtOnce_lastTrainUp, State.raise_fs]
    rfl
  · rw [State.passEnd_live_good runs free live, State.changeAtOnce_lastTrainUp, State.raise_fs]
    rfl

end

theorem liveTraining_starts {dt : Nat} {s : State} (idle : s.trainIdle = true) :
    let e := s.elapse dt
    let moved := ∃ k < 4, s.storeUp (k / 2) = true ∧ ∃ t, s.fs.stackTemp.getD k none = some t ∧ 50 ≤ (t - s.fs.lastTrainTemp.getD k 0).natAbs
    (s.fs.lastTrainUp + sec 10 ≤ s.clock.up + dt ∨ moved → e.liveAuto = e.queuePass 0xFF 2 0) ∧
    (s.clock.up + dt < s.fs.lastTrainUp + sec 10 → ¬moved → e.liveAuto = e) :=
  ⟨fun due => State.liveAuto_starts (s := s.elapse dt) idle (due.imp_right s.fs.moved_iff.2),
    fun early still => State.liveAuto_early (s := s.elapse dt) early fun moved => still (s.fs.moved_iff.1 moved)⟩

/-- Settles O44: firmware queues a pass where one of R351's two causes is met, and what a live pass leaves is `passedBad` or `passedGood`. -/
theorem liveTraining : Obligations.LiveTraining := by
  refine ⟨?_, ?_, ?_, ?_⟩
  · intro dt s answers awake empty waiting free e moved
    have idle : s.trainIdle = true := by simpa [State.trainIdle, awake, empty, waiting, free] using answers
    have starts := liveTraining_starts (dt := dt) idle
    rw [exec_live_train_auto]
    exact ⟨fun due => State.act_eq (starts.1 due), fun early still => State.act_eq (starts.2 early still)⟩
  · intro dt s busy
    rw [exec_live_train_auto]
    exact State.act_eq (State.liveAuto_busy (s := s.elapse dt) busy)
  · intro dt sp kind tag rest s runs live free m
    obtain ⟨c, kept⟩ := State.changeAtOnce_fs ((({ s.elapse dt with fs := (s.elapse dt).passedBad kind rest } : State).raise
      evTrainDone noUnit [(s.elapse dt).passPoint sp, 1] tag))
    have left : m.fs = { (s.elapse dt).passedBad kind rest with changing := c } := by
      rw [show m = _ from State.passEnd_live_bad (s := s.elapse dt) runs free live, kept, State.raise_fs]
    refine ⟨exec_train_pass_end .., ?_, ?_, ?_, ?_⟩ <;> rw [left] <;> rfl
  · intro dt sp kind ok tag rest s runs free
    exact State.passEnd_lastTrainUp (s := s.elapse dt) runs free ok

theorem training : Claim.Training := by
  intro dt sp kind tag rest s runs free point e dies each temps base good bad
  rw [exec_train_pass_end, exec_train_pass_end]
  refine ⟨fun live => ⟨?_, ?_⟩, fun full => ⟨?_, ?_⟩⟩
  · exact State.act_eq (State.passEnd_live_good (s := e) runs free live)
  · exact State.act_eq (State.passEnd_live_bad (s := e) runs free live)
  · exact State.act_eq (State.passEnd_full_good (s := e) runs free full)
  · intro m
    have ends := State.passEnd_full_bad (s := e) runs free full
    exact ⟨fun other => State.act_eq (ends.trans (if_neg other)), fun target => State.act_eq (ends.trans (if_pos target))⟩

/-! ### Set-point changes (R354) -/

/-- Nothing stands in the way of a pending change (R354). -/
def State.changeFree (s : State) : Prop :=
  s.fs.trainQueue = [] ∧ s.fs.changing = false ∧ (s.needsNoGap = true ∨ s.inGap = true ∧ s.fs.changeFrom ≤ s.gapAt)

section
variable {s : State} {t : Nat} (pending : s.fs.pending = some t)
include pending

theorem State.changeStart_starts (free : s.changeFree) : s.changeStart = { s with fs := { s.fs with changing := true } } :=
  if_pos (by simpa [State.changeFree, pending, and_assoc] using free)

theorem State.changeStart_waits (blocked : ¬s.changeFree) : s.changeStart = s :=
  if_neg (by simpa [State.changeFree, pending, and_assoc] using blocked)

theorem State.changeEnd_idle (idle : s.fs.changing = false) (ok : Bool) : s.changeEnd ok = s := by
  unfold State.changeEnd
  rw [pending]
  exact if_pos (by simp [idle])

variable (runs : s.fs.changing = true)
include runs

theorem State.changeEnd_verified :
    s.changeEnd true = ({ s with fs := { s.fs with setPoint := t } } : State).changeOver s.fs.setPoint t := by
  unfold State.changeEnd
  rw [pending]
  exact if_neg (by simp [runs])

theorem State.changeEnd_returned : s.changeEnd false =
    ({ s with fs := { s.fs with trained := s.fs.trained.map fun m => m &&& (15 ^^^ 2 ^ t) } } : State).changeOver s.fs.setPoint s.fs.setPoint := by
  unfold State.changeEnd
  rw [pending]
  exact if_neg (by simp [runs])

end

theorem setPointChanges : Claim.SetPointChanges := by
  intro dt t s pending e
  simp only [exec_set_point_change_start, exec_set_point_change_end]
  refine ⟨fun empty free gap => ?_, fun blocked => ?_, fun runs => ⟨?_, ?_⟩, fun idle ok => ?_⟩
  · exact State.act_eq (State.changeStart_starts (s := e) pending ⟨empty, free, gap⟩)
  · refine State.act_eq (State.changeStart_waits (s := e) pending ?_)
    rintro ⟨empty, free, gap⟩
    obtain queued | changing | ⟨needs, noGap⟩ := blocked
    · exact queued empty
    · exact Bool.noConfusion (changing.symm.trans free)
    · obtain none | ⟨inside, opened⟩ := gap
      · exact Bool.noConfusion (needs.symm.trans none)
      · obtain outside | before := noGap
        · exact Bool.noConfusion (outside.symm.trans inside)
        · exact Nat.not_le.2 before opened
  · exact State.act_eq (State.changeEnd_verified (s := e) pending runs)
  · exact State.act_eq (State.changeEnd_returned (s := e) pending runs)
  · exact State.act_eq (State.changeEnd_idle (s := e) pending idle ok)

/-- Settles O45: what a pass leaves by its kind and outcome, and the conditions of R354 under which a change starts and ends. -/
theorem trainingAndSetPoints : Obligations.TrainingAndSetPoints := ⟨training, setPointChanges⟩

end Sys2Proof.Machine
end

section
/-! PROOFS. The frame store: errors that reads meet, row repair, copies that end, and patrol scrubs (R263, R357 to R360, R415; log entries 61,
62). -/

namespace Sys2Proof.Machine

/-! ### Corrected reads (R357, R359, R360) -/

/-- A corrected read counted at its pseudo-channel and at its row, and the row made due at its fourth within 24 h. -/
def State.correctedRow (s : State) (a : Nat) : State :=
  let n := pcOf (s.servedAt a)
  let row := (locOf (s.servedAt a)).rowCode
  let b := (s.updPc n fun c => { c with corrected := c.corrected + 1, corrSince := c.corrSince + 1 }).correctedEvent n
  let m := { b with fs := { b.fs with rowErrs := addAt b.fs.rowErrs n row b.recent24 b.clock.up } }
  if 4 ≤ countAt m.fs.rowErrs n row then m.dueRow n row else m

/-- A corrected read counted at the ray-frame page of its address. -/
def State.pageCounted (s : State) (a : Nat) : State :=
  { s with fs := { s.fs with pageErrs := addAt s.fs.pageErrs (pageOf a).1 (pageOf a).2 s.recent24 s.clock.up } }

section
variable {s : State} {a : Nat} (inside : a < 128 * gib)
include inside

theorem State.corrected_inside : s.corrected a =
    if regionOf a ≠ 1 then s.correctedRow a else
      let x := (s.correctedRow a).pageCounted a
      if 8 ≤ countAt x.fs.pageErrs (pageOf a).1 (pageOf a).2 then x.retirePage (pageOf a).1 (pageOf a).2 else x :=
  if_neg (Nat.not_le.2 inside)

theorem State.corrected_elsewhere (other : regionOf a ≠ 1) : s.corrected a = s.correctedRow a :=
  (State.corrected_inside inside).trans (if_pos other)

variable {d : State} (counted : s.correctedRow a = d) (frames : regionOf a = 1)
include counted frames

theorem State.corrected_page_stays (few : countAt (d.pageCounted a).fs.pageErrs (pageOf a).1 (pageOf a).2 < 8) :
    s.corrected a = d.pageCounted a := by
  subst counted
  exact (State.corrected_inside inside).trans ((if_neg (not_not.2 frames)).trans (if_neg (Nat.not_le.2 few)))

theorem State.corrected_page_retires (eighth : 8 ≤ countAt (d.pageCounted a).fs.pageErrs (pageOf a).1 (pageOf a).2) :
    s.corrected a = (d.pageCounted a).retirePage (pageOf a).1 (pageOf a).2 := by
  subst counted
  exact (State.corrected_inside inside).trans ((if_neg (not_not.2 frames)).trans (if_pos eighth))

end

theorem correctedReads : Claim.CorrectedReads := by
  intro dt a s inside up n row b m d pg x
  have counts {t : State} (h : (s.elapse dt).corrected a = t) : exec (.memCorrectedRead dt a) s = .next (s.ended t) :=
    (exec_mem_corrected_read ..).trans (State.act_eq ((if_pos up).trans h))
  have counted : (s.elapse dt).correctedRow a = d := rfl
  exact ⟨fun other => counts ((State.corrected_elsewhere inside other).trans counted),
    fun frames few => counts (State.corrected_page_stays inside counted frames few),
    fun frames eighth => counts (State.corrected_page_retires inside counted frames eighth)⟩

/-! ### Uncorrectable reads (R358) -/

/-- The granule poisoned, counted and reported. -/
def State.newPoison (s : State) (a : Nat) : State :=
  let n := pcOf (s.servedAt a)
  ((s.updPc n fun c => { c with uncorrected := (c.uncorrected + 1) % 0x100000000 }).poison (granuleOf a)).raise
    evMemUncorrected n [lo32 a, hi32 a]

/-- The bank of the read's row has no repair resource left. -/
def State.bankSpent (s : State) (a : Nat) : Bool :=
  ((s.newPoison a).fs.pc (pcOf (s.servedAt a))).bankLeft (bankOfRow (locOf (s.servedAt a)).rowCode) == 0

section
variable {s : State} {a port : Nat} (inside : a < 128 * gib) (known : port ≤ 46) (up : s.storeUp (a / (64 * gib)) = true)
include inside known up

theorem State.uncorrectable_again (before : s.isPoisoned a = true) : s.uncorrectable a port =
    (s.updPc (pcOf (s.servedAt a)) fun c => { c with poisonReads := (c.poisonReads + 1) % 0x100000000 }).poisonOutcome a port := by
  unfold State.uncorrectable
  rw [if_neg (by simp [inside, known, up])]
  exact if_pos before

/-- The row of a new uncorrectable read is due for repair where its bank can still repair one; else, and in the firmware region, the read is a
region error too (R358, R407). -/
theorem State.uncorrectable_new (fresh : s.isPoisoned a = false) :
    let n := pcOf (s.servedAt a)
    let p := s.newPoison a
    let o := (if s.bankSpent a then p else p.dueRow n (locOf (s.servedAt a)).rowCode).poisonOutcome a port
    s.uncorrectable a port = if s.bankSpent a || regionOf (s.servedAt a) == 10 then o.hardwareError 5 n 1 else o := by
  unfold State.uncorrectable
  rw [if_neg (by simp [inside, known, up])]
  exact if_neg (by simp [fresh])

end

theorem uncorrectableReads : Claim.UncorrectableReads := by
  intro dt a port s inside known up n row e
  rw [exec_mem_uncorrectable_read]
  refine ⟨fun before => ?_, fun fresh => ?_⟩
  · exact State.act_eq (State.uncorrectable_again (s := e) inside known up before)
  · intro m spent o
    have met := State.uncorrectable_new (s := e) inside known up fresh
    have bare : e.bankSpent a = true ↔ spent := beq_iff_eq
    have outcome : (if e.bankSpent a then m else m.dueRow n row).poisonOutcome a port = o :=
      congrArg (State.poisonOutcome · a port) (if_congr bare rfl rfl)
    refine ⟨fun other => State.act_eq (met.trans ?_), fun firmware => State.act_eq (met.trans ?_)⟩
    · refine if_congr ?_ (congrArg (State.hardwareError · 5 n 1) outcome) outcome
      rw [Bool.or_eq_true, bare, beq_iff_eq]
      exact or_iff_left other
    · exact (if_pos (by rw [Bool.or_eq_true, beq_iff_eq]; exact .inr firmware)).trans (congrArg (State.hardwareError · 5 n 1) outcome)

/-! ### Rows repaired (R359) -/

/-- The row awaits repair no more. -/
def State.rowTaken (s : State) (n row : Nat) : State :=
  { s with fs := { s.fs with rowsDue := s.fs.rowsDue.filter (· != (n, row)) } }

/-- One resource of the row's bank is used. -/
def State.repairUsed (s : State) (n row : Nat) : State := s.updPc n fun c => { c with
  bankUsed := insertKey c.bankUsed (bankOfRow row) (lookupD c.bankUsed (bankOfRow row) 0 + 1)
  bankSoft := insertKey c.bankSoft (bankOfRow row) (lookupD c.bankSoft (bankOfRow row) 0 + 1)
  rowsSpared := (c.rowsSpared + 1) % 0x100000000 }

section
variable {s : State} {n row : Nat} (due : s.fs.rowsDue.contains (n, row) = true)

include due in
theorem State.rowSpare_repairs (gap : s.needsNoGap = true ∨ s.inGap = true) :
    let used := (s.rowTaken n row).repairUsed n row
    s.rowSpare n row = if (s.fs.pc n).bankLeft (bankOfRow row) = 0 then s.rowTaken n row
      else ({ used with fs := { used.fs with rowErrs := s.fs.rowErrs.filter fun x => !(x.1 == n && x.2.1 == row) } } : State).raise
        evRowSpared n [row] :=
  (if_pos (by simpa using gap)).trans (if_neg (by rw [due]; decide))

theorem State.rowSpare_waits (needs : s.needsNoGap = false) (outside : s.inGap = false) : s.rowSpare n row = s :=
  if_neg (by simp [needs, outside])

end

theorem rowsAreSpared : Claim.RowsAreSpared := by
  intro dt n row s due e b off used
  rw [exec_row_spare]
  exact ⟨fun gap => State.act_eq (State.rowSpare_repairs (s := e) due gap),
    fun needs outside => State.act_eq (State.rowSpare_waits (s := e) needs outside)⟩

/-! ### Copies that end (R263, R360, R415) and patrol scrubs (R357) -/

section
variable {s : State} {n : Nat}

theorem State.frameBaseCopied_none {die : Nat} (none : (s.fs.moves.findIdx? fun v => v.die == die && !v.copied) = none) :
    s.frameBaseCopied die = s := by
  unfold State.frameBaseCopied
  rw [none]

/-- The copy of a move in hand ends: where the move has not applied, its frames stand at their new place from now on. -/
theorem State.frameBaseCopied_some {die m : Nat} (first : (s.fs.moves.findIdx? fun v => v.die == die && !v.copied) = some m) :
    let v := s.fs.moves.getD m {}
    let c := if v.applied then s else s.copyFrames s.settings die v.old v.new
    s.frameBaseCopied die =
      ({ c with fs := { c.fs with moves := upd c.fs.moves m fun v => { v with copied := true } } } : State).releaseFrames
        (c.clock.tick + b2n c.clock.blank) := by
  unfold State.frameBaseCopied
  rw [first]

theorem State.reserveCopied_fenced (fenced : s.fs.reserveCopy.contains n = true) : s.reserveCopied n =
    ({ s with fs := { s.fs with reserveCopy := s.fs.reserveCopy.filter (· != n) } } : State).updPc n fun c => { c with reserve := true } :=
  if_neg (by rw [fenced]; decide)

theorem State.scrubEnd_due {die : Nat} (due : s.since (s.fs.scrubAt.getD die 0) (hours 24) = true) : s.scrubEnd die =
    forEach (span (64 * die) (64 * die + 64))
      { s with fs := { s.fs with
          scrubPasses := upd s.fs.scrubPasses die (fun n => (n + 1) % 0x100000000), scrubAt := upd s.fs.scrubAt die fun _ => s.clock.up } }
      fun n s => s.correctedEvent n := if_neg (by rw [due]; decide)

theorem State.scrubEnd_early {die : Nat} (early : s.since (s.fs.scrubAt.getD die 0) (hours 24) = false) : s.scrubEnd die = s :=
  if_pos (by rw [early]; decide)

end

theorem copiesAndScrubsEnd : Claim.CopiesAndScrubsEnd := by
  intro dt n page die s e f
  simp only [exec_page_retire_copy_end, exec_frame_base_copy_end, exec_reserve_copy_end, exec_patrol_scrub]
  refine ⟨State.act_eq rfl, fun m first => ?_, fun none => ?_, fun fenced => ?_, fun up due => ?_, fun early => ?_⟩
  · exact State.act_eq (State.frameBaseCopied_some (s := e) first)
  · exact State.act_eq (State.frameBaseCopied_none (s := e) none)
  · exact State.act_eq (State.reserveCopied_fenced (s := e) fenced)
  · exact State.act_eq ((if_pos up).trans (State.scrubEnd_due (s := e) due))
  · exact State.act_eq ((congrArg (ite _ · e) (State.scrubEnd_early (s := e) early)).trans (ite_self e))

/-- Settles O46: each read, repair, copy and scrub is one branch of its operation. -/
theorem memoryErrors : Obligations.MemoryErrors := ⟨correctedReads, uncorrectableReads, rowsAreSpared, copiesAndScrubsEnd⟩

end Sys2Proof.Machine
end

section
/-! PROOFS. Immediate commands of streams, compose layers, calibration, stands, frame store, time base and security, and REC.ERASE (R77, R395, R398,
R400, R403, R431, R432, R460, R471 to R473). -/

namespace Sys2Proof.Machine

open Sys2Proof

/-! ### The front command -/

/-- Settles O1: the queue's front decides which branch a step takes. -/
theorem stepRunsTheFrontCommand : Obligations.StepRunsTheFrontCommand := by
  refine ⟨fun s c rest front => ?_, fun s none => ?_⟩
  · unfold step
    rw [front]
  · unfold step
    rw [none]

/-! ### Streams and compose layers -/

@[simp] theorem State.setKey_clock (s : State) (n slot : Nat) (v : Option KeySlot) : (s.setKey n slot v).clock = s.clock := by
  unfold State.setKey
  split <;> rfl

theorem streamCommandsDo : Claim.StreamCommandsDo := by
  unfold Claim.StreamCommandsDo
  refine ⟨?_, ?_, ?_⟩
  case refine_2 =>
    refine CmdDef.completes_of_run_zero (fun _ _ _ => rfl) rfl fun s h p => ?_
    exact congrArg (fun c : Clock => Result.done _ (_ ++ _ ++ _ ++ le 8 (c.dev / 3)) 0) (State.setKey_clock ..)
  all_goals exact CmdDef.completes_of_run_zero (fun _ _ _ => rfl) rfl fun _ _ _ => rfl

theorem composeCommandsDo : Claim.ComposeCommandsDo := by
  unfold Claim.ComposeCommandsDo
  refine ⟨?_, ?_, ?_⟩
  case refine_1 =>
    refine CmdDef.completes_of_run_zero (fun _ _ _ => rfl) rfl fun s h p => ?_
    exact congrArg (fun n => Result.done _ (_ ++ le 2 (64 - n) ++ _) 0) List.length_append
  all_goals exact CmdDef.completes_of_run_zero (fun _ _ _ => rfl) rfl fun _ _ _ => rfl

/-- Settles O20: each runs at once, and its run is its effect. -/
theorem streamAndComposeCommandsDo : Obligations.StreamAndComposeCommandsDo := ⟨streamCommandsDo, composeCommandsDo⟩

/-! ### Stands and the frame store -/

/-- Two ways to end are one where only the state differs. -/
theorem Result.done_ite {c : Prop} [Decidable c] (s t : State) (payload : List Byte) (txn : Word) :
    (if c then Result.done s payload txn else .done t payload txn) = .done (if c then s else t) payload txn :=
  (apply_ite (Result.done · payload txn) c s t).symm

theorem State.askMemory_live {s : State} {i : Nat} (load : (s.stand i).cal.op = 1) (memory : u8 (s.stand i).cal.opParams 2 = 0)
    (free : (s.stand i).cal.baking = none) :
    s.askMemory i = (s.updCal i fun c => { c with memory := [], memoryTo := 0 }).sendRead i (64 + 4 * setBytes) :=
  if_pos (by simp [load, memory, free])

theorem wallCommandsDo : Claim.WallCommandsDo := by
  unfold Claim.WallCommandsDo
  refine ⟨?_, fun s i load memory free => State.askMemory_live load memory free, ?_, ?_, ?_, ?_⟩
  case refine_3 => exact CmdDef.completes_of_run_zero (fun _ _ _ => rfl) rfl fun _ _ _ => Result.done_ite ..
  all_goals exact CmdDef.completes_of_run_zero (fun _ _ _ => rfl) rfl fun _ _ _ => rfl

@[simp] theorem State.queuePass_clock (s : State) (sp kind : Nat) (tag : Word) : (s.queuePass sp kind tag).clock = s.clock := by
  unfold State.queuePass
  split <;> rfl

/-- MEM.SET_POINT for another set point: it is pending from the instant of the command, behind a pass where one is queued (R354). -/
theorem memSetPoint_run (s : State) (h : CmdHdr) (p : List Byte) : memSetPoint.run s (memSetPoint.cmd h p) = .done
    (if u8 p 0 = s.fs.setPoint then s.raise evSetPoint noUnit [u8 p 0, u8 p 0] h.tag
    else
      let r := if bitOf s.fs.setPoints (u8 p 0) then s else s.queuePass (u8 p 0) 1 h.tag
      ({ r with fs := { r.fs with pending := some (u8 p 0), pendingTag := h.tag, changeFrom := s.clock.up } } : State).changeAtOnce) [] 0 := by
  have kept : (if bitOf s.fs.setPoints (u8 p 0) then s else s.queuePass (u8 p 0) 1 h.tag).clock = s.clock := by
    split
    · rfl
    · exact State.queuePass_clock ..
  rw [← Result.done_ite, ← kept]
  rfl

theorem memCommandsDo : Claim.MemCommandsDo :=
  ⟨CmdDef.completes_of_run_zero (fun _ _ _ => rfl) rfl fun s h p => memSetPoint_run s h p,
    CmdDef.completes_of_run_zero (fun _ _ _ => rfl) rfl fun _ _ _ => rfl, CmdDef.completes_of_run_zero (fun _ _ _ => rfl) rfl fun _ _ _ => rfl⟩

/-- Settles O21: each runs at once; a load from stand memory asks for the live set. -/
theorem wallAndMemoryCommandsDo : Obligations.WallAndMemoryCommandsDo := ⟨wallCommandsDo, memCommandsDo⟩

/-! ### The time base -/

/-- Settles O22: each runs at once, and its run is its effect. -/
theorem timeCommandsDo : Obligations.TimeCommandsDo :=
  ⟨CmdDef.completes_of_run_zero (fun _ _ _ => rfl) rfl fun _ _ _ => rfl, CmdDef.completes_of_run_zero (fun _ _ _ => rfl) rfl fun _ _ _ => rfl,
    CmdDef.completes_of_run_zero (fun _ _ _ => rfl) rfl fun _ _ _ => rfl,
    CmdDef.completes_of_run_zero (fun _ _ _ => rfl) rfl fun _ _ _ => Result.done_ite ..⟩

/-! ### Security -/

/-- An immediate command that starts carries no transaction ID. -/
theorem CmdDef.Starts.txn_eq_zero {d : CmdDef} {dt : Nat} {h : CmdHdr} {p : List Byte} {s : State} (starts : d.Starts dt h p s)
    (kind : d.kind = .immediate) : h.txn = 0 := by
  obtain ⟨-, -, passes⟩ := starts
  exact passes.txn_eq_zero kind

theorem State.begun_security (s : State) (dt : Nat) (d : CmdDef) (h : CmdHdr) (p : List Byte) : (s.begun dt d h p).security = s.security := by
  obtain ⟨txns, taken⟩ := s.begun_cases dt d h p
  rw [taken]
  rfl

/-- The M_KEM field of a report, and the state that gives it: a digest while the content-key pairs are valid, free once they are destroyed (R473;
log entry 65). -/
def State.reportKem (s : State) : List Byte × State := if s.security.kemValid then (Config.sha384 s.kemPayload, s) else s.freeBytes 48

theorem State.reportKem_valid {s : State} (valid : s.security.kemValid = true) : s.reportKem = (Config.sha384 s.kemPayload, s) := if_pos valid

theorem State.reportKem_destroyed {s : State} (destroyed : s.security.kemValid = false) : s.reportKem = s.freeBytes 48 :=
  if_neg (ne_true_of_eq_false destroyed)

section
variable {dt : Nat} {h : CmdHdr} {p : List Byte} {s : State}

/-- SEC.ATTEST answers its report, whichever way M_KEM is given. -/
theorem secAttest_exec (starts : secAttest.Starts dt h p s) {kem : List Byte} {b : State} (given : (s.begun dt secAttest h p).reportKem = (kem, b)) :
    exec (.secAttest dt h p) s = .next (s.ended (b.answered secAttest h p
      (b.attestBody (slice p 0 48) kem ++ signatures attestLabel (b.attestBody (slice p 0 48) kem)))) := by
  have txn : h.txn = 0 := starts.txn_eq_zero rfl
  have run : secAttest.run (s.begun dt secAttest h p) (secAttest.cmd h p) =
      .done b (b.attestBody (slice p 0 48) kem ++ signatures attestLabel (b.attestBody (slice p 0 48) kem)) 0 :=
    congrArg (fun k : List Byte × State =>
      Result.done k.2 (k.2.attestBody (slice p 0 48) k.1 ++ signatures attestLabel (k.2.attestBody (slice p 0 48) k.1)) 0) given
  unfold State.answered
  rw [txn]
  exact exec_of_done rfl (by decide) starts run

/-- What a failing signature of SEC.LIFECYCLE reports: only a transition to state 2 is signed (R472). -/
def lifecycleSig (p : List Byte) : Nat :=
  if u8 p 0 = 2 then sigFailure Config.tabnarKeys lifecycleLabel (slice p 0 24) (slice p 24 3373) else 0

theorem lifecycleSig_unsigned {p : List Byte} (other : u8 p 0 ≠ 2) : lifecycleSig p = 0 := by
  unfold lifecycleSig
  exact if_neg other

theorem lifecycleSig_signed {p : List Byte} (zeroize : u8 p 0 = 2) :
    lifecycleSig p = sigFailure Config.tabnarKeys lifecycleLabel (slice p 0 24) (slice p 24 3373) := by
  unfold lifecycleSig
  exact if_pos zeroize

theorem secLifecycle_run (s : State) (h : CmdHdr) (p : List Byte) : secLifecycle.run s (secLifecycle.cmd h p) =
    if lifecycleSig p ≠ 0 then .fail (s.raise evSigFail noUnit [2, lifecycleSig p] h.tag) { status := stAuth }
    else .done (s.lifecycleTo (u8 p 0)) [] 0 := rfl

/-- Where every signature asked for verifies, the transition is made. -/
theorem secLifecycle_exec_verified (starts : secLifecycle.Starts dt h p s) (verified : lifecycleSig p = 0) : exec (.secLifecycle dt h p) s =
    .next (s.ended (((s.begun dt secLifecycle h p).lifecycleTo (u8 p 0)).answered secLifecycle h p [])) := by
  have txn : h.txn = 0 := starts.txn_eq_zero rfl
  have run : secLifecycle.run (s.begun dt secLifecycle h p) (secLifecycle.cmd h p) =
      .done ((s.begun dt secLifecycle h p).lifecycleTo (u8 p 0)) [] 0 := by
    rw [secLifecycle_run, if_neg (not_not.2 verified)]
  unfold State.answered
  rw [txn]
  exact exec_of_done rfl (by decide) starts run

/-- Else it is refused with AUTH. -/
theorem secLifecycle_exec_refused (starts : secLifecycle.Starts dt h p s) (bad : lifecycleSig p ≠ 0) : exec (.secLifecycle dt h p) s =
    .next (s.ended (((s.begun dt secLifecycle h p).raise evSigFail noUnit [2, lifecycleSig p] h.tag).complete (secLifecycle.cmd h p)
      { status := stAuth, txn := h.txn, payload := ({ status := stAuth } : Err).detail })) :=
by
  have run : secLifecycle.run (s.begun dt secLifecycle h p) (secLifecycle.cmd h p) =
      .fail ((s.begun dt secLifecycle h p).raise evSigFail noUnit [2, lifecycleSig p] h.tag) { status := stAuth } := by
    rw [secLifecycle_run, if_pos bad]
  have resp : ({ status := stAuth, txn := h.txn, payload := ({ status := stAuth } : Err).detail } : Resp) =
      Err.resp { status := stAuth } (secLifecycle.cmd h p) := rfl
  rw [resp]
  exact exec_of_fail rfl (by decide) starts run

end

/-- Settles O23: a report's M_KEM is given in one of two ways, a transition is made or refused by its signatures, and an update's run is its effect. -/
theorem securityCommandsDo : Obligations.SecurityCommandsDo := by
  unfold Obligations.SecurityCommandsDo
  refine ⟨fun dt h p s starts valid => ?_, fun dt h p s starts destroyed => ?_, fun dt h p s starts other => ?_, fun dt h p s starts zeroize => ?_, ?_⟩
  · have kem := State.reportKem_valid (s := s.begun dt secAttest h p) (by rwa [State.begun_security])
    exact secAttest_exec starts kem
  · have kem := State.reportKem_destroyed (s := s.begun dt secAttest h p) (by rwa [State.begun_security])
    exact secAttest_exec starts kem
  · exact secLifecycle_exec_verified starts (lifecycleSig_unsigned other)
  · intro sig b
    have signed : lifecycleSig p = sig := lifecycleSig_signed zeroize
    by_cases verified : sig = 0
    · rw [if_pos verified, ← zeroize]
      exact secLifecycle_exec_verified starts (signed.trans verified)
    · rw [if_neg verified, ← signed]
      exact secLifecycle_exec_refused starts (by rwa [signed])
  · exact CmdDef.completes_of_run (fun _ _ _ => rfl) rfl fun _ _ _ _ => rfl

/-! ### REC.ERASE -/

theorem chk_eq_nil (c : Bool) (status field : Nat) : chk c status field = [] ↔ c = false := by
  unfold chk
  cases c <;> simp

theorem State.begun_recorder (s : State) (dt : Nat) (d : CmdDef) (h : CmdHdr) (p : List Byte) : (s.begun dt d h p).recorder = s.recorder := by
  obtain ⟨txns, taken⟩ := s.begun_cases dt d h p
  rw [taken]
  rfl

theorem State.begun_flash (s : State) (dt : Nat) (d : CmdDef) (h : CmdHdr) (p : List Byte) : (s.begun dt d h p).flash = s.flash := by
  obtain ⟨txns, taken⟩ := s.begun_cases dt d h p
  rw [taken]
  rfl

theorem recErase_checks_eq_nil (s : State) (c : Cmd) : recErase.checks s c = [] ↔
    u32 c.payload 0 = 0x45534152 ∧ rsvBytes c.payload 4 8 = [] ∧ s.recorder.erasing = none ∧ s.recorder.flushing = none ∧
      s.security.lifecycle ≠ 1 := by
  unfold recErase chkP
  simp only [List.append_eq_nil_iff, chk_eq_nil]
  simp [and_assoc]

theorem recErase_checks_key {c : Cmd} (wrong : u32 c.payload 0 ≠ 0x45534152) (s : State) :
    ({ status := stBadField, field := 16 } : Err) ∈ recErase.checks s c := by
  simp [recErase, chkP, chk, wrong]

theorem recErase_checks_deployed {s : State} (deployed : s.security.lifecycle = 1) (c : Cmd) :
    ({ status := stLifecycle } : Err) ∈ recErase.checks s c := by
  simp [recErase, chk, deployed]

/-! ### Flushes and erases that end -/

/-- Raising an event leaves the flash. -/
@[simp] theorem State.raise_flash (s : State) (code unit : Nat) (ps : List Nat) (tag txn : Word) :
    (s.raise code unit ps tag txn).flash = s.flash := by
  obtain ⟨rings, out, held, owed, ports, pba, tick, merged, fired, h, -⟩ := s.raise_cases code unit ps tag txn
  rw [h]

/-- Raising an event writes no record of the log. -/
theorem State.raise_log (s : State) (code unit : Nat) (ps : List Nat) (tag txn : Word) :
    (s.raise code unit ps tag txn).recorder.sram = s.recorder.sram ∧ (s.raise code unit ps tag txn).recorder.head = s.recorder.head := by
  obtain ⟨rings, out, held, owed, ports, pba, tick, merged, fired, h, -⟩ := s.raise_cases code unit ps tag txn
  rw [h]
  exact ⟨rfl, rfl⟩

section
variable {s : State} {tag : Word}

theorem State.flushEnd_flush {n : Nat} (running : s.recorder.flushing = some (n, tag)) (ok : Bool) : s.flushEnd ok =
    let b := { s with recorder := { s.recorder with flushing := none } }
    if ok then (b.flushBytes n).raise evRecFlushed noUnit [0, n] tag else b.raise evRecFlushed noUnit [1, 0] tag := by
  unfold State.flushEnd
  rw [running]

theorem State.flushEnd_erase (idle : s.recorder.flushing = none) (erasing : s.recorder.erasing = some tag) (ok : Bool) : s.flushEnd ok =
    ({ s with recorder := { s.recorder with erasing := none }
              flash := if ok then { s.flash with history := [] } else s.flash } : State).raise
      evRecFlushed noUnit [if ok then 0 else 1, 0] tag := by
  unfold State.flushEnd
  rw [idle, erasing]

theorem State.flushEnd_idle (idle : s.recorder.flushing = none) (still : s.recorder.erasing = none) (ok : Bool) : s.flushEnd ok = s := by
  unfold State.flushEnd
  rw [idle, still]

end

/-- Settles O18: each of its checks is one condition, and the erase that ends is one branch of the flash's work. -/
theorem eraseNeedsItsKey : Obligations.EraseNeedsItsKey := by
  unfold Obligations.EraseNeedsItsKey
  refine ⟨recErase_checks_eq_nil, fun s c => ⟨fun wrong => recErase_checks_key wrong s, fun deployed => recErase_checks_deployed deployed c⟩,
    fun dt h p s starts fitted => ?_, fun dt tag s idle erasing => ?_⟩
  · intro b
    have run : recErase.run b (recErase.cmd h p) = .done { b with recorder := { s.recorder with erasing := some h.tag } } [] 0 := by
      have present : b.flash.present = true := by
        rw [State.begun_flash]
        exact fitted
      rw [recErase_run, if_pos present, State.begun_recorder]
    unfold State.answered
    rw [starts.txn_eq_zero rfl]
    exact exec_of_done rfl (by decide) starts run
  · intro m
    obtain ⟨sram, head⟩ := State.raise_log ({ s.elapse dt with
      recorder := { s.recorder with erasing := none }, flash := { s.flash with history := [] } } : State) evRecFlushed noUnit [0, 0] tag 0
    refine ⟨?_, congrArg Flash.history (State.raise_flash ..), sram, head⟩
    rw [exec_rec_flush_end]
    exact State.act_eq (State.flushEnd_erase (s := s.elapse dt) idle erasing true)

end Sys2Proof.Machine
end

section
/-! PROOFS. Stands that are declared removed, and the frames without STATUS that lead to it (R438; log entry 97). -/

namespace Sys2Proof.Machine

/-- Changes that agree on the stand they change are one. -/
theorem State.updStand_congr {s : State} {n : Nat} {f g : Stand → Stand} (h : f (s.stand n) = g (s.stand n)) : s.updStand n f = s.updStand n g :=
  congrArg (fun l => ({ s with stands := l } : State)) (upd_congr {} fun _ => h)

/-- A stand as its declaration leaves it: one that was not released is dark, its bands unknown. -/
def Stand.declared (st : Stand) : Stand :=
  let gone := { st with removed := true, seen := false }
  if gone.released then gone else { gone.unknownAll with dark := true, kss := 0, kssDue := false }

section
variable {s : State} {i : Nat}

theorem State.standRemoved_declares (known : i < s.stands.length) (silent : 5 ≤ (s.stand i).statusMiss)
    (anew : (s.stand i).removed = false ∨ (s.stand i).seen = true) {f : Stand → Stand} (declared : (s.stand i).declared = f (s.stand i)) :
    s.standRemoved i = ((s.updStand i f).raise evStandRemoved i [(s.standCfg i).link]).undriven i := by
  unfold State.standRemoved
  rw [← State.updStand_congr declared]
  exact if_pos ⟨known, silent, by simpa using anew⟩

theorem State.standRemoved_not (h : (s.stand i).statusMiss < 5 ∨ ((s.stand i).removed = true ∧ (s.stand i).seen = false)) : s.standRemoved i = s := by
  unfold State.standRemoved
  refine if_neg ?_
  rintro ⟨-, silent, anew⟩
  obtain heard | ⟨removed, unseen⟩ := h
  · omega
  · simp [removed, unseen] at anew

end

theorem Stand.unknownAll_bands (st : Stand) : (st.unknownAll.bands.all (!·.known)) = true := by
  simp [Stand.unknownAll]

/-- A frame of a link that carries packets counts as one without STATUS of each of its stands. -/
theorem State.countMissing_statusMiss {s : State} {i : Nat} (known : i < s.stands.length) (runs : s.linkRuns (s.standCfg i).link = true) :
    (s.countMissing.stand i).statusMiss = (s.stand i).statusMiss + 1 := by
  have counted : s.countMissing.stand i = { s.stand i with
      darkMask := (s.stand i).darkNow, darkNow := 0, tempMiss := (s.stand i).tempMiss + 1, statusMiss := (s.stand i).statusMiss + 1 } := by
    simp [State.stand, State.countMissing, List.getD_eq_getElem?_getD, known, runs]
  rw [counted]

theorem State.statusPacket_statusMiss {s : State} {i : Nat} (known : i < s.stands.length) (b : List Byte) :
    ((s.statusPacket i b).stand i).statusMiss = 0 := by
  have report := State.statusPacket_report known b
  simp only [Stand.report, Stand.withStatus, Prod.mk.injEq] at report
  obtain ⟨-, -, -, -, miss, -⟩ := report
  exact miss

/-- Settles O42: the declaration is one change of its stand, by whether it was released, and each report starts the count anew. -/
theorem standsAreRemoved : Obligations.StandsAreRemoved := by
  unfold Obligations.StandsAreRemoved
  intro dt i s known e
  rw [exec_stand_removed]
  refine ⟨fun silent anew lit => ?_, fun silent anew released => ?_, fun h => ?_, Stand.unknownAll_bands _, State.countMissing_statusMiss known,
    State.statusPacket_statusMiss known⟩
  · exact State.act_eq (State.standRemoved_declares (s := e) known silent anew (if_neg (ne_true_of_eq_false lit)))
  · exact State.act_eq (State.standRemoved_declares (s := e) known silent anew (if_pos released))
  · exact State.act_eq (State.standRemoved_not (s := e) h)

end Sys2Proof.Machine
end

section
/-! PROOFS. Skyline ports: how they die and come up, TICK, READY, hop delay and grace period (R363, R369 to R372, R374, R376, R382; log entries 66,
133). -/

namespace Sys2Proof.Machine

/-! ### One port of the state -/

/-- Changes that agree on the port they change are one. -/
theorem State.updPort_congr {s : State} {n : Nat} {f g : Port → Port} (h : f (s.port n) = g (s.port n)) : s.updPort n f = s.updPort n g :=
  congrArg (fun l => ({ s with chain := { s.chain with ports := l } } : State)) (upd_congr {} fun _ => h)

/-- A part of a port that a change leaves reads as before. -/
theorem State.port_updPort_keeps {α : Type} (part : Port → α) {s : State} {n : Nat} {f : Port → Port} (kept : ∀ q, part (f q) = part q) :
    part ((s.updPort n f).port n) = part (s.port n) := by
  have entry : (s.updPort n f).port n = if n < s.chain.ports.length then f (s.port n) else s.port n := by
    split
    case isTrue known => exact upd_getD_self f {} known
    case isFalse beyond =>
      unfold State.port State.updPort
      rw [List.getD_eq_default _ _ (by simpa using beyond), List.getD_eq_default _ _ (by simpa using beyond)]
  rw [entry]
  split
  · exact kept _
  · rfl

/-! ### Instants that lie back -/

/-- An instant that is there lies `d` back. -/
theorem State.anySince_iff (s : State) (i : Option Nat) (d : Nat) : (i.any fun t => s.since t d) = true ↔ ∃ t, i = some t ∧ t + d ≤ s.clock.up := by
  cases i <;> simp [State.since]

/-- An instant that is there lies a second back. -/
def State.heldSecond (s : State) (i : Option Nat) : Prop := ∃ t, i = some t ∧ t + 3000000000 ≤ s.clock.up

theorem sec_one : sec 1 = 3000000000 := rfl

theorem State.heldSecond_iff (s : State) (i : Option Nat) : (i.any fun t => s.since t (sec 1)) = true ↔ s.heldSecond i := by
  rw [State.anySince_iff, sec_one, State.heldSecond]

/-! ### Ports that die (R369, R382) -/

/-- A port that dies: the A9s heard over it are forgotten, and it is bypassed, with EV_CHAIN_BYPASS. -/
def State.portDies (s : State) (p : Nat) : State :=
  ((s.forget p).updPort p fun q => { q with
    state := 4, lanes := 0, goodSince := none, depthSince := none, bypasses := (q.bypasses + 1) % 0x100000000, hopReported := none,
    hopList := [], grace := if q.inAnd then some (s.forget p).clock.up else none, buffer := [], wasUp := false, fr := {} }).raise
      evChainBypass p [(s.port p).heard.address]

theorem us_300 : us 300 = 900000 := rfl

/-- The lanes of a port are up, or the port was. -/
def Port.mayDie (q : Port) : Prop := q.carries = true ∨ q.wasUp = true

/-- A port has lost lock, or its beacons for 300 µs. -/
def State.portGone (s : State) (p : Nat) (lockLost : Bool) : Prop := lockLost = true ∨ (s.port p).lastBeacon + 900000 ≤ s.clock.up

section
variable {s : State} {p : Fin 4} {lockLost : Bool}

theorem State.portDead_guard : (3 < p.val ∨ !((s.port p).carries || (s.port p).wasUp) ∨ !(lockLost || s.since (s.port p).lastBeacon (us 300))) ↔
    ¬((s.port p).mayDie ∧ s.portGone p lockLost) := by
  have known : ¬3 < p.val := by omega
  have beacon : s.since (s.port p).lastBeacon (us 300) = true ↔ (s.port p).lastBeacon + 900000 ≤ s.clock.up := by
    rw [State.since, decide_eq_true_iff, us_300]
  rw [Port.mayDie, State.portGone, ← beacon]
  simp [known, imp_iff_not_or]

theorem State.portDead_not (h : ¬(s.port p).mayDie ∨ ¬s.portGone p lockLost) : s.portDead p lockLost = s :=
  if_pos (State.portDead_guard.2 (not_and_or.2 h))

variable (live : (s.port p).mayDie) (gone : s.portGone p lockLost)
include live gone

/-- A port that is dead already loses its lanes alone. -/
theorem State.portDead_again (dead : (s.port p).state = 4) :
    s.portDead p lockLost = s.updPort p fun q => { q with lanes := 0, goodSince := none, depthSince := none } :=
  (if_neg fun h => State.portDead_guard.1 h ⟨live, gone⟩).trans (if_pos dead)

theorem State.portDead_dies (alive : (s.port p).state ≠ 4) : s.portDead p lockLost =
    if (s.portDies p).chain.parent = some p.val then (s.portDies p).selectParent else s.portDies p :=
  (if_neg fun h => State.portDead_guard.1 h ⟨live, gone⟩).trans (if_neg alive)

end

theorem State.selectParent_some {s : State} {q : Nat} (best : s.bestPort = some q) : s.selectParent = s.setParent q := by
  unfold State.selectParent
  rw [best]

theorem State.selectParent_none {s : State} (none : s.bestPort = none) : s.selectParent = s.noParent := by
  unfold State.selectParent
  rw [none]

theorem portsDie : Claim.PortsDie := by
  intro dt p lockLost s e live gone m
  rw [exec_port_dead]
  have dies (alive : (s.port p).state ≠ 4) (l : live) (g : gone) :
      e.portDead p lockLost = if m.chain.parent = some p.val then m.selectParent else m := State.portDead_dies (s := e) l g alive
  refine ⟨fun l g alive other => ?_, fun l g alive parent => ⟨fun q best => ?_, fun none => ?_⟩, fun l g dead => ?_, fun h => ?_⟩
  · exact State.act_eq ((dies alive l g).trans (if_neg other))
  · exact State.act_eq (((dies alive l g).trans (if_pos parent)).trans (State.selectParent_some best))
  · exact State.act_eq (((dies alive l g).trans (if_pos parent)).trans (State.selectParent_none none))
  · exact State.act_eq (State.portDead_again (s := e) l g dead)
  · exact State.act_eq (State.portDead_not (s := e) h)

/-! ### Dead ports that are restored -/

section
variable {s : State} {p : Nat}

theorem State.restorePort_alive (alive : (s.port p).state ≠ 4) : s.restorePort p = s := if_neg fun h => alive h.1

theorem State.restorePort_waits (h : (s.port p).lanes = 0 ∨ ∀ t, (s.port p).goodSince = some t → s.clock.up < t + 3000000000) : s.restorePort p = s := by
  refine if_neg ?_
  rintro ⟨-, up, good⟩
  obtain ⟨t, since, long⟩ := (s.heldSecond_iff _).1 good
  obtain down | short := h
  · exact up down
  · exact Nat.not_lt.2 long (short t since)

theorem State.restorePort_restores {t : Nat} (dead : (s.port p).state = 4) (up : (s.port p).lanes ≠ 0) (since : (s.port p).goodSince = some t)
    (long : t + 3000000000 ≤ s.clock.up) :
    let here := (s.port p).heard.flags.getLsbD 2
    s.restorePort p = (s.updPort p fun q => { q with
      state := q.lanes, lanes := 0, wasUp := true, inAnd := q.inAnd || here, grace := if here then none else q.grace
      leftOut := q.leftOut && !here }).raise evChainRestored p [(s.port p).heard.address] := by
  intro here
  refine (if_pos ⟨dead, up, (s.heldSecond_iff _).2 ⟨t, since, long⟩⟩).trans ?_
  exact congrArg (State.raise · evChainRestored p [(s.port p).heard.address]) (State.updPort_congr rfl)

end

theorem deadPortsStayDead : Claim.DeadPortsStayDead := by
  intro s p dead _
  exact ⟨State.restorePort_waits, fun t up since long => State.restorePort_restores dead up since long⟩

/-- Settles O48: a port that is gone dies in one of its branches, and its restoration wants its lanes and a second of beacons. -/
theorem deadPortsAreBypassed : Obligations.DeadPortsAreBypassed := ⟨portsDie, deadPortsStayDead⟩

/-! ### Ports that come up (R312, R363) -/

/-- A port's recovery ends within 200 µs. -/
def State.portAgain (s : State) (p : Nat) : Prop := ∃ t, (s.port p).fr.recovering = some t ∧ s.clock.up ≤ t + 600000

theorem us_200 : us 200 = 600000 := rfl

theorem SkyFrames.again_iff (k : SkyFrames) (s : State) : (k.recovering.any fun t => decide (s.clock.up ≤ t + us 200)) = true ↔
    ∃ t, k.recovering = some t ∧ s.clock.up ≤ t + 600000 := by
  rw [us_200]
  cases k.recovering <;> simp

section
variable {s : State} {p : Nat}

theorem State.portFresh_again (again : s.portAgain p) : s.portFresh p =
    (s.updFr p fun k => { k with recovering := none, txReplay := some k.txAcked, txSince := s.clock.up }).portResend p :=
  if_pos (((s.port p).fr.again_iff s).2 again)

theorem State.portFresh_anew (anew : ¬s.portAgain p) : s.portFresh p = s.updFr p fun k => { recoveryTimes := k.recoveryTimes } :=
  if_neg (mt ((s.port p).fr.again_iff s).1 anew)

/-- A change that leaves a port's frames leaves whether its recovery ends in time. -/
theorem State.portAgain_updPort {f : Port → Port} (kept : ∀ q, (f q).fr = q.fr) : (s.updPort p f).portAgain p ↔ s.portAgain p := by
  unfold State.portAgain
  rw [State.port_updPort_keeps (·.fr) kept]
  rfl

theorem State.portFresh_updPort_again {f : Port → Port} (again : s.portAgain p) (kept : ∀ q, (f q).fr = q.fr) : (s.updPort p f).portFresh p =
    ((s.updPort p f).updFr p fun k => { k with recovering := none, txReplay := some k.txAcked, txSince := s.clock.up }).portResend p :=
  State.portFresh_again ((State.portAgain_updPort kept).2 again)

theorem State.portFresh_updPort_anew {f : Port → Port} (anew : ¬s.portAgain p) (kept : ∀ q, (f q).fr = q.fr) : (s.updPort p f).portFresh p =
    (s.updPort p f).updFr p fun k => { recoveryTimes := k.recoveryTimes } :=
  State.portFresh_anew (mt (State.portAgain_updPort kept).1 anew)

end

section
variable {s : State} {p : Fin 4} {full : Bool}

theorem State.portUp_not (h : s.role p = 0 ∨ (s.port p).up = true) : s.portUp p full = s := if_pos (.inr h)

/-- The rate a port comes up at: that of its eye, where the configuration allows it. -/
def Settings.portRate (c : Settings) (full : Bool) : Nat := if full = true ∧ c.maxRate = 0 then 2 else 3

variable (used : s.role p ≠ 0) (down : (s.port p).up = false)
include used down

theorem State.portUp_guard : ¬(3 < p.val ∨ s.role p = 0 ∨ (s.port p).up = true) := by
  have known : ¬3 < p.val := by omega
  simp [known, used, down]

/-- A port that comes up changes as `f` says, where `f` agrees with its case, and its frames go on or start anew. -/
theorem State.portUp_of {f : Port → Port} (case : (if (s.port p).state = 4
      then { s.port p with lanes := s.settings.portRate full, goodSince := none, depthSince := none, lastBeacon := s.clock.up }
      else if (s.port p).fr.recovering.any fun t => decide (s.clock.up ≤ t + us 200) then { s.port p with state := s.settings.portRate full }
      else { s.port p with state := s.settings.portRate full, goodSince := none, depthSince := none, lastBeacon := s.clock.up, wasUp := true }) =
        f (s.port p)) : s.portUp p full = (s.updPort p f).portFresh p :=
  (if_neg (State.portUp_guard used down)).trans (congrArg (State.portFresh · p) (State.updPort_congr case))

theorem State.portUp_anew (alive : (s.port p).state ≠ 4) (anew : ¬s.portAgain p) : s.portUp p full =
    (s.updPort p fun q => { q with
      state := s.settings.portRate full, goodSince := none, depthSince := none, lastBeacon := s.clock.up, wasUp := true }).updFr p fun k =>
        { recoveryTimes := k.recoveryTimes } := by
  rw [State.portUp_of used down (f := fun q => { q with
    state := s.settings.portRate full, goodSince := none, depthSince := none, lastBeacon := s.clock.up, wasUp := true })]
  · exact State.portFresh_updPort_anew anew fun _ => rfl
  · exact (if_neg alive).trans (if_neg (mt ((s.port p).fr.again_iff s).1 anew))

theorem State.portUp_again (alive : (s.port p).state ≠ 4) (again : s.portAgain p) : s.portUp p full =
    ((s.updPort p fun q => { q with state := s.settings.portRate full }).updFr p fun k =>
      { k with recovering := none, txReplay := some k.txAcked, txSince := s.clock.up }).portResend p := by
  rw [State.portUp_of used down (f := fun q => { q with state := s.settings.portRate full })]
  · exact State.portFresh_updPort_again again fun _ => rfl
  · exact (if_neg alive).trans (if_pos (((s.port p).fr.again_iff s).2 again))

theorem State.portUp_dead (dead : (s.port p).state = 4) (anew : ¬s.portAgain p) : s.portUp p full =
    (s.updPort p fun q => { q with
      lanes := s.settings.portRate full, goodSince := none, depthSince := none, lastBeacon := s.clock.up }).updFr p fun k =>
        { recoveryTimes := k.recoveryTimes } := by
  rw [State.portUp_of used down (f := fun q => { q with
    lanes := s.settings.portRate full, goodSince := none, depthSince := none, lastBeacon := s.clock.up })]
  · exact State.portFresh_updPort_anew anew fun _ => rfl
  · exact if_pos dead

end

/-! ### The A9 returns to a parent-side port (R370) -/

theorem Port.state_ne_of_up {q : Port} (up : q.up = true) : q.state ≠ 4 := by
  intro dead
  simp [Port.up, dead] at up

theorem State.restorePort_settings (s : State) (p : Nat) : (s.restorePort p).settings = s.settings := by
  unfold State.restorePort
  dsimp only
  split
  · exact State.raise_settings ..
  · rfl

theorem State.parentReturn_root {s : State} (root : s.settings.chainRoot = true) (p : Nat) : s.parentReturn p = s.restorePort p :=
  if_pos (.inl (by rw [State.restorePort_settings]; exact root))

section
variable {s : State} {p : Nat} (child : s.settings.chainRoot = false) (side : s.role p = 1 ∨ s.role p = 2) (up : (s.port p).up = true)
  (other : s.chain.parent ≠ some p)
include child side up other

/-- Where it can return to the port, its depth and its second of beacons decide. -/
theorem State.parentReturn_guard : (s.settings.chainRoot = true ∨ (!(s.role p == 1 || s.role p == 2)) = true ∨ (!(s.port p).up) = true ∨
    s.chain.parent = some p ∨ 0xFF ≤ (s.port p).heard.depth ∨ (!((s.port p).goodSince.any fun t => s.since t (sec 1))) = true ∨
    (!((s.port p).depthSince.any fun t => s.since t (sec 1))) = true ∨ (s.port p).heard.flags.getLsbD 2 = true) ↔
    0xFF ≤ (s.port p).heard.depth ∨ ¬s.heldSecond (s.port p).goodSince ∨ ¬s.heldSecond (s.port p).depthSince ∨
      (s.port p).heard.flags.getLsbD 2 = true := by
  have parentSide : (!(s.role p == 1 || s.role p == 2)) = false := by obtain h | h := side <;> simp [h]
  rw [child, parentSide, up, ← State.heldSecond_iff, ← State.heldSecond_iff]
  simp only [other, Bool.not_true, Bool.false_eq_true, false_or, Bool.not_eq_true', Bool.not_eq_true]

theorem State.parentReturn_stays (h : 0xFF ≤ (s.port p).heard.depth ∨ (s.port p).heard.flags.getLsbD 2 = true ∨
    ¬s.heldSecond (s.port p).goodSince ∨ ¬s.heldSecond (s.port p).depthSince) : s.parentReturn p = s := by
  have stays : 0xFF ≤ (s.port p).heard.depth ∨ ¬s.heldSecond (s.port p).goodSince ∨ ¬s.heldSecond (s.port p).depthSince ∨
      (s.port p).heard.flags.getLsbD 2 = true := h.imp_right fun h => h.elim (.inr ∘ .inr) fun h => h.imp_right .inl
  unfold State.parentReturn
  rw [State.restorePort_alive (Port.state_ne_of_up up)]
  exact if_pos ((State.parentReturn_guard child side up other).2 stays)

theorem State.parentReturn_returns (deep : (s.port p).heard.depth < 0xFF) (free : (s.port p).heard.flags.getLsbD 2 = false)
    (good : s.heldSecond (s.port p).goodSince) (long : s.heldSecond (s.port p).depthSince) : s.parentReturn p = s.setParent p := by
  unfold State.parentReturn
  rw [State.restorePort_alive (Port.state_ne_of_up up)]
  refine if_neg fun h => ?_
  obtain deeper | fresh | short | chosen := (State.parentReturn_guard child side up other).1 h
  · exact Nat.not_le.2 deep deeper
  · exact fresh good
  · exact short long
  · exact absurd chosen (by rw [free]; exact Bool.false_ne_true)

end

theorem State.portAgain_elapse (s : State) (dt p : Nat) :
    (s.elapse dt).portAgain p ↔ ∃ t, (s.port p).fr.recovering = some t ∧ s.clock.up + dt ≤ t + 600000 := Iff.rfl

theorem portsComeUp : Claim.PortsComeUp := by
  intro dt p full s e rate again
  rw [exec_skyline_port_up, exec_parent_return]
  refine ⟨fun used down alive anew => ?_, fun used down alive again => ?_, fun used down dead anew => ?_, fun h => ?_, fun root => ?_,
    fun child side up other => ⟨fun deep free good long => ?_, fun stays => ?_⟩⟩
  · exact State.act_eq (State.portUp_anew (s := e) used down alive anew)
  · exact State.act_eq (State.portUp_again (s := e) used down alive again)
  · exact State.act_eq (State.portUp_dead (s := e) used down dead anew)
  · exact State.act_eq (State.portUp_not (s := e) h)
  · exact State.act_eq (State.parentReturn_root (s := e) root p)
  · exact State.act_eq (State.parentReturn_returns (s := e) child side up other deep free good long)
  · exact State.act_eq (State.parentReturn_stays (s := e) child side up other stays)

/-! ### TICK and READY (R371, R374, R396; log entry 133) -/

/-- The TICK edge of the parent, forwarded FWD later on every fed port. -/
def State.edgeForwarded (s : State) : State := s.tickOut (s.clock.up + 3 * s.chain.fwdPs / 1000)

/-- FWD is the same on every port an edge goes out on. -/
theorem forEach_tickEdge (up : Nat) (l : List Nat) : ∀ s : State,
    forEach l s (fun q t => t.emit (.tickEdge q (up + 3 * t.chain.fwdPs / 1000))) =
      forEach l s fun q t => t.emit (.tickEdge q (up + 3 * s.chain.fwdPs / 1000)) := by
  induction l with
  | nil => exact fun _ => rfl
  | cons q l ih => exact fun s => ih (s.emit (.tickEdge q (up + 3 * s.chain.fwdPs / 1000)))

/-- An edge that goes out changes what is sent alone. -/
theorem State.edgeForwarded_out (s : State) : ∃ o, s.edgeForwarded = { s with out := o } := by
  refine forEach_keeps (P := fun t => ∃ o, t = { s with out := o }) _ _ ?_ ⟨s.out, rfl⟩
  rintro q - t ⟨o, rfl⟩
  exact ⟨_, rfl⟩

/-- Offset of the tick that an edge gives (R371). -/
def State.edgeOffset (s : State) : Int :=
  Sys2Proof.Machine.phase s.period ((s.clock.up : Int) + chainLead - (3 * s.dCum / 1000 : Nat) - s.clock.nextUp)

/-- An edge is followed at once, or measured. -/
def State.edgeTaken (s : State) (ok : Bool) : State :=
  if s.tb.state = 2 ∧ s.tb.needStep = false ∧ us 1 < s.edgeOffset.natAbs then s.stepTick (s.edgeOffset.fdiv 3)
  else s.measured (s.edgeOffset.fdiv 3) ok

section
variable {s : State} {p : Nat}

theorem State.tickEdge_other (other : s.chain.parent ≠ some p) : s.tickEdge p = s := if_pos other

variable (parent : s.chain.parent = some p)
include parent

theorem State.tickEdge_forwards (source : s.tb.source ≠ 3) : s.tickEdge p = s.edgeForwarded := by
  obtain ⟨o, out⟩ := s.edgeForwarded_out
  unfold State.edgeForwarded at out ⊢
  unfold State.tickEdge
  rw [if_neg (not_not.2 parent), out]
  exact if_pos source

variable (source : s.tb.source = 3)
include source

theorem State.tickEdge_follows (follow : s.tb.follow = true) :
    let f := s.edgeForwarded
    let h := (s.port p).heard
    let next := s.clock.up + chainLead - 3 * f.dCum / 1000
    s.tickEdge p = ({ f with
      tb := { f.tb with follow := false }
      clock := { f.clock with
        nextUp := next, dev := if h.nextTick = s.clock.tick + 1 then 3 * h.nextTime - (next - s.clock.up) else s.clock.dev } } :
          State).pulsesAfterJump f.nowNs := by
  obtain ⟨o, out⟩ := s.edgeForwarded_out
  unfold State.edgeForwarded at out ⊢
  unfold State.tickEdge
  rw [if_neg (not_not.2 parent), out]
  exact (if_neg (not_not.2 source)).trans (if_pos follow)

/-- An edge that is not followed is measured, or followed at once, and the beacon's tick and time are taken where it places the tick. -/
theorem State.tickEdge_measures (still : s.tb.follow = false) :
    let h := (s.port p).heard
    let m := s.edgeForwarded.edgeTaken (h.flags.getLsbD 0)
    s.tickEdge p = if m.tb.state = 4 ∨ m.tb.state = 3 then m else if h.nextTick = 0 then m else
      { m with clock := { m.clock with tick := h.nextTick - 1, dev := 3 * h.nextTime - (m.clock.nextUp - m.clock.up) } } := by
  obtain ⟨o, out⟩ := s.edgeForwarded_out
  unfold State.edgeForwarded at out ⊢
  unfold State.tickEdge State.edgeTaken
  rw [if_neg (not_not.2 parent), out]
  refine (if_neg (not_not.2 source)).trans ((if_neg (by rw [still]; exact Bool.false_ne_true)).trans ?_)
  simp only [Bool.and_eq_true, beq_iff_eq, Bool.not_eq_true', decide_eq_true_iff, and_assoc]
  rfl

end

/-! ### A jump the parent announces (log entry 133) -/

/-- A locked A9 under source 3 is told of a jump of its next tick. -/
def State.toldJump (s : State) (b : Beacon) : Prop :=
  s.tb.source = 3 ∧ s.tb.state = 2 ∧ s.tb.needStep = false ∧ s.tb.follow = false ∧ s.tb.change = none ∧ b.nextTick = s.clock.tick + 1 ∧
    us 3 < ((3 * b.nextTime : Int) - (s.clock.dev + (s.clock.nextUp - s.clock.up) : Nat)).natAbs

theorem State.followJump_guard {s : State} {b : Beacon} :
    (s.tb.source ≠ 3 ∨ s.tb.state ≠ 2 ∨ s.tb.needStep = true ∨ s.tb.follow = true ∨ s.tb.change.isSome = true ∨ b.nextTick ≠ s.clock.tick + 1 ∨
      ((3 * b.nextTime : Int) - (s.clock.dev + (s.clock.nextUp - s.clock.up) : Nat)).natAbs ≤ us 3) ↔ ¬s.toldJump b := by
  rw [State.toldJump, ← Option.not_isSome_iff_eq_none]
  simp only [not_and_or, Bool.not_eq_false, not_not, Nat.not_lt, ne_eq]

theorem State.followJump_told {s : State} {b : Beacon} (told : s.toldJump b) : s.followJump b = { s with
    tb := { s.tb with follow := true }
    clock := { s.clock with nextUp := s.clock.tickUp + 4 * subPeriod s.clock.rate + s.period + blankTime } } :=
  if_neg fun h => State.followJump_guard.1 h told

theorem State.followJump_not {s : State} {b : Beacon} (h : ¬s.toldJump b) : s.followJump b = s := if_pos (State.followJump_guard.2 h)

/-! ### READY inputs and hop pulses (R372, R374) -/

section
variable {s : State} {p : Nat}

theorem State.readyInput_taken (free : (s.port p).holdUntil ≤ s.clock.up) (level : Bool) :
    s.readyInput p level = s.updPort p fun q => { q with readyIn := level, readyRaw := level } :=
  State.updPort_congr (if_neg (Nat.not_lt.2 free))

theorem State.readyInput_held (held : s.clock.up < (s.port p).holdUntil) (level : Bool) :
    s.readyInput p level = s.updPort p fun q => { q with readyRaw := level } := State.updPort_congr (if_pos held)

theorem State.hopEcho_up (known : p ≤ 3) (up : (s.port p).up = true) : s.hopEcho p = s.emit (.hopEcho p) := if_pos ⟨known, up⟩

theorem State.hopEcho_down (down : (s.port p).up = false) : s.hopEcho p = s :=
  if_neg fun h => Bool.false_ne_true (down.symm.trans h.2)

end

theorem tickAndReady : Claim.TickAndReady := by
  intro dt p level s e f
  have known : p.val ≤ 3 := Nat.le_of_lt_succ p.isLt
  have forwarded : f = e.edgeForwarded := forEach_tickEdge e.clock.up e.fedPorts e
  rw [exec_tick_edge, exec_ready_input_change, exec_hop_echo]
  refine ⟨fun other => ?_, fun parent source => ?_, fun b => ⟨fun told => ?_, fun told => ?_⟩, fun parent source follow => ?_,
    fun parent source still => ?_, fun free => ?_, fun held => ?_, fun up => ?_, fun down => ?_⟩
  · exact State.act_eq (State.tickEdge_other (s := e) other)
  · exact State.act_eq ((State.tickEdge_forwards (s := e) parent source).trans forwarded.symm)
  · exact State.followJump_told told
  · exact State.followJump_not told
  · rw [forwarded]
    exact State.act_eq (State.tickEdge_follows (s := e) parent source follow)
  · intro h off jumped m
    have measured : m = e.edgeForwarded.edgeTaken (h.flags.getLsbD 0) := by
      obtain ⟨o, out⟩ := e.edgeForwarded_out
      simp only [m, jumped, off, forwarded, out]
      rfl
    have edge := State.tickEdge_measures (s := e) parent source still
    rw [measured]
    refine ⟨fun stays => State.act_eq (edge.trans ?_), fun kept locked beacon => State.act_eq (edge.trans ?_)⟩
    · obtain lost | step | none := stays
      · exact if_pos (.inl (measured ▸ lost))
      · exact if_pos (.inr (measured ▸ step))
      · split
        · rfl
        · exact if_pos none
    · exact (if_neg (not_or.2 ⟨measured ▸ kept, measured ▸ locked⟩)).trans (if_neg beacon)
  · exact State.act_eq (State.readyInput_taken (s := e) free level)
  · exact State.act_eq (State.readyInput_held (s := e) held level)
  · exact State.act_eq (State.hopEcho_up (s := e) known up)
  · exact State.act_eq (State.hopEcho_down (s := e) down)

/-! ### Hop delay and grace period (R372, R376) -/

/-- The last 64 hop delays measured with one more. -/
def Port.hopsWith (q : Port) (roundPs : Nat) : List Nat := (q.hopList ++ [(roundPs - q.heard.echo) / 2]).drop (q.hopList.length + 1 - 64)

/-- A measurement is kept, and READY held for 1 µs. -/
def State.hopMeasured (s : State) (p roundPs : Nat) (reported : Option Nat) : State :=
  (s.emit (.hopPulse p)).updPort p fun q =>
    { q with hopList := (s.port p).hopsWith roundPs, hopPs := mean ((s.port p).hopsWith roundPs), hopReported := reported
             holdUntil := s.clock.up + 3000 }

theorem us_one : us 1 = 3000 := rfl

/-- EV_HOP_DELAY reports a mean that is the first, or that left the last reported by more than 50 ps. -/
def State.hopTold (s : State) (p h : Nat) : Prop :=
  (s.port p).hopReported = none ∨ ∃ r, (s.port p).hopReported = some r ∧ 50 < ((h : Int) - r).natAbs

section
variable {s : State} {p : Fin 4} {roundPs : Nat} (up : (s.port p).up = true)
include up

theorem State.hopMeasure_runs : ¬(3 < p.val ∨ (!(s.port p).up) = true) := by
  have known : ¬3 < p.val := by omega
  simp [known, up]

theorem State.hopMeasure_tells (tells : s.hopTold p (mean ((s.port p).hopsWith roundPs))) : s.hopMeasure p roundPs =
    (s.hopMeasured p roundPs (some (mean ((s.port p).hopsWith roundPs)))).raise evHopDelay p [mean ((s.port p).hopsWith roundPs)] := by
  unfold State.hopMeasured State.hopMeasure
  unfold Port.hopsWith at *
  rw [if_neg (State.hopMeasure_runs up), us_one]
  obtain first | ⟨r, last, far⟩ := tells
  · simp only [first, List.length_append, List.length_singleton]
    rfl
  · simp only [last, List.length_append, List.length_singleton, decide_eq_true far]
    rfl

theorem State.hopMeasure_quiet {r : Nat} (last : (s.port p).hopReported = some r)
    (near : ((mean ((s.port p).hopsWith roundPs) : Int) - r).natAbs ≤ 50) : s.hopMeasure p roundPs = s.hopMeasured p roundPs (some r) := by
  unfold State.hopMeasured State.hopMeasure
  unfold Port.hopsWith at *
  rw [if_neg (State.hopMeasure_runs up), us_one]
  simp only [last, List.length_append, List.length_singleton, decide_eq_false (Nat.not_lt.2 near), Bool.false_eq_true, if_false]
  have kept : ((s.emit (.hopPulse p)).port p).hopReported = some r := last
  exact State.updPort_congr (by rw [kept]; rfl)

end

section
variable {s : State} {p t : Nat} (dead : (s.port p).grace = some t)
include dead

theorem State.graceEnd_due (late : t + 3000 * s.settings.graceUs ≤ s.clock.up) : s.graceEnd p =
    (s.updPort p fun q => { q with grace := none, inAnd := false, leftOut := true }).raise evReadyGrace p [s.settings.graceUs] := by
  have past : s.since t (us s.settings.graceUs) = true := decide_eq_true late
  unfold State.graceEnd
  rw [dead]
  exact if_neg (by rw [past]; exact Bool.false_ne_true)

theorem State.graceEnd_runs (early : s.clock.up < t + 3000 * s.settings.graceUs) : s.graceEnd p = s := by
  have yet : s.since t (us s.settings.graceUs) = false := decide_eq_false (Nat.not_le.2 early)
  unfold State.graceEnd
  rw [dead]
  exact if_pos (by rw [yet]; rfl)

end

theorem hopsAndGrace : Claim.HopsAndGrace := by
  refine ⟨?_, ?_⟩
  · intro dt roundPs p s up q l h set
    rw [exec_hop_measure]
    exact ⟨fun tells => State.act_eq (State.hopMeasure_tells (s := s.elapse dt) up tells),
      fun r last near => State.act_eq (State.hopMeasure_quiet (s := s.elapse dt) up last near)⟩
  · intro dt t p s dead e
    rw [exec_ready_grace_expiry]
    exact ⟨fun late => State.act_eq (State.graceEnd_due (s := e) dead late), fun early => State.act_eq (State.graceEnd_runs (s := e) dead early)⟩

/-- Settles O49: ports come up or return in the case that holds of them, an edge is forwarded, followed or measured, and hop delays are means of 64. -/
theorem skylineTickAndReady : Obligations.SkylineTickAndReady := ⟨portsComeUp, tickAndReady, hopsAndGrace⟩

end Sys2Proof.Machine
end

section
/-! PROOFS. The time base: FSYNC_IN edges, PTP masters and messages, the timed pulse outputs (R392, R393, R397 to R404; log entry 73). -/

namespace Sys2Proof.Machine

/-! ### FSYNC_IN (R400, R401) -/

/-- FSYNC_IN in a new state of its own. -/
def State.putFsync (s : State) (g : FsyncIn) : State := { s with tb := { s.tb with fsync := g } }

/-- Edges ignored in the last second, with one more. -/
def FsyncIn.ignoredAt (f : FsyncIn) (now : Nat) : List Nat := (f.ignored.filter fun t => now < t + sec 1) ++ [now]

theorem State.fsyncEdge_idle {s : State} {fall : Bool} {width : Nat} (h : s.tb.fsync.armed = false ∨ width < 20 ∨ fall ≠ s.tb.fsync.falling) :
    s.fsyncEdge fall width = s := by
  refine if_pos ?_
  obtain off | short | other := h
  · exact .inr (.inr (by rw [off]; rfl))
  · exact .inl short
  · exact .inr (.inl other)

section
variable {s : State} {fall : Bool} {width : Nat} (armed : s.tb.fsync.armed = true) (wide : 20 ≤ width) (edge : fall = s.tb.fsync.falling)
include armed wide edge

theorem State.fsyncEdge_counts : ¬(width < 20 ∨ fall ≠ s.tb.fsync.falling ∨ (!s.tb.fsync.armed) = true) := by
  simp [armed, wide, edge]

section
variable {l : Nat} (last : s.tb.fsync.last = some l) (close : 4 * (s.clock.up - l) < 3 * s.period)
include last close

/-- An edge within 0.75 P of the last accepted is ignored, or disarms the input. -/
theorem State.fsyncEdge_close : s.fsyncEdge fall width =
    if 8 < (s.tb.fsync.ignoredAt s.clock.up).length then
      ((s.putFsync { s.tb.fsync with armed := false, ignored := s.tb.fsync.ignoredAt s.clock.up }).raise evFsyncUnusable noUnit
        [(s.tb.fsync.ignoredAt s.clock.up).length]).fsyncHoldover 3
    else s.putFsync { s.tb.fsync with ignored := s.tb.fsync.ignoredAt s.clock.up } := by
  refine (if_neg (State.fsyncEdge_counts armed wide edge)).trans (if_pos ?_)
  rw [last]
  exact decide_eq_true close

theorem State.fsyncEdge_ignored (few : (s.tb.fsync.ignoredAt s.clock.up).length ≤ 8) :
    s.fsyncEdge fall width = s.putFsync { s.tb.fsync with ignored := s.tb.fsync.ignoredAt s.clock.up } :=
  (State.fsyncEdge_close armed wide edge last close).trans (if_neg (Nat.not_lt.2 few))

theorem State.fsyncEdge_unusable (many : 8 < (s.tb.fsync.ignoredAt s.clock.up).length) : s.fsyncEdge fall width =
    ((s.putFsync { s.tb.fsync with armed := false, ignored := s.tb.fsync.ignoredAt s.clock.up }).raise evFsyncUnusable noUnit
      [(s.tb.fsync.ignoredAt s.clock.up).length]).fsyncHoldover 3 :=
  (State.fsyncEdge_close armed wide edge last close).trans (if_pos many)

end

/-- An accepted edge, in place or not (`near`), at the rate or not (`off`). -/
theorem State.fsyncEdge_accepted {near off : Bool} (apart : (s.tb.fsync.last.any fun l => decide (4 * (s.clock.up - l) < 3 * s.period)) = false)
    (place : (s.tb.fsync.last.any fun l => decide (2 * (s.clock.up - l) ≤ 5 * s.period)) = near)
    (rate : (s.tb.fsync.last.any fun l => near && decide (s.period < 1000 * ((s.clock.up : Int) - l - s.period).natAbs)) = off) :
    s.fsyncEdge fall width =
      let n := if off then s.tb.fsync.offrate + 1 else 0
      let m := s.putFsync { s.tb.fsync with
        last := some s.clock.up, offrate := n, inrate := if near ∧ !off then s.tb.fsync.inrate + 1 else 0
        recover := s.tb.fsync.recover || 8 ≤ n }
      if 8 ≤ n then m.fsyncHoldover 4 else m.fsyncMeasure (!near) := by
  subst place rate
  refine (if_neg (State.fsyncEdge_counts armed wide edge)).trans ((if_neg ?_).trans rfl)
  rw [apart]
  exact Bool.false_ne_true

theorem State.fsyncEdge_fresh (far : ∀ l, s.tb.fsync.last = some l → 5 * s.period < 2 * (s.clock.up - l)) : s.fsyncEdge fall width =
    (s.putFsync { s.tb.fsync with last := some s.clock.up, offrate := 0, inrate := 0 }).fsyncMeasure true := by
  rw [State.fsyncEdge_accepted armed wide edge (near := false) (off := false)]
  · simp
  · cases last : s.tb.fsync.last with
    | none => rfl
    | some l =>
      have := far l last
      exact decide_eq_false (by omega)
  · cases last : s.tb.fsync.last with
    | none => rfl
    | some l => exact decide_eq_false (Nat.not_le.2 (far l last))
  · cases s.tb.fsync.last <;> rfl

section
variable {l : Nat} (last : s.tb.fsync.last = some l) (apart : 3 * s.period ≤ 4 * (s.clock.up - l)) (near : 2 * (s.clock.up - l) ≤ 5 * s.period)
include last apart near

/-- An edge in its place is at the rate or off it. -/
theorem State.fsyncEdge_placed {off : Bool} (rate : decide (s.period < 1000 * ((s.clock.up : Int) - l - s.period).natAbs) = off) :
    s.fsyncEdge fall width =
      let n := if off then s.tb.fsync.offrate + 1 else 0
      let m := s.putFsync { s.tb.fsync with
        last := some s.clock.up, offrate := n, inrate := if off then 0 else s.tb.fsync.inrate + 1
        recover := s.tb.fsync.recover || 8 ≤ n }
      if 8 ≤ n then m.fsyncHoldover 4 else m.fsyncMeasure false := by
  rw [State.fsyncEdge_accepted armed wide edge (near := true) (off := off)]
  · cases off <;> rfl
  · rw [last]
    exact decide_eq_false (Nat.not_lt.2 apart)
  · rw [last]
    exact decide_eq_true near
  · rw [last]
    exact rate

theorem State.fsyncEdge_inRate (rate : 1000 * ((s.clock.up : Int) - l - s.period).natAbs ≤ s.period) : s.fsyncEdge fall width =
    (s.putFsync { s.tb.fsync with last := some s.clock.up, offrate := 0, inrate := s.tb.fsync.inrate + 1 }).fsyncMeasure false := by
  rw [State.fsyncEdge_placed armed wide edge last apart near (decide_eq_false (Nat.not_lt.2 rate))]
  simp

theorem State.fsyncEdge_offRate (rate : s.period < 1000 * ((s.clock.up : Int) - l - s.period).natAbs) (few : s.tb.fsync.offrate < 7) :
    s.fsyncEdge fall width = (s.putFsync { s.tb.fsync with
      last := some s.clock.up, offrate := s.tb.fsync.offrate + 1, inrate := 0 }).fsyncMeasure false := by
  have below : ¬7 ≤ s.tb.fsync.offrate := Nat.not_le.2 few
  rw [State.fsyncEdge_placed armed wide edge last apart near (decide_eq_true rate)]
  simp [below]

theorem State.fsyncEdge_offRateLost (rate : s.period < 1000 * ((s.clock.up : Int) - l - s.period).natAbs) (many : 7 ≤ s.tb.fsync.offrate) :
    s.fsyncEdge fall width = (s.putFsync { s.tb.fsync with
      last := some s.clock.up, offrate := s.tb.fsync.offrate + 1, inrate := 0, recover := true }).fsyncHoldover 4 := by
  rw [State.fsyncEdge_placed armed wide edge last apart near (decide_eq_true rate)]
  simp [many]

end

end

theorem frameSyncEdges : Claim.FrameSyncEdges := by
  intro dt width fall s f e now put ign
  rw [exec_fsync_in_edge, exec_fsync_stuck]
  refine ⟨fun idle => ?_, fun l armed wide edge last close => ⟨fun few => ?_, fun many => ?_⟩, fun armed wide edge far => ?_,
    fun l armed wide edge last apart near => ⟨fun rate => ?_, fun rate few => ?_, fun rate many => ?_⟩, fun source late => ?_, fun h => ?_⟩
  · exact State.act_eq (State.fsyncEdge_idle (s := e) idle)
  · exact State.act_eq (State.fsyncEdge_ignored (s := e) armed wide edge last close few)
  · exact State.act_eq (State.fsyncEdge_unusable (s := e) armed wide edge last close many)
  · exact State.act_eq (State.fsyncEdge_fresh (s := e) armed wide edge far)
  · exact State.act_eq (State.fsyncEdge_inRate (s := e) armed wide edge last apart near rate)
  · exact State.act_eq (State.fsyncEdge_offRate (s := e) armed wide edge last apart near rate few)
  · exact State.act_eq (State.fsyncEdge_offRateLost (s := e) armed wide edge last apart near rate many)
  · exact State.act_eq (if_pos ⟨source, late⟩)
  · refine State.act_eq (if_neg ?_)
    rintro ⟨source, late⟩
    obtain other | early := h
    · exact other source
    · exact Nat.not_le.2 late early

/-! ### PTP ports and their masters (R393, R397, R399) -/

/-- Changes that agree on the port they change are one. -/
theorem State.updPtp_congr {s : State} {n : Nat} {f g : PtpPort → PtpPort} (h : f (s.ptpPort n) = g (s.ptpPort n)) : s.updPtp n f = s.updPtp n g :=
  congrArg (fun l => ({ s with tb := { s.tb with ptp := l } } : State)) (upd_congr {} fun _ => h)

/-- A change that leaves every master leaves the grandmaster. -/
theorem State.grandmaster_updPtp (s : State) (n : Nat) {f : PtpPort → PtpPort} (kept : ∀ q, (f q).master = q.master) :
    (s.updPtp n f).grandmaster = s.grandmaster := by
  have masters : (upd s.tb.ptp n f).map (·.master) = s.tb.ptp.map (·.master) := by
    refine List.ext_getElem? fun k => ?_
    simp only [upd, List.getElem?_map, List.getElem?_modify]
    cases s.tb.ptp[k]? with
    | none => rfl
    | some q =>
      simp only [Option.map_eq_map, Option.map_some]
      split
      · exact congrArg some (kept q)
      · rfl
  have found (l : List PtpPort) : (l.findSome? fun q => q.master) = (l.map (·.master)).findSome? id := by rw [List.findSome?_map]; rfl
  unfold State.grandmaster
  rw [found, found, ← masters]
  rfl

section
variable {s : State} {n : Fin 2}

theorem State.ptpSync_idle (h : (s.ptpPort n).mode = 0 ∨ (s.ptpPort n).master = none) (secs nanos : Nat) (corr : Int) :
    s.ptpSync n secs nanos corr = s := if_pos (h.imp_right fun none => by rw [none]; rfl)

/-- A Sync of a port with a master is noted: its origin and its arrival. -/
def State.syncNoted (s : State) (n secs nanos : Nat) (corr : Int) : State :=
  s.updPtp n fun q => { q with syncT1 := (s.ptpPort n).toDev secs nanos corr, syncT2 := s.dev16 }

theorem State.ptpSync_noted (on : (s.ptpPort n).mode ≠ 0) (mastered : (s.ptpPort n).master.isSome = true) (secs nanos : Nat) (corr : Int) :
    s.ptpSync n secs nanos corr = if s.tb.source = 1 then (s.syncNoted n secs nanos corr).measured
        (((s.ptpPort n).toDev secs nanos corr + 65536 * ((s.ptpPort n).pathDelayNs + (s.ptpPort n).asymNs) - s.dev16).fdiv 65536)
      else s.syncNoted n secs nanos corr :=
  if_neg (by rw [← Option.not_isSome, mastered]; simpa using on)

theorem State.ptpAnnounce_off (off : (s.ptpPort n).mode = 0) (identity : BitVec 64) (selects : Bool) : s.ptpAnnounce n identity selects = s :=
  if_pos (.inl off)

section
variable (on : (s.ptpPort n).mode ≠ 0) {identity : BitVec 64}
include on

theorem State.ptpAnnounce_on : ¬((s.ptpPort n).mode = 0 ∨ 1 < n.val) := by
  have known : ¬1 < n.val := by omega
  simp [on, known]

theorem State.ptpAnnounce_own (own : (s.ptpPort n).master = some identity) (selects : Bool) :
    s.ptpAnnounce n identity selects = s.updPtp n fun q => { q with lastAnnounce := s.clock.up } := by
  unfold State.ptpAnnounce
  rw [if_neg (State.ptpAnnounce_on on), if_pos own]
  exact if_pos (.inr own)

variable (other : (s.ptpPort n).master ≠ some identity)
include other

theorem State.ptpAnnounce_passed : s.ptpAnnounce n identity false = s := by
  unfold State.ptpAnnounce
  rw [if_neg (State.ptpAnnounce_on on), if_neg other]
  exact if_pos (.inl rfl)

/-- The grandmaster of the best master clock algorithm becomes one port's master and no other's. -/
def State.newMaster (s : State) (n : Nat) (identity : BitVec 64) : State :=
  { s with tb := { s.tb with
    ptp := s.tb.ptp.mapIdx fun k (x : PtpPort) =>
      if k = n then { x with master := some identity, lastAnnounce := s.clock.up } else { x with master := none }
    needStep := s.tb.needStep || s.tb.source == 1, lockRun := 0 } }

theorem State.ptpAnnounce_selected {same : Bool} (was : (s.tb.ptp.any fun x => x.master == some identity) = same) :
    s.ptpAnnounce n identity true =
      if same then s.newMaster n identity else (s.newMaster n identity).raise evPtpMaster n [lo32 identity.toNat, hi32 identity.toNat] := by
  subst was
  unfold State.ptpAnnounce
  rw [if_neg (State.ptpAnnounce_on on), if_neg other]
  exact if_neg (by simp [other])

end

theorem State.announceTimeout_none (h : (s.ptpPort n).master = none ∨
    s.since (s.ptpPort n).lastAnnounce ((s.ptpPort n).announceTimeout * logInterval (s.ptpPort n).logAnnounce) = false) : s.announceTimeout n = s := by
  refine if_neg ?_
  rintro ⟨mastered, late⟩
  obtain none | early := h
  · rw [none] at mastered
    exact Bool.false_ne_true mastered
  · exact Bool.false_ne_true (early.symm.trans late)

theorem State.announceTimeout_late (mastered : (s.ptpPort n).master.isSome = true)
    (late : s.since (s.ptpPort n).lastAnnounce ((s.ptpPort n).announceTimeout * logInterval (s.ptpPort n).logAnnounce) = true) :
    s.announceTimeout n = (s.updPtp n fun q => { q with master := none }).masterLost := if_pos ⟨mastered, late⟩

end

theorem State.masterLost_last {s : State} (source : s.tb.source = 1) (none : ∀ x ∈ s.tb.ptp, x.master = none) : s.masterLost = s.holdover 1 :=
  if_pos ⟨source, List.all_eq_true.2 fun x port => by rw [none x port]; rfl⟩

theorem State.masterLost_not {s : State} (h : s.tb.source ≠ 1 ∨ ∃ x ∈ s.tb.ptp, x.master.isSome = true) : s.masterLost = s := by
  refine if_neg ?_
  rintro ⟨source, all⟩
  obtain other | ⟨x, port, mastered⟩ := h
  · exact other source
  · have lost := List.all_eq_true.1 all x port
    rw [Option.isNone_iff_eq_none] at lost
    rw [lost] at mastered
    exact Bool.false_ne_true mastered

theorem ptpMasters : Claim.PtpMasters := by
  intro dt secs nanos n corr identity s q e now
  have announce (sel : Bool) : exec (.ptpAnnounce dt n identity sel) s = s.act dt fun s => s.ptpAnnounce n identity sel :=
    exec_ptp_announce ..
  rw [exec_ptp_sync, exec_ptp_announce_timeout]
  refine ⟨?_, fun idle => ?_, fun off sel => ?_, fun on own sel => ?_, fun on other => ?_, ?_, ?_⟩
  · intro t1 t2 m on mastered
    have sync := State.ptpSync_noted (s := e) on mastered secs nanos corr
    exact ⟨fun source => State.act_eq (sync.trans (if_pos source)), fun source => State.act_eq (sync.trans (if_neg source))⟩
  · exact State.act_eq (State.ptpSync_idle (s := e) idle secs nanos corr)
  · exact (announce _).trans (State.act_eq (State.ptpAnnounce_off (s := e) off identity sel))
  · exact (announce _).trans (State.act_eq (State.ptpAnnounce_own (s := e) on own sel))
  · exact (announce _).trans (State.act_eq (State.ptpAnnounce_passed (s := e) on other))
  · intro m on other
    refine ⟨fun fresh => (announce _).trans (State.act_eq ?_), fun ⟨x, port, same⟩ => (announce _).trans (State.act_eq ?_)⟩
    · exact State.ptpAnnounce_selected (s := e) on other (List.any_eq_false.2 fun x port => by simpa using fresh x port)
    · exact State.ptpAnnounce_selected (s := e) on other (List.any_eq_true.2 ⟨x, port, by simpa using same⟩)
  · intro late m
    refine ⟨fun mastered past => ?_, fun h => State.act_eq (State.announceTimeout_none (s := e) h)⟩
    have lost := State.announceTimeout_late (s := e) mastered past
    exact ⟨fun h => State.act_eq (lost.trans (State.masterLost_not h)),
      fun source none => State.act_eq (lost.trans (State.masterLost_last source none))⟩

/-! ### PTP messages (R397, R398) -/

/-- A port sends messages of a kind: as master, or its delay requests to a master or a peer. -/
def PtpPort.sendsKind (q : PtpPort) (kind : Nat) : Bool := if kind ≤ 1 then q.serves else q.mode != 0 && (q.p2p || q.master.isSome)

theorem PtpPort.sendsKind_sync (q : PtpPort) : q.sendsKind 0 = q.serves := rfl

theorem PtpPort.sendsKind_announce (q : PtpPort) : q.sendsKind 1 = q.serves := rfl

/-- Delay requests go to a master, or to the peer. -/
theorem PtpPort.sendsKind_request {q : PtpPort} : q.sendsKind 2 = true ↔ q.mode ≠ 0 ∧ (q.master.isSome = true ∨ q.p2p = true) := by
  simp [PtpPort.sendsKind, or_comm]

/-- The interval of a message kind is over. -/
def State.ptpDue (s : State) (n kind : Nat) : Prop := (s.ptpPort n).sentAt.getD kind 0 + (s.ptpPort n).interval kind ≤ s.clock.up

/-- A message of a kind was sent. -/
def State.ptpSent (s : State) (n kind : Nat) : State :=
  s.updPtp n fun q => { q with sent := q.sent + 1, sentAt := upd q.sentAt kind fun _ => s.clock.up }

section
variable {s : State} {n : Fin 2} {kind : Nat}

theorem State.ptpInterval_quiet (h : (s.ptpPort n).sendsKind kind = false ∨ ¬s.ptpDue n kind) : s.ptpInterval n kind = s := by
  refine if_pos ?_
  obtain not | early := h
  · unfold PtpPort.sendsKind at not
    exact .inr (.inr (.inl (by rw [not]; rfl)))
  · have soon : s.since ((s.ptpPort n).sentAt.getD kind 0) ((s.ptpPort n).interval kind) = false := decide_eq_false early
    exact .inr (.inr (.inr (by rw [soon]; rfl)))

/-- A message of a kind was sent; a delay request's instant is kept. -/
def State.ptpNoted (s : State) (n kind : Nat) : State :=
  s.updPtp n fun q => { q with
    sent := q.sent + 1, sentAt := upd q.sentAt kind fun _ => s.clock.up, lastDelayReq := if kind = 2 then s.clock.dev else q.lastDelayReq }

theorem State.ptpNoted_grandmaster (s : State) (n kind : Nat) : (s.ptpNoted n kind).grandmaster = s.grandmaster :=
  s.grandmaster_updPtp n fun _ => rfl

theorem State.ptpInterval_sends (small : kind ≤ 2) (sends : (s.ptpPort n).sendsKind kind = true) (due : s.ptpDue n kind) :
    s.ptpInterval n kind = if (kind == 0 && (s.ptpPort n).flags.getLsbD 0) = true then
        ((s.ptpNoted n kind).emit (.ptpSend n kind 0 s.grandmaster)).emit (.ptpSend n 4 (s.ptpTime (s.ptpPort n)) s.grandmaster)
      else (s.ptpNoted n kind).emit (.ptpSend n kind (s.ptpTime (s.ptpPort n)) s.grandmaster) := by
  have known : ¬1 < n.val := by omega
  have late : s.since ((s.ptpPort n).sentAt.getD kind 0) ((s.ptpPort n).interval kind) = true := decide_eq_true due
  unfold PtpPort.sendsKind at sends
  have runs : s.ptpInterval n kind = _ := if_neg (by rw [sends, late]; simp [known, small])
  rw [runs]
  cases kind == 0 && (s.ptpPort n).flags.getLsbD 0 with
  | false => rfl
  | true =>
    exact congrArg (fun g => ((s.ptpNoted n kind).emit (.ptpSend n kind 0 s.grandmaster)).emit (.ptpSend n 4 (s.ptpTime (s.ptpPort n)) g))
      (s.ptpNoted_grandmaster n kind)

section
variable (serves : (s.ptpPort n).serves = true)
include serves

theorem State.ptpInterval_sync (due : s.ptpDue n 0) (plain : (s.ptpPort n).flags.getLsbD 0 = false) :
    s.ptpInterval n 0 = (s.ptpSent n 0).emit (.ptpSend n 0 (s.ptpTime (s.ptpPort n)) s.grandmaster) :=
  (State.ptpInterval_sends (by decide) ((PtpPort.sendsKind_sync _).trans serves) due).trans (if_neg (by rw [plain]; decide))

theorem State.ptpInterval_followUp (due : s.ptpDue n 0) (twoStep : (s.ptpPort n).flags.getLsbD 0 = true) : s.ptpInterval n 0 =
    ((s.ptpSent n 0).emit (.ptpSend n 0 0 s.grandmaster)).emit (.ptpSend n 4 (s.ptpTime (s.ptpPort n)) s.grandmaster) :=
  (State.ptpInterval_sends (by decide) ((PtpPort.sendsKind_sync _).trans serves) due).trans (if_pos (by rw [twoStep]; rfl))

theorem State.ptpInterval_announce (due : s.ptpDue n 1) :
    s.ptpInterval n 1 = (s.ptpSent n 1).emit (.ptpSend n 1 (s.ptpTime (s.ptpPort n)) s.grandmaster) :=
  (State.ptpInterval_sends (by decide) ((PtpPort.sendsKind_announce _).trans serves) due).trans (if_neg Bool.false_ne_true)

end

theorem State.ptpInterval_request (sends : (s.ptpPort n).sendsKind 2 = true) (due : s.ptpDue n 2) : s.ptpInterval n 2 =
    ((s.ptpSent n 2).updPtp n fun q => { q with lastDelayReq := s.clock.dev }).emit
      (.ptpSend n 2 (s.ptpTime (s.ptpPort n)) s.grandmaster) := by
  have twice : (s.ptpSent n 2).updPtp n (fun q => { q with lastDelayReq := s.clock.dev }) = s.updPtp n fun q => { q with
      sent := q.sent + 1, sentAt := upd q.sentAt 2 fun _ => s.clock.up, lastDelayReq := s.clock.dev } :=
    congrArg (fun l => ({ s with tb := { s.tb with ptp := l } } : State)) (upd_upd ..)
  rw [twice]
  exact (State.ptpInterval_sends (by decide) sends due).trans (if_neg Bool.false_ne_true)

theorem State.ptpDelay_off (off : (s.ptpPort n).mode = 0) (secs nanos : Nat) (corr : Int) : s.ptpDelay n kind secs nanos corr = s := if_pos (.inl off)

section
variable (on : (s.ptpPort n).mode ≠ 0) (secs nanos : Nat) (corr : Int)
include on

theorem State.ptpDelay_request : s.ptpDelay n 0 secs nanos corr = if (s.ptpPort n).p2p || (s.ptpPort n).serves then
    s.emit (.ptpSend n 3 (s.ptpTime (s.ptpPort n)) s.grandmaster) else s :=
  (if_neg (State.ptpAnnounce_on on)).trans (if_pos rfl)

/-- A response gives the path delay: half of the way there and back, less the turnaround. -/
theorem State.ptpDelay_response {twice : Int} (way : (if (s.ptpPort n).p2p then s.dev16 - ((s.ptpPort n).lastDelayReq * 65536 / 3 : Nat) - corr
      else (s.ptpPort n).syncT2 - (s.ptpPort n).syncT1 +
        ((s.ptpPort n).toDev secs nanos (-corr) - ((s.ptpPort n).lastDelayReq * 65536 / 3 : Nat))) = twice) :
    s.ptpDelay n 1 secs nanos corr = s.updPtp n fun q => { q with pathDelayNs := twice.fdiv 131072 } := by
  subst way
  exact (if_neg (State.ptpAnnounce_on on)).trans (if_neg Nat.one_ne_zero)

end

end

theorem ptpMessages : Claim.PtpMessages := by
  intro dt secs nanos n corr s q e time gm due sent asked t2
  have delay (kind : Nat) : exec (.ptpDelayMessage dt n kind secs nanos corr) s = s.act dt fun s => s.ptpDelay n kind secs nanos corr :=
    exec_ptp_delay_message ..
  have interval (kind : Nat) : exec (.ptpMessageInterval dt n kind) s = s.act dt fun s => s.ptpInterval n kind := exec_ptp_message_interval ..
  refine ⟨fun serves late plain => (interval _).trans (State.act_eq ?_), fun serves late twoStep => (interval _).trans (State.act_eq ?_),
    fun serves late => (interval _).trans (State.act_eq ?_), fun kind own h => (interval _).trans (State.act_eq ?_),
    fun on asks late => (interval _).trans (State.act_eq ?_), fun h => (interval _).trans (State.act_eq ?_),
    fun off kind => (delay _).trans (State.act_eq ?_), fun on answers => (delay _).trans (State.act_eq ?_),
    fun on endToEnd client => (delay _).trans (State.act_eq ?_), fun on peer => (delay _).trans (State.act_eq ?_),
    fun on endToEnd => (delay _).trans (State.act_eq ?_), (exec_tbref_loss ..).trans (State.act_eq rfl),
    (exec_tbref_restored ..).trans (State.act_eq rfl)⟩
  · exact State.ptpInterval_sync (s := e) serves late plain
  · exact State.ptpInterval_followUp (s := e) serves late twoStep
  · exact State.ptpInterval_announce (s := e) serves late
  · exact State.ptpInterval_quiet (s := e) (h.imp_left fun not => (if_pos own).trans not)
  · exact State.ptpInterval_request (s := e) (PtpPort.sendsKind_request.2 ⟨on, asks⟩) late
  · refine State.ptpInterval_quiet (s := e) ((or_assoc.2 h).imp_left fun quiet => Bool.eq_false_iff.2 fun sends => ?_)
    obtain ⟨on, asks⟩ := PtpPort.sendsKind_request.1 sends
    obtain off | ⟨free, endToEnd⟩ := quiet
    · exact on off
    · exact asks.elim (fun some => by simp [show (e.ptpPort n).master = none from free] at some) fun peer => Bool.false_ne_true (endToEnd.symm.trans peer)
  · exact State.ptpDelay_off (s := e) off secs nanos corr
  · refine (State.ptpDelay_request (s := e) on secs nanos corr).trans (if_pos ?_)
    exact Bool.or_eq_true_iff.2 answers
  · refine (State.ptpDelay_request (s := e) on secs nanos corr).trans (if_neg ?_)
    exact Bool.not_eq_true _ ▸ Bool.or_eq_false_iff.2 ⟨endToEnd, client⟩
  · exact State.ptpDelay_response (s := e) on secs nanos corr (if_pos peer)
  · refine (State.ptpDelay_response (s := e) on secs nanos corr (if_neg fun peer => Bool.false_ne_true (endToEnd.symm.trans peer))).trans
      (State.updPtp_congr ?_)
    rw [PtpPort.toDev, ← Int.sub_eq_add_neg]
    rfl

/-! ### Timed pulse outputs (R403, R404) -/

theorem timedPulses : Claim.TimedPulses := by
  intro dt n s t there e
  have output : e.tb.tpulse[n.val]? = some t := there
  rw [exec_tpulse_fire]
  refine ⟨fun on due => State.act_eq ?_, fun h => State.act_eq ?_⟩
  · change e.pulseFire n = _
    unfold State.pulseFire
    rw [output]
    exact if_neg (by rw [on, due]; exact Bool.false_ne_true)
  · change e.pulseFire n = _
    unfold State.pulseFire
    rw [output]
    refine if_pos ?_
    obtain off | early := h
    · rw [off]; rfl
    · rw [early]; exact Bool.or_true _

/-- Settles O50: an edge, a message and an output's instant each act in the branch that holds of them. -/
theorem timeBaseEvents : Obligations.TimeBaseEvents := ⟨frameSyncEdges, ptpMasters, ptpMessages, timedPulses⟩

end Sys2Proof.Machine
end

section
/-! PROOFS. Every command answers a next state: each row of the instruction set is an effect that runs once its time has passed. -/

namespace Sys2Proof.Machine

theorem frameCommandsRun : Claim.FrameCommandsRun :=
  ⟨exec_mailbox_stall_timeout, exec_chain_timeout, exec_txn_timeout, exec_frame_tick, exec_frame_blank, exec_subframe_start,
    exec_lead_deadline, exec_synthesis_start, exec_kerf_deadline, exec_scan_out_start, exec_watermark_fire, exec_lift_phase_end,
    exec_lift_timeout⟩

theorem memCommandsRun : Claim.MemCommandsRun :=
  ⟨exec_refresh_due, exec_live_train_auto, exec_train_pass_end, exec_set_point_change_start, exec_set_point_change_end,
    exec_mem_corrected_read, exec_mem_uncorrectable_read, exec_row_spare, exec_page_retire_copy_end, exec_frame_base_copy_end,
    exec_patrol_scrub⟩

theorem chainCommandsRun : Claim.ChainCommandsRun :=
  ⟨exec_beacon_send, exec_beacon_received, exec_relay_received, exec_mgmt_received, exec_event_received, exec_port_dead,
    exec_parent_return, exec_skyline_port_up, exec_tick_edge, exec_ready_input_change, exec_hop_measure, exec_ready_grace_expiry⟩

theorem timeCommandsRun : Claim.TimeCommandsRun :=
  ⟨exec_fsync_in_edge, exec_fsync_stuck, exec_ptp_sync, exec_ptp_announce, exec_ptp_announce_timeout, exec_tpulse_fire⟩

theorem containCommandsRun : Claim.ContainCommandsRun :=
  ⟨exec_lease_renewal, exec_lease_missed, exec_lease_request, exec_route_loss_timeout, exec_mc_domain_reset, exec_watchdog_expiry,
    exec_region_error_detected, exec_handler_start, exec_handler_test_end, exec_region_retest, exec_die_cold_reset, exec_die_power_up,
    exec_io_block_resume⟩

theorem bootCommandsRun : Claim.BootCommandsRun :=
  ⟨exec_bellows_power_up, exec_history_restore_end, exec_sys_rst_n_assert, exec_sys_rst_n_release, exec_bundle_verify_end,
    exec_complex_self_test_end, exec_complex_absent, exec_leadership_timeout, exec_standby_reached, exec_skyline_bundle_request,
    exec_skyline_boot_retry, exec_power_loss, exec_journal_flush_end, exec_recorder_flush_end, exec_power_restore, exec_core_rail_restored,
    exec_rail_fault, exec_holdup_low, exec_tbref_loss⟩

theorem powerCommandsRun : Claim.PowerCommandsRun :=
  ⟨exec_junction_sample, exec_thermal_fence, exec_reed_clock_step, exec_power_cap_sample, exec_avs_adjust, exec_avs_failure⟩

theorem serviceCommandsRun : Claim.ServiceCommandsRun :=
  ⟨exec_evr_coalesce_timeout, exec_mirror_fault, exec_fw_update_stage_end, exec_handover_arm, exec_handover_grant, exec_record_pad_timeout,
    exec_rec_flush_trigger, exec_rec_flush_end, exec_service_hour, exec_mgmt_datagram, exec_drone_in_sync, exec_mc_domain_release,
    exec_handler_test_timeout, exec_reserve_copy_end, exec_idle_power_down, exec_stack_temp_sample, exec_refresh_repay,
    exec_real_time_panic, exec_hop_echo, exec_ptp_message_interval, exec_ptp_delay_message, exec_tbref_restored, exec_perst_n_deassert,
    exec_holdup_ok_set, exec_bellows_stop⟩

/-- Each row of the instruction set is an effect that runs once its time has passed, and no effect of a row reaches the queue. -/
theorem everyCommandAnswers : Claim.EveryCommandAnswers := by
  intro c s
  cases c
  all_goals
    dsimp only [exec]
    exact State.act_next ..

/-- Settles O2: a row's effect leaves the next state and the queue, and each row that is no firmware command is its effect by its own law. -/
theorem everyCommandAnswersANextState : Obligations.EveryCommandAnswersANextState :=
  ⟨everyCommandAnswers, hostCommandsRun, frameCommandsRun, ingestCommandsRun, linkCommandsRun, memCommandsRun, chainCommandsRun,
    timeCommandsRun, containCommandsRun, bootCommandsRun, powerCommandsRun, serviceCommandsRun⟩

end Sys2Proof.Machine
end

section
/-! PROOFS. The lease, complexes that fence themselves, and the restart of a management complex (R113, R419 to R423, R425). -/

namespace Sys2Proof.Machine

/-! ### Renewals (R419, R420) -/

section
variable {s : State} {d : Fin 2}

theorem State.leaseRenew_off (h : (s.complex d).inReset = true ∨ (s.complex d).fenced = true) : s.leaseRenew d = s := if_pos (.inr h)

variable (running : (s.complex d).inReset = false) (live : (s.complex d).fenced = false)
include running live

theorem State.leaseRenew_guard : ¬(1 < d.val ∨ (s.complex d).inReset = true ∨ (s.complex d).fenced = true) := by
  have known : ¬1 < d.val := by omega
  simp [known, running, live]

theorem State.leaseRenew_holder (holder : s.bellows.holder = some d.val) : s.leaseRenew d =
    ({ s with bellows := { s.bellows with renewAt := s.clock.up, missed := 0 } } : State).updComplex d fun c => { c with stopped := false } :=
  (if_neg (State.leaseRenew_guard running live)).trans (if_pos holder)

variable (other : s.bellows.holder ≠ some d.val)
include other

theorem State.leaseRenew_idle (going : (s.complex d).stopped = false) : s.leaseRenew d = s :=
  (if_neg (State.leaseRenew_guard running live)).trans ((if_neg other).trans (if_neg (by rw [going]; exact Bool.false_ne_true)))

/-- A renewal that another complex holds the lease of is dropped and counted. -/
def State.staleRenewal (s : State) : State :=
  if s.bellows.holder.isSome then { s with bellows := { s.bellows with staleDropped := (s.bellows.staleDropped + 1) % 0x100000000 } } else s

theorem State.leaseRenew_stopped (stopped : (s.complex d).stopped = true) : s.leaseRenew d =
    (s.staleRenewal.updComplex d fun c => { c with stopped := false }).selfFence d (if (s.complex d).lapseAt.isSome then 1 else 3) 3 :=
  (if_neg (State.leaseRenew_guard running live)).trans ((if_neg other).trans (if_pos stopped))

end

theorem State.staleRenewal_free {s : State} (free : s.bellows.holder = none) : s.staleRenewal = s := if_neg (by rw [free]; exact Bool.false_ne_true)

theorem State.staleRenewal_held {s : State} {o : Nat} (held : s.bellows.holder = some o) :
    s.staleRenewal = { s with bellows := { s.bellows with staleDropped := (s.bellows.staleDropped + 1) % 0x100000000 } } :=
  if_pos (by rw [held]; rfl)

/-! ### The lease ends (R419) -/

theorem State.leaseEnd_held {s : State} {d : Nat} (held : s.bellows.holder = some d) (cause : Nat) : s.leaseEnd cause =
    ({ s with bellows := { s.bellows with holder := none, role := none, roleDue := false, grantCause := cause } } : State).updComplex d fun c =>
      { c with lapseAt := some s.clock.up } := by
  unfold State.leaseEnd
  rw [held]

/-- A lease that ends leaves no holder and no role. -/
theorem State.leaseEnd_vacant {s : State} {d : Nat} (held : s.bellows.holder = some d) (cause : Nat) :
    (s.leaseEnd cause).bellows.holder = none ∧ (s.leaseEnd cause).bellows.role = none := by
  rw [State.leaseEnd_held held]
  exact ⟨rfl, rfl⟩

/-- The end of the lease changes Bellows alone, and neither its complexes' number nor its count of self-fences. -/
theorem State.leaseEnd_bellows (s : State) (cause : Nat) : ∃ b : Bellows, s.leaseEnd cause = { s with bellows := b } ∧
    b.complexes.length = s.bellows.complexes.length ∧ b.selfFences = s.bellows.selfFences := by
  cases held : s.bellows.holder with
  | none =>
    unfold State.leaseEnd
    rw [held]
    exact ⟨s.bellows, rfl, rfl, rfl⟩
  | some d =>
    rw [State.leaseEnd_held held]
    exact ⟨_, rfl, upd_length .., rfl⟩

/-! ### Renewals that do not come -/

theorem ms_ten : ms 10 = 30000000 := rfl

/-- A holder's renewal was missed once more. -/
def State.renewalMissed (s : State) : State := { s with bellows := { s.bellows with missed := s.bellows.missed + 1 } }

section
variable {s : State} {d : Nat} (held : s.bellows.holder = some d)
include held

theorem State.leaseMissed_early (early : s.clock.up < s.bellows.renewAt + 30000000 * (s.bellows.missed + 1)) : s.leaseMissed = s := by
  have soon : s.since s.bellows.renewAt (ms 10 * (s.bellows.missed + 1)) = false := by
    rw [ms_ten]
    exact decide_eq_false (Nat.not_le.2 early)
  unfold State.leaseMissed
  rw [held]
  exact if_pos (by rw [soon]; rfl)

/-- A renewal that is late is missed, and the third lets the lease lapse. -/
theorem State.leaseMissed_late (late : s.bellows.renewAt + 30000000 * (s.bellows.missed + 1) ≤ s.clock.up) : s.leaseMissed =
    if s.bellows.missed + 1 < 3 then s.renewalMissed else (s.renewalMissed.updComplex d fun c => { c with stopped := true }).leaseEnd 1 := by
  have past : s.since s.bellows.renewAt (ms 10 * (s.bellows.missed + 1)) = true := by
    rw [ms_ten]
    exact decide_eq_true late
  unfold State.leaseMissed
  rw [held]
  exact if_neg (by rw [past]; exact Bool.false_ne_true)

end

/-! ### Requests (R110, R419) -/

/-- Bellows notes the valid requests of the two complexes. -/
def State.requestsNoted (s : State) (w x : Bool) : State :=
  { s with bellows := { s.bellows with complexes := s.bellows.complexes.mapIdx fun d (c : Complex) =>
    if (d = 0 ∧ w = true) ∨ (d = 1 ∧ x = true) then { c with requested := true } else c } }

theorem State.leaseRequest_eq {s : State} {west east w x : Bool} (first : (west && s.mayRequest 0) = w) (second : (east && s.mayRequest 1) = x) :
    s.leaseRequest west east =
      if s.bellows.holder.isSome then s.requestsNoted w x
      else if w && x then (s.requestsNoted w x).grant s.modes.leadPref
      else if w then (s.requestsNoted w x).grant 0
      else if x then (s.requestsNoted w x).grant 1
      else s.requestsNoted w x := by
  subst first second
  rfl

theorem leases : Claim.Leases := by
  refine ⟨?_, ?_, ?_, fun s d => ⟨rfl, rfl, rfl, rfl, rfl, rfl, rfl, rfl⟩⟩
  · intro dt die s c e
    rw [exec_lease_renewal]
    refine ⟨fun off => ?_, fun running live holder => ?_, fun running live other going => ?_, fun running live free stopped => ?_,
      fun o running live held other stopped => ?_⟩
    · exact State.act_eq (State.leaseRenew_off (s := e) off)
    · exact State.act_eq (State.leaseRenew_holder (s := e) running live holder)
    · exact State.act_eq (State.leaseRenew_idle (s := e) running live other going)
    · have none : e.bellows.holder = none := free
      refine State.act_eq ((State.leaseRenew_stopped (s := e) running live (by rw [none]; exact fun h => nomatch h) stopped).trans ?_)
      rw [State.staleRenewal_free none]
      rfl
    · have some : e.bellows.holder = some o := held
      refine State.act_eq ((State.leaseRenew_stopped (s := e) running live (by rw [some]; exact fun h => other (Option.some.inj h)) stopped).trans ?_)
      rw [State.staleRenewal_held some]
      rfl
  · intro dt d s held e u m
    rw [exec_lease_missed]
    have missed := State.leaseMissed_late (s := e) held
    refine ⟨fun early => State.act_eq (State.leaseMissed_early (s := e) held early),
      fun late few => State.act_eq ((missed late).trans (if_pos ?_)),
      fun late third => ⟨State.act_eq ((missed late).trans (if_neg ?_)), State.leaseEnd_vacant (s := m) held 1⟩⟩
    · exact Nat.succ_lt_succ few
    · exact Nat.not_lt.2 (Nat.succ_le_succ third)
  · intro dt west east s w x e run
    have request : (s.elapse dt).leaseRequest west east = _ := State.leaseRequest_eq (w := w) (x := x) rfl rfl
    have runs {m : State} (h : (s.elapse dt).leaseRequest west east = m) : run = .next (s.ended m) :=
      (exec_lease_request ..).trans (State.act_eq h)
    refine ⟨fun held => runs (request.trans (if_pos held)), fun free => ?_⟩
    have none : ¬(s.elapse dt).bellows.holder.isSome = true := by
      rw [show (s.elapse dt).bellows.holder = none from free]
      exact Bool.false_ne_true
    have request := request.trans (if_neg none)
    refine ⟨fun first second => runs (request.trans (if_pos ?_)),
      fun first second => runs (request.trans ((if_neg ?_).trans (if_pos first))),
      fun first second => runs (request.trans ((if_neg ?_).trans ((if_neg ?_).trans (if_pos second)))),
      fun first second => runs (request.trans ((if_neg ?_).trans ((if_neg ?_).trans (if_neg ?_))))⟩
    all_goals simp [first, second]

/-! ### Complexes that fence themselves (R421) -/

/-- A complex that fences itself gives up the lease it holds. -/
def State.leaseGiven (s : State) (d : Nat) : State := if s.bellows.holder = some d then s.leaseEnd 2 else s

/-- A complex stops issuing, with its handlers' records queued again, and asks Bellows for its reset. -/
def State.selfFenced (s : State) (d cause cls : Nat) : State :=
  let m := s.updComplex d fun c => { c with fenced := true, passed := false, supervises := false, fenceAt := some s.clock.up }
  { m with
    modes := { s.modes with drone := 0 }
    faults := { s.faults with regions := s.faults.regions.map fun (r : RegionRec) =>
      if r.state == 1 && r.handler == d then { r with state := 0 } else r }
    bellows := { m.bellows with
      selfFences := (s.bellows.selfFences + 1) % 0x100000000, fenceEvents := s.bellows.fenceEvents ++ [(d, cause, cls)] } }

theorem State.selfFence_fenced {s : State} {d : Nat} (fenced : (s.complex d).fenced = true) (cause cls : Nat) : s.selfFence d cause cls = s :=
  if_pos fenced

theorem State.selfFence_live {s : State} {d : Nat} (live : (s.complex d).fenced = false) (cause cls : Nat) :
    s.selfFence d cause cls = ((s.recFixed 0x0021 [d, cause]).leaseGiven d).selfFenced d cause cls :=
  if_neg (by rw [live]; exact Bool.false_ne_true)

/-- The lease that is given up changes Bellows alone, and neither its complexes' number nor its count of self-fences. -/
theorem State.leaseGiven_bellows (s : State) (d : Nat) : ∃ b : Bellows, s.leaseGiven d = { s with bellows := b } ∧
    b.complexes.length = s.bellows.complexes.length ∧ b.selfFences = s.bellows.selfFences := by
  unfold State.leaseGiven
  split
  · exact s.leaseEnd_bellows 2
  · exact ⟨s.bellows, rfl, rfl, rfl⟩

theorem State.leaseGiven_vacant {s : State} {d : Nat} (held : s.bellows.holder = some d) :
    (s.leaseGiven d).bellows.holder = none ∧ (s.leaseGiven d).bellows.role = none := by
  unfold State.leaseGiven
  rw [if_pos held]
  exact State.leaseEnd_vacant held 2

theorem State.selfFenced_complex {s : State} {d : Nat} (known : d < s.bellows.complexes.length) (cause cls : Nat) :
    (s.selfFenced d cause cls).complex d =
      { s.complex d with fenced := true, passed := false, supervises := false, fenceAt := some s.clock.up } :=
  upd_getD_self (fun c : Complex => { c with fenced := true, passed := false, supervises := false, fenceAt := some s.clock.up }) {} known

/-- No handler of a complex that fences itself runs on. -/
theorem State.selfFenced_requeued (s : State) (d cause cls : Nat) :
    ∀ r ∈ (s.selfFenced d cause cls).faults.regions, r.handler = d → r.state ≠ 1 := by
  intro r queued handler running
  obtain ⟨q, -, rfl⟩ := List.mem_map.1 queued
  by_cases own : (q.state == 1 && q.handler == d) = true
  · rw [if_pos own] at running
    exact Nat.zero_ne_one running
  · rw [if_neg own] at running handler
    exact own (by simp [running, handler])

theorem selfFences : Claim.SelfFences := by
  intro s d cause cls
  refine ⟨fun fenced => State.selfFence_fenced fenced cause cls, fun live known => ?_⟩
  intro t
  obtain ⟨b, given, complexes, count⟩ := (s.recFixed 0x0021 [d, cause]).leaseGiven_bellows d
  have fences : t = _ := State.selfFence_live live cause cls
  have vacant (held : s.bellows.holder = some d) := State.leaseGiven_vacant (s := s.recFixed 0x0021 [d, cause]) held
  have requeued := State.selfFenced_requeued ((s.recFixed 0x0021 [d, cause]).leaseGiven d) d cause cls
  rw [given] at fences vacant requeued
  have complex := State.selfFenced_complex (s := { s.recFixed 0x0021 [d, cause] with bellows := b }) (complexes ▸ known) cause cls
  rw [fences, complex]
  exact ⟨rfl, rfl, rfl, rfl, congrArg (fun n => (n + 1) % 0x100000000) count, vacant, rfl, requeued, rfl, rfl, rfl⟩

/-! ### Resets of a complex's domain (R421, R425) -/

/-- A complex's domain is in reset. -/
def State.complexReset (s : State) (d : Nat) : State :=
  (s.updComplex d fun c => { c with
    inReset := true, passed := false, requested := false, stopped := false, fenceAt := none, lapseAt := none
    supervises := false }).setDomain (domainBase d + 29) 0

/-- A complex's reset is due: 1 ms after its request, or 10 ms after a lapse without one. -/
def State.resetDue (s : State) (d : Nat) : Prop := (∃ t, (s.complex d).fenceAt = some t ∧ t + 3000000 ≤ s.clock.up) ∨
  ((s.complex d).fenceAt = none ∧ ∃ t, (s.complex d).lapseAt = some t ∧ t + 30000000 ≤ s.clock.up)

theorem ms_one : ms 1 = 3000000 := rfl

section
variable {s : State} {d : Fin 2}

theorem State.domainReset_due (out : (s.complex d).inReset = false) (due : s.resetDue d) : s.domainReset d =
    if s.bellows.holder.isSome ∨ ((s.complexReset d).complex (otherDie d)).runs then s.complexReset d
    else { s.complexReset d with bellows := { (s.complexReset d).bellows with bothReset := some s.clock.up } } := by
  have known : ¬1 < d.val := by omega
  unfold State.domainReset
  obtain ⟨t, fenced, late⟩ | ⟨free, t, lapsed, late⟩ := due
  · have past : s.since t (ms 1) = true := by
      rw [ms_one]
      exact decide_eq_true late
    simp only [fenced, past]
    exact if_neg (by simp [known, out])
  · have past : s.since t (ms 10) = true := by
      rw [ms_ten]
      exact decide_eq_true late
    simp only [free, lapsed, past]
    exact if_neg (by simp [known, out])

theorem State.domainReset_not (h : (s.complex d).inReset = true ∨ ((s.complex d).fenceAt = none ∧ (s.complex d).lapseAt = none)) :
    s.domainReset d = s := by
  unfold State.domainReset
  obtain inReset | ⟨free, running⟩ := h
  · exact if_pos (.inr (.inl inReset))
  · simp only [free, running]
    exact if_pos (.inl rfl)

theorem State.domainResetCut_not (cut : Nat) (h : (s.complex d).inReset = true ∨ ((s.complex d).fenceAt = none ∧ (s.complex d).lapseAt = none)) :
    s.domainResetCut d cut = s := by
  unfold State.domainResetCut
  rw [State.domainReset_not h]
  exact if_neg (by simp)

theorem State.domainRelease_out (out : (s.complex d).inReset = false) : s.domainRelease d = s := if_pos (by rw [out]; rfl)

theorem State.domainRelease_reset (inReset : (s.complex d).inReset = true) : s.domainRelease d =
    { (s.updComplex d fun c => { c with inReset := false }).setDomain (domainBase d + 29) 1 with modes := { s.modes with drone := 1 } } :=
  if_neg (by rw [inReset]; exact Bool.false_ne_true)

end

theorem State.openRecord_zero (s : State) : s.openRecord 0 = s := by
  unfold State.openRecord
  exact if_pos (.inl rfl)

/-- A reset that cuts no record is the reset alone. -/
theorem State.domainResetCut_zero (s : State) (d : Nat) : s.domainResetCut d 0 = s.domainReset d := by
  unfold State.domainResetCut
  simp only [State.openRecord_zero, ite_self]

/-! ### Routes and the drone (R113, R421, R422) -/

theorem us_100 : us 100 = 300000 := rfl

theorem State.routeLoss_late {s : State} {d t : Nat} (lost : s.faults.routeLostAt.getD d none = some t) (late : t + 300000 ≤ s.clock.up) :
    s.routeLoss d = (s.selfFence d 2 4).escalate := by
  unfold State.routeLoss
  rw [lost]
  refine if_pos ?_
  rw [us_100]
  exact decide_eq_true late

theorem State.routeLoss_none {s : State} {d : Nat} (kept : s.faults.routeLostAt.getD d none = none) : s.routeLoss d = s := by
  unfold State.routeLoss
  rw [kept]

/-- The drone has mirrored the configuration, with the commits that are armed. -/
def State.mirrored (s : State) : State :=
  { s with modes := { s.modes with drone := 3 }, txns := s.txns.map fun (t : Txn) => if t.state = 1 then { t with both := true } else t }

theorem State.droneInSync_not {s : State} (h : s.modes.drone ≠ 2) : s.droneInSync = s := if_pos h

theorem State.droneInSync_mirrors {s : State} (drone : s.modes.drone = 2) : s.droneInSync =
    if s.modes.mode = 1 ∧ s.modes.step ≠ 7 then s.mirrored.stepEnded 1 0 else s.mirrored := if_neg (not_not.2 drone)

theorem complexesRestart : Claim.ComplexesRestart := by
  intro dt die s e c
  have reset (cut : Nat) : exec (.mcDomainReset dt die cut) s = s.act dt fun s => s.domainResetCut die cut := exec_mc_domain_reset ..
  rw [exec_route_loss_timeout, exec_mc_domain_release, exec_drone_in_sync]
  refine ⟨fun t lost late => ?_, fun kept => ?_, ?_, fun h cut => ?_, fun inReset => ?_, fun out => ?_, ?_, fun other => ?_⟩
  · exact State.act_eq (State.routeLoss_late (s := e) lost late)
  · exact State.act_eq (State.routeLoss_none (s := e) kept)
  · intro out due m
    have resets := (e.domainResetCut_zero die).trans (State.domainReset_due (s := e) out due)
    refine ⟨fun other => (reset 0).trans (State.act_eq (resets.trans (if_pos other))),
      fun free alone => (reset 0).trans (State.act_eq (resets.trans (if_neg ?_)))⟩
    rintro (held | other)
    · rw [show e.bellows.holder = none from free] at held
      exact Bool.false_ne_true held
    · exact Bool.false_ne_true (alone.symm.trans other)
  · exact (reset cut).trans (State.act_eq (State.domainResetCut_not (s := e) cut h))
  · exact State.act_eq (State.domainRelease_reset (s := e) inReset)
  · exact State.act_eq (State.domainRelease_out (s := e) out)
  · intro m
    refine ⟨fun drone done => ?_, fun drone mode step => ?_⟩
    · exact State.act_eq ((State.droneInSync_mirrors (s := e) drone).trans (if_neg fun ⟨mode, step⟩ => done.elim (· mode) (step ·)))
    · exact State.act_eq ((State.droneInSync_mirrors (s := e) drone).trans (if_pos ⟨mode, step⟩))
  · exact State.act_eq (State.droneInSync_not (s := e) other)

/-- Settles O51: a renewal, a request and a reset each act in the branch that holds of them, and a complex that fences itself gives up the lease
first. -/
theorem leasesAndComplexes : Obligations.LeasesAndComplexes := ⟨leases, complexesRestart, selfFences⟩

end Sys2Proof.Machine
end

section
/-! PROOFS. Region errors and their handlers, cold resets and power-ups of a die, and I/O blocks that resume (R405 to R418; log entries 74, 75, 87,
88). -/

namespace Sys2Proof.Machine

/-! ### Errors of a region (R406, R408 to R410) -/

section
variable {s : State} {kind unit : Nat}

section
variable (there : regionExists kind unit = true) (kept : (s.faults.region kind unit).state ≠ 3)
include there kept

theorem State.regionError_outer {o : Nat × Nat} (outer : s.outerHandled 4 kind unit = some o) (cls : Nat) :
    s.regionError kind unit cls = s.recordError o.1 o.2 cls := by
  unfold State.regionError
  rw [if_neg (by simp [there, kept]), outer]

theorem State.regionError_own (outer : s.outerHandled 4 kind unit = none) (cls : Nat) : s.regionError kind unit cls = s.recordError kind unit cls := by
  unfold State.regionError
  rw [if_neg (by simp [there, kept]), outer]

end

theorem State.hardwareError_region (other : kind ≠ 8) (cls : Nat) : s.hardwareError kind unit cls = (s.regionError kind unit cls).escalate :=
  if_neg fun h => other h.1

theorem State.complexError_live (live : (s.complex unit).fenced = false) (cause cls : Nat) :
    s.complexError unit cause cls = s.selfFence unit cause cls := if_neg (by rw [live]; exact Bool.false_ne_true)

theorem State.hardwareError_complex (known : unit < 2) (kept : (s.faults.region 8 unit).state ≠ 3) (outer : s.outerHandled 4 8 unit = none)
    (live : (s.complex unit).fenced = false) (cls : Nat) : s.hardwareError 8 unit cls = (s.selfFence unit 5 cls).escalate := by
  rw [← State.complexError_live live]
  exact if_pos ⟨rfl, known, by rw [outer]; rfl, kept⟩

theorem State.internal_none {cls : Nat} {hit : Option (Fin 8)} (h : hit = none ∨ cls ≠ 6) : s.internal cls hit = s := by
  have missed : (if cls = 6 then hit else none) = none := by
    obtain rfl | other := h
    · exact ite_self ..
    · exact if_neg other
  unfold State.internal
  rw [missed]

theorem State.internal_idle {n : Fin 8} (idle : (s.mbx n).state ≠ 2) : s.internal 6 (some n) = s := if_pos idle

theorem State.internal_running {n : Fin 8} (running : (s.mbx n).state = 2) : s.internal 6 (some n) =
    s.complete (Cmd.parse n (s.mbx n).running) (({ status := stInternal } : Err).resp (Cmd.parse n (s.mbx n).running)) :=
  if_neg (not_not.2 running)

theorem State.watchdog_region (there : regionExists kind unit = true) (has : watched kind = true) (other : kind ≠ 8) :
    s.watchdog kind unit = (s.regionError kind unit 3).escalate := by
  rw [← State.hardwareError_region other]
  exact (if_neg (by rw [there, has]; exact Bool.false_ne_true)).trans (if_neg other)

theorem State.watchdog_complex (known : unit < 2) (live : (s.complex unit).fenced = false) :
    s.watchdog 8 unit = (s.selfFence unit 4 3).escalate := by
  have there : regionExists 8 unit = true := decide_eq_true known
  rw [← State.complexError_live live]
  exact (if_neg (by rw [there]; exact Bool.false_ne_true)).trans (if_pos rfl)

theorem State.watchdog_none (h : watched kind = false ∨ regionExists kind unit = false) : s.watchdog kind unit = s :=
  if_pos (by obtain h | h := h <;> simp [h])

end

theorem regionErrors : Claim.RegionErrors := by
  intro dt kind unit cls hit s e record
  have detected : exec (.regionErrorDetected dt kind unit cls hit) s = s.act dt fun s =>
      if regionExists kind unit ∧ 1 ≤ cls ∧ cls ≤ 7 then (s.internal cls hit).hardwareError kind unit cls else s :=
    exec_region_error_detected ..
  have watchdog (kind : Nat) : exec (.watchdogExpiry dt kind unit 0) s = s.act dt fun s => (s.watchdog kind unit).openRecord 0 :=
    exec_watchdog_expiry ..
  have expires {kind : Nat} {m : State} (h : e.watchdog kind unit = m) :
      exec (.watchdogExpiry dt kind unit 0) s = .next (s.ended m) :=
    (watchdog kind).trans (State.act_eq ((State.openRecord_zero _).trans h))
  have recorded (there : regionExists kind unit = true) (kept : (s.faults.region kind unit).state ≠ 3) (cls : Nat) :
      e.regionError kind unit cls = record cls := by
    cases outer : s.outerHandled 4 kind unit with
    | none =>
      simp only [record, outer]
      exact State.regionError_own (s := e) there kept outer cls
    | some o =>
      simp only [record, outer]
      exact State.regionError_outer (s := e) there kept outer cls
  refine ⟨fun missed there low high other kept => ?_, fun missed own known low high kept outer live => ?_, fun n struck internal there => ?_,
    fun h => ?_, fun there has kept => ?_, fun known live => ?_, fun h => ?_⟩
  · refine detected.trans (State.act_eq ((if_pos ⟨there, low, high⟩).trans ?_))
    rw [State.internal_none missed, State.hardwareError_region other]
    exact congrArg State.escalate (recorded there kept cls)
  · subst own
    refine detected.trans (State.act_eq ((if_pos ⟨decide_eq_true known, low, high⟩).trans ?_))
    rw [State.internal_none missed]
    exact State.hardwareError_complex (s := e) known kept outer live cls
  · subst struck internal
    intro c resp
    have strikes : (if regionExists kind unit ∧ 1 ≤ 6 ∧ 6 ≤ 7 then (e.internal 6 (some n)).hardwareError kind unit 6 else e) =
        (e.internal 6 (some n)).hardwareError kind unit 6 := if_pos ⟨there, by decide, by decide⟩
    refine ⟨fun running => detected.trans (State.act_eq (strikes.trans ?_)), fun idle => detected.trans (State.act_eq (strikes.trans ?_))⟩
    · rw [State.internal_running (s := e) running]
      rfl
    · rw [State.internal_idle (s := e) idle]
  · refine detected.trans (State.act_eq (if_neg ?_))
    rintro ⟨there, low, high⟩
    obtain none | zero | beyond := h
    · exact Bool.false_ne_true (none.symm.trans there)
    · omega
    · omega
  · refine expires ((State.watchdog_region there ?_ ?_).trans (congrArg State.escalate (recorded there kept 3)))
    · obtain rfl | rfl | rfl | rfl | rfl | rfl := has <;> rfl
    · obtain rfl | rfl | rfl | rfl | rfl | rfl := has <;> decide
  · exact expires (State.watchdog_complex (s := e) known live)
  · refine expires (State.watchdog_none ?_)
    obtain rfl | rfl | rfl | none := h
    · exact .inl rfl
    · exact .inl rfl
    · exact .inl rfl
    · exact .inr none

/-! ### Handlers and retests (R409, R413) -/

section
variable {s : State} {die : Nat}

theorem State.handlerStart_takes {r : RegionRec} (runs : (s.complex die).runs = true) (free : s.handling die = none)
    (next : s.nextRecord die = some r) :
    let m := s.updRegion r.kind r.unit fun r => { r with state := 1, handler := die, startAt := s.clock.up }
    s.handlerStart die = m.recFixed 0x0040 [r.kind, r.unit, r.cls, r.records, (m.recent24 r.times).length] := by
  unfold State.handlerStart
  rw [if_neg (by simp [runs, free]), next]

theorem State.handlerStart_not (h : (s.complex die).runs = false ∨ (s.handling die).isSome = true ∨ s.nextRecord die = none) :
    s.handlerStart die = s := by
  unfold State.handlerStart
  split
  · rfl
  case isFalse ready =>
    obtain stopped | busy | empty := h
    · exact absurd (by simp [stopped]) ready
    · exact absurd (by simp [busy]) ready
    · rw [empty]

theorem State.handlerEnd_free (free : s.handling die = none) (result : Nat) : s.handlerEnd die result = s := by
  unfold State.handlerEnd
  rw [free]

theorem State.handlerTimeout_free (free : s.handling die = none) : s.handlerTimeout die = s := by
  unfold State.handlerTimeout
  rw [free]

variable {r : RegionRec} (handling : s.handling die = some r)
include handling

theorem State.handlerEnd_waits (waits : s.testFrom r = none) (result : Nat) : s.handlerEnd die result = s := by
  unfold State.handlerEnd
  rw [handling]
  exact if_pos (by rw [waits]; rfl)

theorem State.handlerTimeout_waits (waits : s.testFrom r = none) : s.handlerTimeout die = s := by
  unfold State.handlerTimeout
  rw [handling]
  exact if_neg (by rw [waits]; exact Bool.false_ne_true)

variable {t : Nat} (tests : s.testFrom r = some t)
include tests

/-- The record of a handler's test that ended. -/
def State.testRecorded (s : State) (r : RegionRec) (result : Nat) : State :=
  s.recFixed 0x0041 [r.kind, r.unit, result, (s.clock.up - r.startAt) / 3000, b2n r.retest]

theorem State.handlerEnd_tested (result : Nat) : s.handlerEnd die result =
    if result = 0 && r.records < 2 then (s.testRecorded r result).handlerPass r
    else ((s.testRecorded r result).handlerFail r (result != 0)).escalate := by
  unfold State.handlerEnd
  rw [handling]
  exact if_neg (by rw [tests]; exact Bool.false_ne_true)

theorem State.handlerEnd_passes (one : r.records < 2) : s.handlerEnd die 0 = (s.testRecorded r 0).handlerPass r :=
  (State.handlerEnd_tested handling tests 0).trans (if_pos (by simp [one]))

theorem State.handlerEnd_two (two : 2 ≤ r.records) : s.handlerEnd die 0 = ((s.testRecorded r 0).handlerFail r false).escalate :=
  (State.handlerEnd_tested handling tests 0).trans (if_neg (by simp [Nat.not_lt.2 two]))

theorem State.handlerEnd_fails {result : Nat} (fails : result ≠ 0) :
    s.handlerEnd die result = ((s.testRecorded r result).handlerFail r true).escalate := by
  rw [State.handlerEnd_tested handling tests, if_neg (by simp [fails]), bne_iff_ne.2 fails]

theorem State.handlerTimeout_late (late : t + 2 * testLimit r.kind ≤ s.clock.up) :
    s.handlerTimeout die = ((s.testRecorded r 2).handlerFail r true).escalate := by
  have past : s.since t (2 * testLimit r.kind) = true := decide_eq_true late
  rw [← State.handlerEnd_fails handling tests (by decide : 2 ≠ 0)]
  unfold State.handlerTimeout
  rw [handling]
  exact if_pos (by rw [tests]; exact past)

theorem State.handlerTimeout_early (early : s.clock.up < t + 2 * testLimit r.kind) : s.handlerTimeout die = s := by
  have soon : s.since t (2 * testLimit r.kind) = false := decide_eq_false (Nat.not_le.2 early)
  unfold State.handlerTimeout
  rw [handling]
  refine if_neg ?_
  rw [tests]
  exact fun past => Bool.false_ne_true (soon.symm.trans past)

end

section
variable {s : State} {kind unit : Nat}

theorem State.regionRetest_due (fenced : (s.faults.region kind unit).state = 2)
    (late : (s.faults.region kind unit).fencedAt + hours 1 ≤ s.clock.up) :
    let m := s.makeRoom (s.queueOf kind unit)
    s.regionRetest kind unit = ({ m with faults := { m.faults with nextOrder := m.faults.nextOrder + 1 } } : State).updRegion kind unit fun r =>
      { r with state := 0, records := 1, cls := 8, retest := true, fencedAt := m.clock.up, order := m.faults.nextOrder } := by
  have past : s.since (s.faults.region kind unit).fencedAt (hours 1) = true := decide_eq_true late
  exact if_neg (by rw [past]; simp [fenced])

theorem State.regionRetest_not (h : (s.faults.region kind unit).state ≠ 2 ∨ s.clock.up < (s.faults.region kind unit).fencedAt + hours 1) :
    s.regionRetest kind unit = s := by
  refine if_pos (h.imp_right fun early => ?_)
  have soon : s.since (s.faults.region kind unit).fencedAt (hours 1) = false := decide_eq_false (Nat.not_le.2 early)
  rw [soon]
  rfl

end

theorem handlers : Claim.Handlers := by
  intro dt die s e
  have test (pass : Bool) : exec (.handlerTestEnd dt die pass) s = s.act dt fun s => s.handlerEnd die (b2n (!pass)) := exec_handler_test_end ..
  have retest (kind unit : Nat) : exec (.regionRetest dt kind unit) s = s.act dt fun s => s.regionRetest kind unit := exec_region_retest ..
  rw [exec_handler_start, exec_handler_test_timeout]
  refine ⟨fun r runs free next => ?_, fun h => ?_, fun r handling => ?_, fun free => ⟨?_, fun pass => ?_⟩, fun kind unit fenced late => ?_,
    fun kind unit h => ?_⟩
  · exact State.act_eq (State.handlerStart_takes (s := e) runs free next)
  · exact State.act_eq (State.handlerStart_not (s := e) h)
  · intro done
    refine ⟨fun t tests => ⟨fun one => ?_, fun two => ?_, ?_, fun late => ?_, fun early => ?_⟩, fun other => if_pos other,
      fun waits => ⟨?_, fun pass => ?_⟩⟩
    · exact (test _).trans (State.act_eq (State.handlerEnd_passes (s := e) handling tests one))
    · exact (test _).trans (State.act_eq (State.handlerEnd_two (s := e) handling tests two))
    · exact (test _).trans (State.act_eq (State.handlerEnd_fails (s := e) handling tests Nat.one_ne_zero))
    · exact State.act_eq (State.handlerTimeout_late (s := e) handling tests late)
    · exact State.act_eq (State.handlerTimeout_early (s := e) handling tests early)
    · exact State.act_eq (State.handlerTimeout_waits (s := e) handling waits)
    · exact (test _).trans (State.act_eq (State.handlerEnd_waits (s := e) handling waits _))
  · exact State.act_eq (State.handlerTimeout_free (s := e) free)
  · exact (test _).trans (State.act_eq (State.handlerEnd_free (s := e) free _))
  · exact (retest ..).trans (State.act_eq (State.regionRetest_due (s := e) fenced late))
  · exact (retest ..).trans (State.act_eq (State.regionRetest_not (s := e) h))

/-- Settles O52: an error is recorded against its region or the handled one around it, and a handler's test ends in one branch of its result. -/
theorem regionErrorsAreHandled : Obligations.RegionErrorsAreHandled := ⟨regionErrors, handlers⟩

end Sys2Proof.Machine
end

section
/-! PROOFS. Cold resets and power-ups of a die, and I/O blocks that resume (R417, R418; log entries 74, 87, 88). -/

namespace Sys2Proof.Machine

/-! ### Cold resets (R417) -/

section
variable {s : State} {d : Fin 2}

theorem State.dieColdReset_not (h : s.bellows.resetDue.getD d 0 = 0 ∨ s.canBoot = false ∨ (s.bellows.dieOff.getD d none).isSome = true) :
    s.dieColdReset d = s :=
  if_pos (.inr (h.imp_right fun h => h.imp_left fun down => by rw [down]; rfl))

variable (due : s.bellows.resetDue.getD d 0 ≠ 0) (up : s.canBoot = true) (on : s.bellows.dieOff.getD d none = none)
include due up on

theorem State.dieColdReset_guard :
    ¬(1 < d.val ∨ s.bellows.resetDue.getD d 0 = 0 ∨ (!s.canBoot) = true ∨ (s.bellows.dieOff.getD d none).isSome = true) := by
  have known : ¬1 < d.val := by omega
  rw [up, on]
  simp only [known, due, Bool.not_true, Bool.false_eq_true, Option.isSome_none, or_self, not_false_eq_true]

theorem State.dieColdReset_both (other : (s.bellows.dieOff.getD (otherDie d) none).isSome = true) : s.dieColdReset d =
    (s.safeLoss 0xFFFF).coldRestart (if d = 0 then s.bellows.resetDue.getD d 0 else s.bellows.dieCause.getD 0 1)
      (if d = 1 then s.bellows.resetDue.getD d 0 else s.bellows.dieCause.getD 1 1) false := by
  simp only [Fin.ext_iff]
  exact (if_neg (State.dieColdReset_guard due up on)).trans (if_pos other)

/-- A die that is cold-reset gives up the lease and goes off; its cause is kept. -/
theorem State.dieColdReset_one (other : s.bellows.dieOff.getD (otherDie d) none = none) :
    let kept := (s.safeLoss (dieLinkMask d)).commitsLost d
    let off := (if kept.bellows.holder = some d.val then kept.leaseEnd 3 else kept).dieGoesOff d
    s.dieColdReset d = ({ off with bellows := { off.bellows with
      dieOff := upd off.bellows.dieOff d (fun _ => some off.clock.up)
      dieCause := upd off.bellows.dieCause d (fun _ => s.bellows.resetDue.getD d 0)
      rejoin := upd off.bellows.rejoin d fun _ => 0 } } : State).recFixed 0x0050
        [d, s.bellows.resetDue.getD d 0, off.bellows.starts] :=
  (if_neg (State.dieColdReset_guard due up on)).trans (if_neg (by rw [other]; exact Bool.false_ne_true))

end

/-! ### A die powers up (R417) -/

/-- What a step of a power-up leaves: the configuration, Bellows' account of the dies, and which complexes are in reset. -/
structure State.KeepsDies (s t : State) : Prop where
  settings : t.settings = s.settings
  dieOff : t.bellows.dieOff = s.bellows.dieOff
  coldBusy : t.bellows.coldBusy = s.bellows.coldBusy
  resetDue : t.bellows.resetDue = s.bellows.resetDue
  starts : t.bellows.starts = s.bellows.starts
  rejoin : t.bellows.rejoin = s.bellows.rejoin
  inReset : ∀ d, (t.complex d).inReset = (s.complex d).inReset

theorem State.KeepsDies.refl (s : State) : s.KeepsDies s := ⟨rfl, rfl, rfl, rfl, rfl, rfl, fun _ => rfl⟩

theorem State.KeepsDies.trans {s t u : State} (h : s.KeepsDies t) (k : t.KeepsDies u) : s.KeepsDies u :=
  ⟨k.settings.trans h.settings, k.dieOff.trans h.dieOff, k.coldBusy.trans h.coldBusy, k.resetDue.trans h.resetDue, k.starts.trans h.starts,
    k.rejoin.trans h.rejoin, fun d => (k.inReset d).trans (h.inReset d)⟩

/-- A part of an entry that a change leaves reads as before. -/
theorem upd_getD_keeps {α β : Type} (l : List α) (n k : Nat) {f : α → α} (d : α) (part : α → β) (kept : ∀ a, part (f a) = part a) :
    part ((upd l n f).getD k d) = part (l.getD k d) := by
  simp only [upd, List.getD_eq_getElem?_getD, List.getElem?_modify]
  cases l[k]? with
  | none => rfl
  | some a =>
    simp only [Option.map_eq_map, Option.map_some, Option.getD_some]
    split
    · exact kept a
    · rfl

/-- An entry set to what stands beyond the list reads so. -/
theorem upd_getD_default {α : Type} (l : List α) (n : Nat) (d : α) : (upd l n fun _ => d).getD n d = d := by
  simp only [upd, List.getD_eq_getElem?_getD, List.getElem?_modify]
  cases l[n]? with
  | none => rfl
  | some a => simp

theorem State.keepsDies_updComplex (s : State) (n : Nat) {f : Complex → Complex} (kept : ∀ c, (f c).inReset = c.inReset) :
    s.KeepsDies (s.updComplex n f) := ⟨rfl, rfl, rfl, rfl, rfl, rfl, fun d =>
    upd_getD_keeps _ n d ({} : Machine.Complex) (fun c => c.inReset) kept⟩

theorem State.keepsDies_droneDown (s : State) : s.KeepsDies s.droneDown := by
  unfold State.droneDown
  cases s.bellows.role with
  | none => exact .refl s
  | some d =>
    have domain : s.KeepsDies (if s.domain (domainBase (otherDie d) + 29) = 1 then s.setDomain (domainBase (otherDie d) + 29) 0 else s) := by
      split <;> exact ⟨rfl, rfl, rfl, rfl, rfl, rfl, fun _ => rfl⟩
    exact (domain.trans (State.keepsDies_updComplex _ (otherDie d) (f := fun c => { c with passed := false, supervises := false }) fun _ => rfl)).trans
      ⟨rfl, rfl, rfl, rfl, rfl, rfl, fun _ => rfl⟩

theorem State.keepsDies_startBringup (s : State) (l : Nat) : s.KeepsDies (s.startBringup l) := by
  unfold State.startBringup State.releaseSafe
  split
  · exact .refl s
  · split <;> exact ⟨rfl, rfl, rfl, rfl, rfl, rfl, fun _ => rfl⟩

theorem State.droneDown_links (s : State) : s.droneDown.links = s.links := by
  unfold State.droneDown
  cases s.bellows.role with
  | none => rfl
  | some d =>
    dsimp only
    split <;> rfl

/-- Bellows' account of a die that powers up, with its domains on. -/
def State.dieUp (s : State) (d : Nat) : State :=
  let b := s.bellows
  let play := s.modes.mode != 0
  { s with
    bellows := { b with starts := (b.starts + 1) % 0x100000000, dieOff := upd b.dieOff d (fun _ => none)
                        coldBusy := upd b.coldBusy d (fun _ => false), resetDue := upd b.resetDue d (fun _ => 0)
                        rejoin := upd b.rejoin d fun _ => if play then 3 else 0 }
    power := { s.power with domains := s.power.domains.mapIdx fun n v => if (dieDomains d).contains n && domainKind n != 1 then 1 else v }
    modes := { s.modes with stepAt := s.clock.up, drone := if s.modes.standby && play then 1 else s.modes.drone } }

/-- The die's region is in use again where it was in service. -/
def State.dieIn (s : State) (d : Nat) : State := if (s.faults.region 9 d).state = 4 then s.updRegion 9 d fun r => { r with out := false } else s

/-- A die that is up in Standby leaves the drone down; in another mode its stacks train and its links are brought up. -/
def State.dieRejoins (s : State) (d : Nat) (play : Bool) : State :=
  if !play then (if s.bellows.role = some (otherDie d) then s.droneDown else s) else
  let s := { s with fs := { s.fs with trainQueue := s.fs.trainQueue ++ [(0xFF, 4 + d, 0)] } }
  (s.settings.linksUsed.filter fun l => dieOfLink l == d && (s.settings.links.getD l {}).rate != 0).foldl
    (fun s l => (s.updLink l fun k => { k with attempts := 0 }).startBringup l) s

theorem State.keepsDies_dieIn (s : State) (d : Nat) : s.KeepsDies (s.dieIn d) := by
  unfold State.dieIn
  split <;> exact ⟨rfl, rfl, rfl, rfl, rfl, rfl, fun _ => rfl⟩

theorem State.dieIn_links (s : State) (d : Nat) : (s.dieIn d).links = s.links := by
  unfold State.dieIn
  split <;> rfl

theorem State.keepsDies_dieRejoins (s : State) (d : Nat) (play : Bool) : s.KeepsDies (s.dieRejoins d play) := by
  unfold State.dieRejoins
  split
  · split
    · exact s.keepsDies_droneDown
    · exact .refl s
  · refine foldl_keeps (P := s.KeepsDies) _ (fun t l h => ?_) _ ⟨rfl, rfl, rfl, rfl, rfl, rfl, fun _ => rfl⟩
    have link : t.KeepsDies (t.updLink l fun k => { k with attempts := 0 }) := ⟨rfl, rfl, rfl, rfl, rfl, rfl, fun _ => rfl⟩
    exact (h.trans link).trans (State.keepsDies_startBringup ..)

theorem State.dieRejoins_standby_links (s : State) (d : Nat) : (s.dieRejoins d false).links = s.links := by
  unfold State.dieRejoins
  split
  · split
    · exact s.droneDown_links
    · rfl
  · contradiction

section
variable {s : State} {d : Fin 2}

theorem State.diePowerUp_on (on : s.bellows.dieOff.getD d none = none) : s.diePowerUp d = s := by
  unfold State.diePowerUp
  rw [on]

theorem State.diePowerUp_runs {t : Nat} (off : s.bellows.dieOff.getD d none = some t) (late : t + 3000000 ≤ s.clock.up) (up : s.canBoot = true)
    (kept : (s.faults.region 9 d).state ≠ 3) (rail : s.power.coreFault.getD d false = false) : s.diePowerUp d =
      (((((s.latch 1#32).dieUp d).banksForMode).updComplex d fun c => { c with inReset := false }).dieIn d).dieRejoins d (s.modes.mode != 0) := by
  have known : ¬1 < d.val := by omega
  have past : s.since t (ms 1) = true := by
    rw [ms_one]
    exact decide_eq_true late
  unfold State.diePowerUp
  rw [off]
  exact if_neg (by rw [past, up, rail]; simp [known, kept])

end

/-- What a die that powers up finds in Bellows. -/
theorem State.diePowerUp_bellows {s : State} {d : Fin 2} {t : Nat} (off : s.bellows.dieOff.getD d none = some t)
    (late : t + 3000000 ≤ s.clock.up) (up : s.canBoot = true) (kept : (s.faults.region 9 d).state ≠ 3)
    (rail : s.power.coreFault.getD d false = false) (complex : d.val < s.bellows.complexes.length) (rejoin : d.val < s.bellows.rejoin.length) :
    let m := s.diePowerUp d
    m.bellows.dieOff.getD d none = none ∧ m.bellows.coldBusy.getD d false = false ∧ m.bellows.resetDue.getD d 0 = 0 ∧
    (m.complex d).inReset = false ∧ m.bellows.starts = (s.bellows.starts + 1) % 0x100000000 ∧ m.settings = s.settings ∧
    m.bellows.rejoin.getD d 0 = (if s.modes.mode = 0 then 0 else 3) ∧ (s.modes.mode = 0 → m.links = s.links) := by
  intro m
  let u : State := (((s.latch 1#32).dieUp d).banksForMode).updComplex d fun c => { c with inReset := false }
  have runs : m = (u.dieIn d).dieRejoins d (s.modes.mode != 0) := State.diePowerUp_runs off late up kept rail
  have keeps : u.KeepsDies m := by
    rw [runs]
    exact (u.keepsDies_dieIn d).trans (State.keepsDies_dieRejoins ..)
  refine ⟨?_, ?_, ?_, ?_, keeps.starts, keeps.settings, ?_, fun standby => ?_⟩
  · rw [keeps.dieOff]
    exact upd_getD_default ..
  · rw [keeps.coldBusy]
    exact upd_getD_default ..
  · rw [keeps.resetDue]
    exact upd_getD_default ..
  · rw [keeps.inReset]
    exact congrArg (·.inReset) (upd_getD_self (fun c : Machine.Complex => { c with inReset := false }) {} complex)
  · rw [keeps.rejoin]
    refine (upd_getD_self (fun _ => if s.modes.mode != 0 then 3 else 0) 0 rejoin).trans ?_
    by_cases standby : s.modes.mode = 0 <;> simp [standby]
  · have rests : (s.modes.mode != 0) = false := by simp [standby]
    rw [runs, rests, State.dieRejoins_standby_links, State.dieIn_links]
    rfl

/-! ### I/O blocks that resume (R418) -/

section
variable {s : State} {unit : Nat}

theorem State.ioResume_not (h : (s.faults.region 10 unit).out = false ∨ regionExists 10 unit = false ∨ (s.faults.region 10 unit).handled = false ∨
    (s.faults.region 10 unit).fenced = true ∨ s.clock.up < (s.faults.region 10 unit).fencedAt + 3000000) : s.ioResume unit = s := by
  refine if_pos ?_
  obtain h | h | h | h | early := h
  · simp [h]
  · simp [h]
  · simp [h]
  · simp [h]
  · have soon : s.since (s.faults.region 10 unit).fencedAt (ms 1) = false := by
      rw [ms_one]
      exact decide_eq_false (Nat.not_le.2 early)
    simp [soon]

theorem State.ioResume_resumes (out : (s.faults.region 10 unit).out = true) (there : regionExists 10 unit = true)
    (handled : (s.faults.region 10 unit).handled = true) (free : (s.faults.region 10 unit).fenced = false)
    (late : (s.faults.region 10 unit).fencedAt + 3000000 ≤ s.clock.up) :
    s.ioResume unit = (s.updRegion 10 unit fun r => { r with out := false }).blockOn unit := by
  have past : s.since (s.faults.region 10 unit).fencedAt (ms 1) = true := by
    rw [ms_one]
    exact decide_eq_true late
  exact if_neg (by simp [out, there, handled, free, past])

/-- A block's own effect as it resumes, by its kind. -/
def State.blockBack (s : State) (unit kind : Nat) : State :=
  match kind with
  | 9 => s.flr
  | 10 => s.ptpRestart (domainUnit unit)
  | 11 => s.portDead (domainUnit unit) true
  | 12 => s.eraseAllKeys
  | 13 => s.recorderResumes
  | 14 => s.timeBaseBack
  | 16 => s.ingestLost
  | _ => s

theorem State.blockOn_kind {k : Nat} (kind : domainKind unit = k) : s.blockOn unit = ((s.setDomain unit 1).settleRoutes).blockBack unit k := by
  subst kind
  rfl

end

/-- Settles O53: a cold reset, a power-up and an I/O block's return are each one chain of the operations they name. -/
theorem diesRestart : Obligations.DiesRestart := by
  refine ⟨?_, ?_, ?_, ?_⟩
  · intro dt die s e cause safe kept freed off run
    have runs {m : State} (h : e.dieColdReset die = m) : run = .next (s.ended m) := (exec_die_cold_reset ..).trans (State.act_eq h)
    exact ⟨fun h => runs (State.dieColdReset_not (s := e) h),
      fun due up on other => runs (State.dieColdReset_one (s := e) due up on other),
      fun due up on other => runs (State.dieColdReset_both (s := e) due up on other)⟩
  · intro dt t die s off late up kept rail complex _ rejoin m
    exact ⟨(exec_die_power_up ..).trans (State.act_eq rfl),
      State.diePowerUp_bellows (s := s.elapse dt) off late up kept rail complex rejoin⟩
  · intro dt die s on
    exact (exec_die_power_up ..).trans (State.act_eq (State.diePowerUp_on (s := s.elapse dt) on))
  · intro dt unit s r e a
    have resumes {m : State} (h : e.ioResume unit = m) : exec (.ioBlockResume dt unit) s = .next (s.ended m) :=
      (exec_io_block_resume ..).trans (State.act_eq h)
    refine ⟨fun h => resumes (State.ioResume_not (s := e) h), fun out there handled free late => ?_⟩
    intro done
    have back {k : Nat} (kind : domainKind unit = k) : done (a.blockBack unit k) :=
      resumes ((State.ioResume_resumes (s := e) out there handled free late).trans (State.blockOn_kind kind))
    exact ⟨back, back, back, back, back, back, back, back⟩

end Sys2Proof.Machine
end

section
/-! PROOFS. The stages of a live update, service hours, and management datagrams (R432, R434 to R436, R441, R477; log entries 83, 89). -/

namespace Sys2Proof.Machine

/-! ### Stages of a live update (R432 to R436) -/

/-- How a stage ends: as it says, or as a failure beyond its limit. -/
def State.fwOutcome (s : State) (outcome : Nat) : Nat :=
  if outcome = 0 ∧ s.fw.stageAt + stageLimit s.fw.stage < s.clock.up then 2 else outcome

/-- A stage has taken longer than its limit. -/
def State.fwLate (s : State) : Prop := s.fw.stageAt + stageLimit s.fw.stage < s.clock.up

section
variable {s : State} {outcome : Nat}

theorem State.fwOutcome_ends (h : outcome ≠ 0 ∨ ¬s.fwLate) : s.fwOutcome outcome = outcome :=
  if_neg fun both => h.elim (· both.1) (· both.2)

theorem State.fwOutcome_late (late : s.fwLate) : s.fwOutcome 0 = 2 := if_pos ⟨rfl, late⟩

theorem State.fwOutcome_fails (h : outcome ≠ 0 ∨ s.fwLate) : s.fwOutcome outcome ≠ 0 := by
  unfold State.fwOutcome
  split
  · exact Nat.succ_ne_zero 1
  case isFalse ends => exact fun zero => h.elim (· zero) fun late => ends ⟨zero, late⟩

theorem State.fwStageEnd_one (stage : s.fw.stage = 1) : s.fwStageEnd outcome = s.fwStage1 := by
  unfold State.fwStageEnd
  rw [stage]
  rfl

theorem State.fwStageEnd_two (stage : s.fw.stage = 2) : s.fwStageEnd outcome =
    if s.fwOutcome outcome ≠ 0 then s.fwFails 4 else ((s.fwBooted s.fw.newChanter 2).fwEvent 2 0).fwNext 3 := by
  unfold State.fwStageEnd State.fwOutcome
  rw [stage]
  rfl

/-- The drone has mirrored what the update needs. -/
def State.fwMirrored (s : State) : State :=
  let t : State := { s with modes := { s.modes with drone := 3 } }
  { t.fwEvent 3 0 with fw := { s.fw with stage := 4 } }

theorem State.fwStageEnd_three (stage : s.fw.stage = 3) : s.fwStageEnd outcome =
    if s.fwOutcome outcome ≠ 0 then s.fwFails 4 else
      { s.fwMirrored with fw := { s.fwMirrored.fw with handover := s.fwMirrored.handoverTick } } := by
  unfold State.fwStageEnd State.fwOutcome
  rw [stage]
  rfl

/-- The former chanter runs the staged image. -/
def State.fwFollowed (s : State) : State := ((s.fwBooted s.fwDie 3).advanceFuses (manifestRollback s.security.staging)).fwEvent 5 0

theorem State.fwStageEnd_five (stage : s.fw.stage = 5) (running : (s.complex s.fwDie).inReset = false) (live : (s.complex s.fwDie).fenced = false) :
    s.fwStageEnd outcome =
      if s.fwOutcome outcome ≠ 0 then { s.fwFails 4 with modes := { s.modes with drone := 1 } }
      else if s.fwFollowed.fw.flags.getLsbD 0 then s.fwFollowed.fwNext 6 else s.fwFollowed.fwOver := by
  unfold State.fwStageEnd State.fwOutcome
  rw [stage]
  exact if_neg (by rw [running, live]; exact Bool.false_ne_true)

theorem State.fwStageEnd_six (stage : s.fw.stage = 6) : s.fwStageEnd outcome = s.fwFlash (s.fwOutcome outcome) := by
  unfold State.fwStageEnd State.fwOutcome
  rw [stage]
  rfl

theorem State.fwStageEnd_not (h : s.fw.stage = 0 ∨ s.fw.stage = 4 ∨ 6 < s.fw.stage) : s.fwStageEnd outcome = s := by
  unfold State.fwStageEnd
  obtain stage | stage | beyond := h
  · rw [stage]
    rfl
  · rw [stage]
    rfl
  · obtain ⟨n, stage⟩ : ∃ n, s.fw.stage = n + 7 := ⟨s.fw.stage - 7, by omega⟩
    rw [stage]
    rfl

/-- Stage 1 ends as the verifier finds. -/
theorem State.fwStage1_eq (s : State) : s.fwStage1 =
    if s.fwVerdict = 0 then
      let m : State := { s.fwEvent 1 0 with fw := { s.fw with newChanter := s.fwDie } }
      (m.fwReboot m.fwDie 4).fwNext 2
    else if s.fwVerdict = 1 then (s.raise evSigFail noUnit [1, bundleSigs s.security.staging] s.fw.tag).fwFails 1
    else s.fwFails s.fwVerdict := by
  unfold State.fwStage1
  cases s.fwVerdict with
  | zero => rfl
  | succ n =>
    rw [if_neg (Nat.succ_ne_zero n)]
    by_cases signature : n + 1 = 1
    · rw [signature]
      rfl
    · simp only [if_neg signature]

/-- An update that fails after the handover leaves the modes. -/
theorem State.fwFails_modes (after : s.fw.stage = 5) (result : Nat) : (s.fwFails result).modes = s.modes := by
  have kept : (s.fwEvent 5 result).modes = s.modes := State.raise_modes ..
  unfold State.fwFails
  rw [after]
  exact kept

end

/-! ### The handover (R434) -/

theorem us_2500 : us 2500 = 7500000 := rfl

section
variable {s : State}

theorem State.handoverArm_due (stage : s.fw.stage = 4) (unarmed : s.fw.armed = false) (due : s.tickInstant s.fw.handover ≤ s.clock.up + 7500000) :
    s.handoverArm = { s with fw := { s.fw with armed := true } } := by
  unfold State.handoverArm
  rw [us_2500]
  exact if_pos ⟨stage, by rw [unarmed]; rfl, due⟩

theorem State.handoverArm_not (h : s.fw.stage ≠ 4 ∨ s.fw.armed = true) : s.handoverArm = s := by
  refine if_neg ?_
  rintro ⟨stage, free, -⟩
  obtain other | armed := h
  · exact other stage
  · rw [armed] at free
    exact Bool.false_ne_true free

theorem State.handoverGrant_due (stage : s.fw.stage = 4) (armed : s.fw.armed = true) (held : s.fw.granted = false)
    (due : s.tickInstant s.fw.handover ≤ s.clock.up + 3000) : s.handoverGrant =
      ({ s with fw := { s.fw with granted := true }, bellows := { s.bellows with grantCause := 4 } } : State).grant s.fw.newChanter := by
  unfold State.handoverGrant
  rw [us_one]
  exact if_pos ⟨stage, armed, by rw [held]; rfl, due⟩

theorem State.handoverGrant_not (h : s.fw.stage ≠ 4 ∨ s.fw.armed = false ∨ s.fw.granted = true) : s.handoverGrant = s := by
  refine if_neg ?_
  rintro ⟨stage, armed, held, -⟩
  obtain other | unarmed | granted := h
  · exact other stage
  · exact Bool.false_ne_true (unarmed.symm.trans armed)
  · rw [granted] at held
    exact Bool.false_ne_true held

end

theorem liveUpdateStages : Claim.LiveUpdateStages := by
  intro dt outcome s e run late
  have runs {o : Nat} {m : State} (h : e.fwStageEnd o = m) : run o = .next (s.ended m) :=
    (exec_fw_update_stage_end ..).trans (State.act_eq h)
  have succeeds (early : ¬late) : ¬e.fwOutcome 0 ≠ 0 := not_not.2 (State.fwOutcome_ends (s := e) (.inr early))
  rw [exec_handover_arm, exec_handover_grant]
  refine ⟨fun stage => ?_, fun stage early => ?_, fun stage early => ?_, fun stage fails => ?_, fun stage running live => ⟨?_, fun early => ?_⟩,
    fun stage ends => ?_, fun stage past => ?_, fun stage => ?_, fun stage free due => ?_, fun h => ?_, fun stage armed held due => ?_, fun h => ?_⟩
  · exact runs ((State.fwStageEnd_one (s := e) stage).trans e.fwStage1_eq)
  · exact runs ((State.fwStageEnd_two (s := e) stage).trans (if_neg (succeeds early)))
  · exact runs ((State.fwStageEnd_three (s := e) stage).trans (if_neg (succeeds early)))
  · have failed : e.fwOutcome outcome ≠ 0 := State.fwOutcome_fails (s := e) fails
    obtain two | three := stage
    · exact runs ((State.fwStageEnd_two (s := e) two).trans (if_pos failed))
    · exact runs ((State.fwStageEnd_three (s := e) three).trans (if_pos failed))
  · intro m fails
    have failed : e.fwOutcome outcome ≠ 0 := State.fwOutcome_fails (s := e) fails
    have modes : m.modes = e.modes := State.fwFails_modes (s := e) stage 4
    rw [modes]
    exact runs ((State.fwStageEnd_five (s := e) stage running live).trans (if_pos failed))
  · intro m
    have followed : e.fwStageEnd 0 = _ := (State.fwStageEnd_five (s := e) stage running live).trans (if_neg (succeeds early))
    exact ⟨fun flash => runs (followed.trans (if_pos flash)), fun none => runs (followed.trans (if_neg (by
      rw [show e.fwFollowed.fw.flags.getLsbD 0 = false from none]
      exact Bool.false_ne_true)))⟩
  · exact runs ((State.fwStageEnd_six (s := e) stage).trans (congrArg e.fwFlash (State.fwOutcome_ends (s := e) ends)))
  · exact runs ((State.fwStageEnd_six (s := e) stage).trans (congrArg e.fwFlash (State.fwOutcome_late (s := e) past)))
  · exact runs (State.fwStageEnd_not (s := e) stage)
  · exact State.act_eq (State.handoverArm_due (s := e) stage free due)
  · exact State.act_eq (State.handoverArm_not (s := e) h)
  · exact State.act_eq (State.handoverGrant_due (s := e) stage armed held due)
  · exact State.act_eq (State.handoverGrant_not (s := e) h)

/-! ### Service hours (R441) -/

theorem serviceHours : Claim.ServiceHours := by
  intro dt s e
  rw [exec_service_hour]
  refine ⟨fun running fed deployed => State.act_eq (if_pos ?_), fun h => State.act_eq (if_neg ?_)⟩
  · change (s.bellows.running && s.bellows.inOk && s.security.lifecycle == 1) = true
    simp [running, fed, deployed]
  · change ¬(s.bellows.running && s.bellows.inOk && s.security.lifecycle == 1) = true
    obtain h | h | h := h <;> simp [h]

/-! ### Management datagrams (R477) -/

/-- A command datagram in a state that accepts it: its COUNTER is taken. -/
def State.mgmtCounted (s : State) (b : List Byte) : State :=
  { s with security := { s.security with lastCounter := upd s.security.lastCounter (u8 b 5) fun _ => u64 b 32 } }

/-- A command datagram stands in mailbox 7. -/
def State.mgmtTaken (s : State) (port : Nat) (b : List Byte) : State :=
  (s.mgmtCounted b).updMbx 7 fun m =>
    { m with running := slice b 40 (16 + u16 b 48), mgmt := some (port, u8 b 5, u64 b 32), rungAt := s.clock.up }

/-- An accepted command is answered BUSY, runs, is held until the handover, or waits for firmware. -/
def State.mgmtAccepted (s : State) (run : State → State) (port : Nat) (b : List Byte) : State :=
  if (s.mbx 7).state = 1 ∨ (s.mbx 7).state = 2 then
    (s.mgmtCounted b).emit (.mgmtSend port ((s.mgmtCounted b).mgmtHeader (u8 b 5) (u64 b 32) ++
      (({ status := stBusy } : Err).resp (Cmd.parse 7 (slice b 40 (16 + u16 b 48)))).bytes (Cmd.parse 7 (slice b 40 (16 + u16 b 48)))))
  else if s.serves then
    let t := (s.mgmtTaken port b).updMbx 7 fun m => { m with state := 2, acceptedAt := s.clock.up }
    if s.fw.armed then t.acceptHeld 7 else run t
  else (s.mgmtTaken port b).updMbx 7 fun m => { m with state := 1 }

section
variable {s : State} {run : State → State} {port : Nat} {b : List Byte}

theorem State.mgmtDatagram_not (h : s.mgmtOpen port = false ∨ 8192 < b.length ∨ b.length < 40 ∨ u32 b 0 ≠ 0x544D4752) :
    s.mgmtDatagram run port b = s := if_pos (h.imp_left fun closed => by rw [closed]; rfl)

variable (isOpen : s.mgmtOpen port = true) (long : 40 ≤ b.length) (short : b.length ≤ 8192) (magic : u32 b 0 = 0x544D4752)
include isOpen long short magic

theorem State.mgmtDatagram_guard : ¬((!s.mgmtOpen port) = true ∨ 8192 < b.length ∨ b.length < 40 ∨ u32 b 0 ≠ 0x544D4752) := by
  rw [isOpen]
  rintro (closed | beyond | below | other)
  · exact Bool.false_ne_true closed
  · exact Nat.not_lt.2 short beyond
  · exact Nat.not_lt.2 long below
  · exact other magic

theorem State.mgmtDatagram_query (kind : u8 b 4 = 0) : s.mgmtDatagram run port b = s.emit (.mgmtSend port (s.mgmtHeader (u8 b 5) 0)) := by
  unfold State.mgmtDatagram
  rw [if_neg (State.mgmtDatagram_guard isOpen long short magic), kind]
  rfl

theorem State.mgmtDatagram_other (kind : 1 < u8 b 4) : s.mgmtDatagram run port b = s := by
  obtain ⟨k, other⟩ : ∃ k, u8 b 4 = k + 2 := ⟨u8 b 4 - 2, by omega⟩
  unfold State.mgmtDatagram
  rw [if_neg (State.mgmtDatagram_guard isOpen long short magic), other]
  rfl

theorem State.mgmtDatagram_command (kind : u8 b 4 = 1) : s.mgmtDatagram run port b =
    if s.mgmtRefusal b ≠ 0 then s.mgmtRefused (s.mgmtRefusal b) else s.mgmtAccepted run port b := by
  unfold State.mgmtDatagram
  rw [if_neg (State.mgmtDatagram_guard isOpen long short magic), kind]
  rfl

end

section
variable {s : State} {run : State → State} {port : Nat} {b : List Byte}

theorem State.mgmtAccepted_busy (busy : (s.mbx 7).state = 1 ∨ (s.mbx 7).state = 2) : s.mgmtAccepted run port b =
    (s.mgmtCounted b).emit (.mgmtSend port ((s.mgmtCounted b).mgmtHeader (u8 b 5) (u64 b 32) ++
      (({ status := stBusy } : Err).resp (Cmd.parse 7 (slice b 40 (16 + u16 b 48)))).bytes (Cmd.parse 7 (slice b 40 (16 + u16 b 48))))) :=
  if_pos busy

variable (free : ¬((s.mbx 7).state = 1 ∨ (s.mbx 7).state = 2))
include free

theorem State.mgmtAccepted_runs (serves : s.serves = true) (unarmed : s.fw.armed = false) : s.mgmtAccepted run port b =
    run ((s.mgmtTaken port b).updMbx 7 fun m => { m with state := 2, acceptedAt := s.clock.up }) :=
  (if_neg free).trans ((if_pos serves).trans (if_neg (by rw [unarmed]; exact Bool.false_ne_true)))

theorem State.mgmtAccepted_held (serves : s.serves = true) (armed : s.fw.armed = true) : s.mgmtAccepted run port b =
    ((s.mgmtTaken port b).updMbx 7 fun m => { m with state := 2, acceptedAt := s.clock.up }).acceptHeld 7 :=
  (if_neg free).trans ((if_pos serves).trans (if_pos armed))

theorem State.mgmtAccepted_waits (down : s.serves = false) : s.mgmtAccepted run port b = (s.mgmtTaken port b).updMbx 7 fun m => { m with state := 1 } :=
  (if_neg free).trans (if_neg (by rw [down]; exact Bool.false_ne_true))

end

theorem managementDatagrams : Claim.ManagementDatagrams := by
  intro dt n b s e run k
  have runs {m : State} (h : e.mgmtDatagram (fun s => s.runMbx 7) n b = m) : run = .next (s.ended m) :=
    (exec_mgmt_datagram ..).trans (State.act_eq h)
  refine ⟨fun h => runs (State.mgmtDatagram_not (s := e) h), fun isOpen long short magic => ⟨fun kind => ?_, fun kind => ?_, fun kind => ?_⟩⟩
  · exact runs (State.mgmtDatagram_query (s := e) isOpen long short magic kind)
  · exact runs (State.mgmtDatagram_other (s := e) isOpen long short magic kind)
  · intro accepted body a c
    have command {t : State} (h : e.mgmtAccepted (fun s => s.runMbx 7) n b = t) : run = .next (s.ended (accepted t)) := by
      refine runs ((State.mgmtDatagram_command (s := e) isOpen long short magic kind).trans ?_)
      rw [h]
      exact ite_not ..
    refine ⟨fun busy => command (State.mgmtAccepted_busy (s := e) busy), fun idle quiet => ?_⟩
    intro taken
    have free := not_or.2 ⟨idle, quiet⟩
    exact ⟨fun serves unarmed => command (State.mgmtAccepted_runs (s := e) free serves unarmed),
      fun serves armed => command (State.mgmtAccepted_held (s := e) free serves armed),
      fun down => command (State.mgmtAccepted_waits (s := e) free down)⟩

/-- Settles O59: each stage, hour and datagram acts in the branch that holds of it. -/
theorem liveServiceAndManagement : Obligations.LiveServiceAndManagement := ⟨liveUpdateStages, serviceHours, managementDatagrams⟩

end Sys2Proof.Machine
end

section
/-! PROOFS. Records of the log, flushes, erases and pads (R448 to R450, R459, R460; log entry 79). -/

namespace Sys2Proof.Machine

/-! ### A fixed record (R448 to R450) -/

/-- The parameters of a fixed record. -/
def recParams (ps : List Nat) : List Byte := (List.range 5).flatMap fun i => le 4 (ps.getD i 0)

theorem fixedRec_length (code timeNs : Nat) (ps : List Nat) : (fixedRec code timeNs ps).length = 32 := by
  simp [fixedRec, List.length_flatMap]

/-- A marked record: its code, its mark, its time and its parameters. -/
theorem fixedRec_marked (code timeNs pass : Nat) (ps : List Nat) :
    overwrite (fixedRec code timeNs ps) 2 (recMark pass) = le 2 code ++ (recMark pass ++ (le 8 timeNs ++ recParams ps)) := rfl

theorem fixedRec_marked_length (code timeNs pass : Nat) (ps : List Nat) :
    (overwrite (fixedRec code timeNs ps) 2 (recMark pass)).length = 32 := by
  rw [fixedRec_marked]
  simp [recMark, recParams, List.length_flatMap]

theorem fixedRec_marked_code (code timeNs pass : Nat) (ps : List Nat) :
    u16 (overwrite (fixedRec code timeNs ps) 2 (recMark pass)) 0 = code % 0x10000 := by
  rw [fixedRec_marked]
  exact uN_le 2 code [] _

theorem fixedRec_marked_time (code timeNs pass : Nat) (ps : List Nat) :
    u64 (overwrite (fixedRec code timeNs ps) 2 (recMark pass)) 4 = timeNs % 2 ^ 64 := by
  rw [fixedRec_marked, ← List.append_assoc]
  exact uN_le 8 timeNs (le 2 code ++ recMark pass) _

/-- The rest of an old record behind the bytes allocated at the head is covered with a pad (R449). -/
def Recorder.covered (r : Recorder) (timeNs n : Nat) : Recorder :=
  let old := if r.wraps = 0 then r.head + n else recWalk r.sram (r.head + n) (n / 32 + 1) r.head
  if old ≤ r.head + n then r else
  { r with sram := Mem.writes r.sram (r.head + n) (recPad (r.wraps + 255) timeNs (old - (r.head + n))) }

/-- No pad covers anything on the first pass, and one on a later pass lies behind what is allocated. -/
theorem Recorder.covered_eq (r : Recorder) (timeNs n : Nat) : ∃ pad : List Byte, (r.wraps = 0 → pad = []) ∧
    r.covered timeNs n = { r with sram := Mem.writes r.sram (r.head + n) pad } := by
  unfold Recorder.covered
  by_cases first : r.wraps = 0
  · exact ⟨[], fun _ => rfl, if_pos (by rw [if_pos first])⟩
  · rw [if_neg first]
    dsimp only
    split
    · exact ⟨[], fun _ => rfl, rfl⟩
    · exact ⟨_, fun zero => absurd zero first, rfl⟩

theorem Recorder.alloc_fits {r : Recorder} {n : Nat} (fits : r.head + n ≤ recSize) (timeNs : Nat) : r.alloc timeNs n = (r.head,
    { r.covered timeNs n with
      sram := Mem.writes (r.covered timeNs n).sram (r.head + 2) [0, 0]
      head := ((r.head + n) % recSize), wraps := (r.covered timeNs n).wraps + (r.head + n) / recSize }) := by
  unfold Recorder.alloc
  rw [if_pos fits]
  rfl

@[simp] theorem Recorder.starts_head (r : Recorder) (now : Nat) : (r.starts now).head = r.head := rfl

@[simp] theorem Recorder.starts_sram (r : Recorder) (now : Nat) : (r.starts now).sram = r.sram := rfl

/-- A fixed record that fits before the end of the log is written at the head. -/
theorem Recorder.put_fixed {r : Recorder} (on : r.inReset = false) (fits : r.head + 32 ≤ recSize) (code timeNs now : Nat) (ps : List Nat) :
    ∃ pad : List Byte, (r.wraps = 0 → pad = []) ∧
      (r.put timeNs now (fixedRec code timeNs ps)).head = (r.head + 32) % recSize ∧
      (r.put timeNs now (fixedRec code timeNs ps)).sram = Mem.writes (Mem.writes (Mem.writes r.sram (r.head + 32) pad) (r.head + 2) [0, 0])
        r.head (overwrite (fixedRec code timeNs ps) 2 (recMark r.wraps)) := by
  obtain ⟨pad, first, covered⟩ := (r.starts now).covered_eq timeNs 32
  have room : (r.starts now).head + 32 ≤ recSize := fits
  refine ⟨pad, first, ?_⟩
  unfold Recorder.put
  rw [if_neg (by rw [on]; exact Bool.false_ne_true), fixedRec_length, if_pos fits, Recorder.alloc_fits room, covered]
  dsimp only
  rw [Recorder.starts_head, Recorder.starts_sram]
  exact ⟨rfl, rfl⟩

/-- While the log is in reset a record waits. -/
theorem Recorder.put_waits {r : Recorder} (off : r.inReset = true) (timeNs now : Nat) (bytes : List Byte) :
    (r.put timeNs now bytes).sram = r.sram ∧ (r.put timeNs now bytes).head = r.head := by
  unfold Recorder.put
  rw [if_pos off]
  exact ⟨rfl, rfl⟩

theorem logRecords : Claim.LogRecords := by
  intro s code ps fits t b
  have long : b.length = 32 := fixedRec_marked_length ..
  refine ⟨long, fun on form => ?_, fun off => ?_, rfl, rfl, rfl, rfl⟩
  · obtain ⟨pad, first, head, sram⟩ := Recorder.put_fixed on fits code s.nowNs s.clock.up ps
    have log : t.recorder.sram = Mem.writes (Mem.writes (Mem.writes s.recorder.sram (s.recorder.head + 32) pad) (s.recorder.head + 2) [0, 0])
      s.recorder.head b := sram
    rw [log]
    refine ⟨fun i inside => ?_, fixedRec_marked_code .., fixedRec_marked_time .., head, fun a outside => ?_⟩
    · have here : i < b.length := long ▸ inside
      rw [Mem.read_writes_in b _ i here (Memory.wf_writes _ _ (Memory.wf_writes _ _ form)), List.getD_eq_getElem b 0 here]
    · have apart : a < s.recorder.head + 32 ∨ s.recorder.head + 32 + pad.length ≤ a := by
        obtain before | ⟨zero, behind⟩ := outside
        · exact .inl (by omega)
        · exact .inr (by rw [first zero]; exact behind)
      have away : a < s.recorder.head ∨ s.recorder.head + 32 ≤ a := outside.imp_right (·.2)
      rw [Mem.read_writes_out b _ (by rw [long]; exact away), Mem.read_writes_out _ _ ?_, Mem.read_writes_out pad _ apart]
      rw [List.length_cons, List.length_singleton]
      omega
  · exact Recorder.put_waits off ..

/-! ### Flushes (R459) -/

/-- The chanter flushes the log: 16 KiB are unflushed, or some have been for 10 s. -/
def State.flushIsDue (s : State) : Prop :=
  s.serves = true ∧ s.recorder.flushing = none ∧ s.recorder.erasing = none ∧ s.recorder.inReset = false ∧
    (16384 ≤ s.recorder.unflushed ∨ (s.recorder.unflushed ≠ 0 ∧ s.recorder.oldestAt + sec 10 ≤ s.clock.up))

section
variable {s : State}

theorem State.flushTrigger_guard : (s.serves && s.recorder.flushing.isNone && s.recorder.erasing.isNone && !s.recorder.inReset &&
    (decide (16384 ≤ s.recorder.unflushed) || (s.recorder.unflushed != 0 && s.since s.recorder.oldestAt (sec 10)))) = true ↔ s.flushIsDue := by
  simp [State.flushIsDue, State.since, and_assoc]

theorem State.flushTrigger_due (due : s.flushIsDue) : s.flushTrigger = s.flushStart 0 false := if_pos (State.flushTrigger_guard.2 due)

theorem State.flushTrigger_not (h : ¬s.flushIsDue) : s.flushTrigger = s := if_neg (mt State.flushTrigger_guard.1 h)

theorem State.flushStart_flash (present : s.flash.present = true) (tag : Word) (commanded : Bool) : s.flushStart tag commanded =
    { s with recorder := { s.recorder with flushing := some (min s.recorder.unflushed recSize, tag), commanded := commanded } } :=
  if_neg (by rw [present]; exact Bool.false_ne_true)

theorem State.flushStart_none (missing : s.flash.present = false) (tag : Word) (commanded : Bool) : s.flushStart tag commanded =
    ({ s with recorder := { s.recorder with oldestAt := s.clock.up } } : State).raise evRecFlushed noUnit [2, 0] tag :=
  if_pos (by rw [missing]; rfl)

/-! ### Records that stay open (R449) -/

theorem State.padOpen_none {off : Nat} (none : (s.recorder.openRecs.find? fun x => x.1 == off) = none) : s.padOpen off = s := by
  unfold State.padOpen
  rw [none]

section
variable {off n t pass : Nat} (found : (s.recorder.openRecs.find? fun x => x.1 == off) = some (off, n, t, pass))
include found

theorem State.padOpen_late (late : t + ms 10 ≤ s.clock.up) : s.padOpen off = { s with recorder := { s.recorder with
    sram := Mem.writes s.recorder.sram off (recPad pass s.nowNs n), openRecs := s.recorder.openRecs.filter fun x => x.1 != off } } := by
  have past : s.since t (ms 10) = true := decide_eq_true late
  unfold State.padOpen
  rw [found]
  exact if_neg (by rw [past]; exact Bool.false_ne_true)

theorem State.padOpen_early (early : s.clock.up < t + ms 10) : s.padOpen off = s := by
  have soon : s.since t (ms 10) = false := decide_eq_false (Nat.not_le.2 early)
  unfold State.padOpen
  rw [found]
  exact if_pos (by rw [soon]; rfl)

end

end

theorem flushesAndPads : Claim.FlushesAndPads := by
  intro dt s r e due
  have ends (ok : Bool) : exec (.recFlushEnd dt ok) s = s.act dt fun s => s.flushEnd ok := exec_rec_flush_end ..
  have pads (off : Nat) : exec (.recordPadTimeout dt off) s = s.act dt fun s => s.padOpen off := exec_record_pad_timeout ..
  rw [exec_rec_flush_trigger]
  refine ⟨fun now present => ?_, fun now missing => ?_, fun not => ?_, fun n tag running => ⟨?_, ?_⟩, fun tag idle erasing => ⟨?_, ?_⟩,
    fun idle still ok => ?_, fun off n t pass found => ⟨fun late => ?_, fun early => ?_⟩, fun off none => ?_⟩
  · exact State.act_eq ((State.flushTrigger_due (s := e) now).trans (State.flushStart_flash (s := e) present 0 false))
  · exact State.act_eq ((State.flushTrigger_due (s := e) now).trans (State.flushStart_none (s := e) missing 0 false))
  · exact State.act_eq (State.flushTrigger_not (s := e) not)
  · exact (ends _).trans (State.act_eq (State.flushEnd_flush (s := e) running true))
  · exact (ends _).trans (State.act_eq (State.flushEnd_flush (s := e) running false))
  · exact (ends _).trans (State.act_eq (State.flushEnd_erase (s := e) idle erasing true))
  · exact (ends _).trans (State.act_eq (State.flushEnd_erase (s := e) idle erasing false))
  · exact (ends _).trans (State.act_eq (State.flushEnd_idle (s := e) idle still ok))
  · exact (pads _).trans (State.act_eq (State.padOpen_late (s := e) found late))
  · exact (pads _).trans (State.act_eq (State.padOpen_early (s := e) found early))
  · exact (pads _).trans (State.act_eq (State.padOpen_none (s := e) none))

/-- Settles O58: a record lies where it was allocated, a pad behind it covers only old bytes, and flushes and pads act in their branches. -/
theorem recorderLog : Obligations.RecorderLog := ⟨logRecords, flushesAndPads⟩

end Sys2Proof.Machine
end

section
/-! PROOFS. Junction temperatures, reed clocks, the power cap and core voltages (R487 to R490; log entries 85, 147). -/

namespace Sys2Proof.Machine

/-! ### Junction temperatures (R489) -/

section
variable {s : State} {k : Nat}

theorem State.thermalFence_cool (cool : s.power.hotSince.getD k none = none) : s.thermalFence k = s := by
  unfold State.thermalFence
  rw [cool]

/-- A junction that has been at 110.0 °C for 10 ms is an error of its compute die, or a loss of power. -/
theorem State.thermalFence_hot {t : Nat} (hot : s.power.hotSince.getD k none = some t) (late : t + 30000000 ≤ s.clock.up) :
    s.thermalFence k = if k < 2 then s.hardwareError 9 k 7 else s.powerLoss := by
  have past : s.since t (ms 10) = true := by
    rw [ms_ten]
    exact decide_eq_true late
  unfold State.thermalFence
  rw [hot]
  exact if_neg (by rw [past]; exact Bool.false_ne_true)

end

theorem junctionTemperatures : Claim.JunctionTemperatures := by
  intro dt temps k s e tj a out b
  rw [exec_junction_sample, exec_thermal_fence]
  refine ⟨State.act_eq rfl, fun t hot late => ⟨fun compute => ?_, fun io => ?_⟩, fun cool => ?_⟩
  · exact State.act_eq ((State.thermalFence_hot (s := e) hot late).trans (if_pos compute))
  · exact State.act_eq ((State.thermalFence_hot (s := e) hot late).trans (if_neg (by omega)))
  · exact State.act_eq (State.thermalFence_cool (s := e) cool)

/-! ### Reed clocks and the power cap (R489, R490) -/

section
variable {s : State}

/-- The clocks of both dies have stepped; `lowered`: the cap lowered one. -/
def State.clocksStepped (s : State) (lowered : Bool) : State :=
  { s with power := { s.power with
    reedMhz := [s.nextMhz 0, s.nextMhz 1], throttleMs := (s.power.throttleMs + b2n (s.throttled 0 || s.throttled 1)) % 0x100000000
    cappedMs := (s.power.cappedMs + b2n lowered) % 0x100000000 } }

theorem State.clockStep_under (h : s.settings.capW = 0 ∨ s.power.powerMw ≤ s.settings.capW * 1000) : s.clockStep = s.clocksStepped false := by
  have under : (s.settings.capW != 0 && decide (s.settings.capW * 1000 < s.power.powerMw)) = false := by
    obtain off | low := h
    · simp [off]
    · simp [Nat.not_lt.2 low]
  unfold State.clockStep
  rw [under]
  rfl

theorem State.clockStep_above (on : s.settings.capW ≠ 0) (above : s.settings.capW * 1000 < s.power.powerMw) : s.clockStep =
    s.clocksStepped (s.nextMhz 0 < s.power.reedMhz.getD 0 1500 || s.nextMhz 1 < s.power.reedMhz.getD 1 1500) := by
  have higher : (s.settings.capW != 0 && decide (s.settings.capW * 1000 < s.power.powerMw)) = true := by simp [on, above]
  unfold State.clockStep
  rw [higher]
  rfl

/-- The monitors are read: the package power, and each rail's voltage and current. -/
def State.monitorsRead (s : State) (mw : Nat) (rails : List (Nat × Nat)) (capped : Bool) : State :=
  { s with power := { s.power with
    powerMw := sat 0xFFFFFFFF mw, capped := capped
    railMv := s.power.railMv.mapIdx fun k v => (rails[k]?.map fun e => sat 0xFFFF e.1).getD v
    railDa := s.power.railDa.mapIdx fun k v => (rails[k]?.map fun e => sat 0xFFFF e.2).getD v } }

/-- The bank is read with the rails. -/
def State.bankSampled (s : State) (rails : List (Nat × Nat)) : State :=
  match rails[11]? with
  | some e => if s.bellows.running then s.bankReads e.1 else s
  | none => s

variable {mw : Nat} {rails : List (Nat × Nat)}

theorem State.capSample_eq {capped : Bool} (judged : (if s.settings.capW = 0 then false else if s.settings.capW * 1000 < mw then true
    else if mw + 5000 < s.settings.capW * 1000 then false else s.power.capped) = capped) :
    s.capSample mw rails = (s.monitorsRead mw rails capped).bankSampled rails := by
  subst judged
  rfl

theorem State.capSample_below (h : s.settings.capW = 0 ∨ (mw ≤ s.settings.capW * 1000 ∧ mw + 5000 < s.settings.capW * 1000)) :
    s.capSample mw rails = (s.monitorsRead mw rails false).bankSampled rails := by
  refine State.capSample_eq ?_
  obtain off | ⟨under, far⟩ := h
  · exact if_pos off
  · rw [if_neg (Nat.not_lt.2 under), if_pos far]
    exact ite_self ..

theorem State.capSample_above (on : s.settings.capW ≠ 0) (above : s.settings.capW * 1000 < mw) :
    s.capSample mw rails = (s.monitorsRead mw rails true).bankSampled rails := State.capSample_eq ((if_neg on).trans (if_pos above))

theorem State.capSample_between (on : s.settings.capW ≠ 0) (under : mw ≤ s.settings.capW * 1000) (near : s.settings.capW * 1000 ≤ mw + 5000) :
    s.capSample mw rails = (s.monitorsRead mw rails s.power.capped).bankSampled rails :=
  State.capSample_eq ((if_neg on).trans ((if_neg (Nat.not_lt.2 under)).trans (if_neg (Nat.not_lt.2 near))))

end

/-! ### Core voltages (R487) -/

/-- An instant that is there lies less than `d` back. -/
theorem State.anyNotSince_iff (s : State) (i : Option Nat) (d : Nat) :
    (i.any fun t => !s.since t d) = true ↔ ¬∀ t, i = some t → t + d ≤ s.clock.up := by
  cases i <;> simp [State.since]

/-- A die may set a core voltage now. -/
def State.maySet (s : State) (die mv : Nat) : Prop :=
  2 ≤ s.modes.bootStage ∧ s.modes.bootStage ≤ 4 ∧ mv ∈ s.wantedMv die ∧ s.power.avsLimited.getD die false = false ∧
    ∀ t, s.power.avsAt.getD die none = some t → t + 300000 ≤ s.clock.up

section
variable {s : State} {die : Fin 2} {mv : Nat}

theorem State.avsAdjust_guard : (1 < die.val ∨ s.modes.bootStage < 2 ∨ 4 < s.modes.bootStage ∨ (!(s.wantedMv die).contains mv) = true ∨
    s.power.avsLimited.getD die false = true ∨ ((s.power.avsAt.getD die none).any fun t => !s.since t (us 100)) = true) ↔ ¬s.maySet die mv := by
  have known : ¬1 < die.val := by omega
  have recent : ((s.power.avsAt.getD die none).any fun t => !s.since t (us 100)) = true ↔
      ¬∀ t, s.power.avsAt.getD die none = some t → t + 300000 ≤ s.clock.up := by
    rw [us_100, State.anyNotSince_iff]
  have wanted : (!(s.wantedMv die).contains mv) = true ↔ mv ∉ s.wantedMv die := by simp
  rw [recent, wanted, State.maySet, ← Bool.not_eq_true]
  simp only [not_and_or, not_not, Nat.not_le, known, false_or]

theorem State.avsAdjust_sets (may : s.maySet die mv) : s.avsAdjust die mv = { s with power := { s.power with
    vcore := upd s.power.vcore die (fun _ => mv), avsAt := upd s.power.avsAt die fun _ => some s.clock.up } } :=
  if_neg fun h => State.avsAdjust_guard.1 h may

theorem State.avsAdjust_not (h : ¬s.maySet die mv) : s.avsAdjust die mv = s := if_pos (State.avsAdjust_guard.2 h)

theorem State.avsFailure_first (sound : s.power.avsLimited.getD die false = false) : s.avsFailure die =
    ({ s with power := { s.power with avsLimited := upd s.power.avsLimited die fun _ => true } } : State).railEvent die := by
  have known : ¬1 < die.val := by omega
  refine if_neg ?_
  rw [sound]
  exact fun h => h.elim known Bool.false_ne_true

theorem State.avsFailure_again (failed : s.power.avsLimited.getD die false = true) : s.avsFailure die = s := if_pos (.inr failed)

end

theorem clocksAndVoltages : Claim.ClocksAndVoltages := by
  intro dt mw mv rails die s e cap thr
  rw [exec_reed_clock_step, exec_power_cap_sample, exec_avs_adjust, exec_avs_failure]
  refine ⟨fun under => ?_, fun on above => ?_, ?_, ?_, fun sound => ?_, fun failed => ?_⟩
  · exact State.act_eq (State.clockStep_under (s := e) under)
  · exact State.act_eq (State.clockStep_above (s := e) on above)
  · intro read set run bank
    refine ⟨fun below => ?_, fun on above => ?_, fun on under near => ?_⟩
    · exact State.act_eq (State.capSample_below (s := e) below)
    · exact State.act_eq (State.capSample_above (s := e) on above)
    · exact State.act_eq (State.capSample_between (s := e) on under near)
  · intro may
    exact ⟨fun now => State.act_eq (State.avsAdjust_sets (s := e) now), fun not => State.act_eq (State.avsAdjust_not (s := e) not)⟩
  · exact State.act_eq (State.avsFailure_first (s := e) sound)
  · exact State.act_eq (State.avsFailure_again (s := e) failed)

/-- Settles O56: a sample, a step and a setting each act by the one comparison their rule makes. -/
theorem temperatureAndPowerControl : Obligations.TemperatureAndPowerControl := ⟨junctionTemperatures, clocksAndVoltages⟩

end Sys2Proof.Machine
end
